-- ==== Sys2Proof/Word.lean ====
section
/-!
DEFINITION. Word.lean: the word types of the H7272's commands and registers, the instance numbers of Table 0.5 as bounded
naturals, and the descriptor of one register field.
-/

namespace Sys2Proof

abbrev B8 := BitVec 8
abbrev B16 := BitVec 16
abbrev B32 := BitVec 32
abbrev B64 := BitVec 64
abbrev Bytes := List (BitVec 8)

/-! Instance numbers (R12, Table 0.5). -/

abbrev Stn := Fin 16
abbrev Port := Fin 144
abbrev VsId := Fin 32
abbrev Eng := Fin 256
abbrev Slot := Fin 17
abbrev Pd := Fin 64
abbrev Panel := Fin 4096
abbrev Mover := Fin 32
abbrev Lane := Fin 17
abbrev Quad := Fin 4
abbrev Chan := Fin 67
abbrev Mon := Fin 20
abbrev Node := Fin 48
abbrev Pmu := Fin 22

namespace Machine

/-- One field of one 32-bit register: byte address of the register, lowest bit, width in bits. -/
structure Fld where
  addr : Nat
  lo : Nat
  w : Nat
  deriving DecidableEq, Repr

/-- The access codes of Table 0.4. -/
inductive Acc where
  | ro | rw | rw1c | wo | rws | rwc | qo
  deriving DecidableEq, Repr

/-- One field as its register table states it: lowest bit, width, access code, reset value. -/
structure FldSpec where
  lo : Nat
  w : Nat
  acc : Acc
  reset : Nat
  deriving DecidableEq, Repr

/-- One row of the register tables: name, base address, instance dimensions (count, stride) from the widest stride down,
whether hosts may write it under R349 or R400, and its fields. -/
structure RegRow where
  name : String
  base : Nat
  dims : List (Nat × Nat)
  host : Bool
  flds : List FldSpec
  deriving DecidableEq, Repr

end Machine
end Sys2Proof
end

