-- ==== Sys2Proof/Types.lean ====
section
/-!
DEFINITION. Types.lean: the data that commands carry and that the state keeps: command packet headers (Tables 14.3, 14.4),
transaction layer packets as the classifier parses them (R121), configuration requests, mailbox reads, sense readings.
-/

namespace Sys2Proof

/-- What a request packet carries beside its opcode and parameters (Table 14.3), with the channel and the source endpoint ID
it arrived on (R380) and the CRC that closes it (R386, compared by R389). -/
structure Hdr where
  chan : Chan
  eid : B8
  tag : B32
  cred : B32
  scope : B16
  flags : B8
  crc : B32
  deriving DecidableEq, Repr

/-- The first failing check of Table 14.5 for a packet that names no command (R387). -/
inductive BadReq where
  | badLength | badCrc | badOpcode | badParam
  deriving DecidableEq, Repr

/-- TLP types as rules and tables distinguish them. -/
inductive TlpKind where
  | mwr | mrd | atomic | cfgRd | cfgWr | cpl | cpld | msg | other
  deriving DecidableEq, Repr, Inhabited

/-- A TLP as stage 1 parses it (R121). `hdr` holds the header bytes, prefixes and OHC included, and `data` the payload; the
other fields are what the header states. Wire formats are PCI Express Base Specification 7.0's (R7). -/
structure Tlp where
  kind : TlpKind
  /-- stage 1 finds the TLP malformed by the specification's own rules (R64 is judged by the model) -/
  malformed : Bool
  tc : Fin 8
  ro : Bool
  ido : Bool
  ep : Bool
  untranslated : Bool
  flitFmt : Bool
  rid : B16
  tag : B16
  target : B16
  completer : B16
  addr : B64
  /-- bytes from the first to the last byte addressed -/
  nbytes : Nat
  /-- length of the whole TLP in bytes (RLEN) -/
  len : Nat
  status : B8
  byteCount : Nat
  reg : B16
  be : B8
  type1 : Bool
  msgCode : B8
  msgRoute : B8
  /-- end-to-end prefixes -/
  prefixes : Nat
  /-- the ECRC of a TLP that carries a digest (R216) -/
  digest : Option B32
  hdr : Bytes
  data : Bytes
  deriving DecidableEq, Repr, Inhabited

/-- Where a TLP enters a station: a port, or the host endpoint channel for function `fn` of a virtual switch. -/
inductive TSrc where
  | port (p : Port)
  | ep (v : VsId) (fn : Bool)
  deriving DecidableEq, Repr

/-- What proxied configuration reads of a physical function and of a virtual function find for a lending (R140, R145): ID of the
physical function, offsets of its SR-IOV, PCI Express and Power Management capabilities, VF Enable, VF Memory Space Enable, NumVFs,
First VF Offset, VF Stride, VF BAR bases, and of the virtual function the offsets of its PCI Express and ARI capabilities. -/
structure SrIov where
  pf : B16
  cap : B16
  pcie : B16
  pm : B16
  enabled : Bool
  memEnabled : Bool
  numVfs : Nat
  first : Nat
  stride : Nat
  bars : List Nat
  vfPcie : B16
  vfAri : B16
  deriving DecidableEq, Repr, Inhabited

/-- A configuration request as the station logic answers it (R74): a read or a write of one doubleword with byte enables. -/
structure CfgReq where
  write : Bool
  type1 : Bool
  target : B16
  reg : B16
  be : B8
  data : B32
  rid : B16
  tag : B16
  deriving DecidableEq, Repr

/-- What the device's reads and writes of host memory for one mailbox entry bring (R383, Table 14.2). -/
inductive MbxRead where
  | entryFail
  | entry (reqAddr rspAddr : B64) (reqLen : B16) (req : Option Bytes) (writeOk : Bool)
  deriving DecidableEq, Repr

/-- A damaged stored line (R107): its place among the lines of a record, counted from the line of the record's first byte, and the bits
that are wrong in each of its 144 bytes. -/
structure LineHit where
  line : Nat
  flips : List (Fin 144 × B8)
  deriving DecidableEq, Repr

/-- Errors of the physical and data link layers of a port (Table 8.3). -/
inductive PortErr where
  | receiver | badTlp | badDllp | replayTimeout | replayRollover | linkProtocol | flowProtocol
  deriving DecidableEq, Repr

/-- A damaged link entry (R109): its place among the cells of a record or, for a pass of the sieve, of a chain, and whether two of its 34
bits are wrong, not one. -/
structure LinkHit where
  cell : Nat
  double : Bool
  deriving DecidableEq, Repr

/-- What the read of one record meets: damaged lines and link entries, and whether the bytes reached the egress undamaged otherwise. -/
structure ReadPhys where
  lines : List LineHit
  links : List LinkHit
  sound : Bool
  deriving DecidableEq, Repr

/-- A chain of cells: an output queue, or the residue chain of an ingress toward it (R161). -/
structure ChainRef where
  q : Fin 64
  ing : Option (Fin 256)
  deriving DecidableEq, Repr

/-- What a pass of the sieve audit meets (R109, R113, R114): cells that no structure reaches, cells of a queue that stand on the free list
too, chains that close on themselves with the cell that closes each, and damaged link entries. -/
structure SieveFind where
  leaks : List (Fin 40960) := []
  corrupt : List (Fin 40960) := []
  loops : List (ChainRef × Nat) := []
  links : List (ChainRef × LinkHit) := []
  deriving DecidableEq, Repr

/-- One reply or parameter field of a packet, little-endian at its natural alignment (R386). -/
inductive Dat where
  | u8 (v : Nat)
  | u16 (v : Nat)
  | u32 (v : Nat)
  | u64 (v : Nat)
  deriving DecidableEq, Repr

/-- Status codes of Table 14.6. -/
inductive Status where
  | ok | accepted | badOpcode | badLength | badParam | badCrc | badScope
  | busy | notIdle | stagedConflict | denied | locked | timeout | hwFault | noResource
  deriving DecidableEq, Repr

/-! ### Seam flits (chapter 9) -/

/-- The header of a flit (Table 9.3), and the damage it arrives with. -/
structure FlitHdr where
  seq : Fin 4096
  ack : Fin 4096
  nak : Bool
  crClass : Fin 4
  crCount : Fin 65536
  back : Fin 256
  xoff : Fin 16
  onoff : Bool
  /-- the bytes of the flit that arrive changed, and the change of each: the receiver corrects one in each FEC codeword, and the flit passes
  when its CRC matches then (R241) -/
  flips : List (Fin 256 × B8)
  deriving DecidableEq, Repr

/-- A carriage word (Table 9.5); `resv` is its reserved bit. -/
structure Carriage where
  btag : B32
  ingNode : B8
  ingPort : B8
  destNode : B8
  destPort : B8
  cls : Fin 4
  vc : Fin 2
  pass : Bool
  resv : Bool
  rlen : Nat
  route : B16
  deriving DecidableEq, Repr

/-- A record that starts in a DATA flit: its carriage word and, for classes 0 to 2, its TLP. -/
structure RecStart where
  car : Carriage
  tlp : Tlp
  deriving DecidableEq, Repr

/-- A record that ends in a DATA flit: its MARK bit and whether the ingress screen matches (R210, R248). -/
structure RecEnd where
  mark : Bool
  screenOk : Bool
  deriving DecidableEq, Repr

/-- The training block of a TRAIN flit (Table 9.12). -/
structure TrainBlk where
  tstep : Fin 4
  seen : Bool
  allow128 : Bool
  spareFit : Bool
  fcMode : Bool
  node : B8
  port : B8
  fabricId : B32
  units : Nat
  headroom : Nat
  res : List Nat
  stamp : Nat
  echo : Nat
  hold : Nat
  deriving DecidableEq, Repr

/-- The bypass messages of Table 9.9. -/
inductive BMsg where
  | spareReq (lane : Fin 16)
  | spareDone (lane : Fin 16)
  | spareAbort (lane : Fin 16) (reason : Nat)
  | creditAudit (seq : Fin 4096) (cons : List Nat)
  | resync (r : Fin 4096) (rx freed : List Nat)
  | resyncAck (r : Fin 4096)
  | rttProbe (stamp : Nat)
  | rttEcho (stamp hold : Nat)
  | linkDownNotice (cause : Fin 16)
  | timeReq (t1 : Nat)
  | timeResp (t1 t2 t3 t4 : Nat)
  /-- a message with an unknown MTYPE or parameters out of range (R265) -/
  | unknown
  deriving DecidableEq, Repr

/-! ### Fabric control messages (chapter 10) -/

/-- What every control message carries (R291): the Seam station it arrived on, SRC_NODE, MSEQ, and whether BTAG verifies. -/
structure CtlHdr where
  stn : Stn
  src : B8
  mseq : B32
  tagOk : Bool
  deriving DecidableEq, Repr

/-- The body of HELLO (Table 10.5). -/
structure HelloMsg where
  node : B8
  uid : B64
  mgrCap : Bool
  cand : B8
  candUid : B64
  mgr : Bool
  epoch : Nat
  startStep : Fin 16
  deriving DecidableEq, Repr

/-- One Seam port of a TOPO body. -/
structure TopoLink where
  port : B8
  partnerNode : B8
  partnerPort : B8
  rate : Nat
  active : Bool
  deriving DecidableEq, Repr

/-- One late-error record as a LATE_NOTICE carries it (Table 8.8). -/
structure LateRec where
  time : B64
  rid : B16
  ingPort : B8
  ingVs : B8
  ingNode : B8
  discNode : B8
  discPort : B8
  cause : B8
  len : B16
  addr : B64
  deriving DecidableEq, Repr

/-- A request of the link partner during equalization: a preset, or coefficients (pre-cursor, cursor, post-cursor) that are legal or not by
the specification's own rules. -/
inductive EqAsk where
  | preset (p : Fin 16)
  | coeff (legal : Bool) (pre cur post : Nat)
  deriving DecidableEq, Repr

/-- What passed on one lane at the rate reached (R52): the preset the partner keeps if it rejected the one request, and the partner's own
requests, in order. -/
structure LaneEq where
  lane : Fin 17
  kept : Option (Fin 16)
  asks : List EqAsk
  deriving DecidableEq, Repr

/-- The lanes, rate and credits a port reaches ACTIVE with (R47, R49, R79): partner's initial credits per 3·VC + class as
(infinite, header, data). -/
structure LinkUp where
  rate : Fin 7
  width : Fin 17
  failed : Nat
  flit : Bool
  scaledFc : Bool
  /-- lanes on which the partner rejected a request or made one (R52) -/
  eq : List LaneEq
  credits : List (Bool × Nat × Nat)
  deriving DecidableEq, Repr

/-- Readings of one slot power controller (R443, Table 16.3) in mV and 10 mA units. -/
structure SlotMeas where
  vin : Nat
  vout : Nat
  iout : Nat
  deriving DecidableEq, Repr

/-- Control messages that Aclia takes (Table 10.5): the message header and body of each. -/
inductive CtlMsg where
  | hello (c : CtlHdr) (m : HelloMsg)
  | topo (c : CtlHdr) (node : B8) (uid : B64) (links : List TopoLink) (usps : B32)
  | publish (c : CtlHdr) (kind : B8) (first : Nat) (words : List B32)
  | prepareReady (c : CtlHdr) (ready : Bool) (epoch : Nat) (digest : B32)
  | go (epoch : Nat) (time : B64)
  | linkEvent (node port : B8) (cause : Fin 16)
  | rerouteHold (epoch : Nat) (mask : BitVec 48)
  | sealed (c : CtlHdr) (epoch : Nat) (mask : B16)
  deriving DecidableEq, Repr

end Sys2Proof
end

