-- ==== Sys2Proof/Syntax.lean ====
section
/-!
DEFINITION. Syntax.lean: the commands of the block, one constructor for each row of spec/opcode_table.json. A command packet
carries its header `h` and its parameters (Tables 14.7 to 14.21), with what the outside world answers while it is carried out (`found`,
`burnt`), where none leaves that answer free (log entry 8); an event carries what the outside world or a physical
measurement decides about it; a Bobbin instruction carries its engine and its fields (Table 7.4).
-/

namespace Sys2Proof

/-- The commands. -/
inductive Instr where
  /-- R399. Command returning the device identity, strap code, node, credential class and firmware version. -/
  | getInfo (h : Hdr)
  /-- R399. Command returning up to 1,020 register words from the device register space. -/
  | readReg (h : Hdr) (addr : B32) (count : B32)
  /-- R133. Command returning entries of a station table from the active or shadow copy, filtered for a partition manager. -/
  | readTable (h : Hdr) (table : B8) (copy : B8) (first : B32) (count : B32)
  /-- R398. Command returning the final status of a kind-A command named by its TAG. -/
  | getAsync (h : Hdr) (tag : B32)
  /-- R395. Command staging masked writes of RWC and QO register bits into the credential's open transaction. -/
  | stageReg (h : Hdr) (items : List (B32 × B32 × B32))
  /-- R396. Command that repeats the cross-checks and applies the staged transaction to every block at once, or refuses it whole. -/
  | commit (h : Hdr)
  /-- R397. Command discarding the credential's open transaction. -/
  | abort (h : Hdr)
  /-- R396. Command returning the size and age of the open transaction. -/
  | txnStatus (h : Hdr)
  /-- R468. Kind-A command quiescing every port of a station so that all reach stage OFF. -/
  | quiesce (h : Hdr) (mode : B8) (limit : B32)
  /-- R469. Command ending the quiesce of every still-quiesced port in its scope. -/
  | release (h : Hdr)
  /-- R399. Command returning a port's configuration, slot, status and hot-plug registers. -/
  | portStatus (h : Hdr)
  /-- R72. Kind-A command quiescing one port in orderly or forced mode. -/
  | portQuiesce (h : Hdr) (mode : B8) (limit : B32)
  /-- R47. Command taking a FAILED port back to OFF, clearing its attempt count. -/
  | portRestart (h : Hdr)
  /-- R56. Command taking a port into or out of stage MEASURE. -/
  | portMeasure (h : Hdr) (enter : B8)
  /-- R57. Command setting the pattern generator and checker of one lane. -/
  | lanePrbs (h : Hdr) (lane : B8) (pattern : B8) (bits : B8) (rate : B8)
  /-- R58. Command measuring one margin point on a lane and returning its error count. -/
  | laneMargin (h : Hdr) (lane : B8) (tOff : B8) (vOff : B8) (eye : B8) (dwell : B8)
  /-- R57. Command returning a lane's pattern status and counters. -/
  | prbsRead (h : Hdr) (lane : B8)
  /-- R71. Command reading configuration space of a device below a pool port. -/
  | proxyCfgRd (h : Hdr) (target : B16) (off : B16) (size : B8)
  /-- R71. Command writing configuration space of a device below a pool port. -/
  | proxyCfgWr (h : Hdr) (target : B16) (off : B16) (size : B8) (data : B32)
  /-- R128. Command staging a window table entry. -/
  | stageWindow (h : Hdr) (idx : B16) (mask : B16) (entry : List B32)
  /-- R129. Command staging the addition or removal of a requester table entry. -/
  | stageRequester (h : Hdr) (add : B8) (entry : B64)
  /-- R130. Command staging permission matrix pairs of one requester class. -/
  | stagePermission (h : Hdr) (rclass : B8) (first : B8) (count : B16) (vals : Bytes)
  /-- R124. Command staging a port's default requester class and PROG bit. -/
  | stagePortDefault (h : Hdr) (rclass : B8) (prog : B8)
  /-- R140. Command staging a new lending of a virtual function to a borrower virtual switch. -/
  | lend (h : Hdr) (words : List B32) (found : Option SrIov := none)
  /-- R144. Command returning a suspended lending to active after repeating the lending checks. -/
  | lendResume (h : Hdr) (idx : B8) (found : Option SrIov := none)
  /-- R146. Kind-A command ending a lending in orderly or forced mode. -/
  | lendReclaim (h : Hdr) (idx : B8) (mode : B8) (limit : B32)
  /-- R159. Command staging a manager multicast group entry. -/
  | stageMgroup (h : Hdr) (group : B8) (entry : List B32)
  /-- R167. Command staging a trace or sampling rule. -/
  | stageTraceRule (h : Hdr) (rule : B8) (ctl : B32) (mtch : B32) (rate : B32)
  /-- R173. Command returning entries of the sample ring. -/
  | readSamples (h : Hdr) (first : B32) (count : B32)
  /-- R203. Command transferring one piece of a Bobbin image to Aclia. -/
  | imageTransfer (h : Hdr) (off : B32) (piece : Bytes)
  /-- R203. Command checking a transferred Bobbin image and staging its install with a swap mode. -/
  | imageInstall (h : Hdr) (len : B32) (mask : B16) (mode : B8)
  /-- R195. Command staging new thimble regions for the engines of named stations. -/
  | stageRegions (h : Hdr) (mask : B16) (nreg : B8) (recs : List (List B32))
  /-- R187. Command writing words into the shared table space of named stations while programs run. -/
  | tableWrite (h : Hdr) (mask : B16) (off : B32) (words : List B64)
  /-- R187. Command returning words of a station's shared table space. -/
  | tableRead (h : Hdr) (off : B32) (count : B32)
  /-- R207. Command returning the Bobbin cluster status, image, epoch and engine states. -/
  | bobbinStatus (h : Hdr)
  /-- R301. Command returning a node's fabric state, time status and counters. -/
  | fabricState (h : Hdr)
  /-- R298. Command returning the topology bodies of every known node. -/
  | fabricTopology (h : Hdr)
  /-- R284. Command staging the path pin of one flow. -/
  | stagePin (h : Hdr) (ing : B16) (vc : B8) (node : B8) (pin : B8)
  /-- R294. Command staging a home and far remote binding entry. -/
  | stageBinding (h : Hdr) (hi : B8) (fi : B8) (home : List B32) (far : List B32)
  /-- R296. Command staging an export entry for cross-fabric grants. -/
  | stageExport (h : Hdr) (idx : B8) (entry : List B32)
  /-- R287. Kind-A command requesting a route change through the hold, seal and go procedure. -/
  | reroute (h : Hdr)
  /-- R319. Command allotting a range of panels to a virtual switch. -/
  | panelAllot (h : Hdr) (first : B16) (count : B16)
  /-- R303. Command staging the binding and ring configuration of a panel. -/
  | panelBind (h : Hdr) (pasid : B32) (sqb : B64) (cqb : B64) (sqo : B8) (cqo : B8) (vec : B16) (weight : B8) (holdoff : B8)
  /-- R327. Command staging the unbinding of a stopped panel. -/
  | panelUnbind (h : Hdr)
  /-- R305. Command taking a panel from STOPPED or HALTED to RUNNING. -/
  | panelEnable (h : Hdr)
  /-- R325. Kind-A command letting the current descriptor finish and stopping the panel. -/
  | panelQuiesce (h : Hdr) (limit : B32)
  /-- R322. Kind-A command stopping a panel at a chunk boundary with no write in flight. -/
  | panelFreeze (h : Hdr)
  /-- R323. Command returning the context record of a frozen panel. -/
  | panelSave (h : Hdr)
  /-- R324. Command writing a saved context record into a panel and leaving it FROZEN. -/
  | panelRestore (h : Hdr) (vs : B8) (pasid : B32) (grants : List B16) (rec : Bytes)
  /-- R305. Command returning a FROZEN or HALTED panel to RUNNING. -/
  | panelResume (h : Hdr)
  /-- R326. Kind-A command abandoning a panel's work and taking it to RESETTING. -/
  | panelReset (h : Hdr)
  /-- R320. Command writing the manager's word to the panel's doorbell page and signalling the panel's vector. -/
  | panelMessage (h : Hdr) (word : B32)
  /-- R319. Command returning a panel's state, completion tail and totals. -/
  | panelStatus (h : Hdr)
  /-- R315. Command staging a Shuttle grant entry. -/
  | stageGrant (h : Hdr) (grant : B16) (ctl : B32) (lo : B32) (hi : B32) (size : B32)
  /-- R315. Command staging the binding of a grant to a panel slot. -/
  | stageSlot (h : Hdr) (slot : B8) (valid : B8) (grant : B16)
  /-- R218. Command returning a station's containment queue. -/
  | cqRead (h : Hdr)
  /-- R222. Command fencing a station. -/
  | fence (h : Hdr)
  /-- R223. Command ending a station fence, freeing all entries and retraining every port. -/
  | fenceRelease (h : Hdr)
  /-- R229. Command returning late-error log entries and marking them fetched. -/
  | lateRead (h : Hdr) (first : B32) (count : B32)
  /-- R226. Command emptying the late-error log and its merge keys. -/
  | lateClear (h : Hdr)
  /-- R448. Command returning the status registers of a slot power controller. -/
  | slotStatus (h : Hdr) (slot : B8)
  /-- R89. Command by the fabric manager commanding a slot on or off under HP_OWNER 1. -/
  | slotPower (h : Hdr) (slot : B8) (on : B8)
  /-- R446. Command staging a slot power controller's SPC_CFG. -/
  | stageSlotParams (h : Hdr) (slot : B8) (cfg : B32)
  /-- R446. Command staging the slot power budget and stagger. -/
  | stageSlotBudget (h : Hdr) (budget : B32)
  /-- R367. Command returning every sensor value and the thermal status. -/
  | sensorRead (h : Hdr)
  /-- R374. Command returning RAM event log records, filtered by privilege. -/
  | logRead (h : Hdr) (first : B32) (count : B16) (minsev : B8)
  /-- R373. Command returning persistent log records. -/
  | plogRead (h : Hdr) (idx : B32) (count : B16)
  /-- R409. Command returning the 16 last-gasp records. -/
  | lastgaspRead (h : Hdr)
  /-- R119. Command clearing one counter register or every saturating counter of a scope. -/
  | counterClear (h : Hdr) (addr : B32)
  /-- R349. Command staging the control grant and read mask of a counter unit. -/
  | pmcGrant (h : Hdr) (unit : B8) (vs : B8) (en : B8) (mask : B32)
  /-- R347. Command returning the eight accumulators of a counter unit. -/
  | pmcRead (h : Hdr) (unit : B8)
  /-- R411. Command returning the state of every power domain. -/
  | pdStatus (h : Hdr)
  /-- R413. Kind-A command switching one power domain on or off. -/
  | pdSet (h : Hdr) (dom : B8) (on : B8)
  /-- R415. Command resetting one idle block. -/
  | blockReset (h : Hdr) (code : B8)
  /-- R402. Command causing a warm reset or a management-core reset 10 ms after the reply. -/
  | deviceReset (h : Hdr) (kind : B8)
  /-- R409. Command returning the subsoil reset counters and last causes. -/
  | resetHistory (h : Hdr)
  /-- R358. Command writing a piece of firmware into the bank that is not running. -/
  | fwWrite (h : Hdr) (off : B32) (piece : Bytes)
  /-- R358. Command checking the written firmware bank under the image validity rules. -/
  | fwCheck (h : Hdr) (len : B32)
  /-- R359. Kind-A command starting the hitless activation of the checked bank. -/
  | fwActivate (h : Hdr)
  /-- R360. Command confirming firmware running on trial. -/
  | fwConfirm (h : Hdr)
  /-- R366. Command writing a piece of a configuration image into the copy not in force. -/
  | cfgWrite (h : Hdr) (off : B32) (piece : Bytes)
  /-- R366. Command reading back and checking the written configuration image copy. -/
  | cfgFinish (h : Hdr) (len : B32)
  /-- R358. Command returning the update state and bytes received. -/
  | updStatus (h : Hdr)
  /-- R357. Command loading a firmware image piece into SRAM over the UART, verifying and running the last piece. -/
  | uartLoad (h : Hdr) (off : B32) (total : B32) (piece : Bytes)
  /-- R391. Command opening a credential of a class on the sending channel. -/
  | credOpen (h : Hdr) (cls : B8) (vs : B8)
  /-- R391. Command closing the sending credential. -/
  | credClose (h : Hdr)
  /-- R392. Command issuing a tenant credential for one bound panel. -/
  | credTenant (h : Hdr)
  /-- R204. Command burning a customer public key into a key slot. -/
  | keyEnroll (h : Hdr) (slot : B8) (key : Bytes) (pad : Bytes) (burnt : Option Bool := none)
  /-- R204. Command burning the revoke fuse of a key slot. -/
  | keyRevoke (h : Hdr) (slot : B8) (burnt : Option Bool := none)
  /-- R361. Command burning rollback fuses up to the running SVN. -/
  | rollbackAdvance (h : Hdr) (burnt : Option Bool := none)
  /-- R375. Command arming the debug lock and returning a challenge. -/
  | debugArm (h : Hdr)
  /-- R375. Command burning the debug-lock fuse when the challenge matches. -/
  | debugConfirm (h : Hdr) (chal : B32) (burnt : Option Bool := none)
  /-- R344. Command staging the regions of the host-proxy thimble. -/
  | stageProxyRegions (h : Hdr) (nreg : B8) (recs : List (List B32))
  /-- R391. Command staging the MAX_CLASS of a channel. -/
  | stageChannel (h : Hdr) (ch : B8) (cls : B8)
  /-- R399. Command returning security status and key slot states. -/
  | secStatus (h : Hdr)
  /-- R387. A request packet that fails length, CRC or opcode checks and is answered with the failing status. -/
  | undecodableRequest (chan : Chan) (eid : B8) (tag : B32) (scope : B16) (opcode : B16) (why : BadReq)
  /-- R397. A transaction with no command for 60 s is discarded. -/
  | transactionIdleTimeout (cred : B32)
  /-- R398. The final status of a kind-A command is forgotten 60 s after its end. -/
  | asyncStatusExpiry (cred : B32) (tag : B32)
  /-- R383. Setting EN of ACW_MBX_CFG clears HEAD, TAIL and FAULT and starts the ring. -/
  | mailboxEnable (v : VsId) (cfg : B32)
  /-- R383. Host write of ACW_MBX_TAIL handing ring entries to the device. -/
  | mailboxTailWrite (v : VsId) (tail : B8)
  /-- R383. The device serves the next mailbox entry: reads the request, replies and writes the entry status. -/
  | mailboxEntry (v : VsId) (rd : MbxRead)
  /-- R381. A complete MCTP vendor-defined message carrying a command packet is received. -/
  | mctpMessage (chan : Chan) (eid : B8) (vendor : B16) (kind : B8) (pkt : Bytes)
  /-- R381. A message whose packets stop for 100 ms is discarded. -/
  | mctpAssemblyTimeout (chan : Chan) (eid : B8)
  /-- R381. MCTP control command assigning the endpoint ID. -/
  | setEndpointId (chan : Chan) (eid : B8)
  /-- R381. MCTP control command returning the endpoint ID. -/
  | getEndpointId (chan : Chan)
  /-- R381. MCTP control command returning a UUID holding FAB_UID. -/
  | getEndpointUuid (chan : Chan)
  /-- R381. MCTP control command returning supported versions. -/
  | getMctpVersionSupport (chan : Chan)
  /-- R381. MCTP control command returning supported message types. -/
  | getMessageTypeSupport (chan : Chan)
  /-- R381. MCTP control command returning vendor-defined message support. -/
  | getVendorDefinedMsgSupport (chan : Chan)
  /-- R382. An MCTP VDM not routed by ID to function 0 of an internal bus is discarded. -/
  | mctpVdmMisrouted (p : Port)
  /-- R384. A complete UART frame carrying a packet is received. -/
  | uartFrame (pkt : Bytes)
  /-- R384. A gap of more than 10 ms within a frame discards it. -/
  | uartGapTimeout
  /-- R21. A pace monitor delivers its 1 µs sample, filtered and judged against thresholds. -/
  | paceSample (m : Mon) (hs : Nat) (be : Nat)
  /-- R21. A monitor delivers no sample for 10 µs and both readings become faulty. -/
  | paceMonitorSilent (m : Mon)
  /-- R45. The sequencer starts the next non-held station 2 ms after the previous one. -/
  | stationStart (s : Stn)
  /-- R44. Station clock returns to 1 GHz 1 ms after the last fast port has left those rates. -/
  | stationClockSlowdown (s : Stn)
  /-- R47. The station PLL locks and its ports move to DETECT. -/
  | pllLock (s : Stn)
  /-- R47. No PLL lock after 1 ms: retry after 10 ms or, on the second try, every port FAILED. -/
  | pllTryTimeout (s : Stn)
  /-- R47. After the 10 ms wait the PLL tries to lock again. -/
  | pllRetry (s : Stn)
  /-- R47. A locked station PLL loses lock, taking its ports to PLL. -/
  | pllLockLoss (s : Stn)
  /-- R47. A receiver is detected on a lane of the port, which enters PATTERN and starts its attempt timer. -/
  | receiverDetected (p : Port) (lanes : Nat)
  /-- R47. With no receiver, the port detects again after 12 ms. -/
  | detectRetry (p : Port)
  /-- R47. Bit and symbol or block lock reached; the port enters LOCK. -/
  | bitLock (p : Port) (lanes : Nat)
  /-- R47. Width agreed and lanes deskewed; the port enters EXCHANGE. -/
  | lockComplete (p : Port) (width : Fin 17) (failed inverted : Nat) (reversed : Bool)
  /-- R47. Highest common rate reached and equalization complete; the port enters ACTIVE. -/
  | linkUp (p : Port) (up : LinkUp)
  /-- R47. The attempt timer expires; the attempt is counted and the port returns to DETECT or goes FAILED. -/
  | trainAttemptTimeout (p : Port)
  /-- R47. The specification's own timers return a training port to Detect, counting an attempt. -/
  | ltssmReturnToDetect (p : Port)
  /-- R47. An ACTIVE link goes down not by a disable; the port returns to DETECT and its queues are flushed. -/
  | linkDown (p : Port)
  /-- R58. Write of GO in STN_LN_MARGIN_CTL starting a margin point. -/
  | marginGo (s : Stn) (lane : Lane) (ctl : B32)
  /-- R58. The margin point's compared bits are reached, MARGIN_ERRS is final and BUSY clears. -/
  | marginPointDone (s : Stn) (lane : Lane) (errs : Nat)
  /-- R57. Write of CLR in STN_LN_PRBS_CTL clearing the pattern counters and LOCK_LOSS. -/
  | prbsClr (s : Stn) (lane : Lane)
  /-- R57. The checker sees more than 1,024 errors in 4,096 bits, counts a lock loss and seeks lock again. -/
  | prbsLockLoss (s : Stn) (lane : Lane)
  /-- R59. Once a second the idle spare lane's error count is compared with SPARE_ERR_LIMIT. -/
  | spareCheck (s : Stn) (errs : Nat)
  /-- R74. A configuration request to a switch port or internal bus is answered in hardware. -/
  | configRequest (p : Port) (r : CfgReq)
  /-- R77. Host write to a DSP's Slot Control, commanding the slot controller under HP_OWNER. -/
  | slotControlWrite (p : Port) (val : B16)
  /-- R77. A Slot Control write completes within 1 ms and Command Completed is set. -/
  | commandCompleted (p : Port)
  /-- R82. A hot reset or link down of a USP resets its virtual switch. -/
  | vsReset (v : VsId) (hot : Bool)
  /-- R83. Secondary Bus Reset set on a USP holds the hierarchy below it in reset. -/
  | uspSecondaryBusResetSet (v : VsId)
  /-- R83. Secondary Bus Reset cleared on a USP lets its DSPs train and functions finish reset. -/
  | uspSecondaryBusResetClear (v : VsId)
  /-- R83. Secondary Bus Reset or Link Disable written to a DSP acts on its link alone. -/
  | dspLinkReset (p : Port) (disable : Bool) (set : Bool)
  /-- R86. A PME_Turn_Off received on a USP is forwarded to every DSP with its link up. -/
  | pmeTurnOff (v : VsId)
  /-- R86. All DSPs have acknowledged and the USP returns PME_TO_Ack and enters L2/L3 Ready. -/
  | pmeToAck (v : VsId)
  /-- R86. 5 ms after forwarding, the USP acknowledges anyway and reports the silent ports. -/
  | pmeToTimeout (v : VsId)
  /-- R85. The partner requests an L0p width reduction, accepted with L0P_EN set. -/
  | l0pRequest (p : Port) (width : Fin 17)
  /-- R85. An output queue exceeds 4 cells and the port requests a return to full width. -/
  | l0pWidthRestore (p : Port)
  /-- R84. The device below a DSP requests L1, accepted as Table 3.6 allows. -/
  | aspmL1Entry (p : Port) (sub : Fin 3) (pciPm : Bool) (clkreq : Bool := false)
  /-- R87. A PTM exchange on a USP updates the virtual switch's time offset. -/
  | ptmExchange (v : VsId) (time : B64)
  /-- R87. A DSP answers a PTM request with corrected fabric time. -/
  | ptmRequest (p : Port)
  /-- R80. A virtual switch is published and its USP stops answering with Request Retry Status. -/
  | vsReady (v : VsId)
  /-- R72. A port reaches the quiesced state and its quiesce opcode ends. -/
  | portQuiesced (p : Port)
  /-- R72. The quiesce opcode's time limit expires with no change. -/
  | quiesceTimeout (cred : B32) (tag : B32)
  /-- R217. The host clears DPC Trigger Status and the port trains from OFF. -/
  | dpcRelease (p : Port)
  /-- R121. A TLP header from a port or the host endpoint channel is classified through the six stages. -/
  | tlpReceive (src : TSrc) (fixed : List (Fin 5 × Nat)) (bad : List (Fin 5 × Nat × Nat)) (t : Tlp)
  /-- R141. Borrower write of a lent BAR updates BORROW_BASE and its hardware window entries. -/
  | lentBarWrite (s : Stn) (idx : Fin 256) (bar : Fin 6) (val : B32)
  /-- R142. A Function Level Reset of a lent function releases its CRT entries. -/
  | lentFlr (s : Stn) (idx : Fin 256)
  /-- R146. 100 ms after the FLR of a releasing lending, its windows and numbers are freed. -/
  | lendReclaimed (s : Stn) (idx : Fin 256)
  /-- R135. A completion return entry expires at CRT_TMO without returning a completion. -/
  | proxyTmo (s : Stn) (fret : Bool) (port : Port) (tag : Nat)
  /-- R133. At a flit boundary after COMMIT, a station's shadow tables become active. -/
  | tableFlip (s : Stn)
  /-- R134. Aclia rewrites an uncorrectable station table entry from its staged copy. -/
  | tableRewrite (s : Stn) (table : Fin 5) (idx : Nat)
  /-- R172. A rule's sampler reaches its gap and fires on a matching TLP. -/
  | traceSamplerFire (s : Stn) (rule : Fin 16) (id : Nat)
  /-- R179. An idle in-service engine takes the head of a non-empty hand-off queue. -/
  | bobbinDispatch (e : Eng) (ecc : Fin 3) (slot : BitVec 12 := 0)
  /-- R185. Bobbin instruction doing nothing. -/
  | nop (e : Eng)
  /-- R185. Bobbin ALU addition of two registers. -/
  | aluAdd (e : Eng) (d : Fin 16) (a : Fin 16) (b : Fin 16)
  /-- R185. Bobbin ALU subtraction. -/
  | aluSub (e : Eng) (d : Fin 16) (a : Fin 16) (b : Fin 16)
  /-- R185. Bobbin ALU bitwise AND. -/
  | aluAnd (e : Eng) (d : Fin 16) (a : Fin 16) (b : Fin 16)
  /-- R185. Bobbin ALU bitwise OR. -/
  | aluOr (e : Eng) (d : Fin 16) (a : Fin 16) (b : Fin 16)
  /-- R185. Bobbin ALU bitwise XOR. -/
  | aluXor (e : Eng) (d : Fin 16) (a : Fin 16) (b : Fin 16)
  /-- R185. Bobbin ALU shift left by B[5:0]. -/
  | aluShl (e : Eng) (d : Fin 16) (a : Fin 16) (b : Fin 16)
  /-- R185. Bobbin ALU shift right by B[5:0]. -/
  | aluShr (e : Eng) (d : Fin 16) (a : Fin 16) (b : Fin 16)
  /-- R185. Bobbin ALU unsigned minimum. -/
  | aluMinu (e : Eng) (d : Fin 16) (a : Fin 16) (b : Fin 16)
  /-- R185. Bobbin ALU unsigned maximum. -/
  | aluMaxu (e : Eng) (d : Fin 16) (a : Fin 16) (b : Fin 16)
  /-- R185. Bobbin ALU equality test giving 1 or 0. -/
  | aluSeq (e : Eng) (d : Fin 16) (a : Fin 16) (b : Fin 16)
  /-- R185. Bobbin ALU unsigned less-than test giving 1 or 0. -/
  | aluSltu (e : Eng) (d : Fin 16) (a : Fin 16) (b : Fin 16)
  /-- R185. Bobbin add of a signed immediate. -/
  | addi (e : Eng) (d : Fin 16) (a : Fin 16) (imm : BitVec 18)
  /-- R185. Bobbin AND with an immediate. -/
  | andi (e : Eng) (d : Fin 16) (a : Fin 16) (imm : BitVec 18)
  /-- R185. Bobbin OR with an immediate. -/
  | ori (e : Eng) (d : Fin 16) (a : Fin 16) (imm : BitVec 18)
  /-- R185. Bobbin XOR with an immediate. -/
  | xori (e : Eng) (d : Fin 16) (a : Fin 16) (imm : BitVec 18)
  /-- R185. Bobbin shift left by an immediate. -/
  | shli (e : Eng) (d : Fin 16) (a : Fin 16) (sh : BitVec 6)
  /-- R185. Bobbin shift right by an immediate with zero fill. -/
  | shri (e : Eng) (d : Fin 16) (a : Fin 16) (sh : BitVec 6)
  /-- R185. Bobbin load of a signed immediate. -/
  | li (e : Eng) (d : Fin 16) (imm : BitVec 22)
  /-- R185. Bobbin insertion of a 16-bit immediate into one halfword of a register. -/
  | movk (e : Eng) (d : Fin 16) (hw : Fin 4) (imm : B16)
  /-- R185. Bobbin CRC-32C over two registers. -/
  | hash (e : Eng) (d : Fin 16) (a : Fin 16) (b : Fin 16)
  /-- R182. Bobbin load from the header window. -/
  | ldh (e : Eng) (d : Fin 16) (sz : Fin 4) (off : BitVec 6)
  /-- R189. Bobbin store to the header window, updating the basting tag in the same period. -/
  | sth (e : Eng) (a : Fin 16) (sz : Fin 4) (off : BitVec 6)
  /-- R186. Bobbin load from local data space. -/
  | ldl (e : Eng) (d : Fin 16) (a : Fin 16) (sz : Fin 4) (imm : B16) (ecc : Fin 3)
  /-- R186. Bobbin store to local data space. -/
  | stl (e : Eng) (d : Fin 16) (a : Fin 16) (sz : Fin 4) (imm : B16) (ecc : Fin 3)
  /-- R187. Bobbin load of a shared table word under the thimble, available four instructions later. -/
  | ldt (e : Eng) (d : Fin 16) (a : Fin 16) (imm : BitVec 17) (ecc : Fin 3)
  /-- R187. Bobbin store of a shared table word under the thimble. -/
  | stt (e : Eng) (d : Fin 16) (a : Fin 16) (imm : BitVec 17)
  /-- R187. Bobbin indivisible add to a shared table word under the thimble. -/
  | addt (e : Eng) (d : Fin 16) (a : Fin 16) (imm : BitVec 17) (ecc : Fin 3)
  /-- R183. Bobbin read of a classifier context value. -/
  | ctx (e : Eng) (d : Fin 16) (sel : BitVec 6)
  /-- R185. Bobbin forward branch if two registers are equal. -/
  | beq (e : Eng) (d : Fin 16) (a : Fin 16) (off : BitVec 12)
  /-- R185. Bobbin forward branch if two registers differ. -/
  | bne (e : Eng) (d : Fin 16) (a : Fin 16) (off : BitVec 12)
  /-- R185. Bobbin forward branch if unsigned less. -/
  | bltu (e : Eng) (d : Fin 16) (a : Fin 16) (off : BitVec 12)
  /-- R185. Bobbin forward branch if unsigned greater or equal. -/
  | bgeu (e : Eng) (d : Fin 16) (a : Fin 16) (off : BitVec 12)
  /-- R185. Bobbin forward branch if a register equals an 8-bit immediate. -/
  | beqi (e : Eng) (d : Fin 16) (imm : B8) (off : BitVec 12)
  /-- R185. Bobbin forward branch if a register differs from an 8-bit immediate. -/
  | bnei (e : Eng) (d : Fin 16) (imm : B8) (off : BitVec 12)
  /-- R185. Bobbin forward branch if a bit is set. -/
  | bbs (e : Eng) (d : Fin 16) (bit : BitVec 6) (off : BitVec 12)
  /-- R185. Bobbin forward branch if a bit is clear. -/
  | bbc (e : Eng) (d : Fin 16) (bit : BitVec 6) (off : BitVec 12)
  /-- R185. Bobbin forward jump. -/
  | jmp (e : Eng) (off : BitVec 12)
  /-- R191. Bobbin request for a trace copy under a named rule. -/
  | trace (e : Eng) (rule : Fin 16)
  /-- R191. Bobbin instruction raising a program event with a register value. -/
  | evt (e : Eng) (a : Fin 16) (sub : B8)
  /-- R191. Run ends with verdict FORWARD; the header rejoins as returned. -/
  | exitForward (e : Eng)
  /-- R191. Run ends with verdict DROP; the TLP is discarded or completed with Unsupported Request. -/
  | exitDrop (e : Eng)
  /-- R191. Run ends with verdict ABORT; the TLP is discarded or completed with Completer Abort. -/
  | exitAbort (e : Eng)
  /-- R192. Run ends with verdict REDIRECT; the destination port is replaced if valid. -/
  | exitRedirect (e : Eng) (a : Fin 16)
  /-- R180. A header held in the rejoin buffer is released once the earlier header of its class rejoins or is discarded. -/
  | rejoinRelease (id : Nat)
  /-- R198. A run is not returned within RUN_TMO; the engine is taken out of service. -/
  | runTimeout (e : Eng)
  /-- R198. An engine's reload and read-back finish and it returns to dispatch. -/
  | engineRestored (e : Eng) (ok : Bool)
  /-- R200. An engine sampler reaches its period and writes a sample ring entry. -/
  | bobbinSample (e : Eng)
  /-- R196. A run of an older epoch still running 2 µs after the COMMIT is ended as a TIMEOUT fault. -/
  | ruleFenceTimeout (s : Stn)
  /-- R196. No run of an older epoch remains in the station and the rule fence completes. -/
  | ruleFenceDone (s : Stn)
  /-- R205. An engine takes the new image once its run ends, all at once in CUT mode or one by one in ROLLING mode. -/
  | engineImageCopy (e : Eng) (ok : Bool)
  /-- R205. A station's swap ends and its image buffers exchange roles. -/
  | imageSwapped (s : Stn)
  /-- R149. A TLP whose ordering wait has ended enters the crossbar toward its destination banks. -/
  | crossbarEntry (id : Nat)
  /-- R100. A destination bank admits a record whole once its queue and the shared pool have room. -/
  | recordAdmit (bank : Stn) (id : Nat)
  /-- R101. The last line of a record is written; when all banks have committed, ingress credit returns. -/
  | recordCommit (bank : Stn) (id : Nat)
  /-- R163. The head record of a residue chain is linked to its queue once the queue admits it. -/
  | residueLink (bank : Stn) (q : Fin 64) (ing : Fin 256)
  /-- R104. A queue head permitted by the posted-count test and credit is read out and transmitted or delivered. -/
  | recordDepart (bank : Stn) (q : Fin 64) (phys : ReadPhys)
  /-- R112. A port's queues have been emptied by a walk or drop flush. -/
  | portFlushed (p : Port) (links : List (Fin 64 × LinkHit) := [])
  /-- R113. Every INTERVAL a bank toggles its epoch and starts a sieve pass. -/
  | sievePassStart (bank : Stn)
  /-- R113. A sieve pass ends and returns cells unmarked in two passes to the free list. -/
  | sievePassEnd (bank : Stn) (leaks corrupt : List (Fin 40960)) (loops : List (ChainRef × Nat))
    (links : List (ChainRef × LinkHit) := [])
  /-- R115. A quadrant with a pending request shows no handshake for STALL_TMO and recovery begins. -/
  | quadrantStall (q : Quad)
  /-- R116. Quadrant recovery ends and uncommitted TLPs have been presented again. -/
  | quadrantRecovered (q : Quad) (finds : List SieveFind := [])
  /-- R117. The quadrant pace monitor gives no five valid samples within 10 µs of step 4. -/
  | recoveryMonitorTimeout (q : Quad)
  /-- R221. All actions of a containment entry complete. -/
  | contained (s : Stn) (k : Fin 32)
  /-- R219. A containment entry's end condition is met and it is freed. -/
  | containReleased (s : Stn) (i : Fin 32)
  /-- R224. 10 ms after a DSP link down with presence, Surprise Down is reported or the link down becomes a removal. -/
  | surpriseDownHoldoff (p : Port)
  /-- R250. A DATA flit passes its checks and is accepted, discarded as duplicate or starts a NAK, with its records received. -/
  | seamDataFlit (s : Stn) (h : FlitHdr) (starts : List RecStart) (ends : List RecEnd)
  /-- R250. An IDLE flit's header fields are taken and a lost tail is detected. -/
  | seamIdleFlit (s : Stn) (h : FlitHdr)
  /-- R264. A BYPASS flit's header fields and bypass messages are taken. -/
  | seamBypassFlit (s : Stn) (h : FlitHdr) (msgs : List (Fin 256 × BMsg))
  /-- R270. A TRAIN flit's training block is taken, or in ACTIVE shows a restarted partner. -/
  | seamTrainFlit (s : Stn) (b : TrainBlk)
  /-- R250. A flit fails FEC and CRC and is treated as a lost DATA flit. -/
  | seamBadFlit (s : Stn)
  /-- R246. A Seam egress starts a record once its class has permission and enough bytes are in the bank. -/
  | seamRecordStart (s : Stn) (c : Fin 4) (phys : ReadPhys) (cuts : List (Fin 57))
  /-- R247. A record waiting 2 µs for bytes is filled with zeros and marked. -/
  | seamRecordAbandoned (s : Stn)
  /-- R254. The replay timer expires and the sender replays from ACKED + 1 or declares the link lost at 4. -/
  | replayTimerExpiry (s : Stn)
  /-- R252. The last outstanding flit has been resent and the sender returns to SEND. -/
  | replayEnd (s : Stn) (storeOk : Bool)
  /-- R262. Every 100 µs in credit mode the sender sends a CREDIT_AUDIT. -/
  | creditAuditTimer (s : Stn)
  /-- R263. After 1 ms of on/off with no trigger the receiver sends RESYNC. -/
  | onoffResyncTimer (s : Stn)
  /-- R263. No RESYNC_ACK within 8 × BYP_TMO returns the receiver to on/off. -/
  | resyncAckTimeout (s : Stn)
  /-- R265. BACK has not advanced for BYP_TMO and every unacknowledged bypass message is resent. -/
  | bypassResend (s : Stn)
  /-- R267. Bypass message asking the far sender to drive a lane's bytes on the spare. -/
  | spareReq (s : Stn) (lane : Fin 16)
  /-- R267. Bypass message ending the double drive after substitution. -/
  | spareDone (s : Stn) (lane : Fin 16)
  /-- R268. Bypass message abandoning a substitution. -/
  | spareAbort (s : Stn) (lane : Fin 16) (reason : Nat)
  /-- R262. Bypass message compared by the receiver with its own counts. -/
  | creditAudit (s : Stn) (seq : Fin 4096) (cons : List Nat)
  /-- R263. Bypass message resetting the sender's credit counts. -/
  | resync (s : Stn) (r : Fin 4096) (rx : List Nat) (freed : List Nat)
  /-- R263. Bypass message returning the receiver to credit mode. -/
  | resyncAck (s : Stn) (r : Fin 4096)
  /-- R271. Bypass message answered with RTT_ECHO. -/
  | rttProbe (s : Stn) (stamp : Nat) (hold : Nat)
  /-- R271. Bypass message giving a round-trip measurement. -/
  | rttEcho (s : Stn) (stamp : Nat) (hold : Nat)
  /-- R271. Every 1 ms in ACTIVE an RTT_PROBE is sent. -/
  | rttProbeTimer (s : Stn)
  /-- R272. Bypass message from the partner declaring the link lost. -/
  | linkDownNotice (s : Stn) (cause : Fin 16)
  /-- R299. Bypass message from a child answered by the parent with TIME_RESP. -/
  | timeReq (s : Stn) (t1 : Nat) (t2 : Nat) (t3 : Nat)
  /-- R299. Bypass message from which the child computes its offset and slews its time. -/
  | timeResp (s : Stn) (t1 : Nat) (t2 : Nat) (t3 : Nat) (t4 : Nat)
  /-- R299. Once each millisecond a node sends TIME_REQ to its parent. -/
  | timeExchangeTimer (t1 : Nat)
  /-- R300. 5 ms without an exchange takes the node out of LOCKED. -/
  | timeExchangeLoss
  /-- R266. A main lane loses lock for 1 µs or exceeds LANE_CORR_LIMIT corrections, starting substitution. -/
  | seamLaneFault (s : Stn) (lane : Lane) (lock : Bool)
  /-- R267. Substitution completes after 64 good flits and the replay. -/
  | seamSpareSubst (s : Stn)
  /-- R268. Substitution not complete within 40 µs, or a second fault, loses the link. -/
  | seamSpareFailed (s : Stn)
  /-- R272. Two or more main lanes lose lock for 1 µs and the link is lost. -/
  | seamLaneLockLost (s : Stn)
  /-- R272. No flit passes for DEAD_TMO outside substitution and the link is lost. -/
  | deadTimeout (s : Stn)
  /-- R292. Fabric control message carrying a neighbour's candidate and manager. -/
  | hello (c : CtlHdr) (m : HelloMsg)
  /-- R292. Each 1 ms a node sends HELLO and judges the election. -/
  | helloRound
  /-- R292. No manager-capable node heard by FORM_TMO; local routes are published. -/
  | noManager
  /-- R291. Fabric control message carrying a node's links. -/
  | topo (c : CtlHdr) (node : B8) (uid : B64) (links : List TopoLink) (usps : B32 := 0)
  /-- R298. The manager node starts publication once the topology has been stable for 20 ms. -/
  | publishStart
  /-- R282. Fabric control message delivering a table piece, checked against the route rules. -/
  | publish (c : CtlHdr) (kind : B8) (first : Nat) (words : List B32)
  /-- R291. Fabric control message exchanging the epoch and digest of staged pieces. -/
  | prepareReady (c : CtlHdr) (ready : Bool) (epoch : Nat) (digest : B32)
  /-- R287. Fabric control message fixing the fabric time of the table switch. -/
  | go (c : CtlHdr) (epoch : Nat) (time : B64)
  /-- R287. At the GO time every device commits the new tables and releases its holds. -/
  | goTime
  /-- R290. Fabric control message reporting a lost link to the manager and deputy. -/
  | linkEvent (c : CtlHdr) (node : B8) (port : B8) (cause : Fin 16)
  /-- R290. After the 20 µs gathering window the manager chooses precomputed tables and sends REROUTE_HOLD. -/
  | rerouteStart
  /-- R287. Fabric control message making a device hold affected flows and send seal round 1. -/
  | rerouteHold (c : CtlHdr) (epoch : Nat) (mask : BitVec 48) (pieces : Nat)
  /-- R288. A seal record is consumed after earlier records of its class, possibly completing a round. -/
  | seal (s : Stn) (c : Fin 3) (round : Fin 256)
  /-- R289. A seal round not arrived within SEAL_ROUND_TMO is failed. -/
  | sealRoundTimeout (s : Stn)
  /-- R287. Fabric control message reporting that a device has received round 4. -/
  | sealed (c : CtlHdr) (epoch : Nat) (mask : B16)
  /-- R289. 120 µs after the hold the manager sends GO whatever the rounds. -/
  | goDeadline
  /-- R228. Fabric control message entering a remote late error into the ingress device's log. -/
  | lateNotice (c : CtlHdr) (e : LateRec)
  /-- R293. Fabric control message carrying a command packet or its reply to another node. -/
  | cmdFwd (c : CtlHdr) (isReply : Bool) (cls : B8) (vs : B8) (pkt : Bytes)
  /-- R291. A control message without reply for 2 ms is sent again, giving up after 4 sends. -/
  | controlMessageResend (mseq : B32)
  /-- R309. Tenant write of the submission tail, checked and stored. -/
  | shtDbSqTail (v : VsId) (n : Panel) (val : B16)
  /-- R309. Tenant write of the completion head, checked and stored. -/
  | shtDbCqHead (v : VsId) (n : Panel) (val : B16)
  /-- R305. Write of RESUME retries the failed descriptor of a HALTED panel. -/
  | doorbellResume (v : VsId) (n : Panel)
  /-- R305. Write of RESUME with SKIP completes and passes the failed descriptor. -/
  | doorbellResumeSkip (v : VsId) (n : Panel)
  /-- R320. Tenant write of SHT_DB_TMSG with a flipped TOGGLE sends a word to the manager. -/
  | tenantMsg (v : VsId) (n : Panel) (word : B32)
  /-- R304. A write to a doorbell page of an unbound or foreign panel is discarded and counted. -/
  | doorbellStrayWrite (v : VsId) (n : Panel)
  /-- R311. An idle mover takes the next ready panel in weighted round-robin. -/
  | moverTake (m : Mover)
  /-- R311. A mover releases its panel at a chunk boundary after its quantum. -/
  | moverRelease (m : Mover)
  /-- R310. A descriptor read from the submission ring completes. -/
  | descriptorFetch (n : Panel) (fixed : Nat) (upset : Option (Bool × Nat)) (data : Option Bytes)
  /-- R314. An ATS translation for a local address completes. -/
  | atsTranslation (n : Panel) (page : B64) (ok : Bool) (read : Bool) (write : Bool) (phys : B64)
  /-- R314. An ATS Invalidate Request is received. -/
  | atsInvalidate (v : VsId) (pasid : Option Nat) (page : B64) (pages : Nat) (itag : Nat)
  /-- R314. Requests using invalidated translations are done and the invalidation is completed. -/
  | atsInvalidateComplete (v : VsId) (itag : Nat)
  /-- R318. A mover issues a read once staging has room for its completion data. -/
  | shuttleReadIssue (m : Mover)
  /-- R318. Read data arrives in staging and is written to the destination. -/
  | shuttleReadCompletion (m : Mover) (tag : Nat) (data : Option Bytes)
  /-- R312. The flush read completes and the completion entry is written. -/
  | flushReadComplete (n : Panel) (ok : Bool)
  /-- R313. The panel's holdoff ends and one message covers the entries written meanwhile. -/
  | intHoldoffExpiry (n : Panel)
  /-- R328. A Shuttle read does not complete within CPL_TMO. -/
  | shtCplTimeout (m : Mover) (tag : Nat)
  /-- R322. Nothing of a freezing panel is in flight and it becomes FROZEN. -/
  | panelFrozen (n : Panel)
  /-- R326. A quiescing or resetting panel has nothing in flight and becomes STOPPED. -/
  | panelStopped (n : Panel)
  /-- R334. A Function Level Reset of the Shuttle function resets every panel of its virtual switch. -/
  | shuttleFlr (v : VsId)
  /-- R334. A Function Level Reset of the management function resets its vectors, proxy queue and latch. -/
  | endpointFlr (v : VsId)
  /-- R336. A host read of BAR0 is queued in the host proxy. -/
  | hostBar0Read (v : VsId) (off : Nat) (len : Nat) (tag : B16)
  /-- R337. A host write of BAR0 is accepted into the proxy queue. -/
  | hostBar0Write (v : VsId) (off : Nat) (data : List B32) (full : Bool)
  /-- R338. The proxy translates and issues the next register access of a virtual switch and takes its response. -/
  | proxyAccess (v : VsId)
  /-- R340. No register network response within 1.5 µs ends the access with an error. -/
  | registerAccessTimeout (v : VsId)
  /-- R340. A host read not completed 48 µs after arrival is completed with Completer Abort. -/
  | hostReadAborted (v : VsId)
  /-- R339. A management-side initiator that received RETRY repeats its request 8 ns later. -/
  | bridgeRetry (init : Fin 5)
  /-- R9. A read of the low word of a wide quantity loads the initiator's high-word latch. -/
  | registerLowRead (init : Fin 37) (addr : Nat)
  /-- R10. A write to a register that has no row of its own takes effect as its access code states. -/
  | registerWrite (init : Fin 37) (addr : Nat) (val : B32)
  /-- R350. A host write to BAR4 is discarded and counted. -/
  | bar4Write (v : VsId)
  /-- R341. A vector's source fires, setting its pending bit and sending one message when unmasked. -/
  | msixMessage (v : VsId) (fn : Bool) (vec : Fin 2048)
  /-- R341. A host write unmasking or enabling a vector sends its pending message. -/
  | msixVectorUnmask (v : VsId) (fn : Bool) (vec : Fin 2048) (addr : B64) (data : B32)
  /-- R344. No access of an older epoch remains at a thimble and its fence completes. -/
  | thimbleRuleFenceDone (th : Fin 293) (bad : List (Fin 16))
  /-- R344. An older-epoch access still outstanding 2 µs after the fence is ended with an error. -/
  | thimbleFenceTimeout (th : Fin 293)
  /-- R346. A counter wraps to 0 and sets OVF, advancing a chained odd counter. -/
  | counterWrap (u : Pmu) (c : Fin 8)
  /-- R348. A sampling counter wraps, writes a PMC sample entry and reloads its PRELOAD. -/
  | counterSample (u : Pmu) (c : Fin 8)
  /-- R347. Every READ_PERIOD the central reader accumulates every counter and updates the pages. -/
  | counterSweep
  /-- R346. Write of CLR_ALL clearing all eight counters and OVF bits of a unit. -/
  | pmuClrAll (u : Pmu)
  /-- R346. Write of CLR in PMU_CNT_CTL clearing one counter. -/
  | pmuCounterClr (u : Pmu) (c : Fin 8)
  /-- R403. HRST_N has been high for 1 µs after the drive ends and the boot ROM starts. -/
  | resetRelease
  /-- R357. The boot ROM has verified a bank and entered the firmware. -/
  | fwBooted (saved : Bool := false)
  /-- R363. Aclia reads both image copies and applies the newer valid one. -/
  | configImageLoad
  /-- R354. A core watchdog expires and the four cores are reset. -/
  | acliaWatchdog (core : Fin 4)
  /-- R359. Hitless activation ends and command service resumes. -/
  | fwActivated (ok : Bool) (saved : Bool := false)
  /-- R360. Trial firmware not confirmed within CONFIRM_TMO reverts to the previous bank. -/
  | confirmTimeout
  /-- R375. 60 s after arming without confirm the debug lock disarms. -/
  | debugArmExpiry
  /-- R367. The hub samples a sensor once per millisecond and judges thermal and supply limits. -/
  | sensorSample (i : Fin 32) (raw : Int)
  /-- R367. A sensor with no valid sample for 10 ms becomes stale. -/
  | sensorStale (i : Fin 32)
  /-- R368. ALERT_N is released 100 ms after the last alert condition ends. -/
  | alertRelease
  /-- R370. A die comparator reads 110 °C twice; THERMTRIP_N falls and PD0–PD61 switch off. -/
  | thermtrip (die : Fin 5) (raw : Int)
  /-- R372. The bridge accepts a block's event record into the log and persistent copy. -/
  | eventRecordDelivery (src : Fin 32)
  /-- R402. VAUX3 or VBAK returns after both were lost and the subsoil domain is reset. -/
  | subsoilPowerOn
  /-- R402. VAUX3 rises through 3.00 V, resetting the slot controllers and sampling the strap. -/
  | standbyPowerOn (samples : List Nat)
  /-- R402. Every main supply rises above its threshold after one fell, resetting PD0–PD62. -/
  | mainPowerOnReset (samples : List Nat)
  /-- R457. A main supply falls below its fall threshold for 2 µs. -/
  | brownOut (supply : Fin 8)
  /-- R403. HRST_N held low by another device for at least 1 µs triggers a warm reset. -/
  | warmReset (samples : List Nat)
  /-- R403. The 10 ms drive of HRST_N after the trigger ends and the pin is released. -/
  | hrstDriveEnd
  /-- R412. A domain's ramp and initialisation finish and its isolation is released. -/
  | pdOn (d : Pd)
  /-- R412. A domain's switch opens after its outputs are clamped. -/
  | pdOff (d : Pd)
  /-- R412. A domain does not reach its good level within 1 ms or reports overcurrent and is left off. -/
  | pdFault (d : Pd) (overcurrent : Bool)
  /-- R415. A block reset completes within 1 ms. -/
  | blockResetDone
  /-- R417. A REFCLK input leaves its range or stops, and its stations lose PLL lock. -/
  | refclkLost (q : Quad)
  /-- R417. A REFCLK input is present after 100 good windows. -/
  | refclkRestored (q : Quad)
  /-- R418. The core PLL changes to another input, the standby oscillator, or back, after its waits. -/
  | corePllSwitch (target : Option Quad)
  /-- R419. A wake request restarts a stopped station clock. -/
  | stationWake (s : Stn)
  /-- R419. A station clock stops when its ports are idle and its queues empty. -/
  | stationClockStop (s : Stn)
  /-- R409. Once per second the main domain writes the subsoil time base pair. -/
  | subsoilBaseUpdate
  /-- R408. The subsoil domain changes over between VAUX3 and VBAK. -/
  | subsoilSupplyChange (toVbak : Bool)
  /-- R408. VBAK below 2.2 V is reported at most once per hour and once after each boot. -/
  | vbakLow (mv : Nat)
  /-- R430. Filtered PRSNT_N goes low and the card is present. -/
  | slotPresent (n : Slot)
  /-- R430. Filtered presence is lost, turning the slot off and clearing a latch on a toggle. -/
  | slotRemoved (n : Slot)
  /-- R430. SEATED_N has been low for 100 ms with the card present. -/
  | slotSeated (n : Slot)
  /-- R430. The slow or fast seating detector sees a high and the gate is turned off. -/
  | slotSeatLost (n : Slot) (fast : Bool)
  /-- R429. Filtered power button press sets Attention Button Pressed. -/
  | buttonPress (n : Slot)
  /-- R430. Filtered button release completes a toggle, clearing a latch-off. -/
  | buttonRelease (n : Slot)
  /-- R443. VIN below 10.0 V or above 14.0 V turns the slot off. -/
  | slotInputFault (n : Slot) (m : SlotMeas)
  /-- R434. The head of the WAIT queue starts its ramp once budget, stagger and trip delay permit. -/
  | slotRampStart (n : Slot)
  /-- R431. VOUT reaches 10.8 V and the controller enters QUAL. -/
  | voutGood (n : Slot) (m : SlotMeas)
  /-- R431. RAMP_TMO expires and the controller trips with cause RAMP. -/
  | rampTimeout (n : Slot) (m : SlotMeas)
  /-- R431. Qualification reaches 2 ms and PGOOD is released. -/
  | slotPowerOn (n : Slot) (m : SlotMeas)
  /-- R431. Sense voltage reaches V_CB or VOUT falls below 10.2 V and the fault timer starts. -/
  | faultConditionStart (n : Slot) (volt : Bool) (m : SlotMeas)
  /-- R431. The fault condition ends before FAULT_TMO and the fault timer clears. -/
  | faultConditionEnd (n : Slot)
  /-- R431. The fault timer reaches FAULT_TMO and the controller trips. -/
  | slotBreakerTrip (n : Slot) (m : SlotMeas)
  /-- R431. The sense voltage reaches the fast-trip threshold and the controller trips. -/
  | fastTrip (n : Slot) (m : SlotMeas)
  /-- R441. The retry delay ends and a commanded, seated slot re-enters WAIT. -/
  | slotRetry (n : Slot)
  /-- R437. 100 µs after an off command PGOOD falls and the gate is pulled down. -/
  | orderlyOffComplete (n : Slot)
  /-- R436. PERST_N is driven high once PGOOD has been released for PERST_DLY and the port conditions hold. -/
  | perstRelease (n : Slot)
  /-- R439. PWRWARN_N is released after neither condition has held for 1 ms. -/
  | pwrwarnRelease (n : Slot)
  /-- R433. SPC16 enters WAIT once seated with VIN in range for 100 ms. -/
  | spc16Admit (m : SlotMeas)
  /-- R439. Slot input VIN falls below the 11.0 V warning level while the gate is on and PWRWARN_N is driven low. -/
  | vinWarning (n : Slot) (m : SlotMeas)
  /-- R325. A panel quiesce that has not reached STOPPED within the opcode's limit returns TIMEOUT and the panel stays QUIESCING. -/
  | panelQuiesceTimeout (cred : B32) (tag : B32)
  /-- R146. An orderly reclaim whose borrower has not cleared Memory Space and Bus Master Enable within the opcode's limit returns TIMEOUT and nothing changes. -/
  | reclaimTimeout (cred : B32) (tag : B32)
  /-- R57. The pattern checker declares lock after 128 consecutive correct bits and its counters start to advance. -/
  | checkerLock (s : Stn) (lane : Lane)
  /-- R106. A PCI Express link partner returns flow-control credit to an egress port, letting waiting queue heads leave. -/
  | linkCreditReturned (p : Port) (vc : Fin 2) (cls : Fin 3) (hdr : Nat) (data : Nat)
  /-- R27. A received PCIe flit fails FEC or flit CRC, its bytes leave the basting computation and link replay follows. -/
  | receiverError (p : Port) (err : PortErr := .receiver)
  /-- R404. VAUX3 falls below its minimum; every slot gate turns off, main logic is held in reset and latch-off state stays in subsoil. -/
  | standbyPowerLoss
  /-- R334. The Function Level Reset of the management function completes within 1 ms and Request Retry Status ends. -/
  | functionResetComplete (v : VsId)
  /-- R403. 10 ms after the DEVICE_RESET reply is sent the warm or management-core reset takes effect. -/
  | resetAfterReply (kind : Fin 2)
  /-- R381. I3C ENTDAA command assigning the dynamic address of an SMBus/I3C port. -/
  | entdaa (chan : Chan) (addr : BitVec 7)
  deriving DecidableEq, Repr

end Sys2Proof
end

