-- ==== Sys2Proof/Decode.lean ====
section
/-!
DEFINITION. Decode.lean: what a word of the opcode table spells (no row of this block's table has bits, so no word spells a
command), what a word of a Bobbin engine's program space spells (Tables 7.3 and 7.4), with its encoder, and which command the bytes of a request
packet spell (R386, R387).
-/

namespace Sys2Proof

/-- The command a word of the opcode table spells: none, since the table gives no row bits. -/
def decodeTableWord (_nbits _w : Nat) : Option Instr := none

/-- A bit field of a Bobbin word. -/
def bbField (w lo n : Nat) : Nat := w / 2 ^ lo % 2 ^ n

/-- A register field of a Bobbin word. -/
def bbReg (w lo : Nat) : Fin 16 := ⟨w / 2 ^ lo % 16, Nat.mod_lt _ (by decide)⟩

/-- An access size SZ of a Bobbin word. -/
def bbSz (w lo : Nat) : Fin 4 := ⟨w / 2 ^ lo % 4, Nat.mod_lt _ (by decide)⟩

/-- The function of an ALU word (Table 7.4); 11 to 15 are reserved. -/
def decodeAlu (e : Eng) (d a b : Fin 16) : Nat → Option Instr
  | 0 => some (.aluAdd e d a b)
  | 1 => some (.aluSub e d a b)
  | 2 => some (.aluAnd e d a b)
  | 3 => some (.aluOr e d a b)
  | 4 => some (.aluXor e d a b)
  | 5 => some (.aluShl e d a b)
  | 6 => some (.aluShr e d a b)
  | 7 => some (.aluMinu e d a b)
  | 8 => some (.aluMaxu e d a b)
  | 9 => some (.aluSeq e d a b)
  | 10 => some (.aluSltu e d a b)
  | _ => none

/-- The instruction that a 32-bit word spells on engine e: a word whose reserved fields are not 0, or whose OP, FN, SEL or V is reserved,
spells none (R185, reason 3 of Table 7.6). Outcomes of memory decoders are no part of a word: they decode as clean. -/
def decodeBobbin (e : Eng) (w : Nat) : Option Instr :=
  let f := bbField w
  let d := bbReg w 22
  let a := bbReg w 18
  let b := bbReg w 14
  let z (ok : Bool) (i : Instr) : Option Instr := if ok then some i else none
  if 2 ^ 32 ≤ w then none
  else match f 26 6 with
  | 0x00 => z (f 0 26 == 0) (.nop e)
  | 0x01 => if f 0 10 = 0 then decodeAlu e d a b (f 10 4) else none
  | 0x02 => some (.addi e d a (BitVec.ofNat 18 w))
  | 0x03 => some (.andi e d a (BitVec.ofNat 18 w))
  | 0x04 => some (.ori e d a (BitVec.ofNat 18 w))
  | 0x05 => some (.xori e d a (BitVec.ofNat 18 w))
  | 0x06 => z (f 6 12 == 0) (.shli e d a (BitVec.ofNat 6 w))
  | 0x07 => z (f 6 12 == 0) (.shri e d a (BitVec.ofNat 6 w))
  | 0x08 => some (.li e d (BitVec.ofNat 22 w))
  | 0x09 => z (f 16 4 == 0) (.movk e d (bbSz w 20) (BitVec.ofNat 16 w))
  | 0x0A => z (f 0 14 == 0) (.hash e d a b)
  | 0x10 => z (f 6 14 == 0) (.ldh e d (bbSz w 20) (BitVec.ofNat 6 w))
  | 0x11 => z (f 6 10 == 0 && f 22 4 == 0) (.sth e a (bbSz w 16) (BitVec.ofNat 6 w))
  | 0x12 => some (.ldl e d a (bbSz w 16) (BitVec.ofNat 16 w) 0)
  | 0x13 => some (.stl e d a (bbSz w 16) (BitVec.ofNat 16 w) 0)
  | 0x14 => z (f 17 1 == 0) (.ldt e d a (BitVec.ofNat 17 w) 0)
  | 0x15 => z (f 17 1 == 0) (.stt e d a (BitVec.ofNat 17 w))
  | 0x16 => z (f 17 1 == 0) (.addt e d a (BitVec.ofNat 17 w) 0)
  | 0x18 => z (f 6 16 == 0 && decide (f 0 6 ≤ 18)) (.ctx e d (BitVec.ofNat 6 w))
  | 0x20 => z (f 12 6 == 0) (.beq e d a (BitVec.ofNat 12 w))
  | 0x21 => z (f 12 6 == 0) (.bne e d a (BitVec.ofNat 12 w))
  | 0x22 => z (f 12 6 == 0) (.bltu e d a (BitVec.ofNat 12 w))
  | 0x23 => z (f 12 6 == 0) (.bgeu e d a (BitVec.ofNat 12 w))
  | 0x24 => z (f 12 2 == 0) (.beqi e d (BitVec.ofNat 8 (f 14 8)) (BitVec.ofNat 12 w))
  | 0x25 => z (f 12 2 == 0) (.bnei e d (BitVec.ofNat 8 (f 14 8)) (BitVec.ofNat 12 w))
  | 0x26 => z (f 12 4 == 0) (.bbs e d (BitVec.ofNat 6 (f 16 6)) (BitVec.ofNat 12 w))
  | 0x27 => z (f 12 4 == 0) (.bbc e d (BitVec.ofNat 6 (f 16 6)) (BitVec.ofNat 12 w))
  | 0x28 => z (f 12 14 == 0) (.jmp e (BitVec.ofNat 12 w))
  | 0x30 => z (f 4 22 == 0) (.trace e (bbReg w 0))
  | 0x31 => z (f 8 14 == 0) (.evt e d (BitVec.ofNat 8 w))
  | 0x3F =>
    if f 3 19 ≠ 0 then none
    else match f 0 3 with
      | 0 => z (d == 0) (.exitForward e)
      | 1 => z (d == 0) (.exitDrop e)
      | 2 => z (d == 0) (.exitAbort e)
      | 3 => some (.exitRedirect e d)
      | _ => none
  | _ => none

/-- A word from its fields: OP, D, A and the bits below. -/
def bbWord (op d a low : Nat) : Nat := op * 2 ^ 26 + d * 2 ^ 22 + a * 2 ^ 18 + low

/-- The word of an ALU function. -/
def aluWord (d a b : Fin 16) (fn : Nat) : Option Nat := some (bbWord 1 d a (b.val * 2 ^ 14 + fn * 2 ^ 10))

/-- The word of a Bobbin instruction (Tables 7.3 and 7.4): none for a command that is no Bobbin instruction, and for a CTX whose selector
is reserved. -/
def encodeBobbin : Instr → Option Nat
  | .nop _ => some 0
  | .aluAdd _ d a b => aluWord d a b 0
  | .aluSub _ d a b => aluWord d a b 1
  | .aluAnd _ d a b => aluWord d a b 2
  | .aluOr _ d a b => aluWord d a b 3
  | .aluXor _ d a b => aluWord d a b 4
  | .aluShl _ d a b => aluWord d a b 5
  | .aluShr _ d a b => aluWord d a b 6
  | .aluMinu _ d a b => aluWord d a b 7
  | .aluMaxu _ d a b => aluWord d a b 8
  | .aluSeq _ d a b => aluWord d a b 9
  | .aluSltu _ d a b => aluWord d a b 10
  | .addi _ d a i => some (bbWord 0x02 d a i.toNat)
  | .andi _ d a i => some (bbWord 0x03 d a i.toNat)
  | .ori _ d a i => some (bbWord 0x04 d a i.toNat)
  | .xori _ d a i => some (bbWord 0x05 d a i.toNat)
  | .shli _ d a i => some (bbWord 0x06 d a i.toNat)
  | .shri _ d a i => some (bbWord 0x07 d a i.toNat)
  | .li _ d i => some (bbWord 0x08 d 0 i.toNat)
  | .movk _ d hw i => some (bbWord 0x09 d 0 (hw.val * 2 ^ 20 + i.toNat))
  | .hash _ d a b => some (bbWord 0x0A d a (b.val * 2 ^ 14))
  | .ldh _ d sz off => some (bbWord 0x10 d 0 (sz.val * 2 ^ 20 + off.toNat))
  | .sth _ a sz off => some (bbWord 0x11 0 a (sz.val * 2 ^ 16 + off.toNat))
  | .ldl _ d a sz i _ => some (bbWord 0x12 d a (sz.val * 2 ^ 16 + i.toNat))
  | .stl _ d a sz i _ => some (bbWord 0x13 d a (sz.val * 2 ^ 16 + i.toNat))
  | .ldt _ d a i _ => some (bbWord 0x14 d a i.toNat)
  | .stt _ d a i => some (bbWord 0x15 d a i.toNat)
  | .addt _ d a i _ => some (bbWord 0x16 d a i.toNat)
  | .ctx _ d sel => if sel.toNat ≤ 18 then some (bbWord 0x18 d 0 sel.toNat) else none
  | .beq _ d a off => some (bbWord 0x20 d a off.toNat)
  | .bne _ d a off => some (bbWord 0x21 d a off.toNat)
  | .bltu _ d a off => some (bbWord 0x22 d a off.toNat)
  | .bgeu _ d a off => some (bbWord 0x23 d a off.toNat)
  | .beqi _ d i off => some (bbWord 0x24 d 0 (i.toNat * 2 ^ 14 + off.toNat))
  | .bnei _ d i off => some (bbWord 0x25 d 0 (i.toNat * 2 ^ 14 + off.toNat))
  | .bbs _ d i off => some (bbWord 0x26 d 0 (i.toNat * 2 ^ 16 + off.toNat))
  | .bbc _ d i off => some (bbWord 0x27 d 0 (i.toNat * 2 ^ 16 + off.toNat))
  | .jmp _ off => some (bbWord 0x28 0 0 off.toNat)
  | .trace _ r => some (bbWord 0x30 0 0 r.val)
  | .evt _ a sub => some (bbWord 0x31 a 0 sub.toNat)
  | .exitForward _ => some (bbWord 0x3F 0 0 0)
  | .exitDrop _ => some (bbWord 0x3F 0 0 1)
  | .exitAbort _ => some (bbWord 0x3F 0 0 2)
  | .exitRedirect _ a => some (bbWord 0x3F a 0 3)
  | _ => none

/-! ### Request packets (R386, R387) -/

/-- Value of n bytes of a packet from offset o, little-endian; bytes beyond its end read as 0. -/
def rdN (p : Bytes) (o n : Nat) : Nat := ((p.drop o).take n).foldr (fun b v => b.toNat + 256 * v) 0

/-- Fields of a packet at an offset. -/
def r8 (p : Bytes) (o : Nat) : B8 := BitVec.ofNat 8 (rdN p o 1)
def r16 (p : Bytes) (o : Nat) : B16 := BitVec.ofNat 16 (rdN p o 2)
def r32 (p : Bytes) (o : Nat) : B32 := BitVec.ofNat 32 (rdN p o 4)
def r64 (p : Bytes) (o : Nat) : B64 := BitVec.ofNat 64 (rdN p o 8)

/-- Bytes taken two, four and eight at a time. -/
def halves : Bytes → List B16
  | a :: b :: t => r16 [a, b] 0 :: halves t
  | _ => []

def words : Bytes → List B32
  | a :: b :: c :: d :: t => r32 [a, b, c, d] 0 :: words t
  | _ => []

def dwords : Bytes → List B64
  | a :: b :: c :: d :: e :: f :: g :: i :: t => r64 [a, b, c, d, e, f, g, i] 0 :: dwords t
  | _ => []

/-- Words taken three at a time (ADDR, MASK, VALUE of STAGE_REG) and four at a time (records of Table 7.11). -/
def triples : List B32 → List (B32 × B32 × B32)
  | a :: b :: c :: t => (a, b, c) :: triples t
  | _ => []

def quads : List B32 → List (List B32)
  | a :: b :: c :: d :: t => [a, b, c, d] :: quads t
  | _ => []

/-- The command an opcode and its parameters spell, with whether PARAM_LEN is one that the opcode allows (Tables 14.7 to 14.21, with the
field alignment of R386; a table entry is words, as the example of chapter 14 shows); none for an opcode that the H7272 does not define. -/
def decodeOp (op : Nat) (h : Hdr) (p : Bytes) : Option (Bool × Instr) :=
  match op with
  | 0x0100 => some (p.length == 0, .getInfo h)
  | 0x0101 => some (p.length == 8, .readReg h (r32 p 0) (r32 p 4))
  | 0x0102 => some (p.length == 12, .readTable h (r8 p 0) (r8 p 1) (r32 p 4) (r32 p 8))
  | 0x0103 => some (p.length == 4, .getAsync h (r32 p 0))
  | 0x0200 => some (decide (p.length % 12 = 0 ∧ 12 ≤ p.length ∧ p.length ≤ 4080), .stageReg h (triples (words p)))
  | 0x0201 => some (p.length == 0, .commit h)
  | 0x0202 => some (p.length == 0, .abort h)
  | 0x0203 => some (p.length == 0, .txnStatus h)
  | 0x0204 => some (p.length == 8, .quiesce h (r8 p 0) (r32 p 4))
  | 0x0205 => some (p.length == 0, .release h)
  | 0x0300 => some (p.length == 0, .portStatus h)
  | 0x0301 => some (p.length == 8, .portQuiesce h (r8 p 0) (r32 p 4))
  | 0x0302 => some (p.length == 0, .portRestart h)
  | 0x0303 => some (p.length == 4, .portMeasure h (r8 p 0))
  | 0x0304 => some (p.length == 4, .lanePrbs h (r8 p 0) (r8 p 1) (r8 p 2) (r8 p 3))
  | 0x0305 => some (p.length == 8, .laneMargin h (r8 p 0) (r8 p 1) (r8 p 2) (r8 p 3) (r8 p 4))
  | 0x0306 => some (p.length == 4, .prbsRead h (r8 p 0))
  | 0x0307 => some (p.length == 8, .proxyCfgRd h (r16 p 0) (r16 p 2) (r8 p 4))
  | 0x0308 => some (p.length == 12, .proxyCfgWr h (r16 p 0) (r16 p 2) (r8 p 4) (r32 p 8))
  | 0x0400 => some (p.length == 36, .stageWindow h (r16 p 0) (r16 p 2) (words ((p.drop 4).take 32)))
  | 0x0401 => some (p.length == 12, .stageRequester h (r8 p 0) (r64 p 4))
  | 0x0402 => some (decide (p.length = 4 + ((rdN p 2 2 + 3) / 4 + 3) / 4 * 4), .stagePermission h (r8 p 0) (r8 p 1) (r16 p 2) ((p.drop 4).take ((rdN p 2 2 + 3) / 4)))
  | 0x0403 => some (p.length == 4, .stagePortDefault h (r8 p 0) (r8 p 1))
  | 0x0404 => some (p.length == 20, .lend h (words ((p.drop 0).take 20)) none)
  | 0x0405 => some (p.length == 4, .lendResume h (r8 p 0) none)
  | 0x0406 => some (p.length == 8, .lendReclaim h (r8 p 0) (r8 p 1) (r32 p 4))
  | 0x0500 => some (p.length == 36, .stageMgroup h (r8 p 0) (words ((p.drop 4).take 32)))
  | 0x0501 => some (p.length == 16, .stageTraceRule h (r8 p 0) (r32 p 4) (r32 p 8) (r32 p 12))
  | 0x0502 => some (p.length == 8, .readSamples h (r32 p 0) (r32 p 4))
  | 0x0600 => some (decide (4 ≤ p.length), .imageTransfer h (r32 p 0) (p.drop 4))
  | 0x0601 => some (p.length == 8, .imageInstall h (r32 p 0) (r16 p 4) (r8 p 6))
  | 0x0602 => some (decide (p.length = 4 + 16 * rdN p 2 1), .stageRegions h (r16 p 0) (r8 p 2) (quads (words (p.drop 4))))
  | 0x0603 => some (decide (8 ≤ p.length ∧ p.length % 8 = 0), .tableWrite h (r16 p 0) (r32 p 4) (dwords (p.drop 8)))
  | 0x0604 => some (p.length == 8, .tableRead h (r32 p 0) (r32 p 4))
  | 0x0605 => some (p.length == 0, .bobbinStatus h)
  | 0x0700 => some (p.length == 0, .fabricState h)
  | 0x0701 => some (p.length == 0, .fabricTopology h)
  | 0x0702 => some (p.length == 8, .stagePin h (r16 p 0) (r8 p 2) (r8 p 3) (r8 p 4))
  | 0x0703 => some (p.length == 36, .stageBinding h (r8 p 0) (r8 p 1) (words ((p.drop 4).take 16)) (words ((p.drop 20).take 16)))
  | 0x0704 => some (p.length == 20, .stageExport h (r8 p 0) (words ((p.drop 4).take 16)))
  | 0x0705 => some (p.length == 0, .reroute h)
  | 0x0800 => some (p.length == 4, .panelAllot h (r16 p 0) (r16 p 2))
  | 0x0801 => some (p.length == 32, .panelBind h (r32 p 0) (r64 p 8) (r64 p 16) (r8 p 24) (r8 p 25) (r16 p 26) (r8 p 28) (r8 p 29))
  | 0x0802 => some (p.length == 0, .panelUnbind h)
  | 0x0803 => some (p.length == 0, .panelEnable h)
  | 0x0804 => some (p.length == 4, .panelQuiesce h (r32 p 0))
  | 0x0805 => some (p.length == 0, .panelFreeze h)
  | 0x0806 => some (p.length == 0, .panelSave h)
  | 0x0807 => some (p.length == 808, .panelRestore h (r8 p 0) (r32 p 4) (halves ((p.drop 8).take 32)) ((p.drop 40).take 768))
  | 0x0808 => some (p.length == 0, .panelResume h)
  | 0x0809 => some (p.length == 0, .panelReset h)
  | 0x080A => some (p.length == 4, .panelMessage h (r32 p 0))
  | 0x080B => some (p.length == 0, .panelStatus h)
  | 0x080C => some (p.length == 20, .stageGrant h (r16 p 0) (r32 p 4) (r32 p 8) (r32 p 12) (r32 p 16))
  | 0x080D => some (p.length == 4, .stageSlot h (r8 p 0) (r8 p 1) (r16 p 2))
  | 0x0900 => some (p.length == 0, .cqRead h)
  | 0x0901 => some (p.length == 0, .fence h)
  | 0x0902 => some (p.length == 0, .fenceRelease h)
  | 0x0903 => some (p.length == 8, .lateRead h (r32 p 0) (r32 p 4))
  | 0x0904 => some (p.length == 0, .lateClear h)
  | 0x0A00 => some (p.length == 4, .slotStatus h (r8 p 0))
  | 0x0A01 => some (p.length == 4, .slotPower h (r8 p 0) (r8 p 1))
  | 0x0A02 => some (p.length == 8, .stageSlotParams h (r8 p 0) (r32 p 4))
  | 0x0A03 => some (p.length == 4, .stageSlotBudget h (r32 p 0))
  | 0x0B00 => some (p.length == 0, .sensorRead h)
  | 0x0B01 => some (p.length == 8, .logRead h (r32 p 0) (r16 p 4) (r8 p 6))
  | 0x0B02 => some (p.length == 8, .plogRead h (r32 p 0) (r16 p 4))
  | 0x0B03 => some (p.length == 0, .lastgaspRead h)
  | 0x0C00 => some (p.length == 4, .counterClear h (r32 p 0))
  | 0x0C01 => some (p.length == 8, .pmcGrant h (r8 p 0) (r8 p 1) (r8 p 2) (r32 p 4))
  | 0x0C02 => some (p.length == 4, .pmcRead h (r8 p 0))
  | 0x0D00 => some (p.length == 0, .pdStatus h)
  | 0x0D01 => some (p.length == 4, .pdSet h (r8 p 0) (r8 p 1))
  | 0x0D02 => some (p.length == 4, .blockReset h (r8 p 0))
  | 0x0D03 => some (p.length == 4, .deviceReset h (r8 p 0))
  | 0x0D04 => some (p.length == 0, .resetHistory h)
  | 0x0E00 => some (decide (4 ≤ p.length), .fwWrite h (r32 p 0) (p.drop 4))
  | 0x0E01 => some (p.length == 4, .fwCheck h (r32 p 0))
  | 0x0E02 => some (p.length == 0, .fwActivate h)
  | 0x0E03 => some (p.length == 0, .fwConfirm h)
  | 0x0E04 => some (decide (4 ≤ p.length), .cfgWrite h (r32 p 0) (p.drop 4))
  | 0x0E05 => some (p.length == 4, .cfgFinish h (r32 p 0))
  | 0x0E06 => some (p.length == 0, .updStatus h)
  | 0x0E07 => some (decide (8 ≤ p.length), .uartLoad h (r32 p 0) (r32 p 4) (p.drop 8))
  | 0x0F00 => some (p.length == 4, .credOpen h (r8 p 0) (r8 p 1))
  | 0x0F01 => some (p.length == 0, .credClose h)
  | 0x0F02 => some (p.length == 0, .credTenant h)
  | 0x0F03 => some (p.length == 104, .keyEnroll h (r8 p 0) ((p.drop 4).take 97) ((p.drop 101).take 3) none)
  | 0x0F04 => some (p.length == 4, .keyRevoke h (r8 p 0) none)
  | 0x0F05 => some (p.length == 0, .rollbackAdvance h none)
  | 0x0F06 => some (p.length == 0, .debugArm h)
  | 0x0F07 => some (p.length == 4, .debugConfirm h (r32 p 0) none)
  | 0x0F08 => some (decide (p.length = 4 + 16 * rdN p 0 1), .stageProxyRegions h (r8 p 0) (quads (words (p.drop 4))))
  | 0x0F09 => some (p.length == 4, .stageChannel h (r8 p 0) (r8 p 1))
  | 0x0F0A => some (p.length == 0, .secStatus h)
  | _ => none

/-- A request packet on a channel, as steps 1 to 5 of Table 14.5 find it: its command, or UNDECODABLE_REQUEST with the first check that
fails. `crcOk` says whether the CRC that closes the packet is that of header and parameters. -/
def decodePacket (crcOk : Bool) (chan : Chan) (eid : B8) (b : Bytes) : Instr :=
  let plen := rdN b 8 2
  let op := rdN b 0 2
  let h : Hdr := { chan := chan, eid := eid, tag := r32 b 4, cred := r32 b 12, scope := r16 b 10, flags := r8 b 2, crc := r32 b (16 + plen) }
  let bad (w : BadReq) : Instr := .undecodableRequest chan eid (r32 b 4) (r16 b 10) (r16 b 0) w
  if b.length ≠ 20 + plen ∨ plen % 4 ≠ 0 ∨ 4080 < plen then bad .badLength
  else if !crcOk then bad .badCrc
  else if rdN b 3 1 ≠ 1 ∨ 0x8000 ≤ op then bad .badOpcode
  else match decodeOp op h ((b.drop 16).take plen) with
    | none => bad .badOpcode
    | some (lenOk, i) =>
      if rdN b 2 1 / 2 ≠ 0 then bad .badParam
      else if lenOk then i else bad .badLength

end Sys2Proof
end

