-- ==== Sys2Proof/Config.lean ====
section
/-!
DEFINITION. Config.lean: what an implementation fixes or the spec leaves open, as constants without a body: nothing in Lean can
evaluate them, and a claim holds whatever they are. Values that a physical measurement decides and that no command brings are
applied to the counter `clk.free`, so each use is a fresh value.
-/

namespace Sys2Proof.Config

/-- Errors counted at a margin point that a LANE_MARGIN command measures (R58); log entry 8. -/
opaque marginErrs : Nat → BitVec 24

/-- Bit errors and compared bits a locked checker has counted since its counters were last looked at (R57); log entry 8. -/
opaque prbsErrs : Nat → BitVec 48
opaque prbsBits : Nat → BitVec 48

/-- The preset that the partner of a Seam link transmits (Table 2.8), which no message names (R53); log entry 8. -/
opaque partnerTxp : Nat → BitVec 4
/-- ACTIVE_TXP of a lane whose partner has asked for coefficients (R52); log entry 8. -/
opaque eqTxp : Nat → BitVec 4

/-- The payload a lane margining command is answered with on a link that is up, where Table 3.4 gives no value; log entry 8. -/
opaque marginReply : Nat → BitVec 8

/-- The parameter bytes of a bypass message, by MTYPE and parameters (Table 9.9 gives them no places); log entry 39. -/
opaque bypassParams : Nat → List Nat → List (BitVec 8)

/-- Data a proxied configuration read returns (R71); log entry 8. -/
opaque proxyData : Nat → BitVec 32

/-- Completion status of a proxied configuration access (R71); log entry 8. -/
opaque proxyStatus : Nat → BitVec 8

/-- What Aclia's proxied configuration reads find when it checks a lending (R140); log entry 8. -/
opaque sriov : Nat → SrIov

/-- Bytes 16 to 31 of an event record (Table 13.9): the tables that define the events list what DETAIL holds and give no widths or
offsets; by event code and detail values; log entry 8. -/
opaque packDetail : Nat → List Nat → BitVec 128

/-- Whether a fuse word was corrected as the fuse array was read (Table 15.10); log entry 8. -/
opaque fuseCorrected : Nat → Bool

/-- Whether a fuse burn reads back as written (R361, R375, Table 14.21); log entry 8. -/
opaque burnOk : Nat → Bool

/-- What the rollback counter reads after a failed burn (R361): "whatever the fuses hold"; log entry 8. -/
opaque burnt : Nat → Nat

/-- The bit of the fuse that a failed burn names in 0xA004; log entry 8. -/
opaque burnBit : Nat → Nat

/-- The 32-bit challenge DEBUG_ARM returns (R375); the spec states no rule for it; log entry 8. -/
opaque challenge : Nat → BitVec 32

/-- Whether a signature is valid under ECDSA P-384 over SHA-384: key bytes or boot-ROM key number, signed bytes, signature
(R356, R203); log entry 9. -/
opaque sigValid : List (BitVec 8) → List (BitVec 8) → List (BitVec 8) → Bool

/-- Tvedmir's firmware keys in boot ROM (R356) and image key of slot 0 (R204), by number; log entry 9. -/
opaque romKey : Nat → List (BitVec 8)

/-- The SHA-384 digest (R356, Table 14.23); log entry 9. -/
opaque sha384 : List (BitVec 8) → List (BitVec 8)

/-- The header bytes of a TLP whose fields the device has changed (stage 5 of R121, R467): wire formats are those of PCI
Express Base Specification 7.0, which the spec cites and does not give; log entry 10. -/
opaque hdrBytes : Tlp → List (BitVec 8)

/-- The fields that changed header bytes spell (R189): log entry 10. -/
opaque parseHdr : List (BitVec 8) → Tlp → Tlp

/-- The header window of a TLP (Table 7.1) and its HDR_LEN: the FLIT-mode header format is PCI Express Base
Specification 7.0's; log entry 10. -/
opaque window : Tlp → List (BitVec 8)
/-- The header bytes, in the order in which the basting tag covers them, of a TLP whose window holds these bytes (R182); log entry 10. -/
opaque unwindow : List (BitVec 8) → Tlp → List (BitVec 8)
opaque hdrLen : Tlp → Nat

/-- The FLIT to non-FLIT conversion of a stored TLP (R95); log entry 10. -/
opaque convert : Tlp → Tlp

/-- The end-to-end CRC over a TLP (R166, R216): PCI Express Base Specification 7.0's; log entry 10. -/
opaque ecrc : Tlp → BitVec 32

/-- High 8 bytes of the endpoint UUID, answer of Get MCTP Version Support, and command-set word of Get Vendor Defined Message Support
(R381, the DMTF MCTP Base Specification); log entry 29. -/
opaque uuidHigh : BitVec 64
opaque mctpVersions : List (BitVec 8)
opaque mctpVdmSet : BitVec 16

end Sys2Proof.Config
end

