-- ==== Sys2Proof/Machine/Crc.lean ====
section
/-!
DEFINITION. Machine/Crc.lean: CRC-32C (R27, R386), little-endian byte strings, and bit tests.
-/

namespace Sys2Proof.Machine

/-- One bit of the reflected Castagnoli polynomial. -/
def crcBit (c : B32) : B32 := if c.getLsbD 0 then (c >>> 1) ^^^ 0x82F63B78#32 else c >>> 1

/-- One byte. -/
def crcByte (c : B32) (b : B8) : B32 :=
  crcBit (crcBit (crcBit (crcBit (crcBit (crcBit (crcBit (crcBit (c ^^^ b.setWidth 32))))))))

/-- CRC-32C: initial value 0xFFFF_FFFF, final inversion (R386). -/
def crc32c (bs : Bytes) : B32 := ~~~ (bs.foldl crcByte 0xFFFFFFFF#32)

/-- A natural as n little-endian bytes. -/
def leBytes : Nat → Nat → Bytes
  | 0, _ => []
  | n + 1, v => BitVec.ofNat 8 v :: leBytes n (v / 256)

/-- Little-endian bytes as a natural. -/
def leNat : Bytes → Nat
  | [] => 0
  | b :: bs => b.toNat + 256 * leNat bs

/-- A big-endian number. -/
def beNat (bs : Bytes) : Nat := bs.foldl (fun n b => n * 256 + b.toNat) 0

/-- Bytes off to off + n of a string; missing bytes read 0. -/
def slice (bs : Bytes) (off n : Nat) : Bytes :=
  let r := (bs.drop off).take n
  r ++ List.replicate (n - r.length) 0

/-- n little-endian bytes at an offset, as a natural. -/
def leAt (bs : Bytes) (off n : Nat) : Nat := leNat (slice bs off n)

/-- Bytes needed to bring a string to a multiple of n. -/
def padTo (n : Nat) (bs : Bytes) : Bytes :=
  bs ++ List.replicate ((n - bs.length % n) % n) 0

/-- Packet fields at their natural alignment (R386). -/
def datBytes : List Dat → Bytes → Bytes
  | [], acc => padTo 4 acc
  | .u8 v :: ds, acc => datBytes ds (acc ++ leBytes 1 v)
  | .u16 v :: ds, acc => datBytes ds (padTo 2 acc ++ leBytes 2 v)
  | .u32 v :: ds, acc => datBytes ds (padTo 4 acc ++ leBytes 4 v)
  | .u64 v :: ds, acc => datBytes ds (padTo 8 acc ++ leBytes 8 v)

/-- Bit i of a natural. -/
def bit (v i : Nat) : Bool := (v / 2 ^ i) % 2 = 1

/-- Bits lo to lo + w of a natural. -/
def bits (v lo w : Nat) : Nat := (v / 2 ^ lo) % 2 ^ w

/-- Set or clear bit i. -/
def setBit (v i : Nat) (b : Bool) : Nat :=
  if bit v i = b then v else if b then v + 2 ^ i else v - 2 ^ i

/-- 1 for true. -/
def b2n (b : Bool) : Nat := if b then 1 else 0

end Sys2Proof.Machine
end

