-- ==== Sys2Proof/Machine/Fields.lean ====
section
/-!
DEFINITION. Machine/Fields.lean: the place of every register field of the spec's register tables (R8, R60, R92, R118, R119,
R153, R174, R175, R207, R234, R235, R274, R301, R329, R351, R377, R400, R421, R447): its byte address in the 64 MiB device
register space, its lowest bit and its width. `F.<REGISTER>_<FIELD>` takes the register's instance numbers in the order of its
table's offset formula (station s, lane l, port k of the station, queue q, engine e, ...), outermost first.
Written out from the tables; reserved fields have no entry (R10: they read 0 and ignore writes).
-/

namespace Sys2Proof.Machine

/-- The base of counter unit u (R351, chapter 12): units 0 to 15 of the stations, 16 to 19 of the quadrants,
20 of the Shuttle, 21 of the host endpoint. -/
def pmuBase (u : Nat) : Nat :=
  if u < 16 then 0x010E0000 + 0x100000 * u
  else if u < 20 then 0x02008000 + 0x1000 * (u - 16)
  else if u = 20 then 0x02308000
  else 0x00181000

/-! Table 2.7 (02_stations_lanes.md) -/

def F.STN_LANE_MODE_MODE (s : Nat) : Fld := ⟨0x1000000 + 0x100000 * s, 0, 1⟩
def F.STN_LANE_MODE_BIFURC (s : Nat) : Fld := ⟨0x1000000 + 0x100000 * s, 8, 8⟩
def F.STN_LANE_MODE_AUX_EN (s : Nat) : Fld := ⟨0x1000000 + 0x100000 * s, 16, 1⟩
def F.STN_LANE_MODE_HOLD (s : Nat) : Fld := ⟨0x1000000 + 0x100000 * s, 17, 1⟩

def F.STN_LANE_STATUS_PLL_LOCK (s : Nat) : Fld := ⟨0x1000004 + 0x100000 * s, 0, 1⟩
def F.STN_LANE_STATUS_CLK_2G (s : Nat) : Fld := ⟨0x1000004 + 0x100000 * s, 1, 1⟩
def F.STN_LANE_STATUS_HELD (s : Nat) : Fld := ⟨0x1000004 + 0x100000 * s, 2, 1⟩
def F.STN_LANE_STATUS_BIFURC_ERR (s : Nat) : Fld := ⟨0x1000004 + 0x100000 * s, 3, 1⟩

def F.STN_TRAIN_CTL_ATTEMPT_TMO (s : Nat) : Fld := ⟨0x1000008 + 0x100000 * s, 0, 8⟩
def F.STN_TRAIN_CTL_ATTEMPT_LIMIT (s : Nat) : Fld := ⟨0x1000008 + 0x100000 * s, 8, 4⟩
def F.STN_TRAIN_CTL_SPARE_ERR_LIMIT (s : Nat) : Fld := ⟨0x1000008 + 0x100000 * s, 16, 8⟩

def F.STN_PORT_STAGE0_STAGE (s k : Nat) : Fld := ⟨0x100000C + 0x100000 * s, 4 * k, 4⟩

def F.STN_PORT_STAGE1_STAGE_AUX (s : Nat) : Fld := ⟨0x1000010 + 0x100000 * s, 0, 4⟩

/-! Table 2.8 (02_stations_lanes.md) -/

def F.STN_LN_EQ_CFG_LO_ENTRY_LO (s l : Nat) : Fld := ⟨0x1001000 + 0x100000 * s + 0x40 * l, 0, 32⟩

def F.STN_LN_EQ_CFG_HI_ENTRY_HI (s l : Nat) : Fld := ⟨0x1001004 + 0x100000 * s + 0x40 * l, 0, 32⟩

def F.STN_LN_STATUS_STAGE (s l : Nat) : Fld := ⟨0x1001008 + 0x100000 * s + 0x40 * l, 0, 4⟩
def F.STN_LN_STATUS_RATE (s l : Nat) : Fld := ⟨0x1001008 + 0x100000 * s + 0x40 * l, 4, 3⟩
def F.STN_LN_STATUS_BIT_LOCK (s l : Nat) : Fld := ⟨0x1001008 + 0x100000 * s + 0x40 * l, 7, 1⟩
def F.STN_LN_STATUS_SYM_LOCK (s l : Nat) : Fld := ⟨0x1001008 + 0x100000 * s + 0x40 * l, 8, 1⟩
def F.STN_LN_STATUS_RX_PRESENT (s l : Nat) : Fld := ⟨0x1001008 + 0x100000 * s + 0x40 * l, 9, 1⟩
def F.STN_LN_STATUS_POL_DET (s l : Nat) : Fld := ⟨0x1001008 + 0x100000 * s + 0x40 * l, 10, 1⟩
def F.STN_LN_STATUS_LANE_NUM (s l : Nat) : Fld := ⟨0x1001008 + 0x100000 * s + 0x40 * l, 11, 5⟩
def F.STN_LN_STATUS_ACTIVE_TXP (s l : Nat) : Fld := ⟨0x1001008 + 0x100000 * s + 0x40 * l, 16, 4⟩
def F.STN_LN_STATUS_PARTNER_TXP (s l : Nat) : Fld := ⟨0x1001008 + 0x100000 * s + 0x40 * l, 20, 4⟩
def F.STN_LN_STATUS_RXPROF (s l : Nat) : Fld := ⟨0x1001008 + 0x100000 * s + 0x40 * l, 24, 4⟩
def F.STN_LN_STATUS_SPARE_ROLE (s l : Nat) : Fld := ⟨0x1001008 + 0x100000 * s + 0x40 * l, 28, 2⟩

/-! Table 2.9 (02_stations_lanes.md) -/

def F.STN_LN_PRBS_CTL_EN (s l : Nat) : Fld := ⟨0x100100C + 0x100000 * s + 0x40 * l, 0, 1⟩
def F.STN_LN_PRBS_CTL_PATTERN (s l : Nat) : Fld := ⟨0x100100C + 0x100000 * s + 0x40 * l, 1, 3⟩
def F.STN_LN_PRBS_CTL_GEN (s l : Nat) : Fld := ⟨0x100100C + 0x100000 * s + 0x40 * l, 4, 1⟩
def F.STN_LN_PRBS_CTL_CHK (s l : Nat) : Fld := ⟨0x100100C + 0x100000 * s + 0x40 * l, 5, 1⟩
def F.STN_LN_PRBS_CTL_LOOP (s l : Nat) : Fld := ⟨0x100100C + 0x100000 * s + 0x40 * l, 6, 1⟩
def F.STN_LN_PRBS_CTL_CLR (s l : Nat) : Fld := ⟨0x100100C + 0x100000 * s + 0x40 * l, 7, 1⟩
def F.STN_LN_PRBS_CTL_MEAS_RATE (s l : Nat) : Fld := ⟨0x100100C + 0x100000 * s + 0x40 * l, 8, 3⟩

def F.STN_LN_PRBS_STAT_CHK_LOCK (s l : Nat) : Fld := ⟨0x1001010 + 0x100000 * s + 0x40 * l, 0, 1⟩
def F.STN_LN_PRBS_STAT_LOCK_LOSS (s l : Nat) : Fld := ⟨0x1001010 + 0x100000 * s + 0x40 * l, 8, 8⟩
def F.STN_LN_PRBS_STAT_ABORTED (s l : Nat) : Fld := ⟨0x1001010 + 0x100000 * s + 0x40 * l, 16, 1⟩

def F.STN_LN_PRBS_ERR_LO_ERR_LO (s l : Nat) : Fld := ⟨0x1001014 + 0x100000 * s + 0x40 * l, 0, 32⟩

def F.STN_LN_PRBS_ERR_HI_ERR_HI (s l : Nat) : Fld := ⟨0x1001018 + 0x100000 * s + 0x40 * l, 0, 16⟩

def F.STN_LN_PRBS_BITS_LO_BITS_LO (s l : Nat) : Fld := ⟨0x100101C + 0x100000 * s + 0x40 * l, 0, 32⟩

def F.STN_LN_PRBS_BITS_HI_BITS_HI (s l : Nat) : Fld := ⟨0x1001020 + 0x100000 * s + 0x40 * l, 0, 16⟩

def F.STN_LN_MARGIN_CTL_T_OFF (s l : Nat) : Fld := ⟨0x1001024 + 0x100000 * s + 0x40 * l, 0, 7⟩
def F.STN_LN_MARGIN_CTL_V_OFF (s l : Nat) : Fld := ⟨0x1001024 + 0x100000 * s + 0x40 * l, 8, 7⟩
def F.STN_LN_MARGIN_CTL_EYE (s l : Nat) : Fld := ⟨0x1001024 + 0x100000 * s + 0x40 * l, 16, 2⟩
def F.STN_LN_MARGIN_CTL_DWELL (s l : Nat) : Fld := ⟨0x1001024 + 0x100000 * s + 0x40 * l, 20, 4⟩
def F.STN_LN_MARGIN_CTL_GO (s l : Nat) : Fld := ⟨0x1001024 + 0x100000 * s + 0x40 * l, 31, 1⟩

def F.STN_LN_MARGIN_STAT_BUSY (s l : Nat) : Fld := ⟨0x1001028 + 0x100000 * s + 0x40 * l, 0, 1⟩
def F.STN_LN_MARGIN_STAT_CLAMPED (s l : Nat) : Fld := ⟨0x1001028 + 0x100000 * s + 0x40 * l, 1, 1⟩
def F.STN_LN_MARGIN_STAT_MARGIN_ERRS (s l : Nat) : Fld := ⟨0x1001028 + 0x100000 * s + 0x40 * l, 8, 24⟩

/-! Table 3.8 (03_pcie_ports.md) -/

def F.STN_PORT_CFG_ROLE (s k : Nat) : Fld := ⟨0x1020000 + 0x100000 * s + 0x100 * k, 0, 2⟩
def F.STN_PORT_CFG_VS (s k : Nat) : Fld := ⟨0x1020000 + 0x100000 * s + 0x100 * k, 2, 5⟩
def F.STN_PORT_CFG_DEVNUM (s k : Nat) : Fld := ⟨0x1020000 + 0x100000 * s + 0x100 * k, 7, 5⟩
def F.STN_PORT_CFG_MAX_RATE (s k : Nat) : Fld := ⟨0x1020000 + 0x100000 * s + 0x100 * k, 12, 3⟩
def F.STN_PORT_CFG_SRIS (s k : Nat) : Fld := ⟨0x1020000 + 0x100000 * s + 0x100 * k, 15, 1⟩
def F.STN_PORT_CFG_FLIT_EN (s k : Nat) : Fld := ⟨0x1020000 + 0x100000 * s + 0x100 * k, 16, 1⟩
def F.STN_PORT_CFG_HP_OWNER (s k : Nat) : Fld := ⟨0x1020000 + 0x100000 * s + 0x100 * k, 17, 1⟩
def F.STN_PORT_CFG_L0P_EN (s k : Nat) : Fld := ⟨0x1020000 + 0x100000 * s + 0x100 * k, 18, 1⟩
def F.STN_PORT_CFG_ASPM_L1_EN (s k : Nat) : Fld := ⟨0x1020000 + 0x100000 * s + 0x100 * k, 19, 1⟩
def F.STN_PORT_CFG_L1SS_EN (s k : Nat) : Fld := ⟨0x1020000 + 0x100000 * s + 0x100 * k, 20, 1⟩

/-! Table 3.9 (03_pcie_ports.md) -/

def F.STN_PORT_SLOT_SLOT (s k : Nat) : Fld := ⟨0x1020004 + 0x100000 * s + 0x100 * k, 0, 5⟩
def F.STN_PORT_SLOT_PHYS_SLOT (s k : Nat) : Fld := ⟨0x1020004 + 0x100000 * s + 0x100 * k, 8, 13⟩

/-! Table 3.10 (03_pcie_ports.md) -/

def F.STN_PORT_STATUS_DL_UP (s k : Nat) : Fld := ⟨0x1020008 + 0x100000 * s + 0x100 * k, 0, 1⟩
def F.STN_PORT_STATUS_RATE (s k : Nat) : Fld := ⟨0x1020008 + 0x100000 * s + 0x100 * k, 1, 3⟩
def F.STN_PORT_STATUS_WIDTH (s k : Nat) : Fld := ⟨0x1020008 + 0x100000 * s + 0x100 * k, 4, 5⟩
def F.STN_PORT_STATUS_FLIT (s k : Nat) : Fld := ⟨0x1020008 + 0x100000 * s + 0x100 * k, 9, 1⟩
def F.STN_PORT_STATUS_L0P_WIDTH (s k : Nat) : Fld := ⟨0x1020008 + 0x100000 * s + 0x100 * k, 10, 5⟩
def F.STN_PORT_STATUS_RRS (s k : Nat) : Fld := ⟨0x1020008 + 0x100000 * s + 0x100 * k, 15, 1⟩
def F.STN_PORT_STATUS_PM (s k : Nat) : Fld := ⟨0x1020008 + 0x100000 * s + 0x100 * k, 16, 3⟩
def F.STN_PORT_STATUS_SCALED_FC (s k : Nat) : Fld := ⟨0x1020008 + 0x100000 * s + 0x100 * k, 19, 1⟩
def F.STN_PORT_STATUS_QUIESCED (s k : Nat) : Fld := ⟨0x1020008 + 0x100000 * s + 0x100 * k, 20, 1⟩
def F.STN_PORT_STATUS_DPC_TRIG (s k : Nat) : Fld := ⟨0x1020008 + 0x100000 * s + 0x100 * k, 21, 1⟩

def F.STN_PORT_HP_STATUS_PRESENT (s k : Nat) : Fld := ⟨0x102000C + 0x100000 * s + 0x100 * k, 0, 1⟩
def F.STN_PORT_HP_STATUS_PWR_ON (s k : Nat) : Fld := ⟨0x102000C + 0x100000 * s + 0x100 * k, 1, 1⟩
def F.STN_PORT_HP_STATUS_PWR_FAULT (s k : Nat) : Fld := ⟨0x102000C + 0x100000 * s + 0x100 * k, 2, 1⟩
def F.STN_PORT_HP_STATUS_LATCHED_OFF (s k : Nat) : Fld := ⟨0x102000C + 0x100000 * s + 0x100 * k, 3, 1⟩
def F.STN_PORT_HP_STATUS_BTN (s k : Nat) : Fld := ⟨0x102000C + 0x100000 * s + 0x100 * k, 4, 1⟩
def F.STN_PORT_HP_STATUS_ATTN_IND (s k : Nat) : Fld := ⟨0x102000C + 0x100000 * s + 0x100 * k, 5, 2⟩
def F.STN_PORT_HP_STATUS_PCC (s k : Nat) : Fld := ⟨0x102000C + 0x100000 * s + 0x100 * k, 7, 1⟩
def F.STN_PORT_HP_STATUS_HP_IGNORED (s k : Nat) : Fld := ⟨0x102000C + 0x100000 * s + 0x100 * k, 8, 1⟩

/-! Table 4.7 (04_switch_core.md) -/

def F.CORE_PACE_EFF_T_EFF : Fld := ⟨0x2000000, 0, 12⟩
def F.CORE_PACE_EFF_SPEEDUP : Fld := ⟨0x2000000, 16, 12⟩

def F.CORE_PACE_THR_WARN_HS : Fld := ⟨0x2000004, 0, 12⟩
def F.CORE_PACE_THR_WARN_BE : Fld := ⟨0x2000004, 16, 12⟩

def F.CORE_STALL_CTL_STALL_TMO : Fld := ⟨0x2000010, 0, 7⟩

def F.CORE_STALL_STATUS_RECOVERING : Fld := ⟨0x2000014, 0, 4⟩
def F.CORE_STALL_STATUS_FAILED : Fld := ⟨0x2000014, 4, 4⟩

def F.CORE_STALL_CNT_STALLS (q : Nat) : Fld := ⟨0x2000018, 8 * q, 8⟩

def F.CORE_SIEVE_CTL_EN : Fld := ⟨0x2000020, 0, 1⟩
def F.CORE_SIEVE_CTL_INTERVAL : Fld := ⟨0x2000020, 8, 10⟩

def F.CORE_PACE_M_HS (m : Nat) : Fld := ⟨0x2000100 + 0x4 * m, 0, 12⟩
def F.CORE_PACE_M_BE (m : Nat) : Fld := ⟨0x2000100 + 0x4 * m, 12, 12⟩
def F.CORE_PACE_M_FAULTY (m : Nat) : Fld := ⟨0x2000100 + 0x4 * m, 24, 1⟩
def F.CORE_PACE_M_ABOVE_WARN (m : Nat) : Fld := ⟨0x2000100 + 0x4 * m, 25, 1⟩
def F.CORE_PACE_M_ABOVE_FLOOR (m : Nat) : Fld := ⟨0x2000100 + 0x4 * m, 26, 1⟩

/-! Table 4.8 (04_switch_core.md) -/

def F.STN_OB_CTL_FLUSH_MODE (s : Nat) : Fld := ⟨0x10C0000 + 0x100000 * s, 0, 1⟩

def F.STN_OB_FREE_FREE_CNT (s : Nat) : Fld := ⟨0x10C0004 + 0x100000 * s, 0, 16⟩
def F.STN_OB_FREE_LOW_WATER (s : Nat) : Fld := ⟨0x10C0004 + 0x100000 * s, 16, 16⟩

def F.STN_OB_OWED_OWED (s : Nat) : Fld := ⟨0x10C0008 + 0x100000 * s, 0, 16⟩
def F.STN_OB_OWED_SUM_QMIN (s : Nat) : Fld := ⟨0x10C0008 + 0x100000 * s, 16, 16⟩

def F.STN_OB_ECC_CORR_CORR (s : Nat) : Fld := ⟨0x10C0010 + 0x100000 * s, 0, 32⟩

def F.STN_OB_ECC_UNCORR_UNCORR (s : Nat) : Fld := ⟨0x10C0014 + 0x100000 * s, 0, 32⟩

def F.STN_OB_ECC_LAST_CELL (s : Nat) : Fld := ⟨0x10C0018 + 0x100000 * s, 0, 16⟩
def F.STN_OB_ECC_LAST_LINE (s : Nat) : Fld := ⟨0x10C0018 + 0x100000 * s, 16, 1⟩
def F.STN_OB_ECC_LAST_CW_MASK (s : Nat) : Fld := ⟨0x10C0018 + 0x100000 * s, 17, 4⟩

def F.STN_OB_LINK_ERR_LINK_CORR (s : Nat) : Fld := ⟨0x10C001C + 0x100000 * s, 0, 16⟩
def F.STN_OB_LINK_ERR_LINK_UNCORR (s : Nat) : Fld := ⟨0x10C001C + 0x100000 * s, 16, 16⟩

def F.STN_OB_SIEVE_RECLAIMED (s : Nat) : Fld := ⟨0x10C0020 + 0x100000 * s, 0, 16⟩
def F.STN_OB_SIEVE_LEAKS (s : Nat) : Fld := ⟨0x10C0020 + 0x100000 * s, 16, 16⟩

def F.STN_OB_SIEVE_STAT_PASSES (s : Nat) : Fld := ⟨0x10C0024 + 0x100000 * s, 0, 24⟩
def F.STN_OB_SIEVE_STAT_ACTIVE (s : Nat) : Fld := ⟨0x10C0024 + 0x100000 * s, 24, 1⟩
def F.STN_OB_SIEVE_STAT_PAUSED (s : Nat) : Fld := ⟨0x10C0024 + 0x100000 * s, 25, 1⟩

def F.STN_OB_FLUSH_FLUSHING (s : Nat) : Fld := ⟨0x10C0028 + 0x100000 * s, 0, 9⟩

def F.STN_OB_Q_CFG_QLIM (s q : Nat) : Fld := ⟨0x10C0100 + 0x100000 * s + 0x8 * q, 0, 14⟩
def F.STN_OB_Q_CFG_QMIN (s q : Nat) : Fld := ⟨0x10C0100 + 0x100000 * s + 0x8 * q, 16, 14⟩

def F.STN_OB_Q_STATUS_OCC (s q : Nat) : Fld := ⟨0x10C0104 + 0x100000 * s + 0x8 * q, 0, 16⟩
def F.STN_OB_Q_STATUS_AT_LIMIT (s q : Nat) : Fld := ⟨0x10C0104 + 0x100000 * s + 0x8 * q, 16, 1⟩
def F.STN_OB_Q_STATUS_NO_SHARED (s q : Nat) : Fld := ⟨0x10C0104 + 0x100000 * s + 0x8 * q, 17, 1⟩

/-! Table 5.13 (05_routing.md) -/

def F.STN_CLS_CTL_CRT_TMO (s : Nat) : Fld := ⟨0x1040000 + 0x100000 * s, 8, 8⟩

def F.STN_CLS_STATUS_BANK (s : Nat) : Fld := ⟨0x1040004 + 0x100000 * s, 0, 1⟩
def F.STN_CLS_STATUS_FLIP_PENDING (s : Nat) : Fld := ⟨0x1040004 + 0x100000 * s, 1, 1⟩

def F.STN_CLS_ECC_CORR (s : Nat) : Fld := ⟨0x1040008 + 0x100000 * s, 0, 16⟩
def F.STN_CLS_ECC_UNCORR (s : Nat) : Fld := ⟨0x1040008 + 0x100000 * s, 16, 16⟩

def F.STN_CLS_DENY_CNT_DENIES (s : Nat) : Fld := ⟨0x104000C + 0x100000 * s, 0, 32⟩

def F.STN_CLS_LAST_DENY_RID (s : Nat) : Fld := ⟨0x1040010 + 0x100000 * s, 0, 16⟩
def F.STN_CLS_LAST_DENY_PORT (s : Nat) : Fld := ⟨0x1040010 + 0x100000 * s, 16, 8⟩
def F.STN_CLS_LAST_DENY_CAUSE (s : Nat) : Fld := ⟨0x1040010 + 0x100000 * s, 24, 4⟩

def F.STN_CLS_DENY_ADDR_LO_ADDR_LO (s : Nat) : Fld := ⟨0x1040014 + 0x100000 * s, 0, 32⟩

def F.STN_CLS_DENY_ADDR_HI_ADDR_HI (s : Nat) : Fld := ⟨0x1040018 + 0x100000 * s, 0, 32⟩

def F.STN_CLS_TBL_ADDR_TABLE (s : Nat) : Fld := ⟨0x1040020 + 0x100000 * s, 0, 4⟩
def F.STN_CLS_TBL_ADDR_COPY (s : Nat) : Fld := ⟨0x1040020 + 0x100000 * s, 4, 1⟩
def F.STN_CLS_TBL_ADDR_INDEX (s : Nat) : Fld := ⟨0x1040020 + 0x100000 * s, 8, 16⟩
def F.STN_CLS_TBL_ADDR_WORD (s : Nat) : Fld := ⟨0x1040020 + 0x100000 * s, 24, 5⟩

def F.STN_CLS_TBL_DATA_DATA (s : Nat) : Fld := ⟨0x1040024 + 0x100000 * s, 0, 32⟩

def F.STN_CLS_PORT_DEF_DEF_RCLASS (s k : Nat) : Fld := ⟨0x1040100 + 0x100000 * s + 0x4 * k, 0, 8⟩
def F.STN_CLS_PORT_DEF_DEF_PROG (s k : Nat) : Fld := ⟨0x1040100 + 0x100000 * s + 0x4 * k, 8, 1⟩

def F.STN_CLS_CRT_USE_IN_USE (s k : Nat) : Fld := ⟨0x1040140 + 0x100000 * s + 0x4 * k, 0, 9⟩
def F.STN_CLS_CRT_USE_TIMEOUTS (s k : Nat) : Fld := ⟨0x1040140 + 0x100000 * s + 0x4 * k, 16, 16⟩

/-! Table 6.3 (06_multicast_trace.md) -/

def F.MCT_CTL_SMP_EN : Fld := ⟨0x2100000, 0, 1⟩

def F.MCT_SMP_STATUS_NEXT_SEQ : Fld := ⟨0x2100004, 0, 32⟩

def F.MCT_SMP_LOST_LOST : Fld := ⟨0x2100008, 0, 32⟩

def F.MCT_RES_GROUPS_COUNT : Fld := ⟨0x2100010, 0, 4⟩

def F.MCT_TR_CTL_EN (r : Nat) : Fld := ⟨0x2101000 + 0x20 * r, 0, 1⟩
def F.MCT_TR_CTL_DEST (r : Nat) : Fld := ⟨0x2101000 + 0x20 * r, 1, 1⟩
def F.MCT_TR_CTL_MODE (r : Nat) : Fld := ⟨0x2101000 + 0x20 * r, 2, 1⟩
def F.MCT_TR_CTL_TYPES (r : Nat) : Fld := ⟨0x2101000 + 0x20 * r, 4, 8⟩
def F.MCT_TR_CTL_TRACE_PORT (r : Nat) : Fld := ⟨0x2101000 + 0x20 * r, 12, 8⟩

def F.MCT_TR_MATCH_ING_PORT (r : Nat) : Fld := ⟨0x2101004 + 0x20 * r, 0, 8⟩
def F.MCT_TR_MATCH_EGR_PORT (r : Nat) : Fld := ⟨0x2101004 + 0x20 * r, 8, 8⟩
def F.MCT_TR_MATCH_VS (r : Nat) : Fld := ⟨0x2101004 + 0x20 * r, 16, 5⟩
def F.MCT_TR_MATCH_VS_ANY (r : Nat) : Fld := ⟨0x2101004 + 0x20 * r, 21, 1⟩
def F.MCT_TR_MATCH_MC_ONLY (r : Nat) : Fld := ⟨0x2101004 + 0x20 * r, 22, 1⟩

def F.MCT_TR_RATE_N_M1 (r : Nat) : Fld := ⟨0x2101008 + 0x20 * r, 0, 16⟩

def F.MCT_TR_MATCHED_MATCHED (r : Nat) : Fld := ⟨0x210100C + 0x20 * r, 0, 32⟩

def F.MCT_TR_COPIED_COPIED (r : Nat) : Fld := ⟨0x2101010 + 0x20 * r, 0, 32⟩

def F.MCT_TR_LOST_LOST (r : Nat) : Fld := ⟨0x2101014 + 0x20 * r, 0, 32⟩

/-! Table 6.4 (06_multicast_trace.md) -/

def F.STN_OB_RES_CFG_RES_LIM (s : Nat) : Fld := ⟨0x10C0030 + 0x100000 * s, 0, 14⟩

def F.STN_OB_RES_STAT_RES_OCC (s : Nat) : Fld := ⟨0x10C0034 + 0x100000 * s, 0, 14⟩
def F.STN_OB_RES_STAT_RES_HWM (s : Nat) : Fld := ⟨0x10C0034 + 0x100000 * s, 16, 14⟩

def F.STN_OB_RES_DISCARD_RES_DISCARD (s : Nat) : Fld := ⟨0x10C0038 + 0x100000 * s, 0, 32⟩

/-! Table 7.13 (07_bobbin_engines.md) -/

def F.STN_BB_CTL_FAULT_POLICY (s : Nat) : Fld := ⟨0x1080000 + 0x100000 * s, 0, 1⟩
def F.STN_BB_CTL_RUN_TMO (s : Nat) : Fld := ⟨0x1080000 + 0x100000 * s, 4, 7⟩

def F.STN_BB_STATUS_IN_SERVICE (s : Nat) : Fld := ⟨0x1080004 + 0x100000 * s, 0, 16⟩
def F.STN_BB_STATUS_SWAPPING (s : Nat) : Fld := ⟨0x1080004 + 0x100000 * s, 16, 1⟩
def F.STN_BB_STATUS_ROLLING (s : Nat) : Fld := ⟨0x1080004 + 0x100000 * s, 17, 1⟩
def F.STN_BB_STATUS_IMG_VALID (s : Nat) : Fld := ⟨0x1080004 + 0x100000 * s, 18, 1⟩

def F.STN_BB_IMAGE_IMAGE_ID (s : Nat) : Fld := ⟨0x1080008 + 0x100000 * s, 0, 16⟩
def F.STN_BB_IMAGE_IMAGE_VER (s : Nat) : Fld := ⟨0x1080008 + 0x100000 * s, 16, 16⟩

def F.STN_BB_EPOCH_EPOCH (s : Nat) : Fld := ⟨0x108000C + 0x100000 * s, 0, 8⟩
def F.STN_BB_EPOCH_FENCE_PEND (s : Nat) : Fld := ⟨0x108000C + 0x100000 * s, 8, 1⟩

def F.STN_BB_HQ0_OCC_P (s : Nat) : Fld := ⟨0x1080010 + 0x100000 * s, 0, 8⟩
def F.STN_BB_HQ0_OCC_NP (s : Nat) : Fld := ⟨0x1080010 + 0x100000 * s, 8, 8⟩
def F.STN_BB_HQ0_OCC_CPL (s : Nat) : Fld := ⟨0x1080010 + 0x100000 * s, 16, 8⟩

def F.STN_BB_HQ1_OCC_VC1 (s : Nat) : Fld := ⟨0x1080014 + 0x100000 * s, 0, 24⟩

def F.STN_BB_FAULTS_FAULTS (s : Nat) : Fld := ⟨0x1080018 + 0x100000 * s, 0, 32⟩

def F.STN_BB_LAST_FAULT_ENGINE (s : Nat) : Fld := ⟨0x108001C + 0x100000 * s, 0, 4⟩
def F.STN_BB_LAST_FAULT_PC (s : Nat) : Fld := ⟨0x108001C + 0x100000 * s, 4, 12⟩
def F.STN_BB_LAST_FAULT_CAUSE (s : Nat) : Fld := ⟨0x108001C + 0x100000 * s, 16, 4⟩
def F.STN_BB_LAST_FAULT_CLASS (s : Nat) : Fld := ⟨0x108001C + 0x100000 * s, 20, 2⟩

def F.STN_BB_EVT_LOST_EVT_LOST (s : Nat) : Fld := ⟨0x1080020 + 0x100000 * s, 0, 32⟩

/-! Table 7.14 (07_bobbin_engines.md) -/

def F.STN_BE_STATE_STATE (s e : Nat) : Fld := ⟨0x1081000 + 0x100000 * s + 0x40 * e, 0, 2⟩
def F.STN_BE_STATE_LAST_CAUSE (s e : Nat) : Fld := ⟨0x1081000 + 0x100000 * s + 0x40 * e, 2, 4⟩
def F.STN_BE_STATE_LOSSES (s e : Nat) : Fld := ⟨0x1081000 + 0x100000 * s + 0x40 * e, 6, 8⟩

def F.STN_BE_RUNS_LO_RUNS_LO (s e : Nat) : Fld := ⟨0x1081004 + 0x100000 * s + 0x40 * e, 0, 32⟩

def F.STN_BE_RUNS_HI_RUNS_HI (s e : Nat) : Fld := ⟨0x1081008 + 0x100000 * s + 0x40 * e, 0, 16⟩

def F.STN_BE_INSTR_LO_INSTR_LO (s e : Nat) : Fld := ⟨0x108100C + 0x100000 * s + 0x40 * e, 0, 32⟩

def F.STN_BE_INSTR_HI_INSTR_HI (s e : Nat) : Fld := ⟨0x1081010 + 0x100000 * s + 0x40 * e, 0, 16⟩

def F.STN_BE_MEM_ECC_CORR (s e : Nat) : Fld := ⟨0x1081014 + 0x100000 * s + 0x40 * e, 0, 16⟩
def F.STN_BE_MEM_ECC_UNCORR (s e : Nat) : Fld := ⟨0x1081014 + 0x100000 * s + 0x40 * e, 16, 16⟩

def F.STN_BE_SMP_CTL_EN (s e : Nat) : Fld := ⟨0x1081018 + 0x100000 * s + 0x40 * e, 0, 1⟩
def F.STN_BE_SMP_CTL_EVENT (s e : Nat) : Fld := ⟨0x1081018 + 0x100000 * s + 0x40 * e, 1, 2⟩
def F.STN_BE_SMP_CTL_PERIOD_M1 (s e : Nat) : Fld := ⟨0x1081018 + 0x100000 * s + 0x40 * e, 4, 16⟩

def F.STN_BE_SMP_STAT_NEXT (s e : Nat) : Fld := ⟨0x108101C + 0x100000 * s + 0x40 * e, 0, 5⟩
def F.STN_BE_SMP_STAT_TAKEN (s e : Nat) : Fld := ⟨0x108101C + 0x100000 * s + 0x40 * e, 8, 24⟩

/-! Table 8.10 (08_integrity_containment.md) -/

def F.STN_CQ_STATUS_USED (s : Nat) : Fld := ⟨0x1020A00 + 0x100000 * s, 0, 6⟩
def F.STN_CQ_STATUS_FENCED (s : Nat) : Fld := ⟨0x1020A00 + 0x100000 * s, 6, 1⟩
def F.STN_CQ_STATUS_HWM (s : Nat) : Fld := ⟨0x1020A00 + 0x100000 * s, 8, 6⟩
def F.STN_CQ_STATUS_FENCE_ERRS (s : Nat) : Fld := ⟨0x1020A00 + 0x100000 * s, 16, 16⟩

def F.STN_BASTE_FAIL_FAIL (s : Nat) : Fld := ⟨0x1020A04 + 0x100000 * s, 0, 32⟩

def F.STN_BASTE_SCREEN_ING (s : Nat) : Fld := ⟨0x1020A08 + 0x100000 * s, 0, 16⟩
def F.STN_BASTE_SCREEN_EGR (s : Nat) : Fld := ⟨0x1020A08 + 0x100000 * s, 16, 16⟩

def F.STN_NULLIFIED_NULLIFIED (s : Nat) : Fld := ⟨0x1020A0C + 0x100000 * s, 0, 32⟩

def F.STN_CQ_ENTRY0_VALID (s i : Nat) : Fld := ⟨0x1020C00 + 0x100000 * s + 0x10 * i, 0, 1⟩
def F.STN_CQ_ENTRY0_STATE (s i : Nat) : Fld := ⟨0x1020C00 + 0x100000 * s + 0x10 * i, 1, 2⟩
def F.STN_CQ_ENTRY0_KIND (s i : Nat) : Fld := ⟨0x1020C00 + 0x100000 * s + 0x10 * i, 3, 3⟩
def F.STN_CQ_ENTRY0_OBJECT (s i : Nat) : Fld := ⟨0x1020C00 + 0x100000 * s + 0x10 * i, 8, 20⟩

def F.STN_CQ_ENTRY1_CAUSE (s i : Nat) : Fld := ⟨0x1020C04 + 0x100000 * s + 0x10 * i, 0, 8⟩
def F.STN_CQ_ENTRY1_NESTED (s i : Nat) : Fld := ⟨0x1020C04 + 0x100000 * s + 0x10 * i, 8, 8⟩

def F.STN_CQ_ENTRY2_TIME (s i : Nat) : Fld := ⟨0x1020C08 + 0x100000 * s + 0x10 * i, 0, 32⟩

def F.STN_CQ_ENTRY3_NCAUSE (s i j : Nat) : Fld := ⟨0x1020C0C + 0x100000 * s + 0x10 * i, 8 * j, 8⟩

/-! Table 8.11 (08_integrity_containment.md) -/

def F.ERR_LATE_STATUS_NEXT_SEQ : Fld := ⟨0x2600000, 0, 32⟩

def F.ERR_LATE_LOST_OVERWRITTEN : Fld := ⟨0x2600004, 0, 16⟩
def F.ERR_LATE_LOST_NOTICES : Fld := ⟨0x2600004, 16, 16⟩

def F.ERR_FENCED_STATIONS : Fld := ⟨0x2600008, 0, 16⟩

def F.ERR_VS_NOTIFY_EN (v : Nat) : Fld := ⟨0x2600100 + 0x4 * v, 0, 1⟩
def F.ERR_VS_NOTIFY_VECTOR (v : Nat) : Fld := ⟨0x2600100 + 0x4 * v, 1, 8⟩

def F.ERR_VS_LATE_CNT_ENTRIES (v : Nat) : Fld := ⟨0x2600200 + 0x4 * v, 0, 32⟩

/-! Table 9.15 (09_seam_links.md) -/

def F.STN_SEAM_CFG_RATE128 (s : Nat) : Fld := ⟨0x1021000 + 0x100000 * s, 0, 1⟩
def F.STN_SEAM_CFG_FC_MODE (s : Nat) : Fld := ⟨0x1021000 + 0x100000 * s, 1, 1⟩
def F.STN_SEAM_CFG_REPLAY_TMO (s : Nat) : Fld := ⟨0x1021000 + 0x100000 * s, 4, 4⟩
def F.STN_SEAM_CFG_BYP_TMO (s : Nat) : Fld := ⟨0x1021000 + 0x100000 * s, 8, 4⟩
def F.STN_SEAM_CFG_DEAD_TMO (s : Nat) : Fld := ⟨0x1021000 + 0x100000 * s, 12, 4⟩
def F.STN_SEAM_CFG_LANE_CORR_LIMIT (s : Nat) : Fld := ⟨0x1021000 + 0x100000 * s, 16, 8⟩

def F.STN_SEAM_RES0_RES0 (s : Nat) : Fld := ⟨0x1021004 + 0x100000 * s, 0, 16⟩
def F.STN_SEAM_RES0_RES1 (s : Nat) : Fld := ⟨0x1021004 + 0x100000 * s, 16, 16⟩

def F.STN_SEAM_RES1_RES2 (s : Nat) : Fld := ⟨0x1021008 + 0x100000 * s, 0, 16⟩
def F.STN_SEAM_RES1_RES3 (s : Nat) : Fld := ⟨0x1021008 + 0x100000 * s, 16, 16⟩

def F.STN_SEAM_STATUS_FC (s : Nat) : Fld := ⟨0x1021010 + 0x100000 * s, 0, 2⟩
def F.STN_SEAM_STATUS_FC_HELD (s : Nat) : Fld := ⟨0x1021010 + 0x100000 * s, 2, 1⟩
def F.STN_SEAM_STATUS_RX_SUB (s : Nat) : Fld := ⟨0x1021010 + 0x100000 * s, 3, 1⟩
def F.STN_SEAM_STATUS_RX_SUB_LANE (s : Nat) : Fld := ⟨0x1021010 + 0x100000 * s, 4, 4⟩
def F.STN_SEAM_STATUS_TX_SUB (s : Nat) : Fld := ⟨0x1021010 + 0x100000 * s, 8, 1⟩
def F.STN_SEAM_STATUS_TX_SUB_LANE (s : Nat) : Fld := ⟨0x1021010 + 0x100000 * s, 9, 4⟩
def F.STN_SEAM_STATUS_XOFF_SENT (s : Nat) : Fld := ⟨0x1021010 + 0x100000 * s, 13, 4⟩
def F.STN_SEAM_STATUS_XOFF_SEEN (s : Nat) : Fld := ⟨0x1021010 + 0x100000 * s, 17, 4⟩
def F.STN_SEAM_STATUS_REPLAYING (s : Nat) : Fld := ⟨0x1021010 + 0x100000 * s, 21, 1⟩
def F.STN_SEAM_STATUS_STALLED (s : Nat) : Fld := ⟨0x1021010 + 0x100000 * s, 22, 1⟩

def F.STN_SEAM_RTT_RTT_TRAIN (s : Nat) : Fld := ⟨0x1021014 + 0x100000 * s, 0, 11⟩
def F.STN_SEAM_RTT_RTT_LAST (s : Nat) : Fld := ⟨0x1021014 + 0x100000 * s, 16, 11⟩

def F.STN_SEAM_FC_HEADROOM (s : Nat) : Fld := ⟨0x1021018 + 0x100000 * s, 0, 16⟩
def F.STN_SEAM_FC_SHARED (s : Nat) : Fld := ⟨0x1021018 + 0x100000 * s, 16, 16⟩

def F.STN_SEAM_PARTNER_NODE (s : Nat) : Fld := ⟨0x102101C + 0x100000 * s, 0, 8⟩
def F.STN_SEAM_PARTNER_PORT (s : Nat) : Fld := ⟨0x102101C + 0x100000 * s, 8, 8⟩

def F.STN_SEAM_TXSEQ_NEXT_SEQ (s : Nat) : Fld := ⟨0x1021020 + 0x100000 * s, 0, 12⟩
def F.STN_SEAM_TXSEQ_ACKED (s : Nat) : Fld := ⟨0x1021020 + 0x100000 * s, 12, 12⟩
def F.STN_SEAM_TXSEQ_REPLAY_CNT (s : Nat) : Fld := ⟨0x1021020 + 0x100000 * s, 24, 3⟩

def F.STN_SEAM_RXSEQ_EXPECTED (s : Nat) : Fld := ⟨0x1021024 + 0x100000 * s, 0, 12⟩
def F.STN_SEAM_RXSEQ_NAK_SENT (s : Nat) : Fld := ⟨0x1021024 + 0x100000 * s, 12, 1⟩
def F.STN_SEAM_RXSEQ_BEXP (s : Nat) : Fld := ⟨0x1021024 + 0x100000 * s, 16, 8⟩
def F.STN_SEAM_RXSEQ_BNEXT (s : Nat) : Fld := ⟨0x1021024 + 0x100000 * s, 24, 8⟩

def F.STN_SEAM_CNT_REPLAY_NAK_REPLAYS (s : Nat) : Fld := ⟨0x1021040 + 0x100000 * s, 0, 16⟩
def F.STN_SEAM_CNT_REPLAY_TMO_REPLAYS (s : Nat) : Fld := ⟨0x1021040 + 0x100000 * s, 16, 16⟩

def F.STN_SEAM_CNT_RX_BAD_FLITS (s : Nat) : Fld := ⟨0x1021044 + 0x100000 * s, 0, 16⟩
def F.STN_SEAM_CNT_RX_FEC_CORR (s : Nat) : Fld := ⟨0x1021044 + 0x100000 * s, 16, 16⟩

def F.STN_SEAM_CNT_SEQ_DUP (s : Nat) : Fld := ⟨0x1021048 + 0x100000 * s, 0, 16⟩
def F.STN_SEAM_CNT_SEQ_SEQ_ERR (s : Nat) : Fld := ⟨0x1021048 + 0x100000 * s, 16, 16⟩

def F.STN_SEAM_CNT_MARK_MARKED_TX (s : Nat) : Fld := ⟨0x102104C + 0x100000 * s, 0, 16⟩
def F.STN_SEAM_CNT_MARK_MARKED_RX (s : Nat) : Fld := ⟨0x102104C + 0x100000 * s, 16, 16⟩

def F.STN_SEAM_CNT_MISC_FALLBACKS (s : Nat) : Fld := ⟨0x1021050 + 0x100000 * s, 0, 8⟩
def F.STN_SEAM_CNT_MISC_SUBST (s : Nat) : Fld := ⟨0x1021050 + 0x100000 * s, 8, 8⟩
def F.STN_SEAM_CNT_MISC_BYP_RETX (s : Nat) : Fld := ⟨0x1021050 + 0x100000 * s, 16, 16⟩

def F.STN_SEAM_SHORT_SHORT_FLITS (s : Nat) : Fld := ⟨0x1021054 + 0x100000 * s, 0, 32⟩

def F.STN_SEAM_CRED_TX_OUT (s c : Nat) : Fld := ⟨0x1021080 + 0x100000 * s + 0x4 * c, 0, 16⟩
def F.STN_SEAM_CRED_RX_OCC (s c : Nat) : Fld := ⟨0x1021080 + 0x100000 * s + 0x4 * c, 16, 16⟩

/-! Table 10.7 (10_fabric_mode.md) -/

def F.FAB_ID_NODE_ID : Fld := ⟨0x2200000, 0, 8⟩
def F.FAB_ID_FABRIC_EN : Fld := ⟨0x2200000, 8, 1⟩
def F.FAB_ID_MGR_CAP : Fld := ⟨0x2200000, 9, 1⟩

def F.FAB_FABRIC_ID_FABRIC_ID : Fld := ⟨0x2200004, 0, 32⟩

def F.FAB_UID_LO_UID_LO : Fld := ⟨0x2200008, 0, 32⟩

def F.FAB_UID_HI_UID_HI : Fld := ⟨0x220000C, 0, 32⟩

def F.FAB_STATE_STEP : Fld := ⟨0x2200010, 0, 4⟩
def F.FAB_STATE_ROLE : Fld := ⟨0x2200010, 4, 2⟩
def F.FAB_STATE_MGR_NODE : Fld := ⟨0x2200010, 8, 8⟩
def F.FAB_STATE_DEPUTY : Fld := ⟨0x2200010, 16, 8⟩
def F.FAB_STATE_EPOCH : Fld := ⟨0x2200010, 24, 8⟩

def F.FAB_CTL_FORM_TMO : Fld := ⟨0x2200014, 0, 10⟩
def F.FAB_CTL_SEAL_ROUND_TMO : Fld := ⟨0x2200014, 16, 5⟩

def F.FAB_SEAM_DIR_DOWN : Fld := ⟨0x2200018, 0, 16⟩

def F.FAB_TIME_STAT_SYNC : Fld := ⟨0x220001C, 0, 2⟩
def F.FAB_TIME_STAT_PARENT : Fld := ⟨0x220001C, 8, 8⟩
def F.FAB_TIME_STAT_OFFSET : Fld := ⟨0x220001C, 16, 16⟩

def F.FAB_TIME_LO_TIME_LO : Fld := ⟨0x2200020, 0, 32⟩

def F.FAB_TIME_HI_TIME_HI : Fld := ⟨0x2200024, 0, 32⟩

def F.FAB_CNT_REROUTES : Fld := ⟨0x2200028, 0, 16⟩
def F.FAB_CNT_SEAL_FLUSHES : Fld := ⟨0x2200028, 16, 16⟩

def F.FAB_ROUTE_ERR_ROUTE_ERR : Fld := ⟨0x220002C, 0, 32⟩

def F.FAB_ROUTE_LO_PORTS (n d : Nat) : Fld := ⟨0x2201000 + 0x10 * n + 0x8 * d, 0, 32⟩

def F.FAB_ROUTE_HI_ATTR (n d : Nat) : Fld := ⟨0x2201004 + 0x10 * n + 0x8 * d, 0, 32⟩

def F.FAB_PIN_PINS (w : Nat) : Fld := ⟨0x2202000 + 0x4 * w, 0, 32⟩



/-! Table 11.7 (11_shuttle_panels.md) -/

def F.SHT_CTL_CPL_TMO : Fld := ⟨0x2300000, 0, 8⟩
def F.SHT_CTL_MSG_VECTOR : Fld := ⟨0x2300000, 8, 8⟩

def F.SHT_BUSY_BUSY : Fld := ⟨0x2300004, 0, 32⟩

def F.SHT_READY_READY : Fld := ⟨0x2300008, 0, 13⟩

def F.SHT_CTX_ECC_CORR : Fld := ⟨0x230000C, 0, 16⟩
def F.SHT_CTX_ECC_UNCORR : Fld := ⟨0x230000C, 16, 16⟩

def F.SHT_CPL_ERR_ERRORS : Fld := ⟨0x2300010, 0, 16⟩
def F.SHT_CPL_ERR_TIMEOUTS : Fld := ⟨0x2300010, 16, 16⟩

def F.SHT_STRAY_STRAY : Fld := ⟨0x2300014, 0, 32⟩

/-! Table 11.9 (11_shuttle_panels.md) -/

def F.SHT_MV_STAT_BUSY (m : Nat) : Fld := ⟨0x2301000 + 0x10 * m, 0, 1⟩
def F.SHT_MV_STAT_PANEL (m : Nat) : Fld := ⟨0x2301000 + 0x10 * m, 1, 12⟩
def F.SHT_MV_STAT_OUT_READS (m : Nat) : Fld := ⟨0x2301000 + 0x10 * m, 13, 7⟩

def F.SHT_MV_BYTES_LO_BYTES_LO (m : Nat) : Fld := ⟨0x2301004 + 0x10 * m, 0, 32⟩

def F.SHT_MV_BYTES_HI_BYTES_HI (m : Nat) : Fld := ⟨0x2301008 + 0x10 * m, 0, 16⟩

/-! Table 11.10 (11_shuttle_panels.md) -/

def F.SHT_PNL_BIND_VALID (n : Nat) : Fld := ⟨0x2340000 + 0x40 * n, 0, 1⟩
def F.SHT_PNL_BIND_VS (n : Nat) : Fld := ⟨0x2340000 + 0x40 * n, 1, 5⟩
def F.SHT_PNL_BIND_PASID (n : Nat) : Fld := ⟨0x2340000 + 0x40 * n, 6, 20⟩

def F.SHT_PNL_RING_SQ_ORDER (n : Nat) : Fld := ⟨0x2340004 + 0x40 * n, 0, 5⟩
def F.SHT_PNL_RING_CQ_ORDER (n : Nat) : Fld := ⟨0x2340004 + 0x40 * n, 5, 5⟩
def F.SHT_PNL_RING_VECTOR (n : Nat) : Fld := ⟨0x2340004 + 0x40 * n, 10, 11⟩
def F.SHT_PNL_RING_WEIGHT_M1 (n : Nat) : Fld := ⟨0x2340004 + 0x40 * n, 21, 4⟩
def F.SHT_PNL_RING_INT_HOLDOFF (n : Nat) : Fld := ⟨0x2340004 + 0x40 * n, 25, 7⟩

def F.SHT_PNL_SQ_LO_SQ_BASE_LO (n : Nat) : Fld := ⟨0x2340008 + 0x40 * n, 0, 32⟩

def F.SHT_PNL_SQ_HI_SQ_BASE_HI (n : Nat) : Fld := ⟨0x234000C + 0x40 * n, 0, 32⟩

def F.SHT_PNL_CQ_LO_CQ_BASE_LO (n : Nat) : Fld := ⟨0x2340010 + 0x40 * n, 0, 32⟩

def F.SHT_PNL_CQ_HI_CQ_BASE_HI (n : Nat) : Fld := ⟨0x2340014 + 0x40 * n, 0, 32⟩

def F.SHT_PNL_STATE_STATE (n : Nat) : Fld := ⟨0x2340018 + 0x40 * n, 0, 3⟩
def F.SHT_PNL_STATE_LAST_STATUS (n : Nat) : Fld := ⟨0x2340018 + 0x40 * n, 8, 8⟩
def F.SHT_PNL_STATE_SQ_HEAD (n : Nat) : Fld := ⟨0x2340018 + 0x40 * n, 16, 16⟩

def F.SHT_PNL_SLOT_GRANT0 (n w : Nat) : Fld := ⟨0x2340020 + 0x40 * n + 0x4 * w, 0, 10⟩
def F.SHT_PNL_SLOT_GRANT1 (n w : Nat) : Fld := ⟨0x2340020 + 0x40 * n + 0x4 * w, 16, 10⟩
def F.SHT_PNL_SLOT_VALID0 (n w : Nat) : Fld := ⟨0x2340020 + 0x40 * n + 0x4 * w, 15, 1⟩
def F.SHT_PNL_SLOT_VALID1 (n w : Nat) : Fld := ⟨0x2340020 + 0x40 * n + 0x4 * w, 31, 1⟩

/-! Table 11.11 (11_shuttle_panels.md) -/

def F.SHT_GNT_CTL_VALID (g : Nat) : Fld := ⟨0x2380000 + 0x10 * g, 0, 1⟩
def F.SHT_GNT_CTL_VS (g : Nat) : Fld := ⟨0x2380000 + 0x10 * g, 1, 5⟩
def F.SHT_GNT_CTL_R (g : Nat) : Fld := ⟨0x2380000 + 0x10 * g, 6, 1⟩
def F.SHT_GNT_CTL_W (g : Nat) : Fld := ⟨0x2380000 + 0x10 * g, 7, 1⟩

def F.SHT_GNT_BASE_LO_BASE_LO (g : Nat) : Fld := ⟨0x2380004 + 0x10 * g, 12, 20⟩

def F.SHT_GNT_BASE_HI_BASE_HI (g : Nat) : Fld := ⟨0x2380008 + 0x10 * g, 0, 32⟩

def F.SHT_GNT_SIZE_SIZE (g : Nat) : Fld := ⟨0x238000C + 0x10 * g, 0, 32⟩

/-! Table 12.5 (12_host_endpoint.md) -/

def F.ACW_EP_WIN_VALID (v w : Nat) : Fld := ⟨0x180000 + 0x20 * v + 0x4 * w, 0, 1⟩
def F.ACW_EP_WIN_DBASE (v w : Nat) : Fld := ⟨0x180000 + 0x20 * v + 0x4 * w, 6, 6⟩

def F.ACW_EP_VS_VEC_EVT_VEC (v : Nat) : Fld := ⟨0x180400 + 0x4 * v, 0, 8⟩
def F.ACW_EP_VS_VEC_EVT_MINSEV (v : Nat) : Fld := ⟨0x180400 + 0x4 * v, 8, 3⟩
def F.ACW_EP_VS_VEC_EVT_EN (v : Nat) : Fld := ⟨0x180400 + 0x4 * v, 11, 1⟩
def F.ACW_EP_VS_VEC_DEFER_VEC (v : Nat) : Fld := ⟨0x180400 + 0x4 * v, 12, 8⟩
def F.ACW_EP_VS_VEC_DEFER_EN (v : Nat) : Fld := ⟨0x180400 + 0x4 * v, 20, 1⟩
def F.ACW_EP_VS_VEC_CTR_VEC (v : Nat) : Fld := ⟨0x180400 + 0x4 * v, 21, 8⟩
def F.ACW_EP_VS_VEC_CTR_EN (v : Nat) : Fld := ⟨0x180400 + 0x4 * v, 29, 1⟩

def F.ACW_EP_DEFER_COUNT (v : Nat) : Fld := ⟨0x180800 + 0x10 * v, 0, 16⟩
def F.ACW_EP_DEFER_CAUSE (v : Nat) : Fld := ⟨0x180800 + 0x10 * v, 16, 4⟩

def F.ACW_EP_DEFER_ADDR_ADDR (v : Nat) : Fld := ⟨0x180804 + 0x10 * v, 0, 26⟩

def F.ACW_EP_BRIDGE_RETRIES : Fld := ⟨0x180C00, 0, 32⟩

def F.ACW_EP_HOST_CNT_DISCARDED : Fld := ⟨0x180C04, 0, 16⟩
def F.ACW_EP_HOST_CNT_ABORTED : Fld := ⟨0x180C04, 16, 16⟩

def F.ACW_EP_PROXY_THM_EPOCH : Fld := ⟨0x180C08, 0, 8⟩
def F.ACW_EP_PROXY_THM_FENCE_PEND : Fld := ⟨0x180C08, 8, 1⟩
def F.ACW_EP_PROXY_THM_DENIED : Fld := ⟨0x180C08, 16, 16⟩

/-! Table 12.9 (12_host_endpoint.md) -/

def F.PMU_UNIT_CTL_RUN (u : Nat) : Fld := ⟨pmuBase u + 0x0, 0, 1⟩
def F.PMU_UNIT_CTL_CLR_ALL (u : Nat) : Fld := ⟨pmuBase u + 0x0, 1, 1⟩

def F.PMU_CNT_CTL_EVSEL (u c : Nat) : Fld := ⟨pmuBase u + 0x10 + 0x4 * c, 0, 8⟩
def F.PMU_CNT_CTL_PORT (u c : Nat) : Fld := ⟨pmuBase u + 0x10 + 0x4 * c, 8, 4⟩
def F.PMU_CNT_CTL_CLASS (u c : Nat) : Fld := ⟨pmuBase u + 0x10 + 0x4 * c, 12, 3⟩
def F.PMU_CNT_CTL_VCMASK (u c : Nat) : Fld := ⟨pmuBase u + 0x10 + 0x4 * c, 15, 2⟩
def F.PMU_CNT_CTL_CHAIN (u c : Nat) : Fld := ⟨pmuBase u + 0x10 + 0x4 * c, 17, 1⟩
def F.PMU_CNT_CTL_SMP (u c : Nat) : Fld := ⟨pmuBase u + 0x10 + 0x4 * c, 18, 1⟩
def F.PMU_CNT_CTL_OVF (u c : Nat) : Fld := ⟨pmuBase u + 0x10 + 0x4 * c, 19, 1⟩
def F.PMU_CNT_CTL_CHG (u c : Nat) : Fld := ⟨pmuBase u + 0x10 + 0x4 * c, 20, 1⟩
def F.PMU_CNT_CTL_CLR (u c : Nat) : Fld := ⟨pmuBase u + 0x10 + 0x4 * c, 31, 1⟩

def F.PMU_CNT_VALUE (u c : Nat) : Fld := ⟨pmuBase u + 0x40 + 0x4 * c, 0, 32⟩

def F.PMU_PRELOAD_PRELOAD (u c : Nat) : Fld := ⟨pmuBase u + 0x60 + 0x4 * c, 0, 32⟩

/-! Table 12.10 (12_host_endpoint.md) -/

def F.PMC_CTL_READER_EN : Fld := ⟨0x2500000, 0, 1⟩
def F.PMC_CTL_READ_PERIOD : Fld := ⟨0x2500000, 4, 10⟩

def F.PMC_SWEEPS_SWEEPS : Fld := ⟨0x2500004, 0, 32⟩

def F.PMC_SMP_STATUS_NEXT_SEQ : Fld := ⟨0x2500008, 0, 32⟩

def F.PMC_SMP_LOST_LOST : Fld := ⟨0x250000C, 0, 32⟩

def F.PMC_GRANT_CTL_VS (u : Nat) : Fld := ⟨0x2500100 + 0x4 * u, 0, 5⟩
def F.PMC_GRANT_CTL_EN (u : Nat) : Fld := ⟨0x2500100 + 0x4 * u, 5, 1⟩

def F.PMC_READ_MASK_READ_MASK (u : Nat) : Fld := ⟨0x2500200 + 0x4 * u, 0, 32⟩

def F.PMC_ACC_LO_ACC_LO (u c : Nat) : Fld := ⟨0x2501000 + 0x40 * u + 0x8 * c, 0, 32⟩

def F.PMC_ACC_HI_ACC_HI (u c : Nat) : Fld := ⟨0x2501004 + 0x40 * u + 0x8 * c, 0, 32⟩

/-! Table 13.10 (13_aclia_management.md) -/

def F.ACW_FW_STATUS_RUN_BANK : Fld := ⟨0x140000, 0, 1⟩
def F.ACW_FW_STATUS_TRIAL : Fld := ⟨0x140000, 1, 1⟩
def F.ACW_FW_STATUS_CONFIRMED : Fld := ⟨0x140000, 2, 1⟩
def F.ACW_FW_STATUS_UART_BOOT : Fld := ⟨0x140000, 3, 1⟩
def F.ACW_FW_STATUS_UPD_STATE : Fld := ⟨0x140000, 4, 3⟩
def F.ACW_FW_STATUS_CORES_UP : Fld := ⟨0x140000, 8, 4⟩

def F.ACW_FW_VERSION_FW_VERSION : Fld := ⟨0x140004, 0, 32⟩

def F.ACW_SEC_STATUS_ROLLBACK : Fld := ⟨0x140008, 0, 7⟩
def F.ACW_SEC_STATUS_DEBUG_LOCKED : Fld := ⟨0x140008, 8, 1⟩
def F.ACW_SEC_STATUS_ARMED : Fld := ⟨0x140008, 9, 1⟩
def F.ACW_SEC_STATUS_RUN_SVN : Fld := ⟨0x140008, 16, 7⟩

def F.ACW_WDT_WDT_RESETS : Fld := ⟨0x14000C, 0, 8⟩
def F.ACW_WDT_ACTIVATIONS : Fld := ⟨0x14000C, 8, 8⟩
def F.ACW_WDT_CONFIRM_TMO : Fld := ⟨0x14000C, 16, 16⟩

def F.ACW_CFG_STATUS_COPY : Fld := ⟨0x140010, 0, 2⟩
def F.ACW_CFG_STATUS_A_VALID : Fld := ⟨0x140010, 2, 1⟩
def F.ACW_CFG_STATUS_B_VALID : Fld := ⟨0x140010, 3, 1⟩
def F.ACW_CFG_STATUS_SECT_ERR : Fld := ⟨0x140010, 4, 1⟩
def F.ACW_CFG_STATUS_SKIPPED : Fld := ⟨0x140010, 5, 1⟩

def F.ACW_CFG_SEQ_SEQ : Fld := ⟨0x140014, 0, 32⟩

def F.ACW_THERM_CFG_WARN_C : Fld := ⟨0x140020, 0, 8⟩
def F.ACW_THERM_CFG_HYST_C : Fld := ⟨0x140020, 8, 4⟩

def F.ACW_THERM_STATUS_WARN : Fld := ⟨0x140024, 0, 1⟩
def F.ACW_THERM_STATUS_ABOVE_OP : Fld := ⟨0x140024, 1, 1⟩
def F.ACW_THERM_STATUS_TRIP : Fld := ⟨0x140024, 2, 1⟩
def F.ACW_THERM_STATUS_ALERT : Fld := ⟨0x140024, 3, 1⟩
def F.ACW_THERM_STATUS_HOT_SENSOR : Fld := ⟨0x140024, 8, 8⟩
def F.ACW_THERM_STATUS_MAX_T : Fld := ⟨0x140024, 16, 16⟩

def F.ACW_ALERT_MASK_MASK : Fld := ⟨0x140028, 0, 3⟩

def F.ACW_LOG_STATUS_NEXT_SEQ : Fld := ⟨0x140030, 0, 32⟩

def F.ACW_LOG_CTL_PERSIST_MINSEV : Fld := ⟨0x140034, 0, 3⟩

def F.ACW_LOG_LOST_BLOCK_DROPPED : Fld := ⟨0x140038, 0, 16⟩
def F.ACW_LOG_LOST_PERSIST_SKIPPED : Fld := ⟨0x140038, 16, 16⟩

/-! Table 13.11 (13_aclia_management.md) -/

def F.ACW_SENS_VALUE (n : Nat) : Fld := ⟨0x140100 + 0x4 * n, 0, 16⟩
def F.ACW_SENS_STALE (n : Nat) : Fld := ⟨0x140100 + 0x4 * n, 16, 1⟩
def F.ACW_SENS_RANGE (n : Nat) : Fld := ⟨0x140100 + 0x4 * n, 17, 1⟩
def F.ACW_SENS_LIMIT (n : Nat) : Fld := ⟨0x140100 + 0x4 * n, 18, 1⟩

/-! Table 14.22 (14_command_packets.md) -/

def F.ACW_MBX_CFG_EN (v : Nat) : Fld := ⟨0x100000 + 0x40 * v, 0, 1⟩
def F.ACW_MBX_CFG_ORDER (v : Nat) : Fld := ⟨0x100000 + 0x40 * v, 4, 4⟩
def F.ACW_MBX_CFG_VEC (v : Nat) : Fld := ⟨0x100000 + 0x40 * v, 8, 8⟩
def F.ACW_MBX_CFG_VEC_EN (v : Nat) : Fld := ⟨0x100000 + 0x40 * v, 16, 1⟩

def F.ACW_MBX_BASE_LO_BASE_LO (v : Nat) : Fld := ⟨0x100004 + 0x40 * v, 12, 20⟩

def F.ACW_MBX_BASE_HI_BASE_HI (v : Nat) : Fld := ⟨0x100008 + 0x40 * v, 0, 32⟩

def F.ACW_MBX_TAIL_TAIL (v : Nat) : Fld := ⟨0x10000C + 0x40 * v, 0, 8⟩

def F.ACW_MBX_HEAD_HEAD (v : Nat) : Fld := ⟨0x100010 + 0x40 * v, 0, 8⟩
def F.ACW_MBX_HEAD_PHASE (v : Nat) : Fld := ⟨0x100010 + 0x40 * v, 8, 1⟩

def F.ACW_MBX_STATUS_FAULT (v : Nat) : Fld := ⟨0x100014 + 0x40 * v, 0, 1⟩
def F.ACW_MBX_STATUS_CAUSE (v : Nat) : Fld := ⟨0x100014 + 0x40 * v, 1, 3⟩
def F.ACW_MBX_STATUS_ENTRY (v : Nat) : Fld := ⟨0x100014 + 0x40 * v, 4, 8⟩
def F.ACW_MBX_STATUS_SERVED (v : Nat) : Fld := ⟨0x100014 + 0x40 * v, 12, 20⟩

def F.ACW_CHAN_CFG_MAX_CLASS (c : Nat) : Fld := ⟨0x101000 + 0x4 * c, 0, 3⟩
def F.ACW_CHAN_CFG_OPEN (c : Nat) : Fld := ⟨0x101000 + 0x4 * c, 8, 8⟩
def F.ACW_CHAN_CFG_REJECTED (c : Nat) : Fld := ⟨0x101000 + 0x4 * c, 16, 16⟩

/-! Table 15.10 (15_reset_power_clocks.md) -/

def F.GLB_ID_VENDOR : Fld := ⟨0x0, 0, 16⟩
def F.GLB_ID_DEVICE : Fld := ⟨0x0, 16, 16⟩

def F.GLB_REV_REVISION : Fld := ⟨0x4, 0, 8⟩

def F.GLB_STATUS_CFG_DEFAULTED : Fld := ⟨0x10, 0, 1⟩
def F.GLB_STATUS_STRAP_FAULT : Fld := ⟨0x10, 1, 1⟩
def F.GLB_STATUS_THERMTRIP : Fld := ⟨0x10, 2, 1⟩
def F.GLB_STATUS_CORE_REF_INT : Fld := ⟨0x10, 3, 1⟩

def F.GLB_STRAP_CODE : Fld := ⟨0x14, 0, 4⟩
def F.GLB_STRAP_COUNT : Fld := ⟨0x14, 4, 10⟩
def F.GLB_STRAP_FAULT : Fld := ⟨0x14, 14, 1⟩
def F.GLB_STRAP_STBY_CODE : Fld := ⟨0x14, 16, 4⟩

def F.GLB_FUSE_STATUS_LOADED : Fld := ⟨0x18, 0, 1⟩
def F.GLB_FUSE_STATUS_CORRECTED : Fld := ⟨0x18, 1, 1⟩
def F.GLB_FUSE_STATUS_UNCORR : Fld := ⟨0x18, 2, 1⟩

def F.GLB_RESET_CAUSE_LAST_CAUSE : Fld := ⟨0x20, 0, 4⟩
def F.GLB_RESET_CAUSE_LAST_DEV_CAUSE : Fld := ⟨0x20, 4, 4⟩
def F.GLB_RESET_CAUSE_TIME_VALID : Fld := ⟨0x20, 8, 1⟩
def F.GLB_RESET_CAUSE_SOURCE : Fld := ⟨0x20, 9, 2⟩
def F.GLB_RESET_CAUSE_VBAK_LOW : Fld := ⟨0x20, 11, 1⟩

def F.GLB_RESET_CNT_CNT_A (k : Nat) : Fld := ⟨0x24 + 0x4 * k, 0, 16⟩
def F.GLB_RESET_CNT_CNT_B (k : Nat) : Fld := ⟨0x24 + 0x4 * k, 16, 16⟩

def F.GLB_SS_TICKS_LO_TICKS_LO : Fld := ⟨0x40, 0, 32⟩

def F.GLB_SS_TICKS_HI_TICKS_HI : Fld := ⟨0x44, 0, 16⟩

def F.GLB_LG_STATUS_NEXT : Fld := ⟨0x50, 0, 4⟩
def F.GLB_LG_STATUS_WRITTEN : Fld := ⟨0x50, 16, 16⟩

def F.GLB_PD_STATE_STATE (d : Nat) : Fld := ⟨0x100 + 0x4 * d, 0, 2⟩
def F.GLB_PD_STATE_REQ (d : Nat) : Fld := ⟨0x100 + 0x4 * d, 2, 1⟩
def F.GLB_PD_STATE_ISO (d : Nat) : Fld := ⟨0x100 + 0x4 * d, 3, 1⟩
def F.GLB_PD_STATE_FAULTS (d : Nat) : Fld := ⟨0x100 + 0x4 * d, 8, 8⟩

def F.GLB_CLK_STATUS_REFCLK_OK : Fld := ⟨0x200, 0, 4⟩
def F.GLB_CLK_STATUS_CORE_REF : Fld := ⟨0x200, 4, 2⟩
def F.GLB_CLK_STATUS_CORE_LOCK : Fld := ⟨0x200, 6, 1⟩
def F.GLB_CLK_STATUS_STN_CLK_RUN : Fld := ⟨0x200, 8, 16⟩

def F.GLB_XING_CNT_WAKES : Fld := ⟨0x204, 0, 16⟩
def F.GLB_XING_CNT_REFCLK_LOSSES : Fld := ⟨0x204, 16, 16⟩

/-! Table 16.7 (16_slot_power.md) -/

def F.SPC_BUDGET_BUDGET_W : Fld := ⟨0x2400000, 0, 16⟩
def F.SPC_BUDGET_STAGGER_MS : Fld := ⟨0x2400000, 16, 7⟩

def F.SPC_BUDGET_USED_USED_W : Fld := ⟨0x2400004, 0, 16⟩
def F.SPC_BUDGET_USED_WAITING : Fld := ⟨0x2400004, 16, 16⟩

def F.SPC_VLIM_MAX_VLIM_MAX : Fld := ⟨0x2400008, 0, 8⟩

/-! Table 16.8 (16_slot_power.md) -/

def F.SPC_CFG_CLASS (n : Nat) : Fld := ⟨0x2400100 + 0x20 * n, 0, 3⟩
def F.SPC_CFG_AUTO_ON (n : Nat) : Fld := ⟨0x2400100 + 0x20 * n, 3, 1⟩
def F.SPC_CFG_RSENSE (n : Nat) : Fld := ⟨0x2400100 + 0x20 * n, 4, 12⟩
def F.SPC_CFG_PERST_DLY (n : Nat) : Fld := ⟨0x2400100 + 0x20 * n, 16, 10⟩

def F.SPC_STATUS_STATE (n : Nat) : Fld := ⟨0x2400104 + 0x20 * n, 0, 4⟩
def F.SPC_STATUS_PRESENT (n : Nat) : Fld := ⟨0x2400104 + 0x20 * n, 4, 1⟩
def F.SPC_STATUS_SEATED (n : Nat) : Fld := ⟨0x2400104 + 0x20 * n, 5, 1⟩
def F.SPC_STATUS_CMD_ON (n : Nat) : Fld := ⟨0x2400104 + 0x20 * n, 6, 1⟩
def F.SPC_STATUS_GATE_ON (n : Nat) : Fld := ⟨0x2400104 + 0x20 * n, 7, 1⟩
def F.SPC_STATUS_PGOOD (n : Nat) : Fld := ⟨0x2400104 + 0x20 * n, 8, 1⟩
def F.SPC_STATUS_PWRWARN (n : Nat) : Fld := ⟨0x2400104 + 0x20 * n, 9, 1⟩
def F.SPC_STATUS_ILIM_ACTIVE (n : Nat) : Fld := ⟨0x2400104 + 0x20 * n, 10, 1⟩
def F.SPC_STATUS_FAULT_TMR (n : Nat) : Fld := ⟨0x2400104 + 0x20 * n, 11, 1⟩
def F.SPC_STATUS_BTN (n : Nat) : Fld := ⟨0x2400104 + 0x20 * n, 12, 1⟩
def F.SPC_STATUS_LAST_CAUSE (n : Nat) : Fld := ⟨0x2400104 + 0x20 * n, 16, 4⟩

def F.SPC_THR_V_CB (n : Nat) : Fld := ⟨0x2400108 + 0x20 * n, 0, 8⟩
def F.SPC_THR_V_LIM (n : Nat) : Fld := ⟨0x2400108 + 0x20 * n, 8, 8⟩

def F.SPC_MEAS0_VIN (n : Nat) : Fld := ⟨0x240010C + 0x20 * n, 0, 16⟩
def F.SPC_MEAS0_VOUT (n : Nat) : Fld := ⟨0x240010C + 0x20 * n, 16, 16⟩

def F.SPC_MEAS1_IOUT (n : Nat) : Fld := ⟨0x2400110 + 0x20 * n, 0, 16⟩
def F.SPC_MEAS1_STALE (n : Nat) : Fld := ⟨0x2400110 + 0x20 * n, 16, 1⟩

def F.SPC_CNT_TRIPS (n : Nat) : Fld := ⟨0x2400114 + 0x20 * n, 0, 16⟩
def F.SPC_CNT_RETRIES (n : Nat) : Fld := ⟨0x2400114 + 0x20 * n, 16, 16⟩

def F.SPC_LAST_TRIP_TIME (n : Nat) : Fld := ⟨0x2400118 + 0x20 * n, 0, 32⟩

end Sys2Proof.Machine
end

