-- ==== Sys2Proof/Machine/RegTable.lean ====
section
/-!
DEFINITION. Machine/RegTable.lean: the access code and the reset value of every register field (R10, R11, Table 0.4), one row
for each register of the spec's tables, and the lookups over them. A field whose Reset column is `I` stands at the factory
default its Meaning column gives; F (fuse) and S (strap) fields at the values log entry 3 names.
-/

namespace Sys2Proof.Machine

def regRows0 : List RegRow := [
  ⟨"STN_LANE_MODE", 0x1000000, [(16, 0x100000)], false, [⟨0, 1, .qo, 0x0⟩, ⟨8, 8, .qo, 0x1⟩, ⟨16, 1, .qo, 0x0⟩, ⟨17, 1, .qo, 0x1⟩]⟩,
  ⟨"STN_LANE_STATUS", 0x1000004, [(16, 0x100000)], false, [⟨0, 1, .ro, 0x0⟩, ⟨1, 1, .ro, 0x0⟩, ⟨2, 1, .ro, 0x1⟩, ⟨3, 1, .ro, 0x0⟩]⟩,
  ⟨"STN_TRAIN_CTL", 0x1000008, [(16, 0x100000)], false, [⟨0, 8, .rwc, 0x40⟩, ⟨8, 4, .rwc, 0x8⟩, ⟨16, 8, .rwc, 0xA⟩]⟩,
  ⟨"STN_PORT_STAGE0", 0x100000C, [(16, 0x100000)], false, [⟨0, 4, .ro, 0x0⟩, ⟨4, 4, .ro, 0x0⟩, ⟨8, 4, .ro, 0x0⟩, ⟨12, 4, .ro, 0x0⟩, ⟨16, 4, .ro, 0x0⟩, ⟨20, 4, .ro, 0x0⟩, ⟨24, 4, .ro, 0x0⟩, ⟨28, 4, .ro, 0x0⟩]⟩,
  ⟨"STN_PORT_STAGE1", 0x1000010, [(16, 0x100000)], false, [⟨0, 4, .ro, 0x0⟩]⟩,
  ⟨"STN_LN_EQ_CFG_LO", 0x1001000, [(16, 0x100000), (17, 0x40)], false, [⟨0, 32, .rwc, 0x0⟩]⟩,
  ⟨"STN_LN_EQ_CFG_HI", 0x1001004, [(16, 0x100000), (17, 0x40)], false, [⟨0, 32, .rwc, 0x0⟩]⟩,
  ⟨"STN_LN_STATUS", 0x1001008, [(16, 0x100000), (17, 0x40)], false, [⟨0, 4, .ro, 0x0⟩, ⟨4, 3, .ro, 0x0⟩, ⟨7, 1, .ro, 0x0⟩, ⟨8, 1, .ro, 0x0⟩, ⟨9, 1, .ro, 0x0⟩, ⟨10, 1, .ro, 0x0⟩, ⟨11, 5, .ro, 0x0⟩, ⟨16, 4, .ro, 0x0⟩, ⟨20, 4, .ro, 0x0⟩, ⟨24, 4, .ro, 0x0⟩, ⟨28, 2, .ro, 0x0⟩]⟩,
  ⟨"STN_LN_PRBS_CTL", 0x100100C, [(16, 0x100000), (17, 0x40)], false, [⟨0, 1, .rw, 0x0⟩, ⟨1, 3, .rw, 0x0⟩, ⟨4, 1, .rw, 0x0⟩, ⟨5, 1, .rw, 0x0⟩, ⟨6, 1, .rw, 0x0⟩, ⟨7, 1, .wo, 0x0⟩, ⟨8, 3, .rw, 0x0⟩]⟩,
  ⟨"STN_LN_PRBS_STAT", 0x1001010, [(16, 0x100000), (17, 0x40)], false, [⟨0, 1, .ro, 0x0⟩, ⟨8, 8, .ro, 0x0⟩, ⟨16, 1, .ro, 0x0⟩]⟩,
  ⟨"STN_LN_PRBS_ERR_LO", 0x1001014, [(16, 0x100000), (17, 0x40)], false, [⟨0, 32, .ro, 0x0⟩]⟩,
  ⟨"STN_LN_PRBS_ERR_HI", 0x1001018, [(16, 0x100000), (17, 0x40)], false, [⟨0, 16, .ro, 0x0⟩]⟩]

def regRows1 : List RegRow := [
  ⟨"STN_LN_PRBS_BITS_LO", 0x100101C, [(16, 0x100000), (17, 0x40)], false, [⟨0, 32, .ro, 0x0⟩]⟩,
  ⟨"STN_LN_PRBS_BITS_HI", 0x1001020, [(16, 0x100000), (17, 0x40)], false, [⟨0, 16, .ro, 0x0⟩]⟩,
  ⟨"STN_LN_MARGIN_CTL", 0x1001024, [(16, 0x100000), (17, 0x40)], false, [⟨0, 7, .rw, 0x0⟩, ⟨8, 7, .rw, 0x0⟩, ⟨16, 2, .rw, 0x0⟩, ⟨20, 4, .rw, 0x0⟩, ⟨31, 1, .wo, 0x0⟩]⟩,
  ⟨"STN_LN_MARGIN_STAT", 0x1001028, [(16, 0x100000), (17, 0x40)], false, [⟨0, 1, .ro, 0x0⟩, ⟨1, 1, .ro, 0x0⟩, ⟨8, 24, .ro, 0x0⟩]⟩,
  ⟨"STN_PORT_CFG", 0x1020000, [(16, 0x100000), (9, 0x100)], false, [⟨0, 2, .qo, 0x0⟩, ⟨2, 5, .qo, 0x0⟩, ⟨7, 5, .qo, 0x0⟩, ⟨12, 3, .rwc, 0x6⟩, ⟨15, 1, .rwc, 0x0⟩, ⟨16, 1, .rwc, 0x1⟩, ⟨17, 1, .rwc, 0x0⟩, ⟨18, 1, .rwc, 0x1⟩, ⟨19, 1, .rwc, 0x0⟩, ⟨20, 1, .rwc, 0x0⟩]⟩,
  ⟨"STN_PORT_SLOT", 0x1020004, [(16, 0x100000), (9, 0x100)], false, [⟨0, 5, .qo, 0x1F⟩, ⟨8, 13, .rwc, 0x0⟩]⟩,
  ⟨"STN_PORT_STATUS", 0x1020008, [(16, 0x100000), (9, 0x100)], false, [⟨0, 1, .ro, 0x0⟩, ⟨1, 3, .ro, 0x0⟩, ⟨4, 5, .ro, 0x0⟩, ⟨9, 1, .ro, 0x0⟩, ⟨10, 5, .ro, 0x0⟩, ⟨15, 1, .ro, 0x0⟩, ⟨16, 3, .ro, 0x0⟩, ⟨19, 1, .ro, 0x0⟩, ⟨20, 1, .ro, 0x0⟩, ⟨21, 1, .ro, 0x0⟩]⟩,
  ⟨"STN_PORT_HP_STATUS", 0x102000C, [(16, 0x100000), (9, 0x100)], false, [⟨0, 1, .ro, 0x0⟩, ⟨1, 1, .ro, 0x0⟩, ⟨2, 1, .ro, 0x0⟩, ⟨3, 1, .ro, 0x0⟩, ⟨4, 1, .ro, 0x0⟩, ⟨5, 2, .ro, 0x3⟩, ⟨7, 1, .ro, 0x1⟩, ⟨8, 1, .rw1c, 0x0⟩]⟩,
  ⟨"CORE_PACE_EFF", 0x2000000, [], false, [⟨0, 12, .ro, 0x4E2⟩, ⟨16, 12, .ro, 0x333⟩]⟩,
  ⟨"CORE_PACE_THR", 0x2000004, [], false, [⟨0, 12, .rwc, 0x47E⟩, ⟨16, 12, .rwc, 0x1FA⟩]⟩,
  ⟨"CORE_STALL_CTL", 0x2000010, [], false, [⟨0, 7, .rwc, 0x14⟩]⟩,
  ⟨"CORE_STALL_STATUS", 0x2000014, [], false, [⟨0, 4, .ro, 0x0⟩, ⟨4, 4, .ro, 0x0⟩]⟩]

def regRows2 : List RegRow := [
  ⟨"CORE_STALL_CNT", 0x2000018, [], false, [⟨0, 8, .ro, 0x0⟩, ⟨8, 8, .ro, 0x0⟩, ⟨16, 8, .ro, 0x0⟩, ⟨24, 8, .ro, 0x0⟩]⟩,
  ⟨"CORE_SIEVE_CTL", 0x2000020, [], false, [⟨0, 1, .rwc, 0x1⟩, ⟨8, 10, .rwc, 0xA⟩]⟩,
  ⟨"CORE_PACE_M", 0x2000100, [(20, 0x4)], false, [⟨0, 12, .ro, 0x4E2⟩, ⟨12, 12, .ro, 0x226⟩, ⟨24, 1, .ro, 0x0⟩, ⟨25, 1, .ro, 0x0⟩, ⟨26, 1, .ro, 0x0⟩]⟩,
  ⟨"STN_OB_CTL", 0x10C0000, [(16, 0x100000)], false, [⟨0, 1, .rwc, 0x0⟩]⟩,
  ⟨"STN_OB_FREE", 0x10C0004, [(16, 0x100000)], false, [⟨0, 16, .ro, 0xA000⟩, ⟨16, 16, .ro, 0xA000⟩]⟩,
  ⟨"STN_OB_OWED", 0x10C0008, [(16, 0x100000)], false, [⟨0, 16, .ro, 0x0⟩, ⟨16, 16, .ro, 0x0⟩]⟩,
  ⟨"STN_OB_ECC_CORR", 0x10C0010, [(16, 0x100000)], false, [⟨0, 32, .ro, 0x0⟩]⟩,
  ⟨"STN_OB_ECC_UNCORR", 0x10C0014, [(16, 0x100000)], false, [⟨0, 32, .ro, 0x0⟩]⟩,
  ⟨"STN_OB_ECC_LAST", 0x10C0018, [(16, 0x100000)], false, [⟨0, 16, .ro, 0x0⟩, ⟨16, 1, .ro, 0x0⟩, ⟨17, 4, .ro, 0x0⟩]⟩,
  ⟨"STN_OB_LINK_ERR", 0x10C001C, [(16, 0x100000)], false, [⟨0, 16, .ro, 0x0⟩, ⟨16, 16, .ro, 0x0⟩]⟩,
  ⟨"STN_OB_SIEVE", 0x10C0020, [(16, 0x100000)], false, [⟨0, 16, .ro, 0x0⟩, ⟨16, 16, .ro, 0x0⟩]⟩,
  ⟨"STN_OB_SIEVE_STAT", 0x10C0024, [(16, 0x100000)], false, [⟨0, 24, .ro, 0x0⟩, ⟨24, 1, .ro, 0x0⟩, ⟨25, 1, .ro, 0x0⟩]⟩]

def regRows3 : List RegRow := [
  ⟨"STN_OB_FLUSH", 0x10C0028, [(16, 0x100000)], false, [⟨0, 9, .ro, 0x0⟩]⟩,
  ⟨"STN_OB_Q_CFG", 0x10C0100, [(16, 0x100000), (64, 0x8)], false, [⟨0, 14, .rwc, 0x0⟩, ⟨16, 14, .rwc, 0x0⟩]⟩,
  ⟨"STN_OB_Q_STATUS", 0x10C0104, [(16, 0x100000), (64, 0x8)], false, [⟨0, 16, .ro, 0x0⟩, ⟨16, 1, .ro, 0x0⟩, ⟨17, 1, .ro, 0x0⟩]⟩,
  ⟨"STN_CLS_CTL", 0x1040000, [(16, 0x100000)], false, [⟨8, 8, .rwc, 0x40⟩]⟩,
  ⟨"STN_CLS_STATUS", 0x1040004, [(16, 0x100000)], false, [⟨0, 1, .ro, 0x0⟩, ⟨1, 1, .ro, 0x0⟩]⟩,
  ⟨"STN_CLS_ECC", 0x1040008, [(16, 0x100000)], false, [⟨0, 16, .ro, 0x0⟩, ⟨16, 16, .ro, 0x0⟩]⟩,
  ⟨"STN_CLS_DENY_CNT", 0x104000C, [(16, 0x100000)], false, [⟨0, 32, .ro, 0x0⟩]⟩,
  ⟨"STN_CLS_LAST_DENY", 0x1040010, [(16, 0x100000)], false, [⟨0, 16, .ro, 0x0⟩, ⟨16, 8, .ro, 0x0⟩, ⟨24, 4, .ro, 0x0⟩]⟩,
  ⟨"STN_CLS_DENY_ADDR_LO", 0x1040014, [(16, 0x100000)], false, [⟨0, 32, .ro, 0x0⟩]⟩,
  ⟨"STN_CLS_DENY_ADDR_HI", 0x1040018, [(16, 0x100000)], false, [⟨0, 32, .ro, 0x0⟩]⟩,
  ⟨"STN_CLS_TBL_ADDR", 0x1040020, [(16, 0x100000)], false, [⟨0, 4, .rw, 0x0⟩, ⟨4, 1, .rw, 0x0⟩, ⟨8, 16, .rw, 0x0⟩, ⟨24, 5, .rw, 0x0⟩]⟩,
  ⟨"STN_CLS_TBL_DATA", 0x1040024, [(16, 0x100000)], false, [⟨0, 32, .rw, 0x0⟩]⟩]

def regRows4 : List RegRow := [
  ⟨"STN_CLS_PORT_DEF", 0x1040100, [(16, 0x100000), (9, 0x4)], false, [⟨0, 8, .rwc, 0x0⟩, ⟨8, 1, .rwc, 0x0⟩]⟩,
  ⟨"STN_CLS_CRT_USE", 0x1040140, [(16, 0x100000), (9, 0x4)], false, [⟨0, 9, .ro, 0x0⟩, ⟨16, 16, .ro, 0x0⟩]⟩,
  ⟨"MCT_CTL", 0x2100000, [], false, [⟨0, 1, .rwc, 0x0⟩]⟩,
  ⟨"MCT_SMP_STATUS", 0x2100004, [], false, [⟨0, 32, .ro, 0x0⟩]⟩,
  ⟨"MCT_SMP_LOST", 0x2100008, [], false, [⟨0, 32, .ro, 0x0⟩]⟩,
  ⟨"MCT_RES_GROUPS", 0x2100010, [], false, [⟨0, 4, .ro, 0x0⟩]⟩,
  ⟨"MCT_TR_CTL", 0x2101000, [(16, 0x20)], false, [⟨0, 1, .rwc, 0x0⟩, ⟨1, 1, .rwc, 0x0⟩, ⟨2, 1, .rwc, 0x0⟩, ⟨4, 8, .rwc, 0x0⟩, ⟨12, 8, .rwc, 0x0⟩]⟩,
  ⟨"MCT_TR_MATCH", 0x2101004, [(16, 0x20)], false, [⟨0, 8, .rwc, 0xFF⟩, ⟨8, 8, .rwc, 0xFF⟩, ⟨16, 5, .rwc, 0x0⟩, ⟨21, 1, .rwc, 0x1⟩, ⟨22, 1, .rwc, 0x0⟩]⟩,
  ⟨"MCT_TR_RATE", 0x2101008, [(16, 0x20)], false, [⟨0, 16, .rwc, 0x0⟩]⟩,
  ⟨"MCT_TR_MATCHED", 0x210100C, [(16, 0x20)], false, [⟨0, 32, .ro, 0x0⟩]⟩,
  ⟨"MCT_TR_COPIED", 0x2101010, [(16, 0x20)], false, [⟨0, 32, .ro, 0x0⟩]⟩,
  ⟨"MCT_TR_LOST", 0x2101014, [(16, 0x20)], false, [⟨0, 32, .ro, 0x0⟩]⟩]

def regRows5 : List RegRow := [
  ⟨"STN_OB_RES_CFG", 0x10C0030, [(16, 0x100000)], false, [⟨0, 14, .rwc, 0x800⟩]⟩,
  ⟨"STN_OB_RES_STAT", 0x10C0034, [(16, 0x100000)], false, [⟨0, 14, .ro, 0x0⟩, ⟨16, 14, .ro, 0x0⟩]⟩,
  ⟨"STN_OB_RES_DISCARD", 0x10C0038, [(16, 0x100000)], false, [⟨0, 32, .ro, 0x0⟩]⟩,
  ⟨"STN_BB_CTL", 0x1080000, [(16, 0x100000)], false, [⟨0, 1, .rwc, 0x0⟩, ⟨4, 7, .rwc, 0xA⟩]⟩,
  ⟨"STN_BB_STATUS", 0x1080004, [(16, 0x100000)], false, [⟨0, 16, .ro, 0x0⟩, ⟨16, 1, .ro, 0x0⟩, ⟨17, 1, .ro, 0x0⟩, ⟨18, 1, .ro, 0x0⟩]⟩,
  ⟨"STN_BB_IMAGE", 0x1080008, [(16, 0x100000)], false, [⟨0, 16, .ro, 0x0⟩, ⟨16, 16, .ro, 0x0⟩]⟩,
  ⟨"STN_BB_EPOCH", 0x108000C, [(16, 0x100000)], false, [⟨0, 8, .ro, 0x0⟩, ⟨8, 1, .ro, 0x0⟩]⟩,
  ⟨"STN_BB_HQ0", 0x1080010, [(16, 0x100000)], false, [⟨0, 8, .ro, 0x0⟩, ⟨8, 8, .ro, 0x0⟩, ⟨16, 8, .ro, 0x0⟩]⟩,
  ⟨"STN_BB_HQ1", 0x1080014, [(16, 0x100000)], false, [⟨0, 24, .ro, 0x0⟩]⟩,
  ⟨"STN_BB_FAULTS", 0x1080018, [(16, 0x100000)], false, [⟨0, 32, .ro, 0x0⟩]⟩,
  ⟨"STN_BB_LAST_FAULT", 0x108001C, [(16, 0x100000)], false, [⟨0, 4, .ro, 0x0⟩, ⟨4, 12, .ro, 0x0⟩, ⟨16, 4, .ro, 0x0⟩, ⟨20, 2, .ro, 0x0⟩]⟩,
  ⟨"STN_BB_EVT_LOST", 0x1080020, [(16, 0x100000)], false, [⟨0, 32, .ro, 0x0⟩]⟩]

def regRows6 : List RegRow := [
  ⟨"STN_BE_STATE", 0x1081000, [(16, 0x100000), (16, 0x40)], false, [⟨0, 2, .ro, 0x2⟩, ⟨2, 4, .ro, 0x0⟩, ⟨6, 8, .ro, 0x0⟩]⟩,
  ⟨"STN_BE_RUNS_LO", 0x1081004, [(16, 0x100000), (16, 0x40)], false, [⟨0, 32, .ro, 0x0⟩]⟩,
  ⟨"STN_BE_RUNS_HI", 0x1081008, [(16, 0x100000), (16, 0x40)], false, [⟨0, 16, .ro, 0x0⟩]⟩,
  ⟨"STN_BE_INSTR_LO", 0x108100C, [(16, 0x100000), (16, 0x40)], false, [⟨0, 32, .ro, 0x0⟩]⟩,
  ⟨"STN_BE_INSTR_HI", 0x1081010, [(16, 0x100000), (16, 0x40)], false, [⟨0, 16, .ro, 0x0⟩]⟩,
  ⟨"STN_BE_MEM_ECC", 0x1081014, [(16, 0x100000), (16, 0x40)], false, [⟨0, 16, .ro, 0x0⟩, ⟨16, 16, .ro, 0x0⟩]⟩,
  ⟨"STN_BE_SMP_CTL", 0x1081018, [(16, 0x100000), (16, 0x40)], false, [⟨0, 1, .rw, 0x0⟩, ⟨1, 2, .rw, 0x0⟩, ⟨4, 16, .rw, 0x0⟩]⟩,
  ⟨"STN_BE_SMP_STAT", 0x108101C, [(16, 0x100000), (16, 0x40)], false, [⟨0, 5, .ro, 0x0⟩, ⟨8, 24, .ro, 0x0⟩]⟩,
  ⟨"STN_CQ_STATUS", 0x1020A00, [(16, 0x100000)], false, [⟨0, 6, .ro, 0x0⟩, ⟨6, 1, .ro, 0x0⟩, ⟨8, 6, .ro, 0x0⟩, ⟨16, 16, .ro, 0x0⟩]⟩,
  ⟨"STN_BASTE_FAIL", 0x1020A04, [(16, 0x100000)], false, [⟨0, 32, .ro, 0x0⟩]⟩,
  ⟨"STN_BASTE_SCREEN", 0x1020A08, [(16, 0x100000)], false, [⟨0, 16, .ro, 0x0⟩, ⟨16, 16, .ro, 0x0⟩]⟩,
  ⟨"STN_NULLIFIED", 0x1020A0C, [(16, 0x100000)], false, [⟨0, 32, .ro, 0x0⟩]⟩]

def regRows7 : List RegRow := [
  ⟨"STN_CQ_ENTRY0", 0x1020C00, [(16, 0x100000), (32, 0x10)], false, [⟨0, 1, .ro, 0x0⟩, ⟨1, 2, .ro, 0x0⟩, ⟨3, 3, .ro, 0x0⟩, ⟨8, 20, .ro, 0x0⟩]⟩,
  ⟨"STN_CQ_ENTRY1", 0x1020C04, [(16, 0x100000), (32, 0x10)], false, [⟨0, 8, .ro, 0x0⟩, ⟨8, 8, .ro, 0x0⟩]⟩,
  ⟨"STN_CQ_ENTRY2", 0x1020C08, [(16, 0x100000), (32, 0x10)], false, [⟨0, 32, .ro, 0x0⟩]⟩,
  ⟨"STN_CQ_ENTRY3", 0x1020C0C, [(16, 0x100000), (32, 0x10)], false, [⟨0, 8, .ro, 0x0⟩, ⟨8, 8, .ro, 0x0⟩, ⟨16, 8, .ro, 0x0⟩, ⟨24, 8, .ro, 0x0⟩]⟩,
  ⟨"ERR_LATE_STATUS", 0x2600000, [], false, [⟨0, 32, .ro, 0x0⟩]⟩,
  ⟨"ERR_LATE_LOST", 0x2600004, [], false, [⟨0, 16, .ro, 0x0⟩, ⟨16, 16, .ro, 0x0⟩]⟩,
  ⟨"ERR_FENCED", 0x2600008, [], false, [⟨0, 16, .ro, 0x0⟩]⟩,
  ⟨"ERR_VS_NOTIFY", 0x2600100, [(32, 0x4)], false, [⟨0, 1, .rwc, 0x0⟩, ⟨1, 8, .rwc, 0x0⟩]⟩,
  ⟨"ERR_VS_LATE_CNT", 0x2600200, [(32, 0x4)], false, [⟨0, 32, .ro, 0x0⟩]⟩,
  ⟨"STN_SEAM_CFG", 0x1021000, [(16, 0x100000)], false, [⟨0, 1, .qo, 0x1⟩, ⟨1, 1, .qo, 0x0⟩, ⟨4, 4, .rwc, 0x4⟩, ⟨8, 4, .rwc, 0x2⟩, ⟨12, 4, .rwc, 0xA⟩, ⟨16, 8, .rwc, 0x10⟩]⟩,
  ⟨"STN_SEAM_RES0", 0x1021004, [(16, 0x100000)], false, [⟨0, 16, .qo, 0x800⟩, ⟨16, 16, .qo, 0x200⟩]⟩,
  ⟨"STN_SEAM_RES1", 0x1021008, [(16, 0x100000)], false, [⟨0, 16, .qo, 0x800⟩, ⟨16, 16, .qo, 0x100⟩]⟩]

def regRows8 : List RegRow := [
  ⟨"STN_SEAM_STATUS", 0x1021010, [(16, 0x100000)], false, [⟨0, 2, .ro, 0x0⟩, ⟨2, 1, .ro, 0x0⟩, ⟨3, 1, .ro, 0x0⟩, ⟨4, 4, .ro, 0x0⟩, ⟨8, 1, .ro, 0x0⟩, ⟨9, 4, .ro, 0x0⟩, ⟨13, 4, .ro, 0x0⟩, ⟨17, 4, .ro, 0x0⟩, ⟨21, 1, .ro, 0x0⟩, ⟨22, 1, .ro, 0x0⟩]⟩,
  ⟨"STN_SEAM_RTT", 0x1021014, [(16, 0x100000)], false, [⟨0, 11, .ro, 0x0⟩, ⟨16, 11, .ro, 0x0⟩]⟩,
  ⟨"STN_SEAM_FC", 0x1021018, [(16, 0x100000)], false, [⟨0, 16, .ro, 0x0⟩, ⟨16, 16, .ro, 0x0⟩]⟩,
  ⟨"STN_SEAM_PARTNER", 0x102101C, [(16, 0x100000)], false, [⟨0, 8, .ro, 0xFF⟩, ⟨8, 8, .ro, 0xFF⟩]⟩,
  ⟨"STN_SEAM_TXSEQ", 0x1021020, [(16, 0x100000)], false, [⟨0, 12, .ro, 0x0⟩, ⟨12, 12, .ro, 0xFFF⟩, ⟨24, 3, .ro, 0x0⟩]⟩,
  ⟨"STN_SEAM_RXSEQ", 0x1021024, [(16, 0x100000)], false, [⟨0, 12, .ro, 0x0⟩, ⟨12, 1, .ro, 0x0⟩, ⟨16, 8, .ro, 0x0⟩, ⟨24, 8, .ro, 0x0⟩]⟩,
  ⟨"STN_SEAM_CNT_REPLAY", 0x1021040, [(16, 0x100000)], false, [⟨0, 16, .ro, 0x0⟩, ⟨16, 16, .ro, 0x0⟩]⟩,
  ⟨"STN_SEAM_CNT_RX", 0x1021044, [(16, 0x100000)], false, [⟨0, 16, .ro, 0x0⟩, ⟨16, 16, .ro, 0x0⟩]⟩,
  ⟨"STN_SEAM_CNT_SEQ", 0x1021048, [(16, 0x100000)], false, [⟨0, 16, .ro, 0x0⟩, ⟨16, 16, .ro, 0x0⟩]⟩,
  ⟨"STN_SEAM_CNT_MARK", 0x102104C, [(16, 0x100000)], false, [⟨0, 16, .ro, 0x0⟩, ⟨16, 16, .ro, 0x0⟩]⟩,
  ⟨"STN_SEAM_CNT_MISC", 0x1021050, [(16, 0x100000)], false, [⟨0, 8, .ro, 0x0⟩, ⟨8, 8, .ro, 0x0⟩, ⟨16, 16, .ro, 0x0⟩]⟩,
  ⟨"STN_SEAM_SHORT", 0x1021054, [(16, 0x100000)], false, [⟨0, 32, .ro, 0x0⟩]⟩]

def regRows9 : List RegRow := [
  ⟨"STN_SEAM_CRED", 0x1021080, [(16, 0x100000), (4, 0x4)], false, [⟨0, 16, .ro, 0x0⟩, ⟨16, 16, .ro, 0x0⟩]⟩,
  ⟨"FAB_ID", 0x2200000, [], false, [⟨0, 8, .ro, 0xFF⟩, ⟨8, 1, .ro, 0x0⟩, ⟨9, 1, .ro, 0x0⟩]⟩,
  ⟨"FAB_FABRIC_ID", 0x2200004, [], false, [⟨0, 32, .ro, 0x0⟩]⟩,
  ⟨"FAB_UID_LO", 0x2200008, [], false, [⟨0, 32, .ro, 0x0⟩]⟩,
  ⟨"FAB_UID_HI", 0x220000C, [], false, [⟨0, 32, .ro, 0x0⟩]⟩,
  ⟨"FAB_STATE", 0x2200010, [], false, [⟨0, 4, .ro, 0x3⟩, ⟨4, 2, .ro, 0x3⟩, ⟨8, 8, .ro, 0xFF⟩, ⟨16, 8, .ro, 0xFF⟩, ⟨24, 8, .ro, 0x0⟩]⟩,
  ⟨"FAB_CTL", 0x2200014, [], false, [⟨0, 10, .rwc, 0x258⟩, ⟨16, 5, .rwc, 0x19⟩]⟩,
  ⟨"FAB_SEAM_DIR", 0x2200018, [], false, [⟨0, 16, .rwc, 0x0⟩]⟩,
  ⟨"FAB_TIME_STAT", 0x220001C, [], false, [⟨0, 2, .ro, 0x0⟩, ⟨8, 8, .ro, 0xFF⟩, ⟨16, 16, .ro, 0x0⟩]⟩,
  ⟨"FAB_TIME_LO", 0x2200020, [], false, [⟨0, 32, .ro, 0x0⟩]⟩,
  ⟨"FAB_TIME_HI", 0x2200024, [], false, [⟨0, 32, .ro, 0x0⟩]⟩,
  ⟨"FAB_CNT", 0x2200028, [], false, [⟨0, 16, .ro, 0x0⟩, ⟨16, 16, .ro, 0x0⟩]⟩]

def regRows10 : List RegRow := [
  ⟨"FAB_ROUTE_ERR", 0x220002C, [], false, [⟨0, 32, .ro, 0x0⟩]⟩,
  ⟨"FAB_ROUTE_LO", 0x2201000, [(48, 0x10), (2, 0x8)], false, [⟨0, 32, .rwc, 0x0⟩]⟩,
  ⟨"FAB_ROUTE_HI", 0x2201004, [(48, 0x10), (2, 0x8)], false, [⟨0, 4, .rwc, 0x0⟩, ⟨4, 1, .rwc, 0x0⟩, ⟨5, 3, .rwc, 0x0⟩]⟩,
  ⟨"FAB_PIN", 0x2202000, [(960, 0x4)], false, [⟨0, 32, .rwc, 0x0⟩]⟩,
  ⟨"SHT_CTL", 0x2300000, [], false, [⟨0, 8, .rwc, 0xA⟩, ⟨8, 8, .rwc, 0x0⟩]⟩,
  ⟨"SHT_BUSY", 0x2300004, [], false, [⟨0, 32, .ro, 0x0⟩]⟩,
  ⟨"SHT_READY", 0x2300008, [], false, [⟨0, 13, .ro, 0x0⟩]⟩,
  ⟨"SHT_CTX_ECC", 0x230000C, [], false, [⟨0, 16, .ro, 0x0⟩, ⟨16, 16, .ro, 0x0⟩]⟩,
  ⟨"SHT_CPL_ERR", 0x2300010, [], false, [⟨0, 16, .ro, 0x0⟩, ⟨16, 16, .ro, 0x0⟩]⟩,
  ⟨"SHT_STRAY", 0x2300014, [], false, [⟨0, 32, .ro, 0x0⟩]⟩,
  ⟨"SHT_MV_STAT", 0x2301000, [(32, 0x10)], false, [⟨0, 1, .ro, 0x0⟩, ⟨1, 12, .ro, 0x0⟩, ⟨13, 7, .ro, 0x0⟩]⟩,
  ⟨"SHT_MV_BYTES_LO", 0x2301004, [(32, 0x10)], false, [⟨0, 32, .ro, 0x0⟩]⟩]

def regRows11 : List RegRow := [
  ⟨"SHT_MV_BYTES_HI", 0x2301008, [(32, 0x10)], false, [⟨0, 16, .ro, 0x0⟩]⟩,
  ⟨"SHT_PNL_BIND", 0x2340000, [(4096, 0x40)], false, [⟨0, 1, .qo, 0x0⟩, ⟨1, 5, .qo, 0x0⟩, ⟨6, 20, .qo, 0x0⟩]⟩,
  ⟨"SHT_PNL_RING", 0x2340004, [(4096, 0x40)], false, [⟨0, 5, .qo, 0x4⟩, ⟨5, 5, .qo, 0x4⟩, ⟨10, 11, .rwc, 0x0⟩, ⟨21, 4, .rwc, 0x0⟩, ⟨25, 7, .rwc, 0x0⟩]⟩,
  ⟨"SHT_PNL_SQ_LO", 0x2340008, [(4096, 0x40)], false, [⟨0, 32, .qo, 0x0⟩]⟩,
  ⟨"SHT_PNL_SQ_HI", 0x234000C, [(4096, 0x40)], false, [⟨0, 32, .qo, 0x0⟩]⟩,
  ⟨"SHT_PNL_CQ_LO", 0x2340010, [(4096, 0x40)], false, [⟨0, 32, .qo, 0x0⟩]⟩,
  ⟨"SHT_PNL_CQ_HI", 0x2340014, [(4096, 0x40)], false, [⟨0, 32, .qo, 0x0⟩]⟩,
  ⟨"SHT_PNL_STATE", 0x2340018, [(4096, 0x40)], false, [⟨0, 3, .ro, 0x0⟩, ⟨8, 8, .ro, 0x0⟩, ⟨16, 16, .ro, 0x0⟩]⟩,
  ⟨"SHT_PNL_SLOT", 0x2340020, [(4096, 0x40), (8, 0x4)], false, [⟨0, 10, .rwc, 0x0⟩, ⟨16, 10, .rwc, 0x0⟩, ⟨15, 1, .rwc, 0x0⟩, ⟨31, 1, .rwc, 0x0⟩]⟩,
  ⟨"SHT_GNT_CTL", 0x2380000, [(1024, 0x10)], false, [⟨0, 1, .rwc, 0x0⟩, ⟨1, 5, .rwc, 0x0⟩, ⟨6, 1, .rwc, 0x0⟩, ⟨7, 1, .rwc, 0x0⟩]⟩,
  ⟨"SHT_GNT_BASE_LO", 0x2380004, [(1024, 0x10)], false, [⟨12, 20, .rwc, 0x0⟩]⟩,
  ⟨"SHT_GNT_BASE_HI", 0x2380008, [(1024, 0x10)], false, [⟨0, 32, .rwc, 0x0⟩]⟩]

def regRows12 : List RegRow := [
  ⟨"SHT_GNT_SIZE", 0x238000C, [(1024, 0x10)], false, [⟨0, 32, .rwc, 0x0⟩]⟩,
  ⟨"ACW_EP_WIN", 0x180000, [(32, 0x20), (8, 0x4)], false, [⟨0, 1, .rwc, 0x0⟩, ⟨6, 6, .rwc, 0x0⟩]⟩,
  ⟨"ACW_EP_VS_VEC", 0x180400, [(32, 0x4)], false, [⟨0, 8, .rwc, 0x0⟩, ⟨8, 3, .rwc, 0x3⟩, ⟨11, 1, .rwc, 0x0⟩, ⟨12, 8, .rwc, 0x0⟩, ⟨20, 1, .rwc, 0x0⟩, ⟨21, 8, .rwc, 0x0⟩, ⟨29, 1, .rwc, 0x0⟩]⟩,
  ⟨"ACW_EP_DEFER", 0x180800, [(32, 0x10)], false, [⟨0, 16, .ro, 0x0⟩, ⟨16, 4, .ro, 0x0⟩]⟩,
  ⟨"ACW_EP_DEFER_ADDR", 0x180804, [(32, 0x10)], false, [⟨0, 26, .ro, 0x0⟩]⟩,
  ⟨"ACW_EP_BRIDGE", 0x180C00, [], false, [⟨0, 32, .ro, 0x0⟩]⟩,
  ⟨"ACW_EP_HOST_CNT", 0x180C04, [], false, [⟨0, 16, .ro, 0x0⟩, ⟨16, 16, .ro, 0x0⟩]⟩,
  ⟨"ACW_EP_PROXY_THM", 0x180C08, [], false, [⟨0, 8, .ro, 0x0⟩, ⟨8, 1, .ro, 0x0⟩, ⟨16, 16, .ro, 0x0⟩]⟩,
  ⟨"PMC_CTL", 0x2500000, [], false, [⟨0, 1, .rwc, 0x1⟩, ⟨4, 10, .rwc, 0xA⟩]⟩,
  ⟨"PMC_SWEEPS", 0x2500004, [], false, [⟨0, 32, .ro, 0x0⟩]⟩,
  ⟨"PMC_SMP_STATUS", 0x2500008, [], false, [⟨0, 32, .ro, 0x0⟩]⟩,
  ⟨"PMC_SMP_LOST", 0x250000C, [], false, [⟨0, 32, .ro, 0x0⟩]⟩]

def regRows13 : List RegRow := [
  ⟨"PMC_GRANT", 0x2500100, [(22, 0x4)], false, [⟨0, 5, .rwc, 0x0⟩, ⟨5, 1, .rwc, 0x0⟩]⟩,
  ⟨"PMC_READ_MASK", 0x2500200, [(22, 0x4)], false, [⟨0, 32, .rwc, 0x0⟩]⟩,
  ⟨"PMC_ACC_LO", 0x2501000, [(22, 0x40), (8, 0x8)], false, [⟨0, 32, .ro, 0x0⟩]⟩,
  ⟨"PMC_ACC_HI", 0x2501004, [(22, 0x40), (8, 0x8)], false, [⟨0, 32, .ro, 0x0⟩]⟩,
  ⟨"ACW_FW_STATUS", 0x140000, [], false, [⟨0, 1, .ro, 0x0⟩, ⟨1, 1, .ro, 0x0⟩, ⟨2, 1, .ro, 0x0⟩, ⟨3, 1, .ro, 0x0⟩, ⟨4, 3, .ro, 0x0⟩, ⟨8, 4, .ro, 0x0⟩]⟩,
  ⟨"ACW_FW_VERSION", 0x140004, [], false, [⟨0, 32, .ro, 0x0⟩]⟩,
  ⟨"ACW_SEC_STATUS", 0x140008, [], false, [⟨0, 7, .ro, 0x0⟩, ⟨8, 1, .ro, 0x0⟩, ⟨9, 1, .ro, 0x0⟩, ⟨16, 7, .ro, 0x0⟩]⟩,
  ⟨"ACW_WDT", 0x14000C, [], false, [⟨0, 8, .ro, 0x0⟩, ⟨8, 8, .ro, 0x0⟩, ⟨16, 16, .rwc, 0x3C⟩]⟩,
  ⟨"ACW_CFG_STATUS", 0x140010, [], false, [⟨0, 2, .ro, 0x3⟩, ⟨2, 1, .ro, 0x0⟩, ⟨3, 1, .ro, 0x0⟩, ⟨4, 1, .ro, 0x0⟩, ⟨5, 1, .ro, 0x0⟩]⟩,
  ⟨"ACW_CFG_SEQ", 0x140014, [], false, [⟨0, 32, .ro, 0x0⟩]⟩,
  ⟨"ACW_THERM_CFG", 0x140020, [], false, [⟨0, 8, .rwc, 0x64⟩, ⟨8, 4, .rwc, 0x3⟩]⟩,
  ⟨"ACW_THERM_STATUS", 0x140024, [], false, [⟨0, 1, .ro, 0x0⟩, ⟨1, 1, .ro, 0x0⟩, ⟨2, 1, .ro, 0x0⟩, ⟨3, 1, .ro, 0x0⟩, ⟨8, 8, .ro, 0x0⟩, ⟨16, 16, .ro, 0x0⟩]⟩]

def regRows14 : List RegRow := [
  ⟨"ACW_ALERT_MASK", 0x140028, [], false, [⟨0, 3, .rwc, 0x7⟩]⟩,
  ⟨"ACW_LOG_STATUS", 0x140030, [], false, [⟨0, 32, .ro, 0x0⟩]⟩,
  ⟨"ACW_LOG_CTL", 0x140034, [], false, [⟨0, 3, .rwc, 0x3⟩]⟩,
  ⟨"ACW_LOG_LOST", 0x140038, [], false, [⟨0, 16, .ro, 0x0⟩, ⟨16, 16, .ro, 0x0⟩]⟩,
  ⟨"ACW_SENS", 0x140100, [(32, 0x4)], false, [⟨0, 16, .ro, 0x0⟩, ⟨16, 1, .ro, 0x1⟩, ⟨17, 1, .ro, 0x0⟩, ⟨18, 1, .ro, 0x0⟩]⟩,
  ⟨"ACW_MBX_CFG", 0x100000, [(32, 0x40)], true, [⟨0, 1, .rw, 0x0⟩, ⟨4, 4, .rw, 0x2⟩, ⟨8, 8, .rw, 0x0⟩, ⟨16, 1, .rw, 0x0⟩]⟩,
  ⟨"ACW_MBX_BASE_LO", 0x100004, [(32, 0x40)], true, [⟨12, 20, .rw, 0x0⟩]⟩,
  ⟨"ACW_MBX_BASE_HI", 0x100008, [(32, 0x40)], true, [⟨0, 32, .rw, 0x0⟩]⟩,
  ⟨"ACW_MBX_TAIL", 0x10000C, [(32, 0x40)], true, [⟨0, 8, .rw, 0x0⟩]⟩,
  ⟨"ACW_MBX_HEAD", 0x100010, [(32, 0x40)], false, [⟨0, 8, .ro, 0x0⟩, ⟨8, 1, .ro, 0x1⟩]⟩,
  ⟨"ACW_MBX_STATUS", 0x100014, [(32, 0x40)], false, [⟨0, 1, .ro, 0x0⟩, ⟨1, 3, .ro, 0x0⟩, ⟨4, 8, .ro, 0x0⟩, ⟨12, 20, .ro, 0x0⟩]⟩,
  ⟨"ACW_CHAN_CFG", 0x101000, [(67, 0x4)], false, [⟨0, 3, .rwc, 0x0⟩, ⟨8, 8, .ro, 0x0⟩, ⟨16, 16, .ro, 0x0⟩]⟩]

def regRows15 : List RegRow := [
  ⟨"GLB_ID", 0x0, [], false, [⟨0, 16, .ro, 0x1F4E⟩, ⟨16, 16, .ro, 0x7272⟩]⟩,
  ⟨"GLB_REV", 0x4, [], false, [⟨0, 8, .ro, 0xA1⟩]⟩,
  ⟨"GLB_STATUS", 0x10, [], false, [⟨0, 1, .ro, 0x0⟩, ⟨1, 1, .ro, 0x0⟩, ⟨2, 1, .ro, 0x0⟩, ⟨3, 1, .ro, 0x0⟩]⟩,
  ⟨"GLB_STRAP", 0x14, [], false, [⟨0, 4, .ro, 0x0⟩, ⟨4, 10, .ro, 0x0⟩, ⟨14, 1, .ro, 0x0⟩, ⟨16, 4, .ro, 0x0⟩]⟩,
  ⟨"GLB_FUSE_STATUS", 0x18, [], false, [⟨0, 1, .ro, 0x0⟩, ⟨1, 1, .ro, 0x0⟩, ⟨2, 1, .ro, 0x0⟩]⟩,
  ⟨"GLB_RESET_CAUSE", 0x20, [], false, [⟨0, 4, .ro, 0x1⟩, ⟨4, 4, .ro, 0x1⟩, ⟨8, 1, .ro, 0x0⟩, ⟨9, 2, .ro, 0x0⟩, ⟨11, 1, .ro, 0x0⟩]⟩,
  ⟨"GLB_RESET_CNT", 0x24, [(5, 0x4)], false, [⟨0, 16, .ro, 0x0⟩, ⟨16, 16, .ro, 0x0⟩]⟩,
  ⟨"GLB_SS_TICKS_LO", 0x40, [], false, [⟨0, 32, .ro, 0x0⟩]⟩,
  ⟨"GLB_SS_TICKS_HI", 0x44, [], false, [⟨0, 16, .ro, 0x0⟩]⟩,
  ⟨"GLB_LG_STATUS", 0x50, [], false, [⟨0, 4, .ro, 0x0⟩, ⟨16, 16, .ro, 0x0⟩]⟩,
  ⟨"GLB_PD_STATE", 0x100, [(64, 0x4)], false, [⟨0, 2, .ro, 0x0⟩, ⟨2, 1, .ro, 0x0⟩, ⟨3, 1, .ro, 0x1⟩, ⟨8, 8, .ro, 0x0⟩]⟩,
  ⟨"GLB_CLK_STATUS", 0x200, [], false, [⟨0, 4, .ro, 0x0⟩, ⟨4, 2, .ro, 0x0⟩, ⟨6, 1, .ro, 0x0⟩, ⟨8, 16, .ro, 0x0⟩]⟩]

def regRows16 : List RegRow := [
  ⟨"GLB_XING_CNT", 0x204, [], false, [⟨0, 16, .ro, 0x0⟩, ⟨16, 16, .ro, 0x0⟩]⟩,
  ⟨"SPC_BUDGET", 0x2400000, [], false, [⟨0, 16, .rwc, 0x0⟩, ⟨16, 7, .rwc, 0x14⟩]⟩,
  ⟨"SPC_BUDGET_USED", 0x2400004, [], false, [⟨0, 16, .ro, 0x0⟩, ⟨16, 16, .ro, 0x0⟩]⟩,
  ⟨"SPC_VLIM_MAX", 0x2400008, [], false, [⟨0, 8, .ro, 0xC8⟩]⟩,
  ⟨"SPC_CFG", 0x2400100, [(17, 0x20)], false, [⟨0, 3, .qo, 0x0⟩, ⟨3, 1, .rwc, 0x0⟩, ⟨4, 12, .qo, 0x7D0⟩, ⟨16, 10, .rwc, 0x64⟩]⟩,
  ⟨"SPC_STATUS", 0x2400104, [(17, 0x20)], false, [⟨0, 4, .ro, 0x0⟩, ⟨4, 1, .ro, 0x0⟩, ⟨5, 1, .ro, 0x0⟩, ⟨6, 1, .ro, 0x0⟩, ⟨7, 1, .ro, 0x0⟩, ⟨8, 1, .ro, 0x0⟩, ⟨9, 1, .ro, 0x0⟩, ⟨10, 1, .ro, 0x0⟩, ⟨11, 1, .ro, 0x0⟩, ⟨12, 1, .ro, 0x0⟩, ⟨16, 4, .ro, 0x0⟩]⟩,
  ⟨"SPC_THR", 0x2400108, [(17, 0x20)], false, [⟨0, 8, .ro, 0x0⟩, ⟨8, 8, .ro, 0x0⟩]⟩,
  ⟨"SPC_MEAS0", 0x240010C, [(17, 0x20)], false, [⟨0, 16, .ro, 0x0⟩, ⟨16, 16, .ro, 0x0⟩]⟩,
  ⟨"SPC_MEAS1", 0x2400110, [(17, 0x20)], false, [⟨0, 16, .ro, 0x0⟩, ⟨16, 1, .ro, 0x1⟩]⟩,
  ⟨"SPC_CNT", 0x2400114, [(17, 0x20)], false, [⟨0, 16, .ro, 0x0⟩, ⟨16, 16, .ro, 0x0⟩]⟩,
  ⟨"SPC_LAST_TRIP", 0x2400118, [(17, 0x20)], false, [⟨0, 32, .ro, 0x0⟩]⟩,
  ⟨"STN_PMU_UNIT_CTL", 0x10E0000, [(16, 0x100000)], true, [⟨0, 1, .rw, 0x0⟩, ⟨1, 1, .wo, 0x0⟩]⟩]

def regRows17 : List RegRow := [
  ⟨"STN_PMU_CNT_CTL", 0x10E0010, [(16, 0x100000), (8, 0x4)], true, [⟨0, 8, .rw, 0x0⟩, ⟨8, 4, .rw, 0xF⟩, ⟨12, 3, .rw, 0x7⟩, ⟨15, 2, .rw, 0x3⟩, ⟨17, 1, .rw, 0x0⟩, ⟨18, 1, .rw, 0x0⟩, ⟨19, 1, .rw1c, 0x0⟩, ⟨20, 1, .ro, 0x0⟩, ⟨31, 1, .wo, 0x0⟩]⟩,
  ⟨"STN_PMU_CNT", 0x10E0040, [(16, 0x100000), (8, 0x4)], true, [⟨0, 32, .ro, 0x0⟩]⟩,
  ⟨"STN_PMU_PRELOAD", 0x10E0060, [(16, 0x100000), (8, 0x4)], true, [⟨0, 32, .rw, 0x0⟩]⟩,
  ⟨"CORE_PMU_UNIT_CTL", 0x2008000, [(4, 0x1000)], true, [⟨0, 1, .rw, 0x0⟩, ⟨1, 1, .wo, 0x0⟩]⟩,
  ⟨"CORE_PMU_CNT_CTL", 0x2008010, [(4, 0x1000), (8, 0x4)], true, [⟨0, 8, .rw, 0x0⟩, ⟨8, 4, .rw, 0xF⟩, ⟨12, 3, .rw, 0x7⟩, ⟨15, 2, .rw, 0x3⟩, ⟨17, 1, .rw, 0x0⟩, ⟨18, 1, .rw, 0x0⟩, ⟨19, 1, .rw1c, 0x0⟩, ⟨20, 1, .ro, 0x0⟩, ⟨31, 1, .wo, 0x0⟩]⟩,
  ⟨"CORE_PMU_CNT", 0x2008040, [(4, 0x1000), (8, 0x4)], true, [⟨0, 32, .ro, 0x0⟩]⟩,
  ⟨"CORE_PMU_PRELOAD", 0x2008060, [(4, 0x1000), (8, 0x4)], true, [⟨0, 32, .rw, 0x0⟩]⟩,
  ⟨"SHT_PMU_UNIT_CTL", 0x2308000, [], true, [⟨0, 1, .rw, 0x0⟩, ⟨1, 1, .wo, 0x0⟩]⟩,
  ⟨"SHT_PMU_CNT_CTL", 0x2308010, [(8, 0x4)], true, [⟨0, 8, .rw, 0x0⟩, ⟨8, 4, .rw, 0xF⟩, ⟨12, 3, .rw, 0x7⟩, ⟨15, 2, .rw, 0x3⟩, ⟨17, 1, .rw, 0x0⟩, ⟨18, 1, .rw, 0x0⟩, ⟨19, 1, .rw1c, 0x0⟩, ⟨20, 1, .ro, 0x0⟩, ⟨31, 1, .wo, 0x0⟩]⟩,
  ⟨"SHT_PMU_CNT", 0x2308040, [(8, 0x4)], true, [⟨0, 32, .ro, 0x0⟩]⟩,
  ⟨"SHT_PMU_PRELOAD", 0x2308060, [(8, 0x4)], true, [⟨0, 32, .rw, 0x0⟩]⟩,
  ⟨"ACW_PMU_UNIT_CTL", 0x181000, [], true, [⟨0, 1, .rw, 0x0⟩, ⟨1, 1, .wo, 0x0⟩]⟩]

def regRows18 : List RegRow := [
  ⟨"ACW_PMU_CNT_CTL", 0x181010, [(8, 0x4)], true, [⟨0, 8, .rw, 0x0⟩, ⟨8, 4, .rw, 0xF⟩, ⟨12, 3, .rw, 0x7⟩, ⟨15, 2, .rw, 0x3⟩, ⟨17, 1, .rw, 0x0⟩, ⟨18, 1, .rw, 0x0⟩, ⟨19, 1, .rw1c, 0x0⟩, ⟨20, 1, .ro, 0x0⟩, ⟨31, 1, .wo, 0x0⟩]⟩,
  ⟨"ACW_PMU_CNT", 0x181040, [(8, 0x4)], true, [⟨0, 32, .ro, 0x0⟩]⟩,
  ⟨"ACW_PMU_PRELOAD", 0x181060, [(8, 0x4)], true, [⟨0, 32, .rw, 0x0⟩]⟩,
  ⟨"MCT_GROUP", 0x2102000, [(256, 0x20), (4, 0x4)], false, [⟨0, 32, .rwc, 0x0⟩]⟩,
  ⟨"MCT_GROUP", 0x2102010, [(256, 0x20)], false, [⟨0, 16, .rwc, 0x0⟩]⟩,
  ⟨"MCT_GROUP", 0x2102014, [(256, 0x20)], false, [⟨0, 1, .rwc, 0x0⟩, ⟨1, 1, .rwc, 0x0⟩, ⟨2, 5, .rwc, 0x0⟩]⟩,
  ⟨"FAB_EXPORT", 0x2204000, [(256, 0x10)], false, [⟨0, 1, .rwc, 0x0⟩, ⟨1, 5, .rwc, 0x0⟩, ⟨6, 1, .rwc, 0x0⟩, ⟨7, 1, .rwc, 0x0⟩]⟩,
  ⟨"FAB_EXPORT", 0x2204004, [(256, 0x10)], false, [⟨0, 32, .rwc, 0x0⟩]⟩,
  ⟨"FAB_EXPORT", 0x2204008, [(256, 0x10)], false, [⟨0, 16, .rwc, 0x0⟩]⟩,
  ⟨"FAB_BIND", 0x2205000, [(64, 0x10)], false, [⟨0, 1, .rwc, 0x0⟩, ⟨1, 1, .rwc, 0x0⟩, ⟨2, 2, .ro, 0x0⟩, ⟨4, 5, .rwc, 0x0⟩, ⟨9, 5, .rwc, 0x0⟩, ⟨14, 8, .rwc, 0x0⟩]⟩,
  ⟨"FAB_BIND", 0x2205004, [(64, 0x10)], false, [⟨0, 8, .rwc, 0x0⟩, ⟨8, 8, .rwc, 0x0⟩, ⟨16, 8, .rwc, 0x0⟩, ⟨24, 6, .rwc, 0x0⟩]⟩]

/-- Every register of the tables. -/
def regRows : List RegRow :=
  regRows0 ++ regRows1 ++ regRows2 ++ regRows3 ++ regRows4 ++ regRows5 ++ regRows6 ++ regRows7 ++ regRows8 ++ regRows9 ++ regRows10 ++ regRows11 ++ regRows12 ++ regRows13 ++ regRows14 ++ regRows15 ++ regRows16 ++ regRows17 ++ regRows18

/-- The instance numbers of an offset inside a row, or none if the offset is not one of its registers. -/
def regIdx : List (Nat × Nat) → Nat → Option (List Nat)
  | [], off => if off = 0 then some [] else none
  | (c, st) :: ds, off =>
    if off / st < c then (regIdx ds (off % st)).map (fun r => off / st :: r) else none

/-- The row of the tables that a byte address belongs to, with the register's instance numbers. -/
def regFind (a : Nat) : Option (RegRow × List Nat) :=
  regRows.findSome? fun r => if r.base ≤ a then (regIdx r.dims (a - r.base)).map (fun ix => (r, ix)) else none

/-- The reset values of a row's fields as one word. -/
def packReset (fs : List FldSpec) : Nat := fs.foldl (fun a f => a + f.reset * 2 ^ f.lo) 0

/-- QLIM and QMIN defaults of Table 4.3 for queue q, as the register's word. The port queues' QLIM is held as 0 while it stands
at its default, which follows the port's configured width (log entry 5); every staged value is at least 16. -/
def qCfgDflt (q : Nat) : Nat :=
  if q < 54 then
    let c := q % 3
    let v := (q / 3) % 2
    (if v = 0 then (if c = 0 then 32 else if c = 1 then 16 else 64) else (if c = 0 then 8 else if c = 1 then 4 else 16)) * 65536
  else if q < 57 then 256 + (if q = 54 then 16 else if q = 55 then 8 else 32) * 65536
  else if q = 57 then 1024
  else if q < 62 then 8192 + 256 * 65536
  else 0

/-- Default pins of one word w of FAB_PIN (R284): (ingress index + 3·VC + n) mod 4 for its sixteen nodes. -/
def pinDflt (w : Nat) : Nat :=
  let n0 := 16 * (w % 3)
  let v := (w / 3) % 2
  let i := w / 6
  (List.range 16).foldl (fun a j => a + ((i + 3 * v + n0 + j) % 4) * 2 ^ (2 * j)) 0

/-- Default MAX_CLASS of channel c (Table 14.1). -/
def chanDflt (c : Nat) : Nat :=
  if c = 0 then 0 else if c ≤ 2 then 1 else if c = 3 ∨ c = 35 then 3 else 2

/-- Default of ACW_EP_WIN entry w (Table 12.5); entry 5 takes station 0 until an image load sets it for the partition's
upstream port (log entry 6). -/
def epWinDflt (w : Nat) : Nat :=
  if w = 0 then 1 else if w = 1 then 1 + 0x20 * 64 else if w = 2 then 1 + 0x22 * 64 else if w = 3 then 1 + 0x24 * 64
  else if w = 4 then 1 + 0x26 * 64 else if w = 5 then 1 + 0x10 * 64 else 0

/-- Reset values that depend on the instance. -/
def regSpecial (base : Nat) (ix : List Nat) (d : Nat) : Nat :=
  match base, ix with
  | 0x01000000, [s] => if s = 0 then d - 2 ^ 17 else d            -- HOLD: 0 for the strap's upstream station
  | 0x01020000, [s, k] => if s = 0 ∧ k = 0 then d + 1 else d      -- ROLE of the strap's upstream port (R66)
  | 0x01001000, _ => 0x55444444                                    -- Table 2.5, bits [31:0]
  | 0x01001004, _ => 0x05588355                                    -- Table 2.5, bits [63:32]
  | 0x010C0100, [_, q] => qCfgDflt q
  | 0x02000100, [m] => if m < 16 then d else 0x4E2
  | 0x02202000, [w] => pinDflt w
  | 0x00180000, [_, w] => epWinDflt w
  | 0x00101000, [c] => chanDflt c
  | 0x02400100, [n] => if n = 16 then 7 + 40 * 16 + 100 * 65536 else d
  | 0x02400104, [n] => if n = 16 then 64 else d                    -- CMD_ON is 1 for SPC16
  | _, _ => d

/-- What a register holds at reset and reads as while unlisted (R10: 0 at every address no table names). -/
def regDflt (a : Nat) : B32 :=
  match regFind a with
  | none => 0
  | some (r, ix) => BitVec.ofNat 32 (regSpecial r.base ix (packReset r.flds))

/-- The bits of a register that carry one of the access codes p, as a mask. -/
def regMask (p : Acc → Bool) (a : Nat) : B32 :=
  match regFind a with
  | none => 0
  | some (r, _) => BitVec.ofNat 32 (r.flds.foldl (fun m f => if p f.acc then m + (2 ^ f.w - 1) * 2 ^ f.lo else m) 0)

/-- Whether the tables mark the register host-writable. -/
def regHost (a : Nat) : Bool :=
  match regFind a with
  | none => false
  | some (r, _) => r.host

/-- One field's value in a register word. -/
def Fld.of (f : Fld) (x : B32) : Nat := (x.toNat / 2 ^ f.lo) % 2 ^ f.w

/-- A register word with one field replaced (the value is cut to the field's width). -/
def Fld.into (f : Fld) (x : B32) (v : Nat) : B32 :=
  BitVec.ofNat 32 (x.toNat - f.of x * 2 ^ f.lo + (v % 2 ^ f.w) * 2 ^ f.lo)

end Sys2Proof.Machine
end

