-- ==== Sys2Proof/Machine/State.lean ====
section
/-!
DEFINITION. Machine/State.lean: everything the spec gives the H7272, as plain data, and the state right after reset.
Every register field of the register tables has its one home in `regs` (a sparse map from register addresses to words, read
through the descriptors of Machine/Fields.lean); what the tables give no register for stands in the structures below.
-/

namespace Sys2Proof.Machine

/-- Reasons for a fault. No command of this model faults: every row of the table has an effect in every state. -/
inductive Fault where
  deriving DecidableEq, Repr

/-- Reasons for a refusal. -/
inductive Refusal where
  /-- A command that has no meaning yet; raised by Dispatch only. Safe. -/
  | notModelled (mnemonic : String)
  deriving DecidableEq, Repr

/-! ### Time, events and outputs -/

/-- The clocks: monotone nanoseconds since the state was created, fabric time (R299), the moment the subsoil tick counter was
zeroed, and the counter that picks fresh free values (a field of the model, not of the spec). -/
structure Clk where
  now : Nat := 0
  fab : B64 := 0
  /-- the moment the subsoil tick counter was zeroed (R409) -/
  ssZero : Nat := 0
  free : Nat := 0
  deriving DecidableEq, Repr

/-- An event record as a block raises it (R371, Table 13.9); `id` names the occurrence within the model. -/
structure Ev where
  id : Nat
  time : B64
  code : Nat
  sev : Nat
  src : Nat
  scope : Nat
  flags : Nat
  /-- events of this block dropped just before this record was held (R372) -/
  gap : Nat
  detail : List Nat
  deriving DecidableEq, Repr

/-- The event RAM of one block (R372): records held, oldest first, and events dropped in the open gap. -/
structure EvRam where
  held : List Ev := []
  dropped : Nat := 0
  deriving DecidableEq, Repr

/-- The log rate limit of one event at one object: when it was last logged, and how many were not logged since. -/
structure Rate where
  seen : Bool := false
  last : Nat := 0
  count : Nat := 0
  deriving DecidableEq, Repr

/-- Event state: block RAMs by SOURCE, RAM log (SEQ, record; oldest first), persistent log (oldest first) with its copy budget,
last-gasp records, next occurrence number, and rate limits by code and object. -/
structure Evs where
  ram : SMap EvRam := []
  log : List (Nat × Ev) := []
  /-- (running number, log SEQ, record), oldest first -/
  plog : List (Nat × Nat × Ev) := []
  /-- when each of the last 128 copies to flash was made, newest first (R373) -/
  copies : List Nat := []
  gasp : List (Nat × Ev) := []
  /-- last-gasp records already copied to the logs (R373) -/
  gaspSeen : Nat := 0
  next : Nat := 0
  rate : SMap Rate := []
  deriving DecidableEq, Repr

/-- What the device does at its boundary, in order. -/
inductive Output where
  /-- a reply packet (Table 14.4) on a channel -/
  | reply (chan : Nat) (eid : Nat) (opcode : Nat) (st : Status) (tag : B32) (scope : Nat) (detail : Nat) (data : List Dat)
  /-- a TLP transmitted at a port -/
  | tlp (port : Nat) (t : Tlp)
  /-- a TLP nullified at a non-FLIT port (R211) -/
  | nullified (port : Nat) (t : Tlp)
  /-- a TLP delivered to an endpoint function -/
  | deliver (v : Nat) (t : Tlp)
  /-- a completion the device itself sends back to where a request entered: the port, 0xFE the endpoint channel, or with
  0x200 + 256·node added that of another node -/
  | completion (ing : Nat) (rid tag : B16) (status : Nat) (completer : B16)
  /-- the one request made of the partner on a lane at a rate: the REQP preset (R52) -/
  | eqReq (port lane rate preset : Nat)
  /-- the receiver preset hint that a downstream port sends on a lane at 8 GT/s -/
  | eqHint (port lane hint : Nat)
  /-- a pattern generator starts on a lane: pattern, rate, inverted polarity, partner taken into loopback (R55, R56) -/
  | pattern (stn lane pat rate : Nat) (inverted loop : Bool)
  /-- credits advertised on a VC in the order PH, PD, NPH, NPD, CplH, CplD, with their scale factor (R78, R79) -/
  | fcInit (port vc scale : Nat) (credits : List Nat)
  /-- a return to full link width is requested of the partner (R85) -/
  | l0pFull (port width : Nat)
  /-- SLOTnn_ATTN_N is driven: 0 low, 1 a 1 Hz square wave, 2 high (Table 3.7) -/
  | attn (slot level : Nat)
  /-- an action on the far port of a binding (R295): node, port, 0 Secondary Bus Reset, 1 Link Disable, 2 DPC, set or cleared -/
  | farAct (node port what : Nat) (set : Bool)
  /-- an answer to a configuration request -/
  | cfgReply (port : Nat) (tag : B16) (status : Nat) (data : B32)
  /-- ingress link credit returned: port, VC, class, bytes of the TLP (R101) -/
  | credit (ing vc cls len : Nat)
  /-- an MSI-X message (R341) -/
  | msix (v : Nat) (fn : Bool) (vec : Nat) (addr : B64) (data : B32)
  /-- a posted write to host memory from the management function of VSv -/
  | hostWrite (v : Nat) (addr : B64) (bytes : Bytes)
  /-- a read of host memory: virtual switch, PASID + 1 or 0, address, bytes -/
  | hostRead (v : Nat) (pasid : Nat) (addr : B64) (len : Nat)
  /-- a write by the Shuttle: virtual switch, PASID + 1 or 0, address, bytes -/
  | shuttleWrite (v : Nat) (pasid : Nat) (addr : B64) (bytes : Bytes)
  /-- an ATS message: virtual switch, kind, address -/
  | ats (v : Nat) (kind : Nat) (addr : B64)
  /-- an error message or AER signal toward the host of VSv: severity 0 correctable, 1 non-fatal, 2 fatal -/
  | errMsg (v : Nat) (rid : B16) (sev : Nat)
  /-- a message TLP generated by a port: port, message code, value -/
  | msg (port : Nat) (code : Nat) (v : Nat)
  /-- a flit sent by station s, byte by byte (Table 9.2) -/
  | flit (s : Nat) (bytes : Bytes)
  /-- a Seam bypass message sent by station s: MTYPE, BSEQ and parameters; 0x100: NAK in the next four headers, with its ACK (R250) -/
  | seam (s : Nat) (kind : Nat) (fields : List Nat)
  /-- a record sent on the Seam link of station s: its carriage word (Table 9.5), TLP and MARK bit (R244, R248) -/
  | seamData (s : Nat) (car : Carriage) (t : Tlp) (mark : Bool)
  /-- a fabric control message sent: destination node (0x100 + s: the link partner at station s), type, MSEQ, fields -/
  | ctl (dest : Nat) (kind : Nat) (mseq : Nat) (fields : List Nat)
  /-- an MCTP control response on a channel -/
  | mctp (chan : Nat) (bytes : Bytes)
  /-- the completion of a host read of BAR0: virtual switch, tag, status (0, 1 Unsupported Request, 4 Completer Abort), data words -/
  | barReply (v : Nat) (tag : B16) (status : Nat) (data : List B32)
  /-- fuses burnt: kind, index -/
  | fuse (kind : Nat) (ix : Nat)
  deriving DecidableEq, Repr

/-! ### Command service (chapter 14) -/

/-- Privilege classes (R390); `code` is the number the packets use. -/
inductive Cls where
  | obs | pm | fm | tenant
  deriving DecidableEq, Repr

/-- An open credential (R390 to R392). -/
structure Cred where
  gen : Nat
  cls : Cls
  vs : Nat
  panel : Nat
  chan : Nat
  eid : Nat
  deriving DecidableEq, Repr

/-- What a staged item changes (R394 to R396). -/
inductive ItemK where
  /-- registers of one object: address, mask, value -/
  | regs (ws : List (Nat × B32 × B32))
  /-- a window entry in a set of stations (R128) -/
  | window (stations : Nat) (idx : Nat) (entry : List B32)
  /-- a requester entry added to or removed from a station (R129) -/
  | requester (stn : Nat) (add : Bool) (entry : B64)
  /-- permission values of a requester class in a set of stations (R130) -/
  | perm (stations : Nat) (rclass first : Nat) (vals : List Nat)
  /-- a lending entry with what its checks found (R140) -/
  | lend (stn idx : Nat) (words : List B32) (probe : SrIov)
  /-- a Bobbin image for a set of stations (R203) -/
  | image (stations : Nat) (rolling : Bool) (img : Bytes)
  /-- regions of the engine thimbles of a set of stations (R195) -/
  | regions (stations : Nat) (recs : List (List B32))
  /-- regions of the proxy thimble (R344) -/
  | proxyRegions (recs : List (List B32))
  /-- a panel bound to a virtual switch (R303): panel, virtual switch, register writes -/
  | bind (n v : Nat) (ws : List (Nat × B32 × B32))
  /-- a panel unbound (R303) -/
  | unbind (n : Nat)
  /-- a remote binding (R294): home index, far index, home and far entries -/
  | binding (hi fi : Nat) (home far : List B32)
  deriving DecidableEq, Repr

/-- A staged item with the number of COMMITs done when it was staged. -/
structure Item where
  what : ItemK
  stamp : Nat
  deriving DecidableEq, Repr

/-- An open transaction: owner handle, items in order, parameter bytes, moments of opening and of the last command. -/
structure Txn where
  cred : B32
  items : List Item
  bytes : Nat
  opened : Nat
  last : Nat
  deriving DecidableEq, Repr

/-- A kind-A command (R398): in progress while `ended` is none; then its final status, the occurrence of its completion event
and the log SEQ that event received. -/
structure Async where
  cred : B32
  tag : B32
  opcode : Nat
  obj : Nat
  mode : Nat
  started : Nat
  ended : Option Status
  evId : Option Nat
  seq : Nat
  endTime : Nat
  deriving DecidableEq, Repr

/-- How a request reached the point where it is served: from its transport just now, from the packets its channel held (R385),
from an entry of a mailbox ring (reply buffer, whether the device's writes succeed), or from another node in CMD_FWD
(node, MSEQ, class code, virtual switch). -/
inductive Via where
  | arrive
  | held
  | mbx (rsp : B64) (writeOk : Bool)
  | fwd (node : Nat) (mseq : Nat) (cls vs : Nat)
  deriving DecidableEq, Repr

/-- A request whose one reply is still owed. -/
structure Req where
  h : Hdr
  via : Via
  opcode : Nat
  deriving DecidableEq, Repr

/-- A reply kept for repeats (R389). -/
structure Kept where
  eid : Nat
  tag : B32
  crc : B32
  time : Nat
  reply : Output
  deriving DecidableEq, Repr

/-- One channel (Table 14.1): packets held while Aclia is unavailable or busy with the channel and the bytes they take, kept
replies, EID and dynamic address. Messages in assembly (R381) are no part of it: the block's commands bring complete messages.
A held packet stands with its source endpoint and its bytes. -/
structure ChanSt where
  held : List (Nat × Nat × Instr) := []
  heldBytes : Nat := 0
  kept : List Kept := []
  eid : Nat := 0
  dynAddr : Nat := 0
  deriving DecidableEq, Repr

/-- Command service state: channels, credentials by index, the index pool (next index never opened, freed indexes with their
generation, oldest first), transactions, kind-A commands, image transfer in progress (owner, bytes), count of COMMITs, number of
the COMMIT that last changed each item key, the COMMIT whose reply is owed, and where the request being served came from. -/
structure Cmd where
  chans : SMap ChanSt := []
  creds : SMap (Option Cred) := []
  fresh : Nat := 1
  freed : List (Nat × Nat) := []
  txns : List Txn := []
  asyncs : List Async := []
  xferCred : B32 := 0
  xfer : Bytes := []
  commits : Nat := 0
  stamps : SMap Nat := []
  owed : Option Req := none
  via : Via := .arrive
  /-- allotments of panels (R319): first, count, virtual switch -/
  allot : List (Nat × Nat × Nat) := []
  deriving DecidableEq, Repr

/-! ### Aclia (chapter 13) -/

/-- A boot record copy (R355). -/
structure BootRec where
  valid : Bool := false
  seq : B32 := 0
  active : Bool := false
  trial : Bool := false
  tried : Bool := false
  deriving DecidableEq, Repr

/-- A customer key slot (R204). -/
structure KeySlot where
  enrolled : Bool := false
  revoked : Bool := false
  key : Bytes := []
  deriving DecidableEq, Repr

/-- One sensor's sampling state (R367): last five valid samples, newest first, milliseconds without one, run of valid samples
while stale. -/
structure Sensor where
  win : List Int := []
  miss : Nat := 0
  run : Nat := 0
  deriving DecidableEq, Repr

/-- The debug lock while armed (R375). -/
structure DbgArm where
  challenge : B32
  chan : Nat
  cred : B32
  deriving DecidableEq, Repr

/-- Aclia: availability, halt, watchdog resets (times), flash (boot records, banks, configuration copies), updates, fuses, debug
lock, sensors and the open-drain outputs it drives. -/
structure Aclia where
  up : Bool := false
  /-- the boot ROM waits on the UART for an image (R357) -/
  romWaits : Bool := false
  halted : Bool := false
  wdt : List Nat := []
  boot0 : BootRec := {}
  boot1 : BootRec := {}
  bankA : Bytes := []
  bankB : Bytes := []
  cfgA : Bytes := []
  cfgB : Bytes := []
  /-- bytes received into the bank being written -/
  fwBytes : Nat := 0
  /-- bytes received into the configuration copy being written; a write is in progress while `cfgBusy` -/
  cfgBytes : Nat := 0
  cfgBusy : Bool := false
  /-- owners of the firmware and the image write in progress -/
  fwCred : B32 := 0
  cfgCred : B32 := 0
  /-- the next boot takes the other bank (R354) -/
  fallback : Bool := false
  /-- image arriving over the UART -/
  sram : Bytes := []
  /-- the activation in progress: old version, when it began, whether it is a revert -/
  activating : Option (Nat × Nat × Bool) := none
  arm : Option DbgArm := none
  uid : B64 := 0
  rollback : Nat := 0
  debugLocked : Bool := false
  keys : SMap KeySlot := []
  sensors : SMap Sensor := []
  /-- temperature above 105 °C has been reported and not yet ended, by sensor -/
  aboveOp : List Nat := []
  alertN : Bool := true
  /-- ALERT_N is held by a halt of the cores (R354) -/
  alertHalt : Bool := false
  thermtripN : Bool := true
  deriving DecidableEq, Repr

/-! ### Pace monitors (R21, R22) -/

/-- One reading of one pace monitor: last valid samples (newest first, at most five), run of missing samples, run of valid
samples while substituted, whether it is substituted, and which threshold crossings stand. -/
structure Reading where
  win : List Nat := []
  miss : Nat := 0
  run : Nat := 0
  subst : Bool := true
  faulty : Bool := false
  /-- a crossing event 0x2101 or 0x2102 stands, not yet recovered -/
  low : Bool := false
  /-- thresholds the last filtered value stood above: 0 none, 1 warning, 2 worst-corner bound -/
  lvl : Nat := 0
  deriving DecidableEq, Repr

/-! ### Ports and virtual switches (chapters 2, 3) -/

/-- Why a port's link is disabled (R47): Link Disable on a DSP, DPC, quiesce, containment, fence, reset held from above. -/
structure Dis where
  link : Bool := false
  dpc : Bool := false
  quiesce : Bool := false
  contain : Bool := false
  fence : Bool := false
  sbr : Bool := false
  deriving DecidableEq, Repr

/-- A quiesce in progress on a port: owner handle and tag, mode, and whether it still waits for the slot's owner to switch it off. -/
structure Quiescing where
  cred : B32
  tag : B32
  orderly : Bool
  waiting : Bool
  deriving DecidableEq, Repr

/-- One port beside its registers: attempt count and timer, disable reasons, quiesce in progress, host-written configuration
doublewords by offset, Slot Control write in progress, credits the link partner has given (index 6·VC... per VC and class: header,
data), queues closed by a flush (R111), a surprise link down waiting its 10 ms, slot state the host ignores, last flush counts. -/
structure PortSt where
  attempts : Nat := 0
  timer : Bool := false
  dis : Dis := {}
  quiescing : Option Quiescing := none
  cfg : SMap B32 := []
  slotWrite : Option B16 := none
  txHdr : SMap Nat := []
  txData : SMap Nat := []
  /-- unlimited credit advertised by the partner, by 3·VC + class -/
  txInf : SMap Bool := []
  closed : Bool := false
  /-- the trigger of Table 4.5 that closed them, by row (R112's event detail) -/
  flushTrig : Nat := 0
  /-- FLUSH_MODE as the flush in progress began with it (R112) -/
  flushDrop : Bool := false
  /-- records flushed and lendings suspended since the port's containment entry opened -/
  flushed : Nat := 0
  suspended : Nat := 0
  /-- how the port's containment entry ends, numbered as `ecActive` and its neighbours (Table 8.4, log entry 12) -/
  endCond : Nat := 0
  surprise : Bool := false
  /-- HP_WRITE_IGNORED raised since the last COMMIT (R89) -/
  hpRaised : Bool := false
  /-- the partner has asked for, or the port holds, reduced width (R85) -/
  l0p : Bool := false
  /-- target width and rate, as taken at the last entry to PATTERN (R63) -/
  target : Nat × Nat := (0, 0)
  /-- FLIT_EN and SRIS as taken at the last entry to PATTERN (R63) -/
  flitEn : Bool := true
  sris : Bool := false
  /-- coefficients in force where the partner last asked for them (R52): lane, pre-cursor, cursor, post-cursor -/
  coefs : List (Nat × Nat × Nat × Nat) := []
  /-- the identity that the next TLP had when the link came up: TLPs in flight from it on hold credits this link has advertised (R78) -/
  rxFrom : Nat := 0
  /-- equalization entries by lane, as taken at the last entry to PATTERN (R54) -/
  eq : List (Nat × B32 × B32) := []
  /-- lanes that failed lock in this attempt -/
  failed : Nat := 0
  deriving DecidableEq, Repr

/-- One station: PLL tries made in the series under way (0: none), the 10 ms between two tries, seconds in a row in which the spare
lane kept its limit (R59). -/
structure StnSt where
  tries : Nat := 0
  waiting : Bool := false
  spareOk : Nat := 0
  deriving DecidableEq, Repr

/-- One MSI-X vector of an endpoint function (R341). -/
structure Vec where
  addr : B64 := 0
  data : B32 := 0
  masked : Bool := true
  pending : Bool := false
  deriving DecidableEq, Repr

/-- One endpoint function of a virtual switch: host-written configuration doublewords, MSI-X vectors, in reset. -/
structure EpFn where
  cfg : SMap B32 := []
  vecs : SMap Vec := []
  inReset : Bool := false
  deriving DecidableEq, Repr

/-- One virtual switch: published (R80), held by Secondary Bus Reset (R83), PTM offset (R87), ports that still owe
PME_TO_Ack, configuration requests answered with RRS after a reset, and its two endpoint functions. -/
structure VsSt where
  published : Bool := false
  sbr : Bool := false
  /-- configuration requests answered with Request Retry Status after a reset (R82) -/
  rrs : Bool := false
  ptm : Option B64 := none
  pme : List Nat := []
  pmeWait : Bool := false
  /-- device numbers of downstream ports that have left this virtual switch (R73) -/
  left : List Nat := []
  f0 : EpFn := {}
  f1 : EpFn := {}
  deriving DecidableEq, Repr

/-! ### The switch core (chapters 4, 6) -/

/-- What a non-posted record that leaves with a substituted requester needs from its egress (R131, R135, R297): the original
Requester ID and tag, where the request entered, its lending, and for a fabric return entry the node it came from. -/
structure CrtNeed where
  rid : B16
  tag : B16
  port : Nat
  lent : Bool
  idx : Nat
  /-- the entry is one of the fabric return table (R297) -/
  fret : Bool := false
  node : Nat := 0xFF
  vs : Nat := 0
  /-- bits its completion brings back changed (Table 5.9): 1 Command, 2 Header Type, 3 Next Function Number -/
  patch : Nat := 0
  deriving DecidableEq, Repr

/-- A record in an output queue (R95, Table 4.1) with what the device knows of its TLP: ingress port (0xFE endpoint channel),
ingress virtual switch, ingress node, Requester ID as received, queue class, egress VC, Seam trailer mark, capability-group copy
(R166), the endpoint function it is for (2·VS + function), the return entry it needs, unused bytes before its head, the TLP in
flight it belongs to and whether its last line is written (R101). Destination node and port and route word are those of the
carriage word (Table 9.5). `started` marks a head that a non-FLIT egress has begun to transmit before its last line is written
(R30). -/
structure Rec where
  tlp : Tlp
  btag : B32
  rlen : Nat
  hfmt : Bool
  pass : Bool
  trace : Bool := false
  pcnt : Nat := 0
  ing : Nat
  vs : Nat
  node : Nat
  rid0 : B16
  cls : Nat
  vc : Nat
  marked : Bool := false
  mc : Bool := false
  ep : Nat := 0
  crt : Option CrtNeed := none
  destNode : Nat := 0xFF
  destPort : Nat := 0xFF
  route : B16 := 0
  gap : Nat := 0
  fid : Nat := 0
  committed : Bool := false
  started : Bool := false
  deriving DecidableEq, Repr

/-- A cell of a bank (R94, R109): its index, 0 to 40,959, and the EPOCH of its link entry. -/
structure Cell where
  ix : Nat
  epoch : Bool
  deriving DecidableEq, Repr

/-- One output queue: records in admission order, bytes already delivered from its first cell, its cells in the order their link entries
chain them (so OCC is their number), and whether its last cell's link entry is lost, so that the next admission starts a new cell (R109). -/
structure Queue where
  recs : List Rec := []
  headOff : Nat := 0
  cells : List Cell := []
  cut : Bool := false
  deriving DecidableEq, Repr

/-- A cell that no structure reaches: its index and epoch, and whether the last pass ended with it unmarked (R113). -/
structure LostCell where
  ix : Nat
  epoch : Bool
  unmarked : Bool
  deriving DecidableEq, Repr

/-- One output bank: queues by QID, P_ADMIT and P_SENT by count (QID of the posted queue), bank epoch, the stack of free cells (those
returned, top first, above those from `fresh` to 40,959 that no queue has taken yet), lost cells, residue chains by 1024·QID + ingress,
QID and ingress of each residue record in arrival order, the moment of the latest drop flush or truncation, the round-robin pointers of
R106 (class served last by 2·port + VC, VC served last by port), the input the write port granted last (R96) and the client the read
port granted last (R97). -/
structure Bank where
  qs : SMap Queue := []
  freed : List Nat := []
  fresh : Nat := 0
  pAdmit : SMap Nat := []
  pSent : SMap Nat := []
  epoch : Bool := false
  lost : List LostCell := []
  chains : SMap Queue := []
  arrivals : List (Nat × Nat) := []
  lastDrop : Option Nat := none
  rrCls : SMap Nat := []
  rrVc : SMap Nat := []
  wrLast : Nat := 15
  rdLast : Nat := 10
  deriving DecidableEq, Repr

/-- One destination of a TLP in flight: bank, QID, admitted (into its queue or, `residue`, into the residue store), committed,
trace rule + 1 for a trace copy, the lines of its record still to be written (R96), and the record that goes there. -/
structure Dest where
  bank : Nat
  qid : Nat
  r : Rec
  admitted : Bool := false
  residue : Bool := false
  committed : Bool := false
  trace : Nat := 0
  left : Nat := 0
  deriving DecidableEq, Repr

/-- The classifier context that a header takes along into the Bobbin path (Table 7.2): RCLASS, AGROUP, WIN_IDX, REQ_IDX, LEND_IDX,
PROG_SRC, DEST, ADDR, RID. -/
structure Hand where
  rclass : Nat := 0
  agroup : Nat := 0
  win : Nat := 0xFFFF
  req : Nat := 0xFFFF
  lend : Nat := 0xFFFF
  progSrc : Nat := 0
  dest : Nat := 0
  addr : B64 := 0
  rid : B16 := 0
  deriving DecidableEq, Repr

/-- A TLP between classification and commitment (R101, R149): identity, where it entered this device (port, 256 + v for the
endpoint channel of VSv), its ingress class and VC, its TLP as received, destinations, whether it has entered the crossbar,
whether its group is served through the residue store, and the units it holds of a Seam class. -/
structure Flight where
  id : Nat
  src : Nat
  cls : Nat
  vc : Nat
  tlp0 : Tlp
  dests : List Dest
  entered : Bool := false
  resGroup : Bool := false
  repl : Bool := false
  units : Nat := 0
  scls : Nat := 0
  /-- the station that classified it, its ingress virtual switch and fabric time at stage 6 -/
  stn : Nat := 0
  vs : Nat := 0xFF
  t6 : B64 := 0
  /-- not in the Bobbin path of its station, or back from it (R180) -/
  ready : Bool := true
  /-- trace rules whose sampler has fired on it and not been served, all that fired, rules that ask for a trace copy (R171, R191) -/
  fired : List Nat := []
  firedAll : List Nat := []
  traceReq : List Nat := []
  /-- stage 5 has translated it (Table 6.2) -/
  translated : Bool := false
  /-- the context it was handed off with, if PROG was set and its class has a program (R178) -/
  hand : Option Hand := none
  deriving DecidableEq, Repr

/-- One quadrant: when its recovery began (the stall declared), and when its last recovery ended. -/
structure QuadSt where
  since : Nat := 0
  recoveredAt : Option Nat := none
  deriving DecidableEq, Repr

/-- One trace sampler (R172): matches left until it fires, generator state (0 stands for its seed). -/
structure Sampler where
  left : Nat := 0
  lfsr : B32 := 0
  deriving DecidableEq, Repr

/-- One entry of the sample ring (Table 6.2). -/
structure Sample where
  time : B64
  seq : Nat
  rule : Nat
  ing : Nat
  dest : Nat
  flags : Nat
  rlen : Nat
  btag : B32
  head : Bytes
  deriving DecidableEq, Repr

/-- The switch core: banks by station, TLPs in flight, next identity, quadrants, samplers by 16·station + rule, sample ring
(newest last), moment of the last sample entry, and pace readings (2·monitor for handshake, 2·monitor + 1 for Bobbin). -/
structure Core where
  banks : SMap Bank := []
  flights : List Flight := []
  nextId : Nat := 0
  quads : SMap QuadSt := []
  samplers : SMap Sampler := []
  samples : List Sample := []
  lastSample : Option Nat := none
  pace : SMap Reading := []
  deriving DecidableEq, Repr

/-! ### Station tables (chapter 5) -/

/-- The station tables as 32-bit words, keyed by table, station, entry and word (Tables 5.4, 5.5, 5.7, 5.8, R130); the words a
COMMIT has written to the shadow copy and no flip has made active yet; uncorrectable words; moments lendings began
releasing; lendings waiting for an orderly reclaim. -/
structure Tbl where
  words : SMap B32 := []
  shadow : List (Nat × B32) := []
  /-- port defaults that a COMMIT has written and no flip has made active yet: address, word -/
  flipRegs : List (Nat × B32) := []
  /-- register writes in the shadow copies since the last COMMIT: address, mask, value (R10) -/
  regShadow : List (Nat × B32 × B32) := []
  bad : List Nat := []
  /-- requests discarded per releasing lending (key station·256 + index) -/
  discards : SMap Nat := []
  /-- mode of the reclaim in progress + 1 -/
  reclaim : SMap Nat := []
  /-- borrower-side configuration doublewords of virtual downstream ports and lent functions -/
  vdp : SMap B32 := []
  /-- what a lending's physical function was found to be -/
  probes : SMap SrIov := []
  /-- completion return entries (port·256 + tag) whose completion is changed, with how -/
  patches : SMap Nat := []
  deriving DecidableEq, Repr

/-! ### Bobbin engines (chapter 7) -/

/-- A run in progress (R179): the TLP, its class and VC, the header window and basting tag as dispatched and as they stand, HDR_LEN,
NPFX, the thimble epoch it is checked against, the moment of dispatch, rules asked for by TRACE, LDT results on their way as
(register, value, instructions still to pass), and a slot of the program whose word the decoder corrects (1) or cannot correct (2). -/
structure BRun where
  fid : Nat
  cls : Nat
  vc : Nat
  win : Bytes
  win0 : Bytes
  tag : B32
  tag0 : B32
  hdrLen : Nat
  npfx : Nat
  epoch : Nat
  since : Nat := 0
  rules : List Nat := []
  loads : List (Nat × B64 × Nat) := []
  bad : Option (Nat × Nat) := none
  deriving DecidableEq, Repr

/-- One engine beside its registers: g1 to g15, program counter, run, data space, whether it has changed over to the staging image,
the moments of its last restoration and of its last loss, events its sampler has counted, a sample that is due (PC that completed
the count, class, instructions executed since), and its sample ring (newest last) with the next SEQ. -/
structure BEng where
  regs : SMap B64 := []
  pc : Nat := 0
  run : Option BRun := none
  data : SMap B8 := []
  newImage : Bool := false
  /-- the next copy read-back of this swap is the second one -/
  copied : Bool := false
  restoredAt : Option Nat := none
  outAt : Nat := 0
  count : Nat := 0
  due : Option (Nat × Nat × Nat) := none
  ring : List B64 := []
  seq : Nat := 0
  /-- STN_BE_SMP_CTL as the run in progress goes by it -/
  smp : Nat := 0
  deriving DecidableEq, Repr

/-- The cluster of one station: hand-off queues by 3·VC + class (oldest first), the queue served last, rejoin buffers, active and
staging image buffers, the swap in progress (1 CUT, 2 ROLLING), its start, engines that failed in it, whether 0x4015 stands, the start of
a fence in progress and the runs it has ended, headers that wait for a place in a full hand-off queue (oldest first), whether the swap has
made its epoch current, and posted headers and completions that verdicts and faults have discarded. -/
structure BStn where
  queues : SMap (List Nat) := []
  served : Nat := 5
  rejoin : List Nat := []
  active : Bytes := []
  staging : Bytes := []
  swap : Nat := 0
  swapAt : Nat := 0
  failed : Nat := 0
  none15 : Bool := false
  fenceAt : Nat := 0
  ended : Nat := 0
  waiting : List Nat := []
  stepped : Bool := false
  discards : Nat := 0
  deriving DecidableEq, Repr

/-- Bobbin state: engines, clusters, the shared table space as 64-bit words keyed by station·2^17 + word, and its uncorrectable words. -/
structure Bob where
  eng : SMap BEng := []
  stn : SMap BStn := []
  words : SMap B64 := []
  bad : List Nat := []
  deriving DecidableEq, Repr

/-! ### Late errors (chapter 8) -/

/-- A late-error log entry (Table 8.8) and whether a reader has fetched it. -/
structure LateEnt where
  time : B64
  moment : Nat
  seq : Nat
  rid : B16
  ing : Nat
  vs : Nat
  node : Nat
  discNode : Nat
  discPort : Nat
  cause : Nat
  len : Nat
  count : Nat
  addr : B64
  fetched : Bool
  deriving DecidableEq, Repr

/-- Late errors: log, oldest first; times of recent integrity discards by station. -/
structure Late where
  log : List LateEnt := []
  discards : SMap (List Nat) := []
  deriving DecidableEq, Repr

/-! ### Seam links (chapter 9) -/

/-- A DATA flit in the replay store (R249): sequence number, the record that starts in it (class, units), and the posted or other
TLP it carries the last byte of, its payload, and MARK. -/
structure SentFlit where
  seq : Nat
  cls : Nat
  units : Nat
  r : Option Rec
  /-- CONS by class after this flit (R263) -/
  cons : List Nat
  payload : Bytes
  mark : Bool
  deriving DecidableEq, Repr

/-- A record that has started on a Seam link and is not yet in the bank whole (R246): its class, and the bytes of it still to send. -/
structure TxOpen where
  cls : Nat
  left : Nat
  deriving DecidableEq, Repr

/-- A record being received (R248, R255): class, units, carriage word, TLP, whether its last byte has passed, MARK. -/
structure RxRec where
  cls : Nat
  units : Nat
  car : Carriage
  tlp : Tlp
  done : Bool
  mark : Bool
  deriving DecidableEq, Repr

/-- An unacknowledged bypass message (R265): BSEQ, message, sends. -/
structure SentMsg where
  bseq : Nat
  msg : BMsg
  sends : Nat
  deriving DecidableEq, Repr

/-- One Seam link beside its registers. Sender: replay store, next flit to resend, NAK that started the last replay and when,
waiting expiry, CONS and FREED by class, partner reservations and shared pool, partner in on/off mode. Receiver: records, units
received and freed by class, an audit to compare, fallback times, moment of the last trigger. Bypass: unacknowledged
messages. Lanes: receive and transmit substitutions in progress, their start. Training: step, flags seen, RTT measurements. -/
structure SeamSt where
  store : List SentFlit := []
  replayFrom : Option Nat := none
  lastNak : Option (Nat × Nat) := none
  expiryWaits : Bool := false
  ackedSince : Bool := false
  cons : SMap Nat := []
  freed : SMap Nat := []
  pRes : List Nat := []
  pShared : Nat := 0
  pOnoff : Bool := false
  rx : List RxRec := []
  rxUnits : SMap Nat := []
  rxFreed : SMap Nat := []
  audit : Option (Nat × List Nat) := none
  falls : List Nat := []
  msgs : List SentMsg := []
  subRx : Option (Nat × Nat) := none
  subTx : Option Nat := none
  step : Nat := 0
  seenReady : Bool := false
  rate128 : Bool := false
  rtts : List Nat := []
  /-- moment a substitution was last in force (R299) -/
  pauseTime : Option Nat := none
  /-- class served last (R238), and the class of a record that has started and waits for bytes (R246) -/
  rr : Nat := 3
  txOpen : Option TxOpen := none
  /-- FEC corrections of the last 4 µs: moment and logical lane (R266) -/
  corrs : List (Nat × Nat) := []
  /-- the class whose count the next header returns (R258) -/
  crTurn : Nat := 0
  /-- CONS by class at the last released flit; received units by class after each of the flits accepted last, newest first -/
  relCons : List Nat := [0, 0, 0, 0]
  rxHist : List (Nat × List Nat) := []
  /-- moments on/off mode began and of its last trigger -/
  onSince : Nat := 0
  trigAt : Nat := 0
  /-- bypass messages that wait for one of the 64 places -/
  bwait : List BMsg := []
  /-- seals received and not yet consumed: class, round, identity that later TLPs have reached -/
  seals : List (Nat × Nat × Nat) := []
  /-- seals to send that their queues have not admitted yet: round, class (R100) -/
  sealWait : List (Nat × Nat) := []
  deriving DecidableEq, Repr

/-! ### Fabric (chapter 10) -/

/-- What a node has heard of another node. -/
structure NodeInfo where
  uid : B64 := 0
  known : Bool := false
  dup : Bool := false
  mgrCap : Bool := false
  heard : Nat := 0
  startStep : Nat := 0
  links : List TopoLink := []
  /-- the virtual switches of the node that hold an upstream port, as a mask (R281) -/
  usps : Nat := 0
  deriving DecidableEq, Repr

/-- A control message awaiting its reply (R291): MSEQ, destination, type, fields, sends, and the request a CMD_FWD
serves. -/
structure CtlOut where
  mseq : Nat
  dest : Nat
  kind : Nat
  fields : List Nat
  sends : Nat
  req : Option Req
  deriving DecidableEq, Repr

/-- One fabric return entry (R297). -/
structure Fret where
  origRid : B16
  origTag : B16
  origNode : Nat
  origVs : Nat
  proxy : B16
  deriving DecidableEq, Repr

/-- Fabric state: nodes heard, candidate and rounds as own candidate, rounds of manager silence, staged table pieces (address,
word), hold in force (affected nodes, epoch), GO time, seal rounds received by 4·station + class, rounds sent, failed ingresses,
SEALED reports, link events gathered, control messages outstanding, next MSEQ, fabric return tables by 1024·station + tag,
time synchronisation counts, remaining slew in quarter nanoseconds, reroute start, whether a change runs. -/
structure Fab where
  nodes : SMap NodeInfo := []
  cand : Nat := 0xFF
  ownRounds : Nat := 0
  silent : Nat := 0
  round : Nat := 0
  pieces : List (Nat × B32) := []
  hold : Option (Nat × Nat) := none
  goAt : Option (Nat × B64) := none
  sealRx : SMap Nat := []
  sealTx : Nat := 0
  failed : Nat := 0
  sealedBy : List Nat := []
  ready : List Nat := []
  events : List (Nat × Nat × Nat) := []
  out : List CtlOut := []
  mseq : Nat := 0
  fret : SMap (Option Fret) := []
  small : Nat := 0
  large : Nat := 0
  slew : Int := 0
  rerouteAt : Nat := 0
  running : Bool := false
  lastTopo : Nat := 0
  /-- a manager node dropped as silent, until it is heard again; the last time reference (R300) -/
  dropped : Nat := 0xFF
  lastRef : Nat := 0xFF
  /-- a publication in progress, the digest each node's READY is expected to carry, and pieces for other nodes (node, address, word) -/
  publishing : Bool := false
  expect : SMap Nat := []
  far : List (Nat × Nat × B32) := []
  /-- words of this node's tables that a COMMIT has left for the next GO (address, word) -/
  own : List (Nat × B32) := []
  /-- what the manager node has published: route words other than 0 by 192·node + word, and the rank distance of each node (R281, R286) -/
  tables : SMap Nat := []
  ranks : List (Nat × Nat) := []
  /-- virtual switches of this device that the manager node leaves unpublished (R281) -/
  unpub : List Nat := []
  /-- control messages that wait for Aclia, the oldest first (R16) -/
  held : List CtlMsg := []
  deriving DecidableEq, Repr

/-! ### Slot power (chapter 16) -/

/-- One slot power controller beside its registers (R431 to R443): PERST_N high, the moment of the last ramp start, how long that
ramp took, moments of PGOOD's release and of the last trip, retry delay of that trip, an orderly off under way, the fault condition
is VOUT's, VIN warning, budget deferral reported in this wait, retry reported since the last on command, presence or button half of
a toggle seen while latched, moment of presence. -/
structure SpcSt where
  perst : Bool := false
  gateAt : Nat := 0
  rampTime : Nat := 0
  pgoodAt : Nat := 0
  tripAt : Option Nat := none
  delay : Nat := 0
  offing : Bool := false
  volt : Bool := false
  vinWarn : Bool := false
  deferred : Bool := false
  retried : Bool := false
  gone : Bool := false
  pressed : Bool := false
  presentAt : Nat := 0
  inForce : Option B32 := none
  deriving DecidableEq, Repr

/-- Slot power: controllers, the queue of controllers in WAIT (first in first out), the last ramp start of SPC0 to SPC15, and
the latch-offs held in the subsoil domain (R428). -/
structure Spc where
  ctl : SMap SpcSt := []
  wait : List Nat := []
  lastRamp : Option Nat := none
  latched : List Nat := []
  deriving DecidableEq, Repr

/-! ### Shuttle (chapter 11) -/

/-- What a grant slot named before a change that has not yet taken effect (R317): slot, grant, base, bytes, R and W. -/
structure OldGrant where
  slot : Nat
  grant : Nat
  base : Nat
  bytes : Nat
  r : Bool
  w : Bool
  deriving DecidableEq, Repr

/-- One panel beside its registers: doorbell values and messages (Tables 11.6, 11.8), the descriptor in progress and how far its
writes that are final (DONE), its writes issued and its reads issued have come, totals since bind, descriptors fetched ahead,
whether a flush read is outstanding, the status its descriptor ends with after that read, grant slots changed since the last
chunk boundary, why it is stopping, moment of the freeze opcode, moment of the last completion message and whether one is owed,
local pages whose translation is awaited (page, access to write). -/
structure PanelSt where
  sqTail : Nat := 0
  cqHead : Nat := 0
  cqTail : Nat := 0
  phase : Bool := true
  tmsg : B32 := 0
  mmsg : B32 := 0
  cur : Option Bytes := none
  done : Nat := 0
  wr : Nat := 0
  rd : Nat := 0
  descDone : Nat := 0
  bytes : Nat := 0
  fetched : List Bytes := []
  flushing : Bool := false
  /-- a flush read that waits for Bus Master Enable -/
  flushOwed : Bool := false
  ending : Option Nat := none
  /-- slots changed since the last chunk boundary, with the grants they had, the oldest change first (R317) -/
  revoked : List OldGrant := []
  cause : Nat := 0
  since : Nat := 0
  lastMsg : Option Nat := none
  owedMsg : Bool := false
  atsWait : List (Nat × Bool) := []
  deriving DecidableEq, Repr

/-- One Shuttle read outstanding or waiting in staging: tag, panel, place and length in the descriptor, target address of its
writes, translations it and its writes use (virtual switch, PASID, page), its data when it has arrived, and whether its panel has
abandoned it. -/
structure ShRead where
  tag : Nat
  panel : Nat
  off : Nat
  len : Nat
  src : Nat
  dst : Nat
  pages : List (Nat × Nat × Nat)
  data : Option Bytes := none
  dead : Bool := false
  deriving DecidableEq, Repr

/-- One mover: panel held, bytes left of its quantum, reads in issue order. -/
structure MoverSt where
  panel : Option Nat := none
  left : Nat := 0
  reads : List ShRead := []
  deriving DecidableEq, Repr

/-- One entry of the Shuttle translation cache (R314). -/
structure AtsEnt where
  v : Nat
  pasid : Nat
  page : Nat
  read : Bool
  write : Bool
  phys : Nat
  deriving DecidableEq, Repr

/-- Shuttle: panels, movers, the panel taken last, translation cache, invalidations not yet completed (virtual switch, tag, reads
that still use what they removed, as mover and tag). -/
structure Sht where
  panels : SMap PanelSt := []
  movers : SMap MoverSt := []
  last : Nat := 4095
  atc : List AtsEnt := []
  inv : List (Nat × Nat × List (Nat × Nat)) := []
  deriving DecidableEq, Repr

/-! ### Host endpoint, thimbles and counters (chapter 12) -/

/-- One access in a host-proxy queue (R336 to R338): a read of a length in bytes with its tag, or a write of some doublewords with
all byte enables set or not. -/
inductive ProxyAcc where
  | read (off len : Nat) (tag : B16)
  | write (off : Nat) (data : List B32) (full : Bool)
  deriving DecidableEq, Repr

/-- One thimble (R343, R344): region records in force, those of the epoch before, epoch, fence pending, and accesses of the older
epoch still outstanding. -/
structure ThimbleSt where
  regions : List (List B32) := []
  old : List (List B32) := []
  epoch : Nat := 0
  fence : Bool := false
  bad : List Nat := []
  deriving DecidableEq, Repr

/-- One counter sample entry (Table 12.7). -/
structure PmcSample where
  time : B64
  seq : Nat
  unit : Nat
  counter : Nat
  values : List B32
  deriving DecidableEq, Repr

/-- Host endpoint: high-word latches by initiator (R9: the high word's address and value; initiators 0 to 3 the Aclia cores, 4 the
central reader, 5 + v the proxy for VSv), proxy queues by virtual switch, thimbles by number, last reading of each counter by
8·unit + counter, sample ring (newest last), moment of the last sample, moment of the last sweep, sweep sequence, and samples lost
since the last record. -/
structure Ep where
  latch : SMap (Option (Nat × B32)) := []
  proxy : SMap (List ProxyAcc) := []
  thimbles : SMap ThimbleSt := []
  prev : SMap B32 := []
  samples : List PmcSample := []
  lastSample : Option Nat := none
  sweepTime : B64 := 0
  sweepSeq : Nat := 0
  lost : Nat := 0
  deriving DecidableEq, Repr

/-! ### Reset, power and clocks (chapter 15) -/

/-- Reset state: main logic in reset and not released, HRST_N driven, moment of the last release, strap samples of the reset under
way, the cause that began it, start order of stations, moments at which domains were asked for, REFCLK losses, the domain a
PD_SET works on, the block being reset and the moment a clock or a core reference changed. -/
structure Pow where
  /-- main logic has been released from reset -/
  running : Bool := false
  /-- HRST_N is driven low by this device -/
  driving : Bool := true
  samples : List Nat := []
  /-- main supplies are below their thresholds -/
  supplyLow : Bool := false
  /-- VAUX3 is up: PD63 is on -/
  stby : Bool := true
  releasedAt : Nat := 0
  lastStart : Option Nat := none
  /-- rows 2 to 6 of Table 15.6 have been asked for -/
  sequenced : Bool := false
  reqAt : SMap Nat := []
  lostAt : SMap Nat := []
  /-- domains switched off by PD_SET -/
  offBySet : List Nat := []
  /-- block under reset: code and station -/
  block : Option (Nat × Nat) := none
  /-- base pair of subsoil time (R409): fabric nanoseconds and ticks -/
  baseNs : B64 := 0
  baseTicks : Nat := 0
  /-- Aclia has loaded its configuration since the last release -/
  loaded : Bool := false
  /-- DEVICE_RESET replied: its kind, until it acts 10 ms later -/
  pendingReset : Option Nat := none
  deriving DecidableEq, Repr

/-! ### The whole machine -/

/-- The state of the H7272. -/
structure State where
  pending : List Instr := []
  out : List Output := []
  clk : Clk := {}
  regs : SMap B32 := []
  evs : Evs := {}
  cmd : Cmd := {}
  acl : Aclia := {}
  ports : SMap PortSt := []
  vss : SMap VsSt := []
  core : Core := {}
  tbl : Tbl := {}
  bob : Bob := {}
  late : Late := {}
  seams : SMap SeamSt := []
  fab : Fab := {}
  spc : Spc := {}
  sht : Sht := {}
  ep : Ep := {}
  stns : SMap StnSt := []
  pow : Pow := {}
  deriving DecidableEq, Repr

/-- The state right after reset: every register at the value its table states (Machine/RegTable.lean), every queue and table
empty, every flag down. Values the spec does not state are those of log entry 3. -/
def State.reset : State := {}

/-- What a step answers. -/
abbrev Res := Host.Outcome State Fault Refusal

end Sys2Proof.Machine
end

