-- ==== Sys2Proof/Machine/Ops.lean ====
section
/-!
DEFINITION. Machine/Ops.lean: the named operations over the state that every family uses: register words and fields, counters,
events under R371 and R372 with their log rate limits, outputs, free values, MSI-X vectors, and the maps of ports, virtual
switches, banks and Seam links.
-/

namespace Sys2Proof.Machine

/-! ### Registers -/

/-- A register's stored word. -/
def State.reg (s : State) (a : Nat) : B32 := SMap.get regDflt s.regs a

/-- Store a register word. -/
def State.setReg (s : State) (a : Nat) (v : B32) : State := { s with regs := SMap.set regDflt s.regs a v }

/-- A register field. -/
def State.get (s : State) (f : Fld) : Nat := f.of (s.reg f.addr)

/-- A one-bit field as a truth value. -/
def State.flag (s : State) (f : Fld) : Bool := s.get f != 0

/-- Write a register field (the value is cut to the field). -/
def State.put (s : State) (f : Fld) (v : Nat) : State := s.setReg f.addr (f.into (s.reg f.addr) v)

/-- Write a one-bit field. -/
def State.putB (s : State) (f : Fld) (b : Bool) : State := s.put f (b2n b)

/-- Advance a saturating counter field by n. -/
def State.bumpN (s : State) (f : Fld) (n : Nat) : State := s.put f (min (2 ^ f.w - 1) (s.get f + n))

/-- Advance a saturating counter field by one. -/
def State.bump (s : State) (f : Fld) : State := s.bumpN f 1

/-- Advance a wrapping counter field by n. -/
def State.bumpWrap (s : State) (f : Fld) (n : Nat) : State := s.put f (s.get f + n)

/-! ### Maps with a plain default -/

def State.port (s : State) (p : Nat) : PortSt := SMap.get (fun _ => {}) s.ports p
def State.modPort (s : State) (p : Nat) (f : PortSt → PortSt) : State :=
  { s with ports := SMap.set (fun _ => {}) s.ports p (f (s.port p)) }

def State.vs (s : State) (v : Nat) : VsSt := SMap.get (fun _ => {}) s.vss v
def State.modVs (s : State) (v : Nat) (f : VsSt → VsSt) : State :=
  { s with vss := SMap.set (fun _ => {}) s.vss v (f (s.vs v)) }

def State.bank (s : State) (b : Nat) : Bank := SMap.get (fun _ => {}) s.core.banks b
def State.modBank (s : State) (b : Nat) (f : Bank → Bank) : State :=
  { s with core := { s.core with banks := SMap.set (fun _ => {}) s.core.banks b (f (s.bank b)) } }

def State.seam (s : State) (i : Nat) : SeamSt := SMap.get (fun _ => {}) s.seams i
def State.modSeam (s : State) (i : Nat) (f : SeamSt → SeamSt) : State :=
  { s with seams := SMap.set (fun _ => {}) s.seams i (f (s.seam i)) }

def State.chan (s : State) (c : Nat) : ChanSt := SMap.get (fun _ => {}) s.cmd.chans c
def State.modChan (s : State) (c : Nat) (f : ChanSt → ChanSt) : State :=
  { s with cmd := { s.cmd with chans := SMap.set (fun _ => {}) s.cmd.chans c (f (s.chan c)) } }

def State.stn (s : State) (st : Nat) : StnSt := SMap.get (fun _ => {}) s.stns st
def State.modStn (s : State) (st : Nat) (f : StnSt → StnSt) : State :=
  { s with stns := SMap.set (fun _ => {}) s.stns st (f (s.stn st)) }

def State.eng (s : State) (e : Nat) : BEng := SMap.get (fun _ => {}) s.bob.eng e
def State.modEng (s : State) (e : Nat) (f : BEng → BEng) : State :=
  { s with bob := { s.bob with eng := SMap.set (fun _ => {}) s.bob.eng e (f (s.eng e)) } }

def State.bstn (s : State) (st : Nat) : BStn := SMap.get (fun _ => {}) s.bob.stn st
def State.modBstn (s : State) (st : Nat) (f : BStn → BStn) : State :=
  { s with bob := { s.bob with stn := SMap.set (fun _ => {}) s.bob.stn st (f (s.bstn st)) } }

/-- A thimble at reset: T292 holds one region over the whole device register space (log entry 14), the others none. -/
def thmDflt (n : Nat) : ThimbleSt := if n = 292 then { regions := [[0, 0x3FFFFFF, 3, 0]] } else {}
def State.thm (s : State) (n : Nat) : ThimbleSt := SMap.get thmDflt s.ep.thimbles n
def State.modThm (s : State) (n : Nat) (f : ThimbleSt → ThimbleSt) : State :=
  { s with ep := { s.ep with thimbles := SMap.set thmDflt s.ep.thimbles n (f (s.thm n)) } }

/-! ### Outputs, free values, time -/

/-- Append an output. -/
def State.emit (s : State) (o : Output) : State := { s with out := s.out ++ [o] }

/-- Take the next free value's number. -/
def State.nextFree (s : State) : State := { s with clk := { s.clk with free := s.clk.free + 1 } }

/-- Fabric time as a natural number of nanoseconds. -/
def State.fabNow (s : State) : Nat := s.clk.fab.toNat

/-- The subsoil tick count (R409): 32.768 kHz ticks since the last subsoil power-on, 48 bits. -/
def State.ssTicks (s : State) : Nat := ((s.clk.now - s.clk.ssZero) * 32768 / 1000000000) % 2 ^ 48

/-! ### Events (R371, R372) -/

/-- TIME_FREE of R410: a fabric node neither LOCKED nor the reference, or the core PLL on the standby oscillator. -/
def State.timeFree (s : State) : Bool :=
  (s.get F.FAB_ID_NODE_ID != 0xFF && s.get F.FAB_TIME_STAT_SYNC < 2) || s.flag F.GLB_STATUS_CORE_REF_INT

/-- The scope of a station, port, virtual switch, panel and node. -/
def scStn (s : Nat) : Nat := 0x1000 + s
def scPort (p : Nat) : Nat := 0x2000 + p
def scVs (v : Nat) : Nat := 0x3000 + v
def scPanel (n : Nat) : Nat := 0x4000 + n
def scNode (n : Nat) : Nat := 0x5000 + n
def scDev : Nat := 0xFFFF

/-- The event RAM of a block. -/
def State.ram (s : State) (src : Nat) : EvRam := SMap.get (fun _ => {}) s.evs.ram src

/-- A block raises an event: held if its RAM of 64 records has room, else counted as dropped (R372). -/
def State.raiseF (s : State) (src code sev scope flags : Nat) (detail : List Nat) : State :=
  let r := s.ram src
  let e : Ev := { id := s.evs.next, time := s.clk.fab, code := code, sev := sev, src := src, scope := scope,
                  flags := flags + (if s.timeFree then 4 else 0) + (if r.dropped > 0 then 2 else 0),
                  gap := r.dropped, detail := detail }
  let r' : EvRam := if r.held.length < 64 then { held := r.held ++ [e], dropped := 0 }
                    else { r with dropped := r.dropped + 1 }
  { s with evs := { s.evs with next := s.evs.next + 1, ram := SMap.set (fun _ => {}) s.evs.ram src r' } }

/-- A block raises an event without flags of its own. -/
def State.raise (s : State) (src code sev scope : Nat) (detail : List Nat) : State :=
  s.raiseF src code sev scope 0 detail

/-- An event logged on the first occurrence and then at most once per `period` ns for each object `key`, with the count since the
last record at the end of its detail. -/
def State.raiseLim (s : State) (period key src code sev scope flags : Nat) (detail : List Nat) : State :=
  let k := code * 2 ^ 32 + key
  let r : Rate := SMap.get (fun _ => {}) s.evs.rate k
  if r.seen && decide (s.clk.now < r.last + period) then
    { s with evs := { s.evs with rate := SMap.set (fun _ => {}) s.evs.rate k { r with count := r.count + 1 } } }
  else
    ({ s with evs := { s.evs with rate := SMap.set (fun _ => {}) s.evs.rate k ⟨true, s.clk.now, 0⟩ } }).raiseF
      src code sev scope flags (detail ++ [r.count])

/-- The same limit for an event whose table states no count. -/
def State.raiseQuiet (s : State) (period key src code sev scope : Nat) (detail : List Nat) : State :=
  let k := code * 2 ^ 32 + key
  let r : Rate := SMap.get (fun _ => {}) s.evs.rate k
  if r.seen && decide (s.clk.now < r.last + period) then s
  else ({ s with evs := { s.evs with rate := SMap.set (fun _ => {}) s.evs.rate k ⟨true, s.clk.now, 0⟩ } }).raise
    src code sev scope detail

/-- 100 ms in ns. -/
def ms100 : Nat := 100000000

/-- The SOURCE code of station s. -/
def srcStn (s : Nat) : Nat := 0x10 + s

/-! ### MSI-X (R341) -/

def VsSt.fn (v : VsSt) (f : Bool) : EpFn := if f then v.f1 else v.f0
def VsSt.modFn (v : VsSt) (f : Bool) (g : EpFn → EpFn) : VsSt :=
  if f then { v with f1 := g v.f1 } else { v with f0 := g v.f0 }

/-- Reset values of an endpoint function's writable doublewords: Device Control, AER masks and severity as PCI Express Base
Specification 7.0 resets them (log entry 11). -/
def epDflt (off : Nat) : B32 :=
  if off = 0x78 then 0x00002810 else if off = 0x108 then 0x00400000 else if off = 0x10C then 0x00462030
  else if off = 0x114 then 0x0000E000 else 0

/-- A configuration doubleword of an endpoint function as its host left it. -/
def EpFn.dw (f : EpFn) (off : Nat) : Nat := (SMap.get epDflt f.cfg off).toNat
def EpFn.setDw (f : EpFn) (off v : Nat) : EpFn :=
  { f with cfg := SMap.set epDflt f.cfg off (BitVec.ofNat 32 v) }

/-- Memory Space Enable and Bus Master Enable: bits 1 and 2 of the Command register. -/
def EpFn.mse (f : EpFn) : Bool := bit (f.dw 0x04) 1
def EpFn.bme (f : EpFn) : Bool := bit (f.dw 0x04) 2
/-- D3hot: PowerState of the Power Management capability is 3 (offset of log entry 11). -/
def EpFn.d3 (f : EpFn) : Bool := bits (f.dw 0x44) 0 2 = 3
/-- MSI-X Enable and Function Mask: bits 31 and 30 of the MSI-X capability's first doubleword, at 0x50 (Table 12.1). -/
def EpFn.msixEn (f : EpFn) : Bool := bit (f.dw 0x50) 31
def EpFn.fnMask (f : EpFn) : Bool := bit (f.dw 0x50) 30
def EpFn.vec (f : EpFn) (i : Nat) : Vec := SMap.get (fun _ => {}) f.vecs i
def EpFn.setVec (f : EpFn) (i : Nat) (v : Vec) : EpFn := { f with vecs := SMap.set (fun _ => {}) f.vecs i v }

/-- Whether a vector may send now. -/
def EpFn.maySend (f : EpFn) (i : Nat) : Bool :=
  f.msixEn && f.bme && !f.fnMask && !(f.vec i).masked && !f.inReset

/-- A vector's source fires: pending is set, and one message leaves, clearing it, when the vector may send. The answer says
whether a message left. -/
def State.fireMsg (s : State) (v : Nat) (fn : Bool) (i : Nat) : State × Bool :=
  let f := (s.vs v).fn fn
  let x := f.vec i
  if f.maySend i then
    ((s.modVs v (fun w => w.modFn fn (fun g => g.setVec i { x with pending := false }))).emit (.msix v fn i x.addr x.data), true)
  else (s.modVs v (fun w => w.modFn fn (fun g => g.setVec i { x with pending := true })), false)

/-! ### Counter units (R346, R348) -/

/-- Which of the filters PORT, CLASS and VCMASK a counter event names (Table 12.6). -/
def evFilters (ev : Nat) : Bool × Bool × Bool :=
  if 1 ≤ ev ∧ ev ≤ 5 then (true, true, true)
  else if ev = 6 ∨ ev = 0x0A ∨ ev = 0x0B then (true, false, false)
  else if ev = 7 ∨ ev = 8 then (false, true, false)
  else if ev = 9 then (false, true, true)
  else (false, false, false)

/-- Counter c of unit u counts an event of port k, class cls and VC vc (k 16: no port of the station). -/
def State.cntSees (s : State) (u c ev k cls vc : Nat) : Bool :=
  let (fp, fc, fv) := evFilters ev
  let p := s.get (F.PMU_CNT_CTL_PORT u c)
  s.get (F.PMU_CNT_CTL_EVSEL u c) == ev && !(c % 2 == 1 && s.flag (F.PMU_CNT_CTL_CHAIN u c))
    && (!fp || p == 15 || p == k) && (!fc || bit (s.get (F.PMU_CNT_CTL_CLASS u c)) cls)
    && (!fv || bit (s.get (F.PMU_CNT_CTL_VCMASK u c)) vc)

/-- A 64-bit accumulator of the central reader (R347). -/
def State.acc (s : State) (u c : Nat) : Nat := s.get (F.PMC_ACC_LO_ACC_LO u c) + s.get (F.PMC_ACC_HI_ACC_HI u c) * 2 ^ 32
def State.setAcc (s : State) (u c v : Nat) : State :=
  (s.put (F.PMC_ACC_LO_ACC_LO u c) (v % 2 ^ 32)).put (F.PMC_ACC_HI_ACC_HI u c) (v / 2 ^ 32)
def State.accAdd (s : State) (u c n : Nat) : State := s.setAcc u c (s.acc u c + n)

/-- One sample entry of counter c of unit u (R348), with 0x7201 for one that the ring cannot take; CTR_VEC of the virtual switch
that controls the unit fires, through `fire`. -/
def State.pmcSample (s : State) (u c : Nat) (fire : State → Nat → Nat → State) : State :=
  let late : Bool := match s.ep.lastSample with
    | some t => decide (s.clk.now < t + 100)
    | none => false
  let v := s.get (F.PMC_GRANT_CTL_VS u)
  let granted := s.flag (F.PMC_GRANT_CTL_EN u)
  if late then
    let s := s.bump F.PMC_SMP_LOST_LOST
    let lost := s.ep.lost + 1
    let s' := s.raiseQuiet 1000000000 0 0x08 0x7201 1 (if granted then scVs v else scDev) [lost]
    { s' with ep := { s'.ep with lost := if s'.evs.next = s.evs.next then lost else 0 } }
  else
    let seq := s.get F.PMC_SMP_STATUS_NEXT_SEQ
    let e : PmcSample := { time := s.clk.fab, seq := seq, unit := u, counter := c,
                           values := (List.range 8).map fun i => s.reg (F.PMU_CNT_VALUE u i).addr }
    let l := s.ep.samples ++ [e]
    let s := { s with ep := { s.ep with samples := l.drop (l.length - 256), lastSample := some s.clk.now } }
    let s := s.bumpWrap F.PMC_SMP_STATUS_NEXT_SEQ 1
    if granted && s.flag (F.ACW_EP_VS_VEC_CTR_EN v) then fire s v (s.get (F.ACW_EP_VS_VEC_CTR_VEC v)) else s

/-- Counter c advances by n; past 0xFFFF_FFFF it wraps and sets OVF, and a sampling counter writes its sample, which its
accumulator counts, and is loaded with PRELOAD. The answer says whether it wrapped. -/
def State.cntAdd (s : State) (u c n : Nat) (fire : State → Nat → Nat → State) : State × Bool :=
  let v := s.get (F.PMU_CNT_VALUE u c) + n
  let s := s.put (F.PMU_CNT_VALUE u c) v
  if v < 2 ^ 32 then (s, false)
  else
    let s := s.putB (F.PMU_CNT_CTL_OVF u c) true
    (if s.flag (F.PMU_CNT_CTL_SMP u c) then
      ((s.accAdd u c 1).pmcSample u c fire).put (F.PMU_CNT_VALUE u c) (s.get (F.PMU_PRELOAD_PRELOAD u c))
     else s, true)

/-- A wrap of an even counter advances the odd one chained to it. -/
def State.cntChain (s : State) (u c : Nat) (fire : State → Nat → Nat → State) : State :=
  if c % 2 = 0 ∧ s.flag (F.PMU_CNT_CTL_CHAIN u (c + 1)) = true then (s.cntAdd u (c + 1) 1 fire).1 else s

/-- An event happens n times in unit u: every running counter that selects it counts. -/
def State.countWith (s : State) (u ev k cls vc n : Nat) (fire : State → Nat → Nat → State) : State :=
  if s.flag (F.PMU_UNIT_CTL_RUN u) then
    (List.range 8).foldl (fun s c =>
      if s.cntSees u c ev k cls vc then
        match s.cntAdd u c n fire with
        | (s, true) => s.cntChain u c fire
        | (s, false) => s
      else s) s
  else s

/-- A message sent counts in the endpoint's unit. A sample it gives rise to is never taken in the same instant as another (R348), so
the message of that sample is the last of the chain. -/
def State.fireVec (s : State) (v : Nat) (fn : Bool) (i : Nat) : State :=
  match s.fireMsg v fn i with
  | (s, true) => s.countWith 21 0x43 16 0 0 1 fun s v i => (s.fireMsg v false i).1
  | (s, false) => s

/-- An event happens n times in unit u, at port k of its station, in a class and VC. -/
def State.count (s : State) (u ev k cls vc n : Nat) : State :=
  s.countWith u ev k cls vc n fun s v i => s.fireVec v false i

/-- A vector's source fires (R341). -/
def State.fire (s : State) (v : Nat) (fn : Bool) (i : Nat) : State :=
  match s.fireMsg v fn i with
  | (s, true) => s.count 21 0x43 16 0 0 1
  | (s, false) => s

/-! ### Shuttle panels and movers -/

def State.pnl (s : State) (n : Nat) : PanelSt := SMap.get (fun _ => {}) s.sht.panels n
def State.modPnl (s : State) (n : Nat) (f : PanelSt → PanelSt) : State :=
  { s with sht := { s.sht with panels := SMap.set (fun _ => {}) s.sht.panels n (f (s.pnl n)) } }

def State.mover (s : State) (m : Nat) : MoverSt := SMap.get (fun _ => {}) s.sht.movers m
def State.modMover (s : State) (m : Nat) (f : MoverSt → MoverSt) : State :=
  { s with sht := { s.sht with movers := SMap.set (fun _ => {}) s.sht.movers m (f (s.mover m)) } }

end Sys2Proof.Machine
end

