-- ==== Sys2Proof/Machine/Topo.lean ====
section
/-!
DEFINITION. Machine/Topo.lean: which ports exist and how wide they are (R36 to R38, R41), their stages (Table 2.2), their roles
and virtual switches (Table 3.2, R68), and the configuration space the station logic keeps (R74 to R76).
-/

namespace Sys2Proof.Machine

/-! ### Stations and splits -/

/-- Station and index of a port number (R12). -/
def stnOf (p : Nat) : Nat := p / 9
def kOf (p : Nat) : Nat := p % 9

/-- Index of the next starting bit of m above k, or 8. -/
def nextStart (m k : Nat) : Nat :=
  ((List.range 8).find? (fun j => decide (j > k) && bit m j)).getD 8

/-- Width in lanes of the main-group port that starts at bit k of m (R37). -/
def bifWidth (m k : Nat) : Nat := 2 * (nextStart m k - k)

/-- bifurc_valid of R37. -/
def bifurcValid (m : Nat) : Bool :=
  bit m 0 && (List.range 8).all fun k =>
    !bit m k || (let w := bifWidth m k
      (w == 2 || w == 4 || w == 8 || w == 16) && (2 * k) % w == 0)

/-- Whether station s runs in Seam mode. -/
def State.seamMode (s : State) (st : Nat) : Bool := s.flag (F.STN_LANE_MODE_MODE st)

/-- Port existence (R38, R41). -/
def State.exists (s : State) (p : Nat) : Bool :=
  let st := stnOf p
  let k := kOf p
  if p ≥ 144 then false
  else if s.seamMode st then k == 0
  else if k == 8 then s.flag (F.STN_LANE_MODE_AUX_EN st)
  else bit (s.get (F.STN_LANE_MODE_BIFURC st)) k

/-- Configured width of a port that exists: 16 for a Seam link, 1 for the auxiliary port (R36, R41). -/
def State.width (s : State) (p : Nat) : Nat :=
  if !s.exists p then 0
  else if s.seamMode (stnOf p) then 16
  else if kOf p = 8 then 1
  else bifWidth (s.get (F.STN_LANE_MODE_BIFURC (stnOf p))) (kOf p)

/-- The lanes of a port: first lane and number. -/
def State.lanesOf (s : State) (p : Nat) : List Nat :=
  if kOf p = 8 then [16] else (List.range (s.width p)).map (· + 2 * kOf p)

/-- The lanes that train and measure with a port: its own, and the spare lane of a Seam link. -/
def State.measLanes (s : State) (p : Nat) : List Nat :=
  if s.seamMode (stnOf p) then s.lanesOf p ++ [16] else s.lanesOf p

/-- The existing ports of a station. -/
def State.stnPorts (s : State) (st : Nat) : List Nat :=
  ((List.range 9).map (9 * st + ·)).filter s.exists

/-- The port that carries a lane, if any. -/
def State.portOfLane (s : State) (st l : Nat) : Option Nat :=
  (s.stnPorts st).find? fun p => (s.lanesOf p).contains l

/-! ### Stages -/

def stOFF : Nat := 0
def stPLL : Nat := 1
def stDETECT : Nat := 2
def stPATTERN : Nat := 3
def stLOCK : Nat := 4
def stEXCHANGE : Nat := 5
def stACTIVE : Nat := 6
def stFAILED : Nat := 7
def stMEASURE : Nat := 8

/-- The stage field of a port. -/
def stageFld (p : Nat) : Fld :=
  if kOf p = 8 then F.STN_PORT_STAGE1_STAGE_AUX (stnOf p) else F.STN_PORT_STAGE0_STAGE (stnOf p) (kOf p)

def State.stage (s : State) (p : Nat) : Nat := s.get (stageFld p)

/-- Enter a stage: the port's field and the stage of each of its lanes. -/
def State.setStage (s : State) (p v : Nat) : State :=
  (s.measLanes p).foldl (fun s l => s.put (F.STN_LN_STATUS_STAGE (stnOf p) l) v) (s.put (stageFld p) v)

/-! ### Roles and virtual switches -/

def State.role (s : State) (p : Nat) : Nat := s.get (F.STN_PORT_CFG_ROLE (stnOf p) (kOf p))
def State.vsOf (s : State) (p : Nat) : Nat := s.get (F.STN_PORT_CFG_VS (stnOf p) (kOf p))
def State.devnum (s : State) (p : Nat) : Nat := s.get (F.STN_PORT_CFG_DEVNUM (stnOf p) (kOf p))
def State.slotOf (s : State) (p : Nat) : Nat := s.get (F.STN_PORT_SLOT_SLOT (stnOf p) (kOf p))
def State.hasSlot (s : State) (p : Nat) : Bool := decide (s.slotOf p ≤ 15)
def State.quiesced (s : State) (p : Nat) : Bool := s.flag (F.STN_PORT_STATUS_QUIESCED (stnOf p) (kOf p))

def allPorts : List Nat := List.range 144

/-- A port's role as its station's mode lets it have one (R65): 0 in Seam mode. -/
def State.pciRole (s : State) (p : Nat) : Nat :=
  if !s.exists p || s.seamMode (stnOf p) then 0 else s.role p

/-- The upstream port of a virtual switch (R68). -/
def State.usp (s : State) (v : Nat) : Option Nat :=
  allPorts.find? fun p => s.pciRole p == 1 && s.vsOf p == v

/-- The downstream ports of a virtual switch in its configuration space: a quiesced port is absent (R469). -/
def State.dsps (s : State) (v : Nat) : List Nat :=
  allPorts.filter fun p => s.pciRole p == 2 && s.vsOf p == v && !s.quiesced p

/-- Every port of a virtual switch. -/
def State.vsPorts (s : State) (v : Nat) : List Nat :=
  allPorts.filter fun p => (s.pciRole p == 1 || s.pciRole p == 2) && s.vsOf p == v && !s.quiesced p

/-- Stations that hold a port of a virtual switch. -/
def State.vsStations (s : State) (v : Nat) : List Nat :=
  (List.range 16).filter fun st => (s.vsPorts v).any fun p => stnOf p == st

/-- The port served by slot controller n. -/
def State.portOfSlot (s : State) (n : Nat) : Option Nat :=
  allPorts.find? fun p => (s.pciRole p == 2 || s.pciRole p == 3) && s.slotOf p == n

/-- Whether station PLL is locked. -/
def State.pllLocked (s : State) (st : Nat) : Bool := s.flag (F.STN_LANE_STATUS_PLL_LOCK st)

/-- Any reason disables the port's link (R47). -/
def Dis.any (d : Dis) : Bool := d.link || d.dpc || d.quiesce || d.contain || d.fence || d.sbr

/-! ### Lane caps (Table 2.5, R63) -/

/-- The equalization entry of a lane, and its cap: 3 marks it unused (R40, Table 2.5). -/
def State.eqLo (s : State) (st l : Nat) : B32 := s.reg (F.STN_LN_EQ_CFG_LO_ENTRY_LO st l).addr
def State.eqHi (s : State) (st l : Nat) : B32 := s.reg (F.STN_LN_EQ_CFG_HI_ENTRY_HI st l).addr
def State.laneCap (s : State) (st l : Nat) : Nat := bits (s.eqHi st l).toNat 30 2

/-- Target rate: the lowest of MAX_RATE and the caps of the lanes in use (R63); a Seam link runs at 64 GT/s, or at 128 GT/s where RATE128
allows it. -/
def State.targetRate (s : State) (p : Nat) : Nat :=
  let st := stnOf p
  let cap l := if s.laneCap st l = 1 then 4 else if s.laneCap st l = 2 then 5 else 6
  let top := if s.seamMode st then (if s.flag (F.STN_SEAM_CFG_RATE128 st) then 6 else 5) else s.get (F.STN_PORT_CFG_MAX_RATE st (kOf p))
  ((s.lanesOf p).filter fun l => s.laneCap st l != 3).foldl (fun r l => min r (cap l)) top

/-! ### Configuration space (R74 to R76) -/

/-- Offsets of capability registers inside Table 3.3's layout, as PCI Express Base Specification 7.0 places them (log entry 11). -/
def ofCMD : Nat := 0x04
def ofBUS : Nat := 0x18
def ofMEM : Nat := 0x20
def ofPREF : Nat := 0x24
def ofPREFB : Nat := 0x28
def ofPREFL : Nat := 0x2C
def ofBCTL : Nat := 0x3C
def ofPMCSR : Nat := 0x44
def ofDEVCTL : Nat := 0x68
def ofLNKCTL : Nat := 0x70
/-- Device Control 2 (ARI Forwarding Enable bit 5) and Device Control 3 (L0p Enable bit 3). -/
def ofDEVCTL2 : Nat := 0x88
def ofDEVCTL3 : Nat := 0x2D8
def ofSLTCTL : Nat := 0x78
def ofAERU : Nat := 0x104
def ofAERC : Nat := 0x110
def ofACS : Nat := 0x154
def ofDPC : Nat := 0x184
def ofDPCS : Nat := 0x188
def ofMCCAP : Nat := 0x304
def ofMCBASE : Nat := 0x308
def ofMCRCV : Nat := 0x310
def ofMCBLK : Nat := 0x318
def ofMCBLKU : Nat := 0x320
def ofMCOVL : Nat := 0x328
/-- VC Resource Control of VC0 and VC1: TC/VC Map [7:0], VC Enable [31]. -/
def ofVC0 : Nat := 0x364
def ofVC1 : Nat := 0x370

/-- The capabilities of Table 3.3: offset, ID (PCI Express Base Specification 7.0's, log entry 11), downstream ports only. -/
def capTable : List (Nat × Nat × Bool) :=
  [(0x40, 0x01, false), (0x48, 0x05, false), (0x60, 0x10, false), (0xA0, 0x0D, false), (0x100, 0x01, false), (0x150, 0x0D, true),
   (0x180, 0x1D, true), (0x1A0, 0x19, false), (0x1D0, 0x25, false), (0x1E0, 0x26, false), (0x210, 0x2A, false), (0x240, 0x31, false),
   (0x260, 0x39, false), (0x280, 0x27, false), (0x2D0, 0x2F, false), (0x2E0, 0x32, false), (0x300, 0x12, false), (0x330, 0x1F, false),
   (0x340, 0x1E, true), (0x350, 0x02, false), (0x380, 0x23, false)]

/-- The header of a capability of those a port has (`own`): its ID, and the offset of the next one of its list in ascending order; 0
elsewhere. -/
def capHeader (own : Nat × Nat × Bool → Bool) (off : Nat) : Nat :=
  match capTable.find? fun c => c.1 == off && own c with
  | none => 0
  | some c =>
    let next := ((capTable.find? fun d => decide (off < d.1) && own d && (d.1 < 0x100) == (off < 0x100)).map Prod.fst).getD 0
    if off < 0x100 then c.2.1 + next * 256 else c.2.1 + 2 ^ 16 + next * 2 ^ 20

/-- The capabilities of a downstream or an upstream port. -/
def portCaps (dsp : Bool) (c : Nat × Nat × Bool) : Bool := dsp || !c.2.2

/-- The fixed words inside the capabilities (log entry 11): MSI of one vector with 64-bit address and masking, AtomicOp routing and ARI
forwarding in Device Capabilities 2, the seven ACS services with a vector of 256 bits, the DPC software trigger, Scaled Flow Control, 64
multicast groups, PTM requester and responder, two VCs. -/
def capWord (dsp : Bool) (off : Nat) : Nat :=
  if off = 0x48 then 0x01800000
  else if off = 0x84 then 2 ^ 6 + (if dsp then 2 ^ 5 else 0)
  else if off = 0x154 then (if dsp then 0x7F else 0)
  else if off = 0x184 then (if dsp then 2 ^ 6 + 2 ^ 7 + 2 ^ 12 else 0)
  else if off = 0x1D4 then 2 ^ 31 + 1
  else if off = 0x304 then 63
  else if off = 0x334 then (if dsp then 2 else 1)
  else if off = 0x354 then 1
  else 0

/-- Power in W of a slot's class (Table 16.2). -/
def classW (c : Nat) : Nat := [10, 25, 75, 150, 300, 450, 600, 1000].getD c 0

/-- Slot Power Limit Value of a slot's class (R424): watts up to 239, above them the codes from F0h (250 W) to FEh (600 W) in steps of 25 W
(log entry 11); the scale is 1. -/
def slotLimit (w : Nat) : Nat := if w < 240 then w else min 0xFE (0xF0 + (w - 250) / 25)
def State.slotLimitOf (s : State) (p : Nat) : Nat :=
  slotLimit (classW (s.get (F.SPC_CFG_CLASS (s.slotOf p))))

/-- Values a port's configuration doublewords have at reset (Tables 0.1, 3.3, 3.4, R75): the read-only ones follow the port's
registers; writable ones reset to 0 apart from Slot Control's indicator and power bits (Table 3.10). -/
def State.cfgRo (s : State) (p off : Nat) : Nat :=
  let dsp := s.role p == 2
  let st := stnOf p
  let k := kOf p
  if off = 0x00 then 0x72721F4E
  else if off = 0x04 then 2 ^ 20
  else if off = 0x08 then 0x060400A1
  else if off = 0x0C then 0x00010000
  else if off = 0x34 then 0x40
  else if off = 0x60 then capHeader (portCaps dsp) off + (2 + (if dsp then 6 else 5) * 16 + (if dsp && s.hasSlot p then 256 else 0)) * 65536
  else if off = 0x64 then 3 + 2 ^ 15
  else if off = 0x6C then
    (s.targetRate p + 1) + s.width p * 16
      + (if dsp && s.flag (F.STN_PORT_CFG_ASPM_L1_EN st k) then 2 * 2 ^ 10 else 0)
      + (if dsp then 2 * 2 ^ 15 + 2 ^ 19 + 2 ^ 20 + 2 ^ 21 else 0) + p * 2 ^ 24
  else if off = 0x74 then
    if dsp then (if s.hasSlot p then 1 + 2 + 8 + s.slotLimitOf p * 2 ^ 7 else 0) + 2 ^ 6 + (s.get (F.STN_PORT_SLOT_PHYS_SLOT st k)) * 2 ^ 19
    else 0
  else if off = 0x8C then 2 * (2 ^ (s.targetRate p + 1) - 1)
  else if off = 0x344 then
    if dsp then (if s.flag (F.STN_PORT_CFG_L1SS_EN st k) then 0x1F else 0) + 30 * 2 ^ 8 + 22 * 2 ^ 19 else 0
  else if off = 0x384 then 0x1F4E + 0x14 * 2 ^ 20
  else if off = 0x388 then 1
  else if off = 0x38C then
    p + st * 2 ^ 8 + s.role p * 2 ^ 12 + s.vsOf p * 2 ^ 14 + s.devnum p * 2 ^ 19
  else if off = 0x390 then s.slotOf p + s.stage p * 2 ^ 8
  else capHeader (portCaps dsp) off + capWord dsp off

/-- Bits of a port's configuration doubleword that a host write changes, and bits it clears by writing 1 (log entry 11). -/
def cfgMasks (dsp : Bool) (off : Nat) : Nat × Nat :=
  if off = 0x04 then (0x0547, 0xF9000000)
  else if off = 0x18 then (0x00FFFFFF, 0)
  else if off = 0x1C then (0xF0F0, 0xF9000000)
  else if off = 0x20 || off = 0x24 then (0xFFF0FFF0, 0)
  else if off = 0x28 || off = 0x2C || off = 0x30 then (0xFFFFFFFF, 0)
  else if off = 0x3C then (0x007B00FF, 0)
  else if off = 0x44 then (0x0103, 0x8000)
  else if off = 0x48 then (0x00010000, 0)
  else if off = 0x4C || off = 0x50 || off = 0x54 || off = 0x58 then (0xFFFFFFFF, 0)
  else if off = 0x68 then (0x7FFF, 0x000F0000)
  else if off = 0x70 then (0x0FFF, 0xC0000000)
  else if off = 0x78 then (if dsp then (0x1CFF, 0x011F0000) else (0, 0))
  else if off = 0x88 || off = 0x90 then (0xFFFF, 0)
  else if off = 0x104 then (0, 0xFFFFFFFF)
  else if off = 0x108 || off = 0x10C || off = 0x114 then (0xFFFFFFFF, 0)
  else if off = 0x110 then (0, 0xFFFFFFFF)
  else if off = 0x154 then (if dsp then (0x007F0000, 0) else (0, 0))
  else if off ≥ 0x158 && off < 0x178 then (if dsp then (0xFFFFFFFF, 0) else (0, 0))
  else if off = 0x184 then (if dsp then (0x00FF0000, 0) else (0, 0))
  else if off = 0x188 then (if dsp then (0, 0x00000009) else (0, 0))
  else if off ≥ 0x288 && off < 0x2C8 then (0xFF7F, 0)
  else if off = 0x304 then (0x803F0000, 0)
  else if off = 0x308 then (0xFFFFF03F, 0)
  else if off > 0x308 && off < 0x330 then (0xFFFFFFFF, 0)
  else if off = ofDEVCTL3 then (0x0000007C, 0)
  else if off = 0x338 then (0xFFFFFFFF, 0)
  else if off = 0x348 || off = 0x34C then (if dsp then (0xFFFFFFFF, 0) else (0, 0))
  else if off = 0x364 then (0x000000FE, 0)
  else if off = 0x370 then (0x870000FE, 0)
  else (0, 0)

/-- What the writable bits of a port's doublewords read at reset: AER Mask and Severity, Correctable Error Mask and Device
Control as PCI Express Base Specification 7.0 resets them (log entry 11), lane margining without a command, Slot Control's attention
indicator off and power off (R66). -/
def cwDflt (off : Nat) : B32 :=
  if 0x288 ≤ off ∧ off < 0x2C8 then 0x9C38 else if off = 0x108 then 0x00400000 else if off = 0x10C then 0x00462030 else if off = 0x114 then 0x0000E000
  else if off = 0x68 then 0x00002810 else if off = 0x78 then 0x000004C0 else if off = 0x364 then 0x800000FF else 0

/-- The host-written doubleword of a port. -/
def State.cw (s : State) (p off : Nat) : Nat := (SMap.get cwDflt (s.port p).cfg off).toNat
def State.setCw (s : State) (p off v : Nat) : State :=
  s.modPort p fun x => { x with cfg := SMap.set cwDflt x.cfg off (BitVec.ofNat 32 v) }
/-- Set bits in a host-visible doubleword. -/
def State.orCw (s : State) (p off v : Nat) : State := s.setCw p off (s.cw p off ||| v)

/-- Link Status and Slot Status bits that mirror the port (Tables 3.7, 3.10): current speed and width, Data Link Layer Link
Active; Presence Detect State. -/
def State.linkStatus (s : State) (p : Nat) : Nat :=
  let st := stnOf p
  let k := kOf p
  (s.get (F.STN_PORT_STATUS_RATE st k) + 1) + s.get (F.STN_PORT_STATUS_WIDTH st k) * 16
    + (if s.role p == 2 && s.flag (F.STN_PORT_STATUS_DL_UP st k) then 2 ^ 13 else 0)

/-- A configuration doubleword as a host reads it. -/
def State.cfgRead (s : State) (p off : Nat) : Nat :=
  let base := s.cfgRo p off ||| s.cw p off
  let slot := base ^^^ (base &&& 0x7C0)
  if 0x288 + 4 * s.width p ≤ off ∧ off < 0x2C8 then 0
  else if off = ofLNKCTL then base ||| (s.linkStatus p) * 65536
  else if off = ofSLTCTL && (s.role p != 2 || !s.hasSlot p) then (if s.role p = 2 then slot else 0)
  else if off = ofSLTCTL then
    slot ||| (s.get (F.STN_PORT_HP_STATUS_ATTN_IND (stnOf p) (kOf p))) * 64
      ||| (s.get (F.STN_PORT_HP_STATUS_PCC (stnOf p) (kOf p))) * 1024
      ||| (s.get (F.STN_PORT_HP_STATUS_PRESENT (stnOf p) (kOf p))) * 2 ^ 22
  else base

/-- The VC of a traffic class under a port's TC-to-VC map. -/
def State.vcOf (s : State) (p tc : Nat) : Nat := if bit (s.cw p ofVC1) 31 && bit (s.cw p ofVC1) tc then 1 else 0

/-- Secondary and subordinate bus numbers a host has programmed. -/
def State.secBus (s : State) (p : Nat) : Nat := bits (s.cw p ofBUS) 8 8
def State.subBus (s : State) (p : Nat) : Nat := bits (s.cw p ofBUS) 16 8

/-- Slot Status bits (PCI Express Base Specification 7.0, in the upper half of Slot Control's doubleword). -/
def slAttn : Nat := 2 ^ 16
def slPowerFault : Nat := 2 ^ 17
def slPdc : Nat := 2 ^ 19
def slCc : Nat := 2 ^ 20
def slDllsc : Nat := 2 ^ 24

/-- The virtual switch has been published and its host no longer sees RRS (R80). -/
def State.published (s : State) (v : Nat) : Bool := (s.vs v).published

/-- The proxy ID of a virtual switch: device 0, function fn of its internal bus, none while the bus is not numbered (R131, R297). -/
def State.proxyId (s : State) (v fn : Nat) : Option B16 :=
  match s.usp v with
  | none => none
  | some u => if s.secBus u = 0 then none else some (BitVec.ofNat 16 (s.secBus u * 256 + fn))

/-- The node number of this device (R277); 0xFF standalone. -/
def State.nodeId (s : State) : Nat := s.get F.FAB_ID_NODE_ID

/-- A step of Table 10.6 has been reached; STEP keeps the last one. -/
def State.stepUp (s : State) (n : Nat) : State := if s.get F.FAB_STATE_STEP < n then s.put F.FAB_STATE_STEP n else s

/-- What is known of node n, and whether its NODE_ID is in doubt (R279). -/
def State.node (s : State) (n : Nat) : NodeInfo := SMap.get (fun _ => {}) s.fab.nodes n
def State.modNode (s : State) (n : Nat) (f : NodeInfo → NodeInfo) : State :=
  { s with fab := { s.fab with nodes := SMap.set (fun _ => {}) s.fab.nodes n (f (s.node n)) } }

/-- The virtual switches of this device may be published as far as the fabric goes (R80, R279, R298): standalone, or published and with a
NODE_ID of its own. -/
def State.fabPublished (s : State) : Bool :=
  s.nodeId == 0xFF || (decide (12 ≤ s.get F.FAB_STATE_STEP) && !(s.node s.nodeId).dup)

end Sys2Proof.Machine
end

