-- ==== Sys2Proof/Machine/Packets.lean ====
section
/-!
DEFINITION. Machine/Packets.lean: the service every request packet goes through (R385 to R393, R398): holding, kept replies,
the order of checks of Table 14.5, credentials, replies on each transport, kind-A records, and staging into transactions.
-/

namespace Sys2Proof.Machine

/-! ### Opcodes -/

/-- Kinds of Tables 14.7 to 14.21. -/
inductive OpKind where
  | R | I | S | A
  deriving DecidableEq, Repr

/-- Scope forms of Table 14.3. -/
inductive Form where
  | dev | stn | port | vs | panel | node
  deriving DecidableEq, Repr

/-- One row of Tables 14.7 to 14.21: code, kind, classes that may send it, scope forms, whether CRED_ID 0 may, and
whether PARAM_LEN is one the opcode allows (step 5 of Table 14.5). -/
structure OpInfo where
  code : Nat
  kind : OpKind
  who : List Cls
  forms : List Form
  cred0 : Bool := false
  len : Bool := true
  deriving Repr

/-- The codes of Table 14.6. -/
def statusCode : Status → Nat
  | .ok => 0 | .accepted => 1 | .badOpcode => 0x100 | .badLength => 0x101 | .badParam => 0x102 | .badCrc => 0x103
  | .badScope => 0x104 | .busy => 0x200 | .notIdle => 0x201 | .stagedConflict => 0x202 | .denied => 0x300 | .locked => 0x301
  | .timeout => 0x400 | .hwFault => 0x401 | .noResource => 0x500

/-- The codes of R390. -/
def Cls.code : Cls → Nat
  | .obs => 1 | .pm => 2 | .fm => 3 | .tenant => 4

def Cls.ofCode (n : Nat) : Option Cls :=
  if n = 1 then some .obs else if n = 2 then some .pm else if n = 3 then some .fm else if n = 4 then some .tenant else none

/-- The form and number of a SCOPE value (Table 14.3). -/
def scopeForm (sc : B16) : Option (Form × Nat) :=
  let n := sc.toNat
  if n = 0xFFFF then some (.dev, 0)
  else if n / 4096 = 1 then some (.stn, n % 4096)
  else if n / 4096 = 2 then some (.port, n % 4096)
  else if n / 4096 = 3 then some (.vs, n % 4096)
  else if n / 4096 = 4 then some (.panel, n % 4096)
  else if n / 4096 = 5 then some (.node, n % 4096)
  else none

/-- Who sends a request that has passed its checks: class, virtual switch (0xFF none), panel, the key its transaction and
kind-A commands are kept under, and the object it names. -/
structure Sess where
  cls : Option Cls
  vs : Nat
  panel : Nat
  key : B32
  form : Form
  n : Nat
  deriving DecidableEq, Repr

def Sess.isP (x : Sess) : Bool := x.cls == some .pm

/-- What a command's own part answers: status, DETAIL, reply data, state. -/
structure Ans where
  st : Status
  detail : Nat := 0
  data : List Dat := []
  s : State
  /-- the reply follows later (a COMMIT until its last block reports, a packet carried to another node) -/
  owed : Bool := false

/-- Shorthands for answers. -/
def Ans.ok (s : State) : Ans := { st := .ok, s := s }
def Ans.fail (st : Status) (s : State) (d : Nat := 0) : Ans := { st := st, detail := d, s := s }
def Ans.read (s : State) (d : List Dat) : Ans := { st := .ok, data := d, s := s }

/-! ### Channels -/

/-- The request came from another node. -/
def Via.isFwd : Via → Bool
  | .fwd .. => true
  | _ => false


/-- The virtual switch a channel belongs to (Table 14.1). -/
def chanVs (c : Nat) : Option Nat :=
  if 3 ≤ c ∧ c < 35 then some (c - 3) else if 35 ≤ c then some (c - 35) else none

/-- MCTP channels: credentials are bound to channel and EID (R380). -/
def isMctp (c : Nat) : Bool := c == 1 || c == 2 || decide (35 ≤ c)

/-- The EID a binding on this channel uses. -/
def bindEid (c eid : Nat) : Nat := if isMctp c then eid else 0

/-- Packets a channel holds while Aclia is unavailable (R385): 4 messages on MCTP, 8 KiB of bytes on the UART. -/
def State.holdPacket (s : State) (c eid : Nat) (i : Instr) (bytes : Nat) : State :=
  let bytes := if c = 0 then bytes + 4 else bytes
  s.modChan c fun x =>
    if isMctp c && decide (4 ≤ x.held.length) then x
    else if c = 0 && decide (8192 < x.heldBytes + bytes) then x
    else { x with held := x.held ++ [(eid, bytes, i)], heldBytes := x.heldBytes + bytes }

/-- The requests whose one reply is still owed. -/
def State.owing (s : State) : List Req := s.cmd.owed.toList ++ s.fab.out.filterMap CtlOut.req

/-- A channel (an endpoint of an MCTP channel) whose last request still waits for its reply: a COMMIT under way or a packet
carried to another node (R388). -/
def State.chanBusy (s : State) (c eid : Nat) : Bool :=
  s.owing.any fun r => !r.via.isFwd && r.h.chan.val == c && (!isMctp c || r.h.eid.toNat == eid)

/-- Whom replies are kept for beside the channel (R389): the endpoint of an MCTP channel; for a packet carried here, 0x100 + node. -/
def keepKey (via : Via) (h : Hdr) : Nat :=
  match via with
  | .fwd node _ _ _ => 0x100 + node
  | _ => bindEid h.chan.val h.eid.toNat

/-- The request repeats one that is still being served (R389). -/
def State.inService (s : State) (via : Via) (h : Hdr) : Bool :=
  s.owing.any fun r => r.h.chan == h.chan && keepKey r.via r.h == keepKey via h && r.h.tag == h.tag && r.h.crc == h.crc

/-- Opcodes of kind R in Tables 14.7 to 14.21. -/
def kindR : List Nat :=
  [0x0100, 0x0101, 0x0102, 0x0103, 0x0203, 0x0300, 0x0306, 0x0307, 0x0502, 0x0604, 0x0605, 0x0700, 0x0701, 0x0806, 0x080B,
   0x0900, 0x0903, 0x0A00, 0x0B00, 0x0B01, 0x0B02, 0x0B03, 0x0C02, 0x0D00, 0x0D04, 0x0E06, 0x0F0A]

/-! ### Replies -/

/-- The bytes of a reply packet (Table 14.4, R386). -/
def replyBytes (opcode : Nat) (st : Status) (tag : B32) (scope detail : Nat) (data : List Dat) : Bytes :=
  let d := datBytes data []
  let body := leBytes 2 (opcode % 0x8000 + 0x8000) ++ leBytes 2 (statusCode st) ++ leBytes 4 tag.toNat ++ leBytes 2 d.length
    ++ leBytes 2 scope ++ leBytes 4 detail ++ d
  body ++ leBytes 4 (crc32c body).toNat

/-- A ring stops with FAULT set (R383). -/
def State.ringFault (s : State) (v cause entry : Nat) : State :=
  (((s.putB (F.ACW_MBX_STATUS_FAULT v) true).put (F.ACW_MBX_STATUS_CAUSE v) cause).put (F.ACW_MBX_STATUS_ENTRY v) entry).raise
    0x01 0x7302 3 (scVs v) [v, cause, entry]

/-- Steps 4 and 5 of R383: bytes 20 to 23 of the entry are written, HEAD advances, and VEC fires when VEC_EN is set. -/
def State.ringDone (s : State) (v rspLen result : Nat) (writeOk : Bool) : State :=
  let head := s.get (F.ACW_MBX_HEAD_HEAD v)
  let phase := s.get (F.ACW_MBX_HEAD_PHASE v)
  let size := 2 ^ s.get (F.ACW_MBX_CFG_ORDER v)
  let base := s.get (F.ACW_MBX_BASE_HI_BASE_HI v) * 2 ^ 32 + s.get (F.ACW_MBX_BASE_LO_BASE_LO v) * 4096
  if !writeOk then s.ringFault v 3 head
  else
    let s := s.emit (.hostWrite v (BitVec.ofNat 64 (base + 32 * head + 20))
      (leBytes 2 rspLen ++ leBytes 1 result ++ leBytes 1 phase))
    let s := s.bumpWrap (F.ACW_MBX_STATUS_SERVED v) 1
    let s := if head + 1 < size then s.put (F.ACW_MBX_HEAD_HEAD v) (head + 1)
             else (s.put (F.ACW_MBX_HEAD_HEAD v) 0).put (F.ACW_MBX_HEAD_PHASE v) (1 - phase)
    if s.flag (F.ACW_MBX_CFG_VEC_EN v) then s.fire v false (s.get (F.ACW_MBX_CFG_VEC v)) else s

/-- Send the one reply of a request over the path it came by. -/
def State.answer (s : State) (r : Req) (st : Status) (detail : Nat) (data : List Dat) : State :=
  let c := r.h.chan.val
  let data := if st = .ok then data else []
  let out : Output := .reply c r.h.eid.toNat r.opcode st r.h.tag r.h.scope.toNat detail data
  match r.via with
  | .fwd node mseq _ _ =>
    s.emit (.ctl node 0x40 mseq ((replyBytes r.opcode st r.h.tag r.h.scope.toNat detail data).map BitVec.toNat))
  | .mbx rsp ok =>
    let bs := replyBytes r.opcode st r.h.tag r.h.scope.toNat detail data
    let v := c - 3
    let s := s.emit out
    if ok then (s.emit (.hostWrite v rsp bs)).ringDone v bs.length 0 true else s.ringDone v bs.length 0 false
  | _ => s.emit out

/-- Keep a reply for repeats (R389): the last 4 of the channel, or of the channel and endpoint. -/
def State.keep (s : State) (r : Req) (st : Status) (detail : Nat) (data : List Dat) : State :=
  let c := r.h.chan.val
  let out : Output := .reply c r.h.eid.toNat r.opcode st r.h.tag r.h.scope.toNat detail (if st = .ok then data else [])
  let k : Kept := { eid := keepKey r.via r.h, tag := r.h.tag, crc := r.h.crc, time := s.clk.now, reply := out }
  s.modChan c fun x =>
    let mine := x.kept.filter fun y => y.eid == k.eid
    let rest := x.kept.filter fun y => y.eid != k.eid
    { x with kept := rest ++ (k :: mine).take 4 }

/-- Send a reply that was owed, and keep it unless the opcode is of kind R. -/
def State.settleReq (s : State) (r : Req) (st : Status) (detail : Nat) (data : List Dat) : State :=
  let s := s.answer r st detail data
  if kindR.contains r.opcode then s else s.keep r st detail data

/-- The kept reply a request repeats, if any (R389). -/
def State.keptReply (s : State) (via : Via) (h : Hdr) : Option Kept :=
  (s.chan h.chan.val).kept.find? fun k =>
    k.eid == keepKey via h && k.tag == h.tag && k.crc == h.crc && decide (s.clk.now ≤ k.time + 10000000000)

/-! ### Credentials (R390 to R392) -/

def credIdx (c : B32) : Nat := c.toNat % 65536
def credGen (c : B32) : Nat := c.toNat / 65536

/-- The open credential a handle names. -/
def State.cred (s : State) (c : B32) : Option Cred :=
  match SMap.get (fun _ => none) s.cmd.creds (credIdx c) with
  | some x => if x.gen = credGen c then some x else none
  | none => none

/-- The credentials open, with their indexes. -/
def State.openCreds (s : State) : List (Nat × Cred) :=
  s.cmd.creds.filterMap fun p => p.2.map fun c => (p.1, c)

/-- Set the OPEN count of a channel. -/
def State.countOpen (s : State) (c : Nat) : State :=
  s.put (F.ACW_CHAN_CFG_OPEN c) (min 255 ((s.openCreds.filter fun p => p.2.chan == c).length))

/-- Close the credential at an index: the index is freed with its generation, or retired at 0xFFFF. -/
def State.closeIdx (s : State) (ix : Nat) : State :=
  match SMap.get (fun _ => none) s.cmd.creds ix with
  | none => s
  | some c =>
    ({ s with cmd := { s.cmd with
        creds := SMap.set (fun _ => none) s.cmd.creds ix none,
        freed := if c.gen < 0xFFFF then s.cmd.freed ++ [(ix, c.gen)] else s.cmd.freed } }).countOpen c.chan

/-- Close every credential that satisfies p. -/
def State.closeCreds (s : State) (p : Cred → Bool) : State :=
  (s.openCreds.filter fun x => p x.2).foldl (fun s x => s.closeIdx x.1) s

/-- Open a credential at the index that has been free longest; none when no index or no place is left. -/
def State.openCred (s : State) (mk : Nat → Cred) : Option (B32 × State) :=
  if 512 ≤ s.openCreds.length then none
  else
    let put (ix gen : Nat) (s : State) : B32 × State :=
      let c := mk gen
      (BitVec.ofNat 32 (gen * 65536 + ix),
       ({ s with cmd := { s.cmd with creds := SMap.set (fun _ => none) s.cmd.creds ix (some c) } }).countOpen c.chan)
    if s.cmd.fresh ≤ 0xFFFF then
      some (put s.cmd.fresh 1 { s with cmd := { s.cmd with fresh := s.cmd.fresh + 1 } })
    else match s.cmd.freed with
      | [] => none
      | (ix, g) :: rest => some (put ix (g + 1) { s with cmd := { s.cmd with freed := rest } })

/-- The key of the identity a CMD_FWD carries (R393): class, virtual switch and node, with generation 0, so that no handle
equals it. -/
def fwdKey (node cls vs : Nat) : B32 := BitVec.ofNat 32 (cls % 8 * 8192 + min vs 63 * 64 + node % 64)

/-- A refused credential (R391). -/
def State.reject (s : State) (h : Hdr) (code : Nat) : State :=
  let s := if h.cred.toNat = 0 then s else s.bump (F.ACW_CHAN_CFG_REJECTED h.chan.val)
  s.raiseLim ms100 h.chan.val 0x01 0xA008 2 scDev 0 [h.chan.val, h.cred.toNat, code]

/-- A panel is bound to a virtual switch (R303): the VALID bit and virtual switch of its binding. -/
def State.panelVs (s : State) (n : Nat) : Option Nat :=
  if s.flag (F.SHT_PNL_BIND_VALID n) then some (s.get (F.SHT_PNL_BIND_VS n)) else none

/-- Panels of a virtual switch for its partition manager: those bound to it and those of its allotment (R319, R390). -/
def State.panelOf (s : State) (n v : Nat) : Bool :=
  s.panelVs n == some v ||
    (s.panelVs n == none && s.cmd.allot.any fun a => decide (a.1 ≤ n) && decide (n < a.1 + a.2.1) && a.2.2 == v)

/-- Step 9 of Table 14.5: the object exists and lies within the credential's reach (R390). -/
def State.reach (s : State) (x : Sess) : Bool :=
  let exist : Bool := match x.form with
    | .dev => true
    | .stn => decide (x.n < 16)
    | .port => decide (x.n < 144) && s.exists x.n
    | .vs => decide (x.n < 32)
    | .panel => decide (x.n < 4096)
    | .node => true
  exist && (match x.cls with
    | some .pm => (match x.form with
      | .dev => true
      | .stn => (s.vsStations x.vs).contains x.n
      | .port => (s.pciRole x.n == 1 || s.pciRole x.n == 2) && s.vsOf x.n == x.vs
      | .vs => x.n == x.vs
      | .panel => s.panelOf x.n x.vs
      | .node => true)
    | some .tenant => (match x.form with
      | .dev => true
      | .panel => x.n == x.panel
      | _ => false)
    | _ => true)

/-! ### Kind A (R398) -/

/-- Kind-A commands of a key in progress. -/
def State.asyncLive (s : State) (key : B32) : Nat :=
  (s.cmd.asyncs.filter fun a => a.cred == key && a.ended == none).length

def State.addAsync (s : State) (a : Async) : State :=
  { s with cmd := { s.cmd with asyncs := s.cmd.asyncs ++ [a] } }

/-- Say which object, and in which mode, the newest kind-A command works on. -/
def State.asyncObj (s : State) (obj mode : Nat) : State :=
  match s.cmd.asyncs.reverse with
  | [] => s
  | a :: rest => { s with cmd := { s.cmd with asyncs := (({ a with obj := obj, mode := mode }) :: rest).reverse } }

/-- End every kind-A command in progress that satisfies p, with a final status and the occurrence of its completion event. -/
def State.endAsync (s : State) (p : Async → Bool) (st : Status) (ev : Option Nat) : State :=
  let f (a : Async) : Async :=
    if a.ended == none && p a then { a with ended := some st, evId := ev, endTime := s.clk.now } else a
  { s with cmd := { s.cmd with asyncs := s.cmd.asyncs.map f } }

/-- Raise a completion event and end the commands it completes. -/
def State.raiseEnd (s : State) (p : Async → Bool) (src code sev scope : Nat) (detail : List Nat) : State :=
  let id := s.evs.next
  (s.raise src code sev scope detail).endAsync p .ok (some id)

/-! ### Serving a request -/


/-- End of service: the transport context returns to arrival. -/
def State.arrived (s : State) : State := { s with cmd := { s.cmd with via := .arrive } }

/-- Carry a packet to another node (R393, R291): the request waits for the far node's reply. -/
def State.forward (s : State) (r : Req) (x : Sess) (node : Nat) (params : List Dat) : State :=
  let mseq := s.fab.mseq
  let cls := (x.cls.map Cls.code).getD 0
  let d := datBytes params []
  let body := leBytes 2 r.opcode ++ leBytes 1 r.h.flags.toNat ++ leBytes 1 1 ++ leBytes 4 r.h.tag.toNat ++ leBytes 2 d.length
    ++ leBytes 2 r.h.scope.toNat ++ leBytes 4 0 ++ d
  let pkt := body ++ leBytes 4 (crc32c body).toNat
  let fields := [0, cls, x.vs, s.nodeId] ++ pkt.map BitVec.toNat
  let o : CtlOut := { mseq := mseq, dest := node, kind := 0x40, fields := fields, sends := 1, req := some r }
  ({ s with fab := { s.fab with mseq := (mseq + 1) % 2 ^ 32, out := s.fab.out ++ [o] } }).emit (.ctl node 0x40 mseq fields)

/-- Steps 6 to 9 of Table 14.5: who sends the request and what it names, or the failing status with whether step 6 failed. -/
def State.checks (s : State) (op : OpInfo) (h : Hdr) (via : Via) : Except (Status × Bool) Sess :=
  let who : Option (Option Cls × Nat × Nat × B32) := match via with
    | .fwd node _ cls vs => (Cls.ofCode cls).map fun c => (some c, vs, 0, fwdKey node cls vs)
    | _ =>
      if h.cred.toNat = 0 then (if op.cred0 then some (none, 0xFF, 0, 0) else none)
      else match s.cred h.cred with
        | none => none
        | some c =>
          if c.chan = h.chan.val ∧ c.eid = bindEid h.chan.val h.eid.toNat then some (some c.cls, c.vs, c.panel, h.cred)
          else none
  match who with
  | none => .error (.denied, true)
  | some (cls, v, p, key) =>
    match scopeForm h.scope with
    | none => .error (.badScope, false)
    | some (f, n) =>
      if !op.forms.contains f then .error (.badScope, false)
      else if !(match cls with | none => true | some c => op.who.contains c) then .error (.denied, false)
      else
        let f' : Form := if f == .node && n == s.nodeId && op.forms.contains .dev then .dev else f
        let x : Sess := { cls := cls, vs := v, panel := p, key := key, form := f', n := n }
        if s.reach x then .ok x else .error (.badScope, false)

/-- The command's own part under Table 14.5 from step 10 on: CHECK_ONLY changes nothing; a kind-A command gets its record, at
most 16 per credential in progress; a refused command leaves the state as it was. -/
def State.runBody (s : State) (op : OpInfo) (h : Hdr) (x : Sess) (body : Sess → State → Ans) : Ans :=
  let a0 : Async := { cred := x.key, tag := h.tag, opcode := op.code, obj := 0, mode := 0, started := s.clk.now,
                      ended := none, evId := none, seq := 0, endTime := 0 }
  let s1 := if op.kind = .A then s.addAsync a0 else s
  let a := body x s1
  if h.flags.toNat % 2 = 1 then { a with s := s, owed := false, data := if op.kind = .R then a.data else [] }
  else match a.st with
    | .ok => a
    | .accepted => if op.kind = .A ∧ 16 ≤ s.asyncLive x.key then .fail .noResource s else a
    | .hwFault | .timeout => a
    | .badParam => a
    | _ => { a with s := if op.kind = .A then s else a.s }

/-- Disarm an armed debug lock with 0xA003; the causes are numbered by the model: 1 expiry, 2 a reset, 3 an opcode,
4 a refused confirm (log entry 12). -/
def State.disarmFor (s : State) (cause : Nat) : State :=
  if s.acl.arm.isSome then
    (({ s with acl := { s.acl with arm := none } }).putB F.ACW_SEC_STATUS_ARMED false).raise 0x01 0xA003 0 scDev [cause]
  else s

/-- Every opcode of group 0x0Fxx other than DEBUG_CONFIRM disarms an armed debug lock (R375, R399); DEBUG_ARM does so in its
own part, since it answers BUSY while armed. -/
def State.disarm (s : State) (code : Nat) : State :=
  if decide (code / 256 = 0x0F) && code != 0x0F06 && code != 0x0F07 then s.disarmFor 3 else s

/-- Serve one request packet; bindings and route changes are the manager node's (R293). `self` is the command itself, held again when Aclia is unavailable; `params` are its parameters
as the packet carries them; `body` is the opcode's own part. -/
def State.serve (s : State) (self : Instr) (op : OpInfo) (h : Hdr) (params : List Dat) (body : Sess → State → Ans) : State :=
  let c := h.chan.val
  let via := s.cmd.via
  let r : Req := { h := h, via := via, opcode := op.code }
  let romServes : Bool := s.acl.romWaits && c == 0 && (op.code == 0x0100 || op.code == 0x0E07)
  let wait : Bool := match via with
    | .arrive => !(s.acl.up || romServes) || (s.flag F.ACW_FW_STATUS_UART_BOOT && c != 0) || s.chanBusy c h.eid.toNat || !(s.chan c).held.isEmpty
    | _ => false
  if s.acl.up && s.inService via h then s.arrived
  else if wait then (s.holdPacket c h.eid.toNat self (20 + (datBytes params []).length)).arrived
  else
    let s := s.arrived
    match (if op.kind = .R then none else s.keptReply via h) with
    | some k =>
      (match k.reply with
       | .reply _ _ _ st _ _ detail data => s.answer r st detail data
       | _ => s)
    | none =>
      let finish (a : Ans) : State :=
        if a.owed then (if a.st = .ok then { a.s with cmd := { a.s.cmd with owed := some r } } else a.s)
        else
          let s' := a.s.answer r a.st a.detail a.data
          if op.kind = .R then s' else s'.keep r a.st a.detail a.data
      if h.flags.toNat / 2 ≠ 0 then finish (.fail .badParam s)
      else if !op.len then finish (.fail .badLength (s.raiseLim ms100 c 0x01 0x7301 2 scDev 0 [c, h.eid.toNat, statusCode .badLength]))
      else if s.flag F.ACW_FW_STATUS_UART_BOOT && !(op.code / 256 == 0x0E || op.code == 0x0100 || op.code == 0x0F00
          || op.code == 0x0F01) then finish (.fail .busy s)
      else match s.checks op h via with
        | .error (st, bad) => finish (.fail st (if bad then s.reject h op.code else s))
        | .ok x =>
          if x.form = .node ∧ x.n ≠ s.nodeId then
            (if 48 ≤ x.n ∨ s.nodeId = 0xFF ∨ Via.isFwd via = true then finish (.fail .badScope s)
             else finish { st := .accepted, s := s.forward r x x.n params, owed := true })
          else if (op.code = 0x0703 ∨ op.code = 0x0705) ∧ s.get F.FAB_STATE_MGR_NODE < 48 ∧ s.get F.FAB_STATE_MGR_NODE ≠ s.nodeId
              ∧ Via.isFwd via = false then
            finish { st := .accepted, s := s.forward r x (s.get F.FAB_STATE_MGR_NODE) params, owed := true }
          else
            let s0 := if h.flags.toNat % 2 = 1 then s else s.disarm op.code
            finish (s0.runBody op h x body)

/-- The first packet held on a channel that Aclia can serve now (R385), taken off its channel: Aclia is available, and while UART_BOOT is set
only channel 0 is served. -/
def State.takeHeld (s : State) : Option (Instr × State) :=
  let ready (c : Nat) : Option (Nat × Nat × Instr) := match (s.chan c).held with
    | x :: _ => if s.chanBusy c x.1 || (s.flag F.ACW_FW_STATUS_UART_BOOT && c != 0) then none else some x
    | [] => none
  if !s.acl.up then none
  else (List.range 67).findSome? fun c => (ready c).map fun x =>
    let s' := s.modChan c fun y => { y with held := y.held.drop 1, heldBytes := y.heldBytes - x.2.1 }
    (x.2.2, { s' with cmd := { s'.cmd with via := .held } })

/-- The clocks advance by one nanosecond. Fabric time slews by at most 200 ppm toward its offset, in steps of 1 ns each 5 µs (R300; log entry 30). -/
def State.nanosecond (s : State) : State :=
  let due : Bool := decide (s.clk.now % 5000 = 0)
  let adj : Int := if due && decide (4 ≤ s.fab.slew) then 1 else if due && decide (s.fab.slew ≤ -4) then -1 else 0
  { s with clk := { s.clk with now := s.clk.now + 1, fab := s.clk.fab + BitVec.ofInt 64 (1 + adj) },
           fab := { s.fab with slew := s.fab.slew - 4 * adj } }

/-! ### Transactions (R394, R395) -/

def State.txn (s : State) (key : B32) : Option Txn := s.cmd.txns.find? fun t => t.cred == key

def State.dropTxn (s : State) (key : B32) : State :=
  { s with cmd := { s.cmd with txns := s.cmd.txns.filter fun t => t.cred != key } }

/-- The scope of a transaction's owner (R378): the virtual switch of a partition manager, else the device. -/
def State.txnScope (s : State) (key : B32) : Nat :=
  match s.cred key with
  | some c => if c.cls = .pm then scVs c.vs else scDev
  | none => scDev

/-- Discard a transaction without COMMIT: 0x7030 STAGED_DISCARDED (R397, R354, R359); the causes are numbered by the model:
1 idle for 60 s, 2 activation, 3 watchdog (log entry 12). -/
def State.discardTxn (s : State) (t : Txn) (cause : Nat) : State :=
  (s.dropTxn t.cred).raise 0x01 0x7030 1 (s.txnScope t.cred) [t.cred.toNat, cause]

/-- Discard every open transaction. -/
def State.discardAll (s : State) (cause : Nat) : State :=
  s.cmd.txns.foldl (fun s t => s.discardTxn t cause) s

/-- Add items to the key's transaction, or refuse: 16 transactions, 64 KiB of parameter bytes. -/
def State.addItems (s : State) (key : B32) (ks : List ItemK) (bytes : Nat) : Option State :=
  let items := ks.map fun k => ({ what := k, stamp := s.cmd.commits } : Item)
  match s.txn key with
  | some t =>
    if 65536 < t.bytes + bytes then none
    else
      let f (u : Txn) : Txn :=
        if u.cred == key then { u with items := u.items ++ items, bytes := u.bytes + bytes, last := s.clk.now } else u
      some { s with cmd := { s.cmd with txns := s.cmd.txns.map f } }
  | none =>
    if 16 ≤ s.cmd.txns.length ∨ 65536 < bytes then none
    else some { s with cmd := { s.cmd with txns := s.cmd.txns ++
      [{ cred := key, items := items, bytes := bytes, opened := s.clk.now, last := s.clk.now }] } }

end Sys2Proof.Machine
end

