-- ==== Sys2Proof/Machine/Tables.lean ====
section
/-!
DEFINITION. Machine/Tables.lean: the station tables of chapter 5 as 32-bit words (R125): window entries (Table 5.4), requester
entries and their buckets (Table 5.5, R129), the permission matrix (R130), lendings (Table 5.8) and completion return entries
(Table 5.7), with the two copies of R133.
-/

namespace Sys2Proof.Machine

/-! ### Words -/

/-- The tables of Table 5.13's TABLE field. -/
def tWin : Nat := 0
def tReq : Nat := 1
def tPerm : Nat := 2
def tLend : Nat := 3
def tCrt : Nat := 4

/-- The key of word w of entry idx of table t in station st. -/
def tkey (t st idx w : Nat) : Nat := ((t * 16 + st) * 65536 + idx) * 32 + w

/-- A word of the active copy. -/
def State.tw (s : State) (t st idx w : Nat) : Nat := (SMap.get (fun _ => 0) s.tbl.words (tkey t st idx w)).toNat
def State.setKey (s : State) (k : Nat) (v : B32) : State :=
  { s with tbl := { s.tbl with words := SMap.set (fun _ => 0) s.tbl.words k v } }
def State.setTw (s : State) (t st idx w v : Nat) : State := s.setKey (tkey t st idx w) (BitVec.ofNat 32 v)

/-- Two words as one 64-bit value, low word first. -/
def State.tw64 (s : State) (t st idx w : Nat) : Nat := s.tw t st idx w + s.tw t st idx (w + 1) * 2 ^ 32
def State.setTw64 (s : State) (t st idx w v : Nat) : State :=
  (s.setTw t st idx w (v % 2 ^ 32)).setTw t st idx (w + 1) (v / 2 ^ 32)

/-- Write the words of an entry from word w on. -/
def State.setEntry (s : State) (t st idx : Nat) : Nat → List B32 → State
  | _, [] => s
  | w, x :: xs => State.setEntry (s.setKey (tkey t st idx w) x) t st idx (w + 1) xs

/-- Drop adjacent repeats. -/
def squash : List Nat → List Nat
  | [] => []
  | a :: r => match squash r with
    | [] => [a]
    | b :: r' => if a = b then b :: r' else a :: b :: r'

/-- Entries of a table that hold a word other than 0. -/
def State.tIdxs (s : State) (t st : Nat) : List Nat :=
  squash (s.tbl.words.filterMap fun x =>
    if x.1 / 32 / 65536 == t * 16 + st then some (x.1 / 32 % 65536) else none)

/-- A word of the shadow copy: the contents being committed while a COMMIT is in progress, else the active ones (R133). -/
def State.twShadow (s : State) (t st idx w : Nat) : Nat :=
  match s.tbl.shadow.reverse.find? fun x => x.1 == tkey t st idx w with
  | some x => x.2.toNat
  | none => s.tw t st idx w

/-- A word has been found uncorrectable and not been rewritten (R134). -/
def State.twBad (s : State) (t st idx w : Nat) : Bool := s.tbl.bad.contains (tkey t st idx w)
def State.entryBad (s : State) (t st idx words : Nat) : Bool := (List.range words).any fun w => s.twBad t st idx w

/-! ### Windows -/

/-- A window entry (Table 5.4). -/
structure Win where
  idx : Nat
  valid : Bool
  vs : Nat
  hw : Bool
  prog : Bool
  dkind : Nat
  xlate : Bool
  proxy : Bool
  dest : Nat
  agroup : Nat
  base : Nat
  limit : Nat
  offset : Nat
  deriving DecidableEq, Repr

/-- A window entry from its eight words. -/
def winOf (idx : Nat) (w : Nat → Nat) : Win :=
  let w0 := w 0
  { idx := idx, valid := bit w0 0, vs := bits w0 1 5, hw := bit w0 6, prog := bit w0 7, dkind := bits w0 8 2,
    xlate := bit w0 10, proxy := bit w0 11, dest := bits w0 12 8, agroup := bits w0 20 8,
    base := w 2 + w 3 * 2 ^ 32, limit := w 4 + w 5 * 2 ^ 32, offset := w 6 + w 7 * 2 ^ 32 }

def State.win (s : State) (st idx : Nat) : Win := winOf idx (s.tw tWin st idx)

/-- The valid windows of a station. -/
def State.wins (s : State) (st : Nat) : List Win :=
  ((s.tIdxs tWin st).map (s.win st)).filter Win.valid

/-- Words of a hardware-maintained window entry for a lent BAR (R139). -/
def hwWindow (vs dest base limit offset : Nat) : List B32 :=
  let w (n : Nat) : B32 := BitVec.ofNat 32 n
  [w (1 + vs * 2 + 64 + 1024 + 2048 + dest * 4096), 0, w (base % 2 ^ 32), w (base / 2 ^ 32), w (limit % 2 ^ 32),
   w (limit / 2 ^ 32), w (offset % 2 ^ 32), w (offset / 2 ^ 32)]

/-! ### Requesters and permissions -/

/-- R129's bucket. -/
def bucketOf (rid port : Nat) : Nat := ((rid ^^^ (rid / 4096)) ^^^ (port * 16)) % 4096

/-- The four entries of a bucket. -/
def bucketIdxs (b : Nat) : List Nat := [4 * b, 4 * b + 1, 4 * b + 2, 4 * b + 3]

def reqValid (e : Nat) : Bool := bit e 24
def reqRid (e : Nat) : Nat := bits e 0 16
def reqPort (e : Nat) : Nat := bits e 16 8
def reqClass (e : Nat) : Nat := bits e 25 8
def reqProg (e : Nat) : Bool := bit e 33
def reqLent (e : Nat) : Bool := bit e 34
def reqLend (e : Nat) : Nat := bits e 35 8
def reqKey (e rid port : Nat) : Bool := reqValid e && reqRid e == rid && reqPort e == port

/-- The sound entry of a key, if any. -/
def State.reqFind (s : State) (st rid port : Nat) : Option Nat :=
  (bucketIdxs (bucketOf rid port)).find? fun i => !s.entryBad tReq st i 2 && reqKey (s.tw64 tReq st i 0) rid port

/-- A free entry of a key's bucket. -/
def State.reqFree (s : State) (st rid port : Nat) : Option Nat :=
  (bucketIdxs (bucketOf rid port)).find? fun i => !reqValid (s.tw64 tReq st i 0)

/-- The 2-bit value of a pair of the permission matrix: bit 0 R, bit 1 W (R130). -/
def State.permOf (s : State) (st rclass agroup : Nat) : Nat :=
  bits (s.tw tPerm st (rclass * 16 + agroup / 16) 0) (2 * (agroup % 16)) 2
def State.setPerm (s : State) (st rclass agroup v : Nat) : State :=
  let i := rclass * 16 + agroup / 16
  let lo := 2 * (agroup % 16)
  let w := s.tw tPerm st i 0
  s.setTw tPerm st i 0 (w - bits w lo 2 * 2 ^ lo + (v % 4) * 2 ^ lo)

/-! ### Lendings -/

def State.lw (s : State) (st i w : Nat) : Nat := s.tw tLend st i w
def State.lendValid (s : State) (st i : Nat) : Bool := bit (s.lw st i 0) 0
def State.lendState (s : State) (st i : Nat) : Nat := bits (s.lw st i 0) 1 2
def State.lendOwner (s : State) (st i : Nat) : Nat := bits (s.lw st i 0) 3 5
def State.lendPort (s : State) (st i : Nat) : Nat := bits (s.lw st i 0) 8 8
def State.lendVs (s : State) (st i : Nat) : Nat := bits (s.lw st i 0) 16 5
def State.lendVdev (s : State) (st i : Nat) : Nat := bits (s.lw st i 0) 21 5
def State.lendReset (s : State) (st i : Nat) : Bool := bit (s.lw st i 0) 26
def State.lendProg (s : State) (st i : Nat) : Bool := bit (s.lw st i 0) 27
def State.lendRid (s : State) (st i : Nat) : Nat := bits (s.lw st i 1) 0 16
def State.lendVport (s : State) (st i : Nat) : Nat := bits (s.lw st i 1) 16 8
def State.setLendState (s : State) (st i v : Nat) : State :=
  let w := s.lw st i 0
  s.setTw tLend st i 0 (w - bits w 1 2 * 2 + v * 2)
/-- ORDk of a lending's words 3 and 4. -/
def ordOf (w3 w4 k : Nat) : Nat := if k < 5 then bits w3 (6 * k) 6 else bits w4 0 6
def State.lendOrd (s : State) (st i k : Nat) : Nat := ordOf (s.lw st i 3) (s.lw st i 4) k
def State.lendReal (s : State) (st i k : Nat) : Nat := s.tw64 tLend st i (6 + 2 * k)
def State.lendBorrow (s : State) (st i k : Nat) : Nat := s.tw64 tLend st i (18 + 2 * k)

/-- The valid lendings of a station. -/
def State.lends (s : State) (st : Nat) : List Nat := (s.tIdxs tLend st).filter (s.lendValid st)

/-- Every valid lending of the device, as (station, index). -/
def State.allLends (s : State) : List (Nat × Nat) :=
  (List.range 16).flatMap fun st => (s.lends st).map fun i => (st, i)

/-- What the checks of a lending found. -/
def State.probe (s : State) (st i : Nat) : SrIov := SMap.get (fun _ => default) s.tbl.probes (256 * st + i)

/-- The borrower-side configuration doubleword of a virtual downstream port (kind 0) or of what B sees of its lent function
(kind 1), and the virtual port's bus numbers (R141). -/
def vdpKey (st i kind off : Nat) : Nat := (((st * 256 + i) * 2 + kind) * 4096) + off
/-- A virtual downstream port's doublewords reset as those of a downstream port. -/
def vdpDflt (k : Nat) : B32 := if k / 4096 % 2 = 0 then cwDflt (k % 4096) else 0
def State.vdp (s : State) (st i kind off : Nat) : Nat := (SMap.get vdpDflt s.tbl.vdp (vdpKey st i kind off)).toNat
def State.setVdp (s : State) (st i kind off v : Nat) : State :=
  { s with tbl := { s.tbl with vdp := SMap.set vdpDflt s.tbl.vdp (vdpKey st i kind off) (BitVec.ofNat 32 v) } }

/-- The secondary bus of a lending's virtual downstream port, and the borrower ID (R143). -/
def State.lendBus (s : State) (st i : Nat) : Nat := bits (s.vdp st i 0 ofBUS) 8 8
def State.borrowerId (s : State) (st i : Nat) : Nat := s.lendBus st i * 256
/-- Memory Space Enable of the lent function as B wrote it. -/
def State.lendMse (s : State) (st i : Nat) : Bool := bit (s.vdp st i 1 0x04) 1

/-! ### Completion return entries -/

def crtIdx (p tag : Nat) : Nat := kOf p * 256 + tag
def State.crt (s : State) (p tag : Nat) : Nat := s.tw64 tCrt (stnOf p) (crtIdx p tag) 0
def crtRid (e : Nat) : Nat := bits e 0 16
def crtTag (e : Nat) : Nat := bits e 16 14
def crtPort (e : Nat) : Nat := bits e 30 8
def crtValid (e : Nat) : Bool := bit e 38
def crtLent (e : Nat) : Bool := bit e 39
def crtLend (e : Nat) : Nat := bits e 40 8
def crtProxy (e : Nat) : Nat := bits e 48 16
def crtPack (rid tag port : Nat) (lent : Bool) (idx proxy : Nat) : Nat :=
  rid % 2 ^ 16 + tag % 2 ^ 14 * 2 ^ 16 + port % 256 * 2 ^ 30 + 2 ^ 38 + b2n lent * 2 ^ 39 + idx % 256 * 2 ^ 40
    + proxy % 2 ^ 16 * 2 ^ 48

/-- Words of an entry and entries of a table (Table 5.3); the permission matrix is read in words (R130). -/
def tableShape (t : Nat) : Nat × Nat :=
  if t = 0 then (8, 4096) else if t = 1 then (2, 16384) else if t = 2 then (1, 4096) else if t = 3 then (32, 256) else (2, 2304)

/-- The free entry of a port with the lowest tag. -/
def State.crtFree (s : State) (p : Nat) : Option Nat := (List.range 256).find? fun t => !crtValid (s.crt p t)

/-- How the completion of an entry is changed. -/
def State.patch (s : State) (p tag : Nat) : Nat := SMap.get (fun _ => 0) s.tbl.patches (256 * p + tag)
def State.setPatch (s : State) (p tag n : Nat) : State :=
  { s with tbl := { s.tbl with patches := SMap.set (fun _ => 0) s.tbl.patches (256 * p + tag) n } }

/-- Release a completion return entry: its port's IN_USE and its lending's OUTSTANDING fall. -/
def State.crtRelease (s : State) (p tag : Nat) : State :=
  let e := s.crt p tag
  let st := stnOf p
  if !crtValid e then s
  else
    let s := s.setTw64 tCrt st (crtIdx p tag) 0 0
    let f := F.STN_CLS_CRT_USE_IN_USE st (kOf p)
    let s := s.put f (s.get f - 1)
    let s := s.setPatch p tag 0
    if crtLent e then s.setTw tLend st (crtLend e) 5 (s.lw st (crtLend e) 5 - 1) else s

/-- Take a completion return entry for a request leaving port p. -/
def State.crtTake (s : State) (p tag : Nat) (n : CrtNeed) (proxy : Nat) : State :=
  let st := stnOf p
  let s := s.setTw64 tCrt st (crtIdx p tag) 0 (crtPack n.rid.toNat n.tag.toNat n.port n.lent n.idx proxy)
  let s := (s.bump (F.STN_CLS_CRT_USE_IN_USE st (kOf p))).setPatch p tag (n.patch + 8 * n.vs)
  if n.lent then s.setTw tLend st n.idx 5 (s.lw st n.idx 5 + 1) else s

/-- Release every completion return entry of a port that satisfies q. -/
def State.crtReleaseIf (s : State) (p : Nat) (q : Nat → Bool) : State :=
  let st := stnOf p
  ((s.tIdxs tCrt st).filter fun i => i / 256 == kOf p).foldl (fun s i =>
    let e := s.crt p (i % 256)
    if crtValid e && q e then s.crtRelease p (i % 256) else s) s

/-- R142: release every entry of a lending. -/
def State.crtReleaseLend (s : State) (st i : Nat) : State :=
  s.crtReleaseIf (s.lendPort st i) fun e => crtLent e && crtLend e == i

end Sys2Proof.Machine
end

