-- ==== Sys2Proof/Machine/Items.lean ====
section
/-!
DEFINITION. Machine/Items.lean: what a staged item changes (R394, R395): its effect on a scratch copy of the committed state, on
which cross-checks run, and the keys by which an earlier COMMIT's change of it is found (R396).
-/

namespace Sys2Proof.Machine

/-- Write the bits of a register under a mask. -/
def State.maskReg (s : State) (a : Nat) (m v : B32) : State := s.setReg a ((s.reg a &&& ~~~m) ||| (v &&& m))

/-- The bits of a register that a COMMIT or a publication writes (Table 0.4). -/
def stagedMask (a : Nat) : B32 := regMask (fun c => c == .rwc || c == .qo) a

/-- The stations of a mask. -/
def maskStations (m : Nat) : List Nat := (List.range 16).filter fun st => bit m st

/-- Permission pairs from a first access group on. -/
def State.setPerms (s : State) (st rclass : Nat) : Nat → List Nat → State
  | _, [] => s
  | a, v :: vs => State.setPerms (s.setPerm st rclass a v) st rclass (a + 1) vs

/-- Words 6 to 29 of a lending entry a new lending starts with: none of the borrower's, REAL_BASE as staged. -/
def State.setLending (s : State) (st idx : Nat) (words : List B32) : State := s.setEntry tLend st idx 0 words

/-- The requester entry of a lent function (R143): REAL_RID at PD_PORT, in the class the port gives by default (log entry 19). -/
def State.lentReq (s : State) (st i : Nat) : State :=
  let p := s.lendPort st i
  let e := s.lendRid st i + p * 2 ^ 16 + 2 ^ 24 + s.get (F.STN_CLS_PORT_DEF_DEF_RCLASS (stnOf p) (kOf p)) * 2 ^ 25 + 2 ^ 34 + i * 2 ^ 35
  match s.reqFree st (s.lendRid st i) p with
  | some j => s.setTw64 tReq st j 0 e
  | none => s

/-- Clear a panel's grant slots (R327). -/
def State.clearSlots (s : State) (n : Nat) : State :=
  (List.range 8).foldl (fun s w => s.setReg (F.SHT_PNL_SLOT_GRANT0 n w).addr 0) s

/-- The address of word w of binding entry i, and of export entry g (Table 10.8). -/
def bindAddr (i w : Nat) : Nat := 0x02205000 + 0x10 * i + 4 * w
def exportAddr (g w : Nat) : Nat := 0x02204000 + 0x10 * g + 4 * w
/-- The address of word w of multicast group entry g (Table 6.1). -/
def groupAddr (g w : Nat) : Nat := 0x02102000 + 0x20 * g + 4 * w

/-- The words of a remote binding by node, address and value: the home entry at the home node, the far entry at the far node. -/
def bindingWords (hi fi : Nat) (home far : List B32) : List (Nat × Nat × B32) :=
  let w (l : List B32) (i : Nat) : Nat := (l.getD i 0).toNat
  ((home.zip (List.range 4)).map fun x => (bits (w home 1) 16 8, bindAddr hi x.2, x.1))
    ++ (far.zip (List.range 4)).map fun x => (bits (w far 1) 0 8, bindAddr fi x.2, x.1)

/-- Those of them that belong to this node. -/
def State.bindingHere (s : State) (hi fi : Nat) (home far : List B32) : List (Nat × B32) :=
  (bindingWords hi fi home far).filterMap fun x => if x.1 = s.get F.FAB_ID_NODE_ID then some x.2 else none

/-- What an item writes into registers and tables. -/
def State.applyItem (s : State) (k : ItemK) : State :=
  match k with
  | .regs ws => ws.foldl (fun s x => s.maskReg x.1 x.2.1 x.2.2) s
  | .window m idx e => (maskStations m).foldl (fun s st => s.setEntry tWin st idx 0 e) s
  | .requester st add e =>
    let n := e.toNat
    if add then match s.reqFree st (reqRid n) (reqPort n) with
      | some i => s.setTw64 tReq st i 0 n
      | none => s
    else match s.reqFind st (reqRid n) (reqPort n) with
      | some i => s.setTw64 tReq st i 0 0
      | none => s
  | .perm m rclass first vals => (maskStations m).foldl (fun s st => s.setPerms st rclass first vals) s
  | .lend st idx words pr =>
    let s := (s.setLending st idx words).lentReq st idx
    { s with tbl := { s.tbl with probes := SMap.set (fun _ => default) s.tbl.probes (256 * st + idx) pr } }
  | .bind _ _ ws => ws.foldl (fun s x => s.maskReg x.1 x.2.1 x.2.2) s
  | .unbind n => (s.setReg (F.SHT_PNL_BIND_VALID n).addr 0).clearSlots n
  | .binding hi fi home far => (s.bindingHere hi fi home far).foldl (fun s x => s.maskReg x.1 (stagedMask x.1) x.2) s
  | .image .. | .regions .. | .proxyRegions .. => s

/-- The committed state together with a key's transaction so far. -/
def State.scratch (s : State) (key : B32) : State :=
  match s.txn key with
  | some t => t.items.foldl (fun s i => s.applyItem i.what) s
  | none => s

/-- Keys of what an item changes: registers by address, table entries, region sets, images. -/
def itemKeys (k : ItemK) : List Nat :=
  let big := 2 ^ 40
  match k with
  | .regs ws => ws.map fun x => x.1
  | .window m idx _ => (maskStations m).map fun st => big + tkey tWin st idx 0
  | .requester st _ e => [2 * big + (st * 256 + reqPort e.toNat) * 65536 + reqRid e.toNat]
  | .perm m rclass first vals =>
    (maskStations m).flatMap fun st => (List.range (first % 16 + vals.length + 15)).filterMap fun j =>
      if j % 16 = 0 && decide (j < first % 16 + vals.length) then
        some (big + tkey tPerm st (rclass * 16 + (first + j) / 16) 0) else none
  | .lend st idx _ _ => [big + tkey tLend st idx 0]
  | .image m _ _ => (maskStations m).map fun st => 3 * big + st
  | .regions m _ => (maskStations m).map fun st => 3 * big + 16 + st
  | .proxyRegions _ => [3 * big + 32]
  | .bind _ _ ws => ws.map fun x => x.1
  | .unbind n => (F.SHT_PNL_BIND_VALID n).addr :: (List.range 8).map fun w => (F.SHT_PNL_SLOT_GRANT0 n w).addr
  | .binding hi fi home far => (bindingWords hi fi home far).map fun x => x.1 * 2 ^ 41 + x.2.1

/-- Stage items: the chapter's cross-checks run on the committed state with the transaction and the items themselves applied
(R395); a refused STAGE changes nothing. -/
def State.stage_ (s : State) (x : Sess) (ks : List ItemK) (bytes : Nat) (check : State → Option (Status × Nat)) : Ans :=
  let sc := ks.foldl State.applyItem (s.scratch x.key)
  match check sc with
  | some (st, d) => .fail st s d
  | none => match s.addItems x.key ks bytes with
    | some s' => .ok s'
    | none => .fail .noResource s

/-- A write of a whole register as an item part: its staged fields; reserved bits are ignored (R10). -/
def regWhole (a v : Nat) : Nat × B32 × B32 := (a, stagedMask a, BitVec.ofNat 32 v)

/-- A field write as an item part. -/
def fldPart (f : Fld) (v : Nat) : Nat × B32 × B32 :=
  (f.addr, BitVec.ofNat 32 ((2 ^ f.w - 1) * 2 ^ f.lo), BitVec.ofNat 32 (v % 2 ^ f.w * 2 ^ f.lo))

end Sys2Proof.Machine
end

