-- ==== Sys2Proof/Machine/Bank.lean ====
section
/-!
DEFINITION. Machine/Bank.lean: the output queues of a bank (R94 to R106), admission (R99, R100, R162), host error reporting by
AER (R213, R214), late errors (R225 to R228) and what happens to a TLP that a closed queue refuses (R111).
-/

namespace Sys2Proof.Machine

/-! ### Queue arithmetic -/

/-- Bytes a record takes in its queue: head and TLP on a 4-byte boundary (R95), with the unused bytes before its head. -/
def recSize (r : Rec) : Nat := r.gap + (8 + r.rlen + 3) / 4 * 4

/-- Bytes from the start of the first cell to the end of the last record. -/
def Queue.used (q : Queue) : Nat := q.recs.foldl (fun n r => n + recSize r) q.headOff

/-- Occupancy in cells (R98). -/
def Queue.occ (q : Queue) : Nat := q.cells.length

/-- Bytes free in the open cell. -/
def Queue.room (q : Queue) : Nat := if q.cut then 0 else 256 * q.occ - q.used

/-- cells_beyond_open of R100 for a record of rlen bytes. -/
def Queue.need (q : Queue) (rlen : Nat) : Nat := ((8 + rlen + 3) / 4 * 4 - q.room + 255) / 256

/-- Add a record at the tail, with the cells it takes. -/
def Queue.push (q : Queue) (r : Rec) (new : List Cell) : Queue :=
  let gap := if q.cut then 256 * q.occ - q.used else 0
  { recs := q.recs ++ [{ r with gap := gap }], headOff := q.headOff, cells := q.cells ++ new, cut := false }

/-- Move the read point n bytes on: cells whose last byte has been read leave the queue; an empty queue holds no cell. -/
def Queue.advance (q : Queue) (n : Nat) : Queue :=
  let off := q.headOff + n
  if q.recs.isEmpty then {} else { q with headOff := off % 256, cells := q.cells.drop (off / 256) }

/-- Take the head record off, with the queue that remains. -/
def Queue.pop (q : Queue) : Option (Rec × Queue) :=
  match q.recs with
  | [] => none
  | r :: rest => some (r, ({ q with recs := rest }).advance (recSize r))

/-- Keep only the records that satisfy p; the bytes of the others stay as gaps until the read point passes them. -/
def Queue.keepRecs (p : Rec → Bool) : Nat → List Rec → List Rec
  | _, [] => []
  | g, r :: rs =>
    if p r then { r with gap := r.gap + g } :: Queue.keepRecs p 0 rs
    else Queue.keepRecs p (g + recSize r) rs

/-- The first byte and the last byte + 1 of each record of a queue, counted from the start of its first cell. -/
def spans : Nat → List Rec → List (Nat × Nat)
  | _, [] => []
  | o, r :: rs => (o + r.gap, o + recSize r) :: spans (o + recSize r) rs

/-- A link entry (R109): NEXT, FHO, RECS and EPOCH; a last cell has no next one, and a cell in which no record head starts no FHO. -/
structure LinkEntry where
  next : Option Nat
  fho : Option Nat
  recs : Nat
  epoch : Bool
  deriving DecidableEq, Repr

/-- The link entry of the n-th cell of a queue. -/
def Queue.linkEntry (q : Queue) (n : Nat) : Option LinkEntry :=
  let heads := ((spans q.headOff q.recs).map Prod.fst).filter fun a => a / 256 == n
  q.cells[n]?.map fun c =>
    { next := q.cells[n + 1]?.map Cell.ix, fho := heads.head?.map fun a => a % 256 / 4, recs := heads.length, epoch := c.epoch }

/-- The bytes of a TLP that its basting tag covers: as they stand, a digest last (R27, R216). -/
def tlpBytes (t : Tlp) : Bytes := t.hdr ++ t.data ++ (t.digest.map fun d => leBytes 4 d.toNat).getD []

/-- The tag of a changed TLP: the old one combined with the CRC of the change. -/
def retag (btag : B32) (t u : Tlp) : B32 := if u = t then btag else btag ^^^ crc32c (tlpBytes t) ^^^ crc32c (tlpBytes u)

/-- The FLIT-mode form of a TLP, which a program sees and a Seam link carries: a TLP in non-FLIT format is converted. -/
def flitForm (t : Tlp) : Tlp := if t.flitFmt then t else { Config.convert t with flitFmt := true }

/-- A tag is that of a TLP's bytes (R210, R211). -/
def tagFits (btag : B32) (t : Tlp) : Bool := crc32c (tlpBytes t) == btag

/-- A record that passes at its egress: its tag fits, and RLEN agrees with the length its header implies (R95). -/
def Rec.passes (r : Rec) : Bool := tagFits r.btag r.tlp && r.rlen == r.tlp.len

/-- A record one of whose bytes is wrong: its tag no longer fits (Table 4.4). -/
def Rec.spoil (r : Rec) : Rec := { r with btag := ~~~crc32c (tlpBytes r.tlp) }

/-- The record head of Table 4.1 as a number of 64 bits. -/
def Rec.head (r : Rec) : Nat :=
  r.btag.toNat + (r.rlen % 2 ^ 11) * 2 ^ 32 + b2n r.hfmt * 2 ^ 43 + b2n r.pass * 2 ^ 44 + b2n r.trace * 2 ^ 45 + r.pcnt * 2 ^ 46

/-- The posted queue whose counts a queue's records use (R104): of its port and VC, of the endpoint queues, of the Seam link. -/
def pKey (q : Nat) : Nat := if q < 54 then q - q % 3 else if q < 57 then 54 else if q = 57 then 57 else 58

/-- The queue's records are posted ones that the counts follow. -/
def isPosted (q : Nat) : Bool := (q < 54 && q % 3 == 0) || q == 54 || q == 58

def Bank.q (b : Bank) (q : Nat) : Queue := SMap.get (fun _ => {}) b.qs q
def Bank.setQ (b : Bank) (q : Nat) (v : Queue) : Bank := { b with qs := SMap.set (fun _ => {}) b.qs q v }
def Bank.admitCnt (b : Bank) (q : Nat) : Nat := SMap.get (fun _ => 0) b.pAdmit (pKey q)
def Bank.sentCnt (b : Bank) (q : Nat) : Nat := SMap.get (fun _ => 0) b.pSent (pKey q)
/-- Advance P_ADMIT or P_SENT by n for records of queue q; both wrap modulo 2^18. -/
def Bank.addAdmit (b : Bank) (q n : Nat) : Bank :=
  if isPosted q then { b with pAdmit := SMap.set (fun _ => 0) b.pAdmit (pKey q) ((b.admitCnt q + n) % 2 ^ 18) } else b
def Bank.addSent (b : Bank) (q n : Nat) : Bank :=
  if isPosted q then { b with pSent := SMap.set (fun _ => 0) b.pSent (pKey q) ((b.sentCnt q + n) % 2 ^ 18) } else b
/-- Residue chain of queue q and ingress i. -/
def Bank.chain (b : Bank) (q i : Nat) : Queue := SMap.get (fun _ => {}) b.chains (1024 * q + i)
def Bank.setChain (b : Bank) (q i : Nat) (v : Queue) : Bank :=
  { b with chains := SMap.set (fun _ => {}) b.chains (1024 * q + i) v }
/-- Cells of the residue store. -/
def Bank.resOcc (b : Bank) : Nat := b.chains.foldl (fun n c => n + c.2.occ) 0

/-! ### Limits and admission -/

/-- Whether queue q of station st is usable (R98, R99). -/
def State.qUsable (s : State) (st q : Nat) : Bool :=
  if q = 57 then true
  else if s.seamMode st then decide (58 ≤ q ∧ q ≤ 61)
  else if q < 54 then s.exists (9 * st + q / 6)
  else decide (q < 57)

/-- QLIM of a queue; a port queue at its default follows the configured width (Table 4.3, log entry 5). -/
def State.qlim (s : State) (st q : Nat) : Nat :=
  let v := s.get (F.STN_OB_Q_CFG_QLIM st q)
  if q < 54 ∧ v = 0 then (if (q / 3) % 2 = 0 then 128 else 64) * s.width (9 * st + q / 6) else v

/-- QMIN of a queue as it counts: 0 for an unusable queue (R99). -/
def State.qmin (s : State) (st q : Nat) : Nat :=
  if s.qUsable st q then s.get (F.STN_OB_Q_CFG_QMIN st q) else 0

def allQids : List Nat := List.range 64

/-- OWED: cells owed to reserved minimums (R100). -/
def State.owed (s : State) (st : Nat) : Nat :=
  allQids.foldl (fun n q => n + (s.qmin st q - ((s.bank st).q q).occ)) 0

/-- SUM_QMIN over the usable queues. -/
def State.sumQmin (s : State) (st : Nat) : Nat := allQids.foldl (fun n q => n + s.qmin st q) 0

/-- The quadrant that serves bank st (Table 1.1). -/
def quadOf (st : Nat) : Nat := st / 4
def State.recovering (s : State) (st : Nat) : Bool := bit (s.get F.CORE_STALL_STATUS_RECOVERING) (quadOf st)
def State.quadFailed (s : State) (st : Nat) : Bool := bit (s.get F.CORE_STALL_STATUS_FAILED) (quadOf st)

/-- Shared cells of the bank. -/
def State.sharedCells (s : State) (st : Nat) : Nat := s.get (F.STN_OB_FREE_FREE_CNT st) - s.owed st

/-- What R100 answers. -/
inductive Admit where
  | yes | atLimit | noShared
  deriving DecidableEq, Repr

/-- The function of R100 for queue q of bank st and a record of rlen bytes. -/
def State.admits (s : State) (st q rlen : Nat) : Admit :=
  let o := ((s.bank st).q q)
  let need := o.need rlen
  let own := s.qmin st q - o.occ
  if !s.qUsable st q || decide (s.qlim st q < o.occ + need) then .atLimit
  else if s.sharedCells st < need - own then .noShared
  else .yes

/-- The n cells at the top of a bank's free list. -/
def Bank.topCells (b : Bank) (n : Nat) : List Nat := b.freed.take n ++ (List.range (n - b.freed.length)).map (b.fresh + ·)

/-- The free list without its n top cells. -/
def Bank.dropTop (b : Bank) (n : Nat) : Bank := { b with freed := b.freed.drop n, fresh := b.fresh + (n - b.freed.length) }

/-- FREE_CNT, and LOW_WATER with it. -/
def State.freeCount (s : State) (st n : Nat) : State :=
  let s := s.put (F.STN_OB_FREE_FREE_CNT st) n
  if n < s.get (F.STN_OB_FREE_LOW_WATER st) then s.put (F.STN_OB_FREE_LOW_WATER st) n else s

/-- Take n cells off the free list of a bank. -/
def State.takeCells (s : State) (st n : Nat) : State :=
  (s.freeCount st (s.get (F.STN_OB_FREE_FREE_CNT st) - n)).modBank st fun b => b.dropTop n

/-- Cells return to the free list, each on top of it. -/
def State.freeCells (s : State) (st : Nat) (cs : List Cell) : State :=
  (s.put (F.STN_OB_FREE_FREE_CNT st) (s.get (F.STN_OB_FREE_FREE_CNT st) + cs.length)).modBank st fun b =>
    { b with freed := (cs.map Cell.ix).reverse ++ b.freed }

/-- Say why the last admission to queue q was refused. -/
def State.noteRefusal (s : State) (st q : Nat) (a : Admit) : State :=
  (s.putB (F.STN_OB_Q_STATUS_AT_LIMIT st q) (a == .atLimit)).putB (F.STN_OB_Q_STATUS_NO_SHARED st q) (a == .noShared)

/-- The port of its station a queue belongs to, as counters number it (16: none). -/
def qk (q : Nat) : Nat := if q < 54 then q / 6 else if 58 ≤ q ∧ q < 62 then 0 else 16

/-- Put a record into queue q: cells, counts, PCNT (R100, R104). -/
def State.enqueue (s : State) (st q : Nat) (r : Rec) : State :=
  let b := s.bank st
  let o := b.q q
  let r := if isPosted q then r else { r with pcnt := b.admitCnt q }
  let new : List Cell := (b.topCells (o.need r.rlen)).map fun i => { ix := i, epoch := b.epoch }
  let s := (s.takeCells st (o.need r.rlen)).count st 0x0A (qk q) 0 0 (o.need r.rlen)
  let s := s.modBank st fun b => (b.setQ q (o.push r new)).addAdmit q 1
  s.noteRefusal st q .yes

/-- The ports a queue's records leave by. -/
def qPort (st q : Nat) : Nat := if q < 54 then 9 * st + q / 6 else if 58 ≤ q then 9 * st else 0xFF

/-! ### Error reporting to hosts (R213, R214) -/

/-- Uncorrectable error bits of AER (PCI Express Base Specification 7.0). -/
def aeDLP : Nat := 4
def aeSD : Nat := 5
def aePoison : Nat := 12
def aeFCP : Nat := 13
def aeUC : Nat := 16
def aeRO : Nat := 17
def aeMalf : Nat := 18
def aeUR : Nat := 20
def aeACS : Nat := 21
def aeUIE : Nat := 22
def aeMCB : Nat := 23
def aePEB : Nat := 26

/-- The requester ID of a port's function in its hierarchy: USP device 0 on its bus; DSP DEVNUM on the internal bus. -/
def State.portRid (s : State) (p : Nat) : Nat :=
  if s.pciRole p = 1 then bits (s.cw p ofBUS) 0 8 * 256
  else match s.usp (s.vsOf p) with
    | some u => s.secBus u * 256 + s.devnum p * 8
    | none => s.devnum p * 8

/-- Log an uncorrectable error in a port's AER and, unless it is masked, signal it to the host with its programmed severity. -/
def State.aer (s : State) (p b : Nat) : State :=
  let s' := s.orCw p ofAERU (2 ^ b)
  if bit (s.cw p 0x108) b then s'
  else s'.emit (.errMsg (s.vsOf p) (BitVec.ofNat 16 (s.portRid p)) (if bit (s.cw p 0x10C) b then 2 else 1))

/-- The Header Log of an error: the first four doublewords of the TLP's header. -/
def State.headerLog (s : State) (p : Nat) (h : Bytes) : State :=
  (((s.setCw p 0x11C (leAt h 0 4)).setCw p 0x120 (leAt h 4 4)).setCw p 0x124 (leAt h 8 4)).setCw p 0x128 (leAt h 12 4)

/-- Log a correctable error in a port's AER and signal it unless it is masked. -/
def State.aerCorr (s : State) (p b : Nat) : State :=
  let s' := s.orCw p ofAERC (2 ^ b)
  if bit (s.cw p 0x114) b then s' else s'.emit (.errMsg (s.vsOf p) (BitVec.ofNat 16 (s.portRid p)) 0)

/-! ### Late errors (R225 to R228) -/

/-- A late error as the ingress device enters it: merged into one of the eight newest entries with the same key within 1 ms, or
a new entry, which the partition manager hears of. -/
def State.enterLate (s : State) (e : LateRec) : State :=
  let s0 := s
  let key (x : LateEnt) : Bool := x.cause == e.cause.toNat && x.vs == e.ingVs.toNat && x.node == e.ingNode.toNat
    && x.discNode == e.discNode.toNat && x.discPort == e.discPort.toNat && decide (s0.clk.now ≤ x.moment + 1000000)
  let n := s.late.log.length
  let old := s.late.log.take (n - 8)
  let recent := s.late.log.drop (n - 8)
  match recent.reverse.find? key with
  | some x =>
    let f (y : LateEnt) : LateEnt := if y.seq = x.seq then { y with count := min 65535 (y.count + 1) } else y
    { s with late := { s.late with log := old ++ recent.map f } }
  | none =>
    let seq := s.get F.ERR_LATE_STATUS_NEXT_SEQ
    let ent : LateEnt :=
      { time := e.time, moment := s.clk.now, seq := seq, rid := e.rid, ing := e.ingPort.toNat,
        vs := e.ingVs.toNat, node := e.ingNode.toNat, discNode := e.discNode.toNat, discPort := e.discPort.toNat,
        cause := e.cause.toNat, len := e.len.toNat, count := 1, addr := e.addr, fetched := false }
    let full := decide (1024 ≤ n)
    let lostOne := full && !((s.late.log.head?.map LateEnt.fetched).getD true)
    let s := { s with late := { s.late with log := (if full then s.late.log.drop 1 else s.late.log) ++ [ent] } }
    let s := s.bumpWrap F.ERR_LATE_STATUS_NEXT_SEQ 1
    let s := if lostOne then s.bump F.ERR_LATE_LOST_OVERWRITTEN else s
    let v := e.ingVs.toNat
    let s := s.bump (F.ERR_VS_LATE_CNT_ENTRIES v)
    let s := s.raise 0x09 0x2801 3 (scVs v) [v, seq, e.cause.toNat, e.discNode.toNat, e.discPort.toNat]
    if s.flag (F.ERR_VS_NOTIFY_EN v) then s.fire v false (s.get (F.ERR_VS_NOTIFY_VECTOR v)) else s

/-- The late-error record of a discarded posted record. -/
def State.lateRec (s : State) (r : Rec) (cause discPort : Nat) : LateRec :=
  { time := s.clk.fab, rid := r.rid0, ingPort := BitVec.ofNat 8 r.ing, ingVs := BitVec.ofNat 8 r.vs,
    ingNode := BitVec.ofNat 8 r.node, discNode := BitVec.ofNat 8 s.nodeId, discPort := BitVec.ofNat 8 discPort,
    cause := BitVec.ofNat 8 cause, len := BitVec.ofNat 16 r.tlp.len, addr := r.tlp.addr }

/-- The fields of a late-error record as a LATE_NOTICE carries them (Table 8.8). -/
def lateFields (e : LateRec) : List Nat :=
  [e.time.toNat, e.rid.toNat, e.ingPort.toNat, e.ingVs.toNat, e.ingNode.toNat, e.discNode.toNat, e.discPort.toNat,
   e.cause.toNat, e.len.toNat, e.addr.toNat]

/-- Send a control message that is repeated until it is answered (R291). -/
def State.sendCtl (s : State) (dest kind : Nat) (fields : List Nat) (req : Option Req) : State :=
  let o : CtlOut := { mseq := s.fab.mseq, dest := dest, kind := kind, fields := fields, sends := 1, req := req }
  ({ s with fab := { s.fab with mseq := (s.fab.mseq + 1) % 2 ^ 32, out := s.fab.out ++ [o] } }).emit
    (.ctl dest kind s.fab.mseq fields)

/-- Send a control message that needs no reply. -/
def State.tellCtl (s : State) (dest kind : Nat) (fields : List Nat) : State :=
  ({ s with fab := { s.fab with mseq := (s.fab.mseq + 1) % 2 ^ 32 } }).emit (.ctl dest kind s.fab.mseq fields)

/-- A posted TLP discarded after classification (R225): entered here, or told to its ingress device (R228). -/
def State.lateError (s : State) (r : Rec) (cause discPort : Nat) : State :=
  let e := s.lateRec r cause discPort
  if r.node = s.nodeId then s.enterLate e else s.sendCtl r.node 0x30 (lateFields e) none

/-! ### Containment entries of a station, as far as a refusal asks for them -/

/-- Station fenced (R222). -/
def State.fenced (s : State) (st : Nat) : Bool := s.flag (F.STN_CQ_STATUS_FENCED st)

/-- The containment entry that holds an object (KIND, OBJECT), if one is open. -/
def State.cqFind (s : State) (st kind obj : Nat) : Option Nat :=
  (List.range 32).find? fun i => s.flag (F.STN_CQ_ENTRY0_VALID st i) && s.get (F.STN_CQ_ENTRY0_KIND st i) == kind
    && s.get (F.STN_CQ_ENTRY0_OBJECT st i) == obj

/-- The late-error cause of a refusal at admission (R111): 4 while a port entry is open or the station is fenced, else 3. -/
def State.refusalCause (s : State) (p : Nat) : Nat :=
  if s.fenced (stnOf p) || (s.cqFind (stnOf p) 0 p).isSome then 4 else 3

/-- The completion status by which a closed port refuses a non-posted request: Unsupported Request (R111), but while DPC is
triggered the status its DPC Completion Control selects (R217): 1 UR, 4 CA. -/
def State.refusalStatus (s : State) (p : Nat) : Nat :=
  if s.flag (F.STN_PORT_STATUS_DPC_TRIG (stnOf p) (kOf p)) then (if bit (s.cw p ofDPC) 18 then 1 else 4) else 1

/-! ### Discards -/

/-- Where a completion the device sends itself goes back to: the ingress port (0xFE endpoint channel) of this device, or with
0x200 + 256·node added that of another one. -/
def State.backTo (s : State) (node ing : Nat) : Nat := if node = s.nodeId then ing else 0x200 + 256 * node + ing

/-- The completer ID of what the device answers at an ingress port (R132); of a request that came by the endpoint channel or from another
node, that of the upstream port of its virtual switch (log entry 53). -/
def State.completerAt (s : State) (ing vs : Nat) : B16 :=
  BitVec.ofNat 16 (if s.pciRole ing = 1 ∨ s.pciRole ing = 2 then s.portRid ing else (s.usp vs).elim 0 s.portRid)

/-- The completion of a record's request: addressed as the request arrived, whatever stage 5 wrote. -/
def State.completeRec (s : State) (r : Rec) (status : Nat) : State :=
  s.emit (.completion (s.backTo r.node r.ing) r.rid0 ((r.crt.map CrtNeed.tag).getD r.tlp.tag) status (s.completerAt r.ing r.vs))

/-- A record that a closed queue refuses, or that is discarded at admission: a non-posted request is completed, a posted one
is a late error (R111). -/
def State.refuseRec (s : State) (r : Rec) (st q : Nat) : State :=
  let p := qPort st q
  if r.cls = 1 then s.completeRec r (s.refusalStatus p)
  else if r.cls = 0 then s.lateError r (s.refusalCause p) p
  else s

/-- Counting an integrity discard for the storm of R212. -/
def State.storm (s : State) (st : Nat) : State :=
  let ts := ((SMap.get (fun _ => []) s.late.discards st).filter fun t => decide (s.clk.now < t + 1000000)) ++ [s.clk.now]
  let s := { s with late := { s.late with discards := SMap.set (fun _ => []) s.late.discards st ts } }
  if 16 < ts.length then s.raiseQuiet 1000000000 st (srcStn st) 0x2604 4 (scStn st) [st, ts.length] else s

/-- An integrity discard of a record of queue q in bank st (R213): Uncorrectable Internal Error in the AER of the upstream port
of the virtual switch of the egress port or destination function, with a Header Log of 0; a posted TLP is a late error. -/
def State.integrityDiscard (s : State) (r : Rec) (st q cause : Nat) : State :=
  let p := qPort st q
  let s := (s.storm st).count st 0x0B (qk q) 0 0 1
  let v := if q < 54 then s.vsOf p else r.ep / 2
  let s := if 57 ≤ q then s else match s.usp v with
    | some u => (s.aer u aeUIE).headerLog u (List.replicate 16 0)
    | none => s
  if r.cls = 0 && !r.trace then s.lateError r cause p else s

/-! ### The end of a TLP in flight (R101) -/

def State.flight (s : State) (id : Nat) : Option Flight := s.core.flights.find? fun f => f.id == id
def State.setFlight (s : State) (f : Flight) : State :=
  { s with core := { s.core with flights := s.core.flights.map fun g => if g.id = f.id then f else g } }
def State.dropFlight (s : State) (id : Nat) : State :=
  { s with core := { s.core with flights := s.core.flights.filter fun g => g.id != id } }

/-! ### The receive buffer of a Seam link (R255, R256, R261) -/

/-- Units of class c held in the receive buffer. -/
def SeamSt.occ (x : SeamSt) (c : Nat) : Nat :=
  (SMap.get (fun _ => 0) x.rxUnits c + 65536 - SMap.get (fun _ => 0) x.rxFreed c) % 65536

/-- The units this end reserves for class c. -/
def State.seamRes (s : State) (st c : Nat) : Nat :=
  match c with
  | 0 => s.get (F.STN_SEAM_RES0_RES0 st)
  | 1 => s.get (F.STN_SEAM_RES0_RES1 st)
  | 2 => s.get (F.STN_SEAM_RES1_RES2 st)
  | _ => s.get (F.STN_SEAM_RES1_RES3 st)

/-- Units of the shared pool in use. -/
def State.seamPool (s : State) (st : Nat) : Nat := [0, 1, 2, 3].foldl (fun n c => n + ((s.seam st).occ c - s.seamRes st c)) 0

/-- XOFF as this end sends it, in on/off mode. -/
def State.xoffUpdate (s : State) (st : Nat) : State :=
  let shared := s.get (F.STN_SEAM_FC_SHARED st)
  let old := s.get (F.STN_SEAM_STATUS_XOFF_SENT st)
  let f (x c : Nat) : Nat :=
    let o := (s.seam st).occ c
    let r := s.seamRes st c
    if r ≤ o ∧ shared ≤ s.seamPool st + 256 then setBit x c true
    else if s.seamPool st + 1024 < shared ∨ o + 256 < r then setBit x c false else x
  s.put (F.STN_SEAM_STATUS_XOFF_SENT st) (if s.get (F.STN_SEAM_STATUS_FC st) = 0 then 0 else [0, 1, 2, 3].foldl f old)

/-- Units of class c of a Seam link are free again. -/
def State.seamFree (s : State) (st c units : Nat) : State :=
  (s.modSeam st fun x =>
    { x with rxFreed := SMap.set (fun _ => 0) x.rxFreed c ((SMap.get (fun _ => 0) x.rxFreed c + units) % 65536) }).xoffUpdate st

/-- Return the ingress credit of a TLP: link credit of its port, or the units of its Seam class. -/
def State.returnCredit (s : State) (f : Flight) : State :=
  if f.src < 144 && s.seamMode (stnOf f.src) then s.seamFree (stnOf f.src) f.scls f.units
  else s.emit (.credit f.src f.vc f.cls f.tlp0.len)

/-- A TLP whose every destination has been committed or is gone leaves its ingress buffer. -/
def State.settle (s : State) (f : Flight) : State :=
  if f.dests.all Dest.committed then (s.dropFlight f.id).returnCredit f else s.setFlight f

/-- A destination of a TLP in flight is gone or needs nothing further. -/
def State.destGone (s : State) (fid bank q : Nat) : State :=
  match s.flight fid with
  | none => s
  | some f =>
    let g (d : Dest) : Dest := if d.bank = bank ∧ d.qid = q then { d with admitted := true, committed := true } else d
    s.settle { f with dests := f.dests.map g }

end Sys2Proof.Machine
end

