-- ==== Sys2Proof/Machine/Panel.lean ====
section
/-!
DEFINITION. Machine/Panel.lean: Shuttle descriptors (Table 11.3), grants (R315, R316), and what a panel and its mover do as their
reads, writes and flush reads go on (R307 to R318, R322, R326), with the resets of the two endpoint functions (R334, R327).
-/

namespace Sys2Proof.Machine

/-! ### Descriptors -/

def dOp (d : Bytes) : Nat := leAt d 0 1
def dFlags (d : Bytes) : Nat := leAt d 1 1
def dSrcSlot (d : Bytes) : Nat := leAt d 2 1 % 16
def dDstSlot (d : Bytes) : Nat := leAt d 2 1 / 16
def dLen (d : Bytes) : Nat := leAt d 4 4
def dSrc (d : Bytes) : Nat := leAt d 8 8
def dDst (d : Bytes) : Nat := leAt d 16 8
def dUser (d : Bytes) : Nat := leAt d 24 8
/-- A NOP moves nothing. -/
def dMoves (d : Bytes) : Nat := if dOp d = 0 then 0 else dLen d

/-- Byte x of the destination range lies on a chunk boundary (R311). -/
def atChunk (d : Bytes) (x : Nat) : Bool := (dDst d + x) % 4096 = 0

/-! Descriptor and panel status codes (Table 11.5). -/

def psOK : Nat := 0
def psBadDesc : Nat := 1
def psXlate : Nat := 2
def psRange : Nat := 3
def psDenied : Nat := 4
def psRead : Nat := 5
def psFlush : Nat := 6
def psAborted : Nat := 7
def psBadTail : Nat := 0x10
def psBadHead : Nat := 0x11
def psRing : Nat := 0x12
def psInternal : Nat := 0x08

/-! Panel states (Table 11.1). -/

def pUnbound : Nat := 0
def pStopped : Nat := 1
def pRunning : Nat := 2
def pHalted : Nat := 3
def pQuiescing : Nat := 4
def pFreezing : Nat := 5
def pFrozen : Nat := 6
def pResetting : Nat := 7

def State.pState (s : State) (n : Nat) : Nat := s.get (F.SHT_PNL_STATE_STATE n)
def State.setP (s : State) (n st : Nat) : State := s.put (F.SHT_PNL_STATE_STATE n) st
def State.pVs (s : State) (n : Nat) : Nat := s.get (F.SHT_PNL_BIND_VS n)
def State.pPasid (s : State) (n : Nat) : Nat := s.get (F.SHT_PNL_BIND_PASID n)
def State.sqHead (s : State) (n : Nat) : Nat := s.get (F.SHT_PNL_STATE_SQ_HEAD n)
def State.sqSize (s : State) (n : Nat) : Nat := 2 ^ s.get (F.SHT_PNL_RING_SQ_ORDER n)
def State.cqSize (s : State) (n : Nat) : Nat := 2 ^ s.get (F.SHT_PNL_RING_CQ_ORDER n)
def State.sqBase (s : State) (n : Nat) : Nat :=
  s.get (F.SHT_PNL_SQ_HI_SQ_BASE_HI n) * 2 ^ 32 + s.get (F.SHT_PNL_SQ_LO_SQ_BASE_LO n)
def State.cqBase (s : State) (n : Nat) : Nat :=
  s.get (F.SHT_PNL_CQ_HI_CQ_BASE_HI n) * 2 ^ 32 + s.get (F.SHT_PNL_CQ_LO_CQ_BASE_LO n)

/-- Panels bound to a virtual switch: VALID of SHT_PNL_BIND is 0 in every register that has not been written. -/
def State.boundPanels (s : State) (v : Nat) : List Nat :=
  let base := (F.SHT_PNL_BIND_VALID 0).addr
  (s.regs.filterMap fun x =>
    if base ≤ x.1 && decide (x.1 < base + 0x40 * 4096) && decide ((x.1 - base) % 0x40 = 0) then some ((x.1 - base) / 0x40)
    else none).filter fun n => s.panelVs n == some v

/-- The Shuttle function of a virtual switch may issue requests: Bus Master Enable set, no reset under way (R327, R334). -/
def State.shtMaster (s : State) (v : Nat) : Bool := (s.vs v).f1.bme && !(s.vs v).f1.inReset

/-- The completion ring is full (R308). -/
def State.cqFull (s : State) (n : Nat) : Bool :=
  ((s.pnl n).cqTail + 1) % s.cqSize n = (s.pnl n).cqHead

/-! ### Grants (R315, R316) -/

/-- The grant bound to slot g of panel n. -/
def State.slotGrant (s : State) (n g : Nat) : Option Nat :=
  if g % 2 = 0 then (if s.flag (F.SHT_PNL_SLOT_VALID0 n (g / 2)) then some (s.get (F.SHT_PNL_SLOT_GRANT0 n (g / 2))) else none)
  else (if s.flag (F.SHT_PNL_SLOT_VALID1 n (g / 2)) then some (s.get (F.SHT_PNL_SLOT_GRANT1 n (g / 2))) else none)

def State.grantBase (s : State) (q : Nat) : Nat :=
  s.get (F.SHT_GNT_BASE_HI_BASE_HI q) * 2 ^ 32 + s.get (F.SHT_GNT_BASE_LO_BASE_LO q) * 4096

/-- What slot g of panel n names, if it is bound. -/
def State.grantNow (s : State) (n g : Nat) : Option OldGrant :=
  (s.slotGrant n g).map fun q =>
    let on : Bool := s.flag (F.SHT_GNT_CTL_VALID q) && s.get (F.SHT_GNT_CTL_VS q) == s.pVs n
    { slot := g, grant := q, base := s.grantBase q, bytes := s.get (F.SHT_GNT_SIZE_SIZE q) * 4096,
      r := on && s.flag (F.SHT_GNT_CTL_R q), w := on && s.flag (F.SHT_GNT_CTL_W q) }

/-- What slot g gives the descriptor in progress: until its next chunk boundary, what it was before a change (R317). -/
def State.grantOf (s : State) (n g : Nat) : Option OldGrant :=
  match (s.pnl n).revoked.find? fun o => o.slot == g with
  | some o => some o
  | none => s.grantNow n g

/-- The status that ends a descriptor before an access of len bytes at offset off of slot g, if any. -/
def State.grantErr (s : State) (n g off len : Nat) (write : Bool) : Option Nat :=
  match s.grantOf n g with
  | none => some psDenied
  | some o =>
    if !(if write then o.w else o.r) then some psDenied
    else if o.bytes < off + len then some psRange
    else none

/-- The address and PASID + 1 (0 without) of offset x in slot g, local or granted. -/
def State.slotAddr (s : State) (n g x : Nat) : Nat × Nat :=
  if g = 0 then (x, s.pPasid n + 1)
  else match s.grantOf n g with
    | some o => (o.base + x, 0)
    | none => (x, 0)

/-- R307: the descriptor ends with BAD_DESC before anything is read or written for it. -/
def State.descBad (s : State) (n : Nat) (d : Bytes) : Bool :=
  decide (2 < dOp d) || decide (4 ≤ dFlags d) || leAt d 3 1 != 0 || (d.drop 32).any (fun b => b != 0) || dLen d == 0
    || (dOp d == 2 && dSrcSlot d != 0)
    || (dSrcSlot d != 0 && (s.slotGrant n (dSrcSlot d)).isNone)
    || (dDstSlot d != 0 && (s.slotGrant n (dDstSlot d)).isNone)

/-! ### Movers -/

/-- The mover that holds panel n. -/
def State.holder (s : State) (n : Nat) : Option Nat :=
  (List.range 32).find? fun m => (s.mover m).panel == some n

/-- A panel with work for a mover (R311). -/
def State.ready (s : State) (n : Nat) : Bool :=
  let x := s.pnl n
  let st := s.pState n
  (s.holder n).isNone && s.shtMaster (s.pVs n) &&
    ((st == pRunning && (x.cur.isSome || (!x.fetched.isEmpty && !s.cqFull n)))
      || (st == pQuiescing && x.cur.isSome)
      || (st == pFreezing && (match x.cur with | some d => x.rd != x.wr || !atChunk d x.wr | none => false)))

/-- Panels that are ready, in number order (SHT_READY counts them): a panel that has work is listed in the store. -/
def State.readyPanels (s : State) : List Nat := (s.sht.panels.map Prod.fst).filter s.ready

/-- Reads of panel n that it has not abandoned, with the mover's number. -/
def State.liveReads (s : State) (n : Nat) : List ShRead :=
  s.sht.movers.flatMap fun x => x.2.reads.filter fun r => r.panel == n && !r.dead

/-- Any read tag of panel n remains. -/
def State.anyRead (s : State) (n : Nat) : Bool :=
  s.sht.movers.any fun x => x.2.reads.any fun r => r.panel == n

/-- Show how many reads a mover has outstanding. -/
def State.showReads (s : State) (m : Nat) : State :=
  s.put (F.SHT_MV_STAT_OUT_READS m) ((s.mover m).reads.length)

/-- A mover lets its panel go. -/
def State.letGo (s : State) (m : Nat) : State :=
  let s := s.modMover m fun x => { x with panel := none, left := 0 }
  let s := s.putB (F.SHT_MV_STAT_BUSY m) false
  s.put F.SHT_BUSY_BUSY (setBit (s.get F.SHT_BUSY_BUSY) m false)

def State.letGoPanel (s : State) (n : Nat) : State :=
  match s.holder n with
  | some m => s.letGo m
  | none => s

/-- Abandon the reads of panel n at or after offset x of its descriptor: their data is discarded on arrival. -/
def State.dropReads (s : State) (n x : Nat) : State :=
  let f (r : ShRead) : ShRead := if r.panel = n ∧ x ≤ r.off then { r with dead := true, data := none } else r
  let g (p : Nat × MoverSt) : Nat × MoverSt := (p.1, { p.2 with reads := p.2.reads.map f })
  { s with sht := { s.sht with movers := s.sht.movers.map g } }

/-- Max_Payload_Size and Max_Read_Request_Size of a Shuttle function (Device Control of the capability at 0x70). -/
def State.shtMps (s : State) (v : Nat) : Nat := 128 * 2 ^ min 3 (bits ((s.vs v).f1.dw 0x78) 5 3)
def State.shtMrrs (s : State) (v : Nat) : Nat := 128 * 2 ^ min 5 (bits ((s.vs v).f1.dw 0x78) 12 3)

/-- Writes of at most mps bytes that cross no 4 KiB boundary (R312); the first argument bounds their number. -/
def splitWrites (mps : Nat) : Nat → Nat → Bytes → List (Nat × Bytes)
  | 0, _, _ => []
  | _, _, [] => []
  | f + 1, a, b :: bs =>
    let n := min mps (4096 - a % 4096)
    (a, (b :: bs).take n) :: splitWrites mps f (a + n) ((b :: bs).drop n)

/-- Issue the writes of data for panel n at a target address and count them at its mover. -/
def State.issueWrites (s : State) (n m addr pasid : Nat) (data : Bytes) : State :=
  let v := s.pVs n
  let s := (splitWrites (s.shtMps v) data.length addr data).foldl (fun s w =>
    s.emit (.shuttleWrite v pasid (BitVec.ofNat 64 w.1) w.2)) s
  let total := s.get (F.SHT_MV_BYTES_LO_BYTES_LO m) + s.get (F.SHT_MV_BYTES_HI_BYTES_HI m) * 2 ^ 32 + data.length
  let total := min total (2 ^ 48 - 1)
  let s := (s.put (F.SHT_MV_BYTES_LO_BYTES_LO m) (total % 2 ^ 32)).put (F.SHT_MV_BYTES_HI_BYTES_HI m) (total / 2 ^ 32)
  (s.count 20 0x31 16 0 0 data.length).modPnl n fun x => { x with bytes := (x.bytes + data.length) % 2 ^ 64 }

/-! ### Completion entries and messages -/

/-- The panel's vector is signalled under its holdoff (R313). -/
def State.panelMsg (s : State) (n : Nat) : State :=
  let x := s.pnl n
  let hold := s.get (F.SHT_PNL_RING_INT_HOLDOFF n) * 1000
  let early : Bool := match x.lastMsg with
    | some t => decide (s.clk.now < t + hold)
    | none => false
  if early then s.modPnl n fun x => { x with owedMsg := true }
  else (s.modPnl n fun x => { x with lastMsg := some s.clk.now, owedMsg := false }).fire (s.pVs n) true
    (s.get (F.SHT_PNL_RING_VECTOR n))

/-- Bytes of a completion entry (Table 11.4). -/
def entryBytes (user idx status : Nat) (phase : Bool) (done : Nat) : Bytes :=
  leBytes 8 user ++ leBytes 2 idx ++ leBytes 1 status ++ leBytes 1 (b2n phase) ++ leBytes 4 done

/-- The current descriptor of panel n ends with a status: its entry unless QUIET and OK, its message, and the next index. -/
def State.endDesc (s : State) (n status : Nat) : State :=
  match (s.pnl n).cur with
  | none => s
  | some d =>
    let x := s.pnl n
    let done := if status = psOK then dLen d else if status = psFlush then x.done else x.wr
    let entry : Bool := !bit (dFlags d) 1 || status != psOK
    let s := if entry then
        let s := s.emit (.shuttleWrite (s.pVs n) (s.pPasid n + 1) (BitVec.ofNat 64 (s.cqBase n + 16 * x.cqTail))
          (entryBytes (dUser d) (s.sqHead n) status x.phase done))
        let t := (x.cqTail + 1) % s.cqSize n
        s.modPnl n fun x => { x with cqTail := t, phase := if t = 0 then !x.phase else x.phase }
      else s
    let s := s.modPnl n fun x => { x with cur := none, done := 0, wr := 0, rd := 0, ending := none,
                                          descDone := (x.descDone + 1) % 2 ^ 64, atsWait := [] }
    let s := (s.put (F.SHT_PNL_STATE_SQ_HEAD n) ((s.sqHead n + 1) % s.sqSize n)).count 20 0x30 16 0 0 1
    if entry && bit (dFlags d) 0 then s.panelMsg n else s

/-- A running panel halts: LAST_STATUS and 0x6001 (Table 11.2, R331). -/
def State.haltPanel (s : State) (n status : Nat) : State :=
  let s := (s.setP n pHalted).put (F.SHT_PNL_STATE_LAST_STATUS n) status
  let s := s.dropReads n 0
  let s := s.modPnl n fun x => { x with ending := none, atsWait := [] }
  s.raiseLim ms100 n 0x07 0x6001 2 (scPanel n) 0 [n, s.pVs n, s.sqHead n, status]

/-- The current descriptor fails: a running panel halts with it at SQ_HEAD, a quiescing one completes it with its status, a
freezing one keeps its status and stops where its writes have come (R322, R325). -/
def State.failDesc (s : State) (n status : Nat) : State :=
  let st := s.pState n
  if st = pRunning then s.haltPanel n status
  else if st = pQuiescing then ((s.put (F.SHT_PNL_STATE_LAST_STATUS n) status).dropReads n 0).endDesc n status
  else if st = pFreezing then
    ((s.put (F.SHT_PNL_STATE_LAST_STATUS n) status).dropReads n 0).modPnl n fun x => { x with ending := some status, rd := x.wr }
  else s

/-- Issue the flush read of R312 toward the last destination written, or owe it while Bus Master Enable is clear. -/
def State.flushRead (s : State) (n : Nat) (d : Bytes) : State :=
  let v := s.pVs n
  let a := s.slotAddr n (dDstSlot d) (dDst d + (s.pnl n).wr - 1)
  if s.shtMaster v then
    (s.modPnl n fun x => { x with flushing := true, flushOwed := false }).emit (.hostRead v a.2 (BitVec.ofNat 64 a.1) 0) |>.count 20 0x32 16 0 0 1
  else s.modPnl n fun x => { x with flushOwed := true }

/-- What a panel does when something of it has ended: the next descriptor starts at its mover, a descriptor whose reads and writes
are done is flushed and ended, a freezing one is flushed at its chunk boundary. The first argument bounds the descriptors this
can end in one go (four fetched and one current). -/
def State.runPanel : Nat → State → Nat → State
  | 0, s, _ => s
  | f + 1, s, n =>
    let x := s.pnl n
    let st := s.pState n
    match x.cur with
    | none =>
      let left : Nat := match s.holder n with
        | some m => (s.mover m).left
        | none => 0
      if st = pRunning ∧ 0 < left ∧ s.cqFull n = false then
        match x.fetched with
        | [] => s
        | d :: rest =>
          let s := s.modPnl n fun x => { x with cur := some d, fetched := rest, done := 0, wr := 0, rd := 0, revoked := [] }
          if s.descBad n d then s.failDesc n psBadDesc
          else State.runPanel f s n
      else s
    | some d =>
      let total := dMoves d
      let whole : Bool := x.wr == total && x.ending == none
      let stop : Bool := x.ending.isSome || (st == pFreezing && atChunk d x.wr)
      if !(s.liveReads n).isEmpty || x.rd != x.wr || x.flushing || x.flushOwed then s
      else if !(st == pRunning || st == pQuiescing || st == pFreezing) || !(whole || stop) then s
      else if dDstSlot d != 0 && decide (x.done < x.wr) && (whole || st == pFreezing || x.ending == some psDenied) then
        s.flushRead n d
      else if whole then State.runPanel f (s.endDesc n psOK) n
      else if st = pFreezing then s
      else match x.ending with
        | some e => s.failDesc n e
        | none => s

def State.goOn (s : State) (n : Nat) : State := s.runPanel 8 n

/-- The descriptor will end with a status once the reads issued for it have drained (R317, R316). -/
def State.endSoon (s : State) (n status : Nat) : State :=
  (s.modPnl n fun x => { x with ending := some (x.ending.getD status) }).goOn n

/-- Write out the data that has arrived in order: the first read of the panel at the place its writes have reached. -/
def State.drainReads : Nat → State → Nat → Nat → State
  | 0, s, _, _ => s
  | f + 1, s, m, n =>
    match (s.mover m).reads.find? fun r => r.panel == n && !r.dead && r.off == (s.pnl n).wr with
    | none => s
    | some r =>
      match r.data, (s.pnl n).cur with
      | some data, some d =>
        let pasid := if dDstSlot d = 0 then s.pPasid n + 1 else 0
        let s := s.issueWrites n m r.dst pasid (slice data 0 r.len)
        let s := s.modMover m fun x => { x with reads := x.reads.filter fun q => q.tag != r.tag }
        let s := s.modPnl n fun x =>
          { x with wr := x.wr + r.len, done := if dDstSlot d = 0 then x.wr + r.len else x.done }
        State.drainReads f s m n
      | _, _ => s

/-! ### Reset of a panel and of the endpoint functions -/

/-- Causes of 0x6003, in the order Table 11.12 names them (log entry 12). -/
def pcQuiesce : Nat := 0
def pcReset : Nat := 1
def pcVsReset : Nat := 2
def pcFlr : Nat := 3

/-- Reset of panel n (R326): nothing more is issued, reads are discarded as they return, and for a granted destination a flush read
follows the last write unless the function itself is under reset (R334). -/
def State.resetPanel (s : State) (n cause : Nat) : State :=
  if s.pState n = pUnbound then s
  else
    let s := ((s.setP n pResetting).dropReads n 0).letGoPanel n
    let x := s.pnl n
    let s := s.modPnl n fun x => { x with fetched := [], atsWait := [], ending := none, cause := cause, flushOwed := false }
    match x.cur with
    | some d =>
      if dDstSlot d != 0 && decide (x.done < x.wr) && !x.flushing && cause == pcReset then s.flushRead n d else s
    | none => s

/-- The reset of function 1 completes once no panel of the virtual switch is RESETTING (R334). -/
def State.shtResetDone (s : State) (v : Nat) : State :=
  if (s.vs v).sbr || (s.boundPanels v).any fun n => s.pState n == pResetting then s
  else s.modVs v fun w => { w with f1 := { w.f1 with inReset := false } }

/-- Reset of the Shuttle function of a virtual switch: its configuration space and vectors, and every bound panel (R327). -/
def State.epReset1 (s : State) (v cause : Nat) : State :=
  let s := s.modVs v fun w => { w with f1 := { inReset := true } }
  ((s.boundPanels v).foldl (fun s n => s.resetPanel n cause) s).shtResetDone v

def State.proxyQ (s : State) (v : Nat) : List ProxyAcc := SMap.get (fun _ => []) s.ep.proxy v
def State.setProxyQ (s : State) (v : Nat) (q : List ProxyAcc) : State :=
  { s with ep := { s.ep with proxy := SMap.set (fun _ => []) s.ep.proxy v q } }

def State.latch (s : State) (i : Nat) : Option (Nat × B32) := SMap.get (fun _ => none) s.ep.latch i
def State.setLatch (s : State) (i : Nat) (x : Option (Nat × B32)) : State :=
  { s with ep := { s.ep with latch := SMap.set (fun _ => none) s.ep.latch i x } }

/-- Reset of the management function: configuration space, MSI-X table and PBA, queued proxy accesses without completions, and its
latch; configuration requests receive Request Retry Status until it completes (R334). -/
def State.epReset0 (s : State) (v : Nat) : State :=
  ((s.modVs v fun w => { w with f0 := { inReset := true } }).setProxyQ v []).setLatch (5 + v) none

/-- Credentials of a virtual switch and of its channels (R391). -/
def credOfVs (v : Nat) (c : Cred) : Bool := c.vs == v || c.chan == 3 + v || c.chan == 35 + v

end Sys2Proof.Machine
end

