-- ==== Sys2Proof/Machine/Slot.lean ====
section
/-!
DEFINITION. Machine/Slot.lean: the slot power controllers of chapter 16: classes and thresholds (R424, R425), the ties to a slot's
port (Table 3.7), trips, off and on commands, and the budget queue (R431 to R443).
-/

namespace Sys2Proof.Machine

/-! ### Classes and thresholds -/

/-- I_CB in tenths of an ampere. -/
def classIcb (c : Nat) : Nat := [10, 25, 75, 150, 300, 450, 600, 1000].getD c 0
/-- Classes 0 to 2 retry after a trip. -/
def classRetries (c : Nat) : Bool := decide (c ≤ 2)

/-- V_LIM in nV: I_LIM = 1.25 × I_CB, RSENSE in 10 µΩ. -/
def vlimNv (c r : Nat) : Nat := classIcb c * 1250 * r
/-- V_LIM within 5 to 50 mV (R425). -/
def vlimOk (c r : Nat) : Bool := decide (5000000 ≤ vlimNv c r) && decide (vlimNv c r ≤ 50000000)

/-- V_CB and V_LIM in force in 0.25 mV units, at most 40 mV and 50 mV (R425, R445). -/
def vCb (c r : Nat) : Nat := min 160 (classIcb c * r / 250)
def vLim (c r : Nat) : Nat := min 200 (classIcb c * 125 * r / 25000)

def State.spcSt (s : State) (n : Nat) : SpcSt := SMap.get (fun _ => {}) s.spc.ctl n
def State.modSpc (s : State) (n : Nat) (f : SpcSt → SpcSt) : State :=
  { s with spc := { s.spc with ctl := SMap.set (fun _ => {}) s.spc.ctl n (f (s.spcSt n)) } }

/-- SPC_CFG as far as CLASS and RSENSE are in force: for SPC16 a change waits for its next ramp (Table 16.6). -/
def State.spcInForce (s : State) (n : Nat) : Nat := ((s.spcSt n).inForce.getD (s.reg (F.SPC_CFG_CLASS n).addr)).toNat
def State.spcClass (s : State) (n : Nat) : Nat := bits (s.spcInForce n) 0 3
def State.spcSense (s : State) (n : Nat) : Nat := bits (s.spcInForce n) 4 12
/-- CLASS or RSENSE of SPC16 has changed: what was in force stays so until its next ramp. -/
def State.spcHold (old s : State) (n : Nat) : State :=
  let cfg (t : State) : Nat := (t.reg (F.SPC_CFG_CLASS n).addr).toNat
  if n = 16 ∧ (s.spcSt n).inForce = none ∧ (bits (cfg old) 0 3 ≠ bits (cfg s) 0 3 ∨ bits (cfg old) 4 12 ≠ bits (cfg s) 4 12) then
    s.modSpc n fun x => { x with inForce := some (old.reg (F.SPC_CFG_CLASS n).addr) }
  else s
/-- SPC_THR as it reads. -/
def State.spcThrWord (s : State) (n : Nat) : B32 :=
  BitVec.ofNat 32 (vCb (s.spcClass n) (s.spcSense n) + vLim (s.spcClass n) (s.spcSense n) * 256)

/-! ### States (Table 16.8) -/

def spOFF : Nat := 0
def spWAIT : Nat := 1
def spRAMP : Nat := 2
def spQUAL : Nat := 3
def spON : Nat := 4
def spRETRY : Nat := 5
def spLATCHED : Nat := 6

/-- LAST_CAUSE values. -/
def lcRamp : Nat := 1
def lcOver : Nat := 2
def lcVout : Nat := 3
def lcFast : Nat := 4
def lcUv : Nat := 5
def lcOv : Nat := 6
def lcSeat : Nat := 7
def lcGone : Nat := 8
def lcOff : Nat := 9

def sec : Nat := 1000000000
def msec : Nat := 1000000

def State.spState (s : State) (n : Nat) : Nat := s.get (F.SPC_STATUS_STATE n)
def State.setSp (s : State) (n v : Nat) : State := s.put (F.SPC_STATUS_STATE n) v
/-- The gate charges or is on. -/
def State.gateOn (s : State) (n : Nat) : Bool := s.flag (F.SPC_STATUS_GATE_ON n)
def State.seated (s : State) (n : Nat) : Bool := s.flag (F.SPC_STATUS_SEATED n)
def State.cmdOn (s : State) (n : Nat) : Bool := s.flag (F.SPC_STATUS_CMD_ON n)

/-- The scope of a slot's events: the port that names it, else the device (R448). -/
def State.slotScope (s : State) (n : Nat) : Nat :=
  if n = 16 then scDev else match s.portOfSlot n with
    | some p => scPort p
    | none => scDev

def State.raiseSlot (s : State) (n code sev : Nat) (detail : List Nat) : State :=
  s.raise 0x03 code sev (s.slotScope n) (n :: detail)

/-! ### Ties to the port (Table 3.7) -/

/-- Bring the port that names slot n level with its controller: presence with Presence Detect Changed, power, fault, latch and
button. -/
def State.hpSync (s : State) (n : Nat) : State :=
  if n = 16 then s else match s.portOfSlot n with
  | none => s
  | some p =>
    let st := stnOf p
    let k := kOf p
    let old := s.flag (F.STN_PORT_HP_STATUS_PRESENT st k)
    let now := s.flag (F.SPC_STATUS_PRESENT n) && s.seated n && !(s.port p).dis.quiesce
    let sp := s.spState n
    let s := s.putB (F.STN_PORT_HP_STATUS_PRESENT st k) now
    let s := s.putB (F.STN_PORT_HP_STATUS_PWR_ON st k) (s.flag (F.SPC_STATUS_PGOOD n))
    let s := s.putB (F.STN_PORT_HP_STATUS_PWR_FAULT st k) (sp == spRETRY || sp == spLATCHED)
    let s := s.putB (F.STN_PORT_HP_STATUS_LATCHED_OFF st k) (sp == spLATCHED)
    let s := s.putB (F.STN_PORT_HP_STATUS_BTN st k) (s.flag (F.SPC_STATUS_BTN n))
    if old != now then s.orCw p ofSLTCTL slPdc else s

/-- Set a Slot Status bit of the port that names slot n. -/
def State.slotBit (s : State) (n b : Nat) : State :=
  if n = 16 then s else match s.portOfSlot n with
  | none => s
  | some p => s.orCw p ofSLTCTL b

/-- A controller's readings (Table 16.3). -/
def State.setMeas (s : State) (n : Nat) (m : SlotMeas) : State :=
  (((s.put (F.SPC_MEAS0_VIN n) m.vin).put (F.SPC_MEAS0_VOUT n) m.vout).put (F.SPC_MEAS1_IOUT n) m.iout).putB
    (F.SPC_MEAS1_STALE n) false

/-! ### The budget (R434) -/

def State.usedW (s : State) : Nat := s.get F.SPC_BUDGET_USED_USED_W
/-- Release a controller's class power. -/
def State.freeW (s : State) (n : Nat) : State :=
  if n = 16 then s else s.put F.SPC_BUDGET_USED_USED_W (s.usedW - classW (s.spcClass n))
/-- The class power of controller n fits the budget. -/
def State.fitsW (s : State) (n : Nat) : Bool := n == 16 || decide (s.usedW + classW (s.spcClass n) ≤ s.get F.SPC_BUDGET_BUDGET_W)

/-- 0x9030 once for a wait, for a controller the budget holds back. -/
def State.noteDefer (s : State) (n : Nat) : State :=
  if (s.spcSt n).deferred || s.fitsW n then s
  else (s.modSpc n fun x => { x with deferred := true }).raiseSlot n 0x9030 1
    [classW (s.spcClass n), s.usedW, s.get F.SPC_BUDGET_BUDGET_W]

/-- Enter WAIT at the end of the queue. -/
def State.enterWait (s : State) (n : Nat) : State :=
  let s := (s.setSp n spWAIT).modSpc n fun x => { x with deferred := false }
  let s := if n = 16 then s else
    ({ s with spc := { s.spc with wait := s.spc.wait.filter (· != n) ++ [n] } }).put F.SPC_BUDGET_USED_WAITING
      (setBit (s.get F.SPC_BUDGET_USED_WAITING) n true)
  (s.noteDefer n).hpSync n

/-- Leave the queue. -/
def State.leaveWait (s : State) (n : Nat) : State :=
  ({ s with spc := { s.spc with wait := s.spc.wait.filter (· != n) } }).put F.SPC_BUDGET_USED_WAITING
    (setBit (s.get F.SPC_BUDGET_USED_WAITING) n false)

/-! ### Off -/

/-- The gate goes off: PGOOD and PERST_N low, warnings and timers ended, power released (R437, R439, Table 16.4). -/
def State.gateOff (s : State) (n cause : Nat) : State :=
  let s := if s.gateOn n then s.freeW n else s
  let s := ((s.putB (F.SPC_STATUS_GATE_ON n) false).putB (F.SPC_STATUS_PGOOD n) false).putB (F.SPC_STATUS_PWRWARN n) false
  let s := (s.putB (F.SPC_STATUS_FAULT_TMR n) false).putB (F.SPC_STATUS_ILIM_ACTIVE n) false
  let s := s.put (F.SPC_STATUS_LAST_CAUSE n) cause
  s.modSpc n fun x => { x with perst := false, offing := false, vinWarn := false }

/-- A powered slot goes to OFF without a trip, with 0x9011. -/
def State.powerOff (s : State) (n cause : Nat) : State :=
  (((s.gateOff n cause).setSp n spOFF).raiseSlot n 0x9011 1 [cause]).hpSync n

/-- States in which the gate is on. -/
def poweredSp (sp : Nat) : Bool := sp == spRAMP || sp == spQUAL || sp == spON

/-- A trip (R431, R441, R442). -/
def State.trip (s : State) (n cause : Nat) (m : SlotMeas) : State :=
  let x := s.spcSt n
  let ton := s.clk.now - x.gateAt
  let latch := n == 16 || !classRetries (s.spcClass n)
  let s := (s.setMeas n m).gateOff n cause
  let s := (s.bump (F.SPC_CNT_TRIPS n)).put (F.SPC_LAST_TRIP_TIME n) (s.fabNow % 2 ^ 32)
  let delay := if latch then sec else max sec (63 * min ton sec)
  let s := s.modSpc n fun y => { y with tripAt := some s.clk.now, delay := delay }
  let s := (s.slotBit n slPowerFault).raiseSlot n 0x9021 3 [cause, ton, m.iout, m.vout]
  let s :=
    if latch then
      ({ (s.setSp n spLATCHED) with spc := { s.spc with latched := s.spc.latched.filter (· != n) ++ [n] } }).raiseSlot n 0x9023 3
        [s.spcClass n, cause]
    else if s.cmdOn n then s.setSp n spRETRY
    else s.setSp n spOFF
  s.hpSync n

/-- Clear a latch-off. -/
def State.unlatch (s : State) (n : Nat) : State :=
  ({ (s.setSp n spOFF) with spc := { s.spc with latched := s.spc.latched.filter (· != n) } }).hpSync n

/-! ### Commands (R89 to R91, R427) -/

/-- The board is in UART recovery: on commands are ignored. -/
def State.onIgnored (s : State) (n : Nat) : Bool := n != 16 && bit (s.get F.GLB_STRAP_STBY_CODE) 0

/-- Enter WAIT from OFF when the card is seated; VIN is in range, since its return to the range has no command (log entry 16). -/
def State.tryWait (s : State) (n : Nat) : State :=
  if s.seated n then s.enterWait n else s

/-- An on command reaches controller n: only a change from off to on acts. -/
def State.slotOn (s : State) (n : Nat) : State :=
  if s.cmdOn n || s.onIgnored n then s
  else
    let s := (s.putB (F.SPC_STATUS_CMD_ON n) true).modSpc n fun x => { x with retried := false }
    let sp := s.spState n
    if sp = spOFF then s.tryWait n
    else if sp = spLATCHED then (s.unlatch n).tryWait n
    else s

/-- An off command reaches controller n. -/
def State.slotOff (s : State) (n : Nat) : State :=
  if n = 16 ∨ s.cmdOn n = false then s
  else
    let s := s.putB (F.SPC_STATUS_CMD_ON n) false
    let sp := s.spState n
    if sp = spWAIT then ((s.leaveWait n).setSp n spOFF).hpSync n
    else if sp = spRAMP ∨ sp = spQUAL then s.powerOff n lcOff
    else if sp = spON then s.modSpc n fun x => { x with perst := false, offing := true }
    else if sp = spRETRY then (s.setSp n spOFF).hpSync n
    else s

end Sys2Proof.Machine
end

