-- ==== Sys2Proof/Machine/Link.lean ====
section
/-!
DEFINITION. Machine/Link.lean: a port's way into and out of ACTIVE (Table 2.3) with what follows from it: flushes (R111), suspended
lendings (R144), lost Seam links (R272, R273), virtual switch resets (R82, R83), containment entries (R218 to R224), DPC (R217)
and the station fence (R222).
-/

namespace Sys2Proof.Machine

/-! ### When a port may train (R46, R47, R411) -/

/-- The start of a station is the moment its lane domain is on (R411). -/
def State.started (s : State) (st : Nat) : Bool :=
  !s.flag (F.STN_LANE_STATUS_HELD st) && s.get (F.GLB_PD_STATE_STATE st) == 2 && s.get (F.GLB_PD_STATE_STATE (32 + st)) == 2

/-- PERST_N of the port's slot is deasserted, or the port has none to wait for. -/
def State.perstOk (s : State) (p : Nat) : Bool :=
  s.pciRole p == 1 || s.seamMode (stnOf p) || !s.hasSlot p || (s.spcSt (s.slotOf p)).perst

/-- The condition of Table 2.3's first row; a port with ROLE 0 stays in OFF. -/
def State.mayTrain (s : State) (p : Nat) : Bool :=
  s.exists p && s.started (stnOf p) && !(s.port p).dis.any && !s.fenced (stnOf p) && s.perstOk p
    && (s.seamMode (stnOf p) || s.role p != 0)

/-- A port in OFF that may train goes to DETECT, or to PLL while the station PLL is not locked. -/
def State.kick (s : State) (p : Nat) : State :=
  if s.stage p = stOFF ∧ s.mayTrain p = true then s.setStage p (if s.pllLocked (stnOf p) then stDETECT else stPLL) else s

/-- The same for every port of a station. -/
def State.kickStn (s : State) (st : Nat) : State := (s.stnPorts st).foldl State.kick s

/-- A new series of PLL tries begins (R47). -/
def State.beginSeries (s : State) (st : Nat) : State := s.modStn st fun x => { x with tries := 1, waiting := false }

/-- A port leaves FAILED for OFF: attempts cleared, and a new series begins while the PLL is unlocked (Table 2.3). -/
def State.restartPort (s : State) (p : Nat) : State :=
  let s := (s.setStage p stOFF).modPort p fun x => { x with attempts := 0 }
  let s := if s.pllLocked (stnOf p) then s else s.beginSeries (stnOf p)
  s.kick p

/-! ### Causes the spec names in words (log entry 12) -/

/-- Causes in 0x1006 LINK_DOWN: link down, PLL lock lost, link disabled, removed or held, PERST_N, measurement, hot reset,
quadrant failed. -/
def ldDown : Nat := 0
def ldPll : Nat := 1
def ldDisable : Nat := 2
def ldRemoved : Nat := 3
def ldPerst : Nat := 4
def ldMeasure : Nat := 5
def ldHot : Nat := 6
def ldQuad : Nat := 7

/-- Causes in 0x3013 LEND_SUSPENDED, in the table's order: owner reset, link down, DPC, virtual switch reset. -/
def lsOwner : Nat := 0
def lsLink : Nat := 1
def lsDpc : Nat := 2
def lsVs : Nat := 3

/-- Seam loss causes (Table 9.14). -/
def slLock : Nat := 1
def slLane : Nat := 2
def slReplay : Nat := 3
def slDead : Nat := 4
def slBypass : Nat := 5
def slOverrun : Nat := 6
def slFraming : Nat := 7
def slStore : Nat := 8
def slPartner : Nat := 9
def slAdmin : Nat := 10

/-! ### Flushes (R111) -/

/-- Trace copies queued toward a port go no further once it leaves ACTIVE. -/
def State.dropTrace (s : State) (p : Nat) : State :=
  let st := stnOf p
  let q := (s.bank st).q 57
  let gone (r : Rec) : Bool := r.destPort == p
  if q.recs.any gone then
    let kept := Queue.keepRecs (fun r => !gone r) 0 q.recs
    let q' := if kept.isEmpty then {} else { q with recs := kept }
    (s.modBank st fun b => b.setQ 57 q').freeCells st (q.cells.drop q'.occ)
  else s

/-- A trigger of Table 4.5: the port's queues close, and stay closed until its link is next ACTIVE; PORT_FLUSHED ends the flush. A flush
that is under way keeps its trigger, and the FLUSH_MODE it began with (R112). -/
def State.flushStart (s : State) (p trig : Nat) : State :=
  let st := stnOf p
  let f := F.STN_OB_FLUSH_FLUSHING st
  let on := bit (s.get f) (kOf p)
  let drop := s.flag (F.STN_OB_CTL_FLUSH_MODE st)
  let s := s.put f (setBit (s.get f) (kOf p) true)
  s.modPort p fun x =>
    { x with closed := true, flushTrig := if on then x.flushTrig else trig, flushDrop := if on then x.flushDrop else drop }

/-! ### Suspended lendings (R144) -/

/-- Signal an uncorrectable error in the AER of a lending's virtual downstream port to the borrower. -/
def State.vdpAer (s : State) (st i b : Nat) : State :=
  let s' := s.setVdp st i 0 ofAERU (s.vdp st i 0 ofAERU ||| 2 ^ b)
  let v := s.lendVs st i
  let bus := match s.usp v with
    | some u => s.secBus u
    | none => 0
  if bit (s.vdp st i 0 0x108) b then s'
  else s'.emit (.errMsg v (BitVec.ofNat 16 (bus * 256 + s.lendVdev st i * 8)) (if bit (s.vdp st i 0 0x10C) b then 2 else 1))

/-- Presence and link of a lending's virtual downstream port change as its host sees them. -/
def State.vdpChanged (s : State) (st i : Nat) : State :=
  s.setVdp st i 0 ofSLTCTL (s.vdp st i 0 ofSLTCTL ||| slPdc ||| slDllsc)

/-- An active lending is suspended. -/
def State.suspendLend (s : State) (st i cause : Nat) : State :=
  if s.lendValid st i && s.lendState st i == 1 then
    let s := (s.setLendState st i 2).vdpChanged st i
    let s := s.vdpAer st i aeSD
    (s.modPort (s.lendPort st i) fun x => { x with suspended := x.suspended + 1 }).raise (srcStn st) 0x3013 2
      (scVs (s.lendOwner st i)) [i, cause]
  else s

/-- Every active lending on a port is suspended. -/
def State.suspendPort (s : State) (p cause : Nat) : State :=
  ((s.lends (stnOf p)).filter fun i => s.lendPort (stnOf p) i == p).foldl (fun s i => s.suspendLend (stnOf p) i cause) s

/-! ### Measurement that ends (R55 to R58, R60) -/

/-- The scope of a lane's event (R61): the port that carries the lane or measures with it, else the station. -/
def State.laneScope (s : State) (st l : Nat) : Nat :=
  match (s.stnPorts st).find? fun p => (s.measLanes p).contains l with
  | some p => scPort p
  | none => scStn st

/-- A measurement that runs on a lane ends: PRBS_DONE (Table 2.10). -/
def State.prbsStop (s : State) (st l : Nat) (aborted : Bool) : State :=
  if s.flag (F.STN_LN_PRBS_CTL_EN st l) then
    let s := (s.putB (F.STN_LN_PRBS_CTL_EN st l) false).putB (F.STN_LN_PRBS_STAT_CHK_LOCK st l) false
    let s := if aborted then s.putB (F.STN_LN_PRBS_STAT_ABORTED st l) true else s
    let wide (lo hi : Fld) : Nat := s.get lo + s.get hi * 2 ^ 32
    s.raise (srcStn st) 0x1020 0 (s.laneScope st l) [17 * st + l,
      wide (F.STN_LN_PRBS_ERR_LO_ERR_LO st l) (F.STN_LN_PRBS_ERR_HI_ERR_HI st l),
      wide (F.STN_LN_PRBS_BITS_LO_BITS_LO st l) (F.STN_LN_PRBS_BITS_HI_BITS_HI st l), s.get (F.STN_LN_PRBS_STAT_LOCK_LOSS st l)]
  else s

/-- Add to a 48-bit saturating counter of two words. -/
def State.addWide (s : State) (lo hi : Fld) (n : Nat) : State :=
  let v := min (2 ^ 48 - 1) (s.get lo + s.get hi * 2 ^ 32 + n)
  (s.put lo (v % 2 ^ 32)).put hi (v / 2 ^ 32)

/-- The spare lane runs its own check (R59), whose counters SPARE_CHECK advances. -/
def State.spareRuns (s : State) (st l : Nat) : Bool := l == 16 && s.seamMode st && s.stage (9 * st) != stMEASURE

/-- A locked checker has counted on: errors and bits since the counters were last looked at are free values (log entry 8). -/
def State.prbsAdvance (s : State) (st l : Nat) : State :=
  if s.flag (F.STN_LN_PRBS_STAT_CHK_LOCK st l) && !s.spareRuns st l then
    let n := s.clk.free
    let s := s.addWide (F.STN_LN_PRBS_ERR_LO_ERR_LO st l) (F.STN_LN_PRBS_ERR_HI_ERR_HI st l) (Config.prbsErrs n).toNat
    (s.addWide (F.STN_LN_PRBS_BITS_LO_BITS_LO st l) (F.STN_LN_PRBS_BITS_HI_BITS_HI st l) (Config.prbsBits n).toNat).nextFree
  else s

/-- A port leaves MEASURE: EN clears and ABORTED is set where a point or a count was still running (R60). -/
def State.leaveMeasure (s : State) (p : Nat) : State :=
  let st := stnOf p
  (s.measLanes p).foldl (fun s l =>
    let s := (s.prbsAdvance st l).prbsStop st l true
    if s.flag (F.STN_LN_MARGIN_STAT_BUSY st l) then
      (s.putB (F.STN_LN_MARGIN_STAT_BUSY st l) false).putB (F.STN_LN_PRBS_STAT_ABORTED st l) true
    else s) s

/-! ### Leaving ACTIVE -/

/-- A lane's status while its port is not up: nothing detected, locked, or in force; its stage and the spare lane's role stay. -/
def State.clearLanes (s : State) (p : Nat) : State :=
  (s.measLanes p).foldl (fun s l =>
    let a := (F.STN_LN_STATUS_STAGE (stnOf p) l).addr
    s.setReg a (s.reg a &&& 0x3000000F#32)) s

/-- A record of class 0 that a lost Seam link held is a late error of cause 6 (R273). -/
def State.lostRec (s : State) (p : Nat) (r : Option Rec) : State :=
  match r with
  | some r => if r.cls = 0 then s.lateError r 6 p else s
  | none => s

/-- The record of a TLP received over a Seam link, from its carriage word. -/
def seamRec (c : Carriage) (t : Tlp) : Rec :=
  { tlp := t, btag := c.btag, rlen := c.rlen, hfmt := !t.flitFmt, pass := c.pass, ing := c.ingPort.toNat, vs := 0xFF,
    node := c.ingNode.toNat, rid0 := t.rid, cls := c.cls.val, vc := c.vc.val, destNode := c.destNode.toNat,
    destPort := c.destPort.toNat, route := c.route }

/-- A Seam link is lost (R272, R273): 0x5002, a notice to the partner, the replay store and unfinished records discarded, the
link's own state cleared. -/
def State.seamLost (s : State) (st cause : Nat) : State :=
  let x := s.seam st
  let p := 9 * st
  let acked := s.get (F.STN_SEAM_TXSEQ_ACKED st)
  let s := s.raise (srcStn st) 0x5002 3 (scPort p) [cause, acked, x.store.length]
  let s := if cause = slPartner then s else s.emit (.seam st 0x30 [cause])
  let s := x.store.foldl (fun s f => s.lostRec p f.r) s
  let s := x.rx.foldl (fun s r => if r.cls = 3 then s else s.lostRec p (some (seamRec r.car r.tlp))) s
  let s := (s.putB (F.STN_SEAM_STATUS_REPLAYING st) false).putB (F.STN_SEAM_STATUS_STALLED st) false
  s.modSeam st fun y => { falls := y.falls, pauseTime := y.pauseTime }

/-- Registers that describe a link that is up. -/
def State.linkFields (s : State) (p : Nat) : State :=
  let st := stnOf p
  let k := kOf p
  let s := ((s.putB (F.STN_PORT_STATUS_DL_UP st k) false).put (F.STN_PORT_STATUS_RATE st k) 0).put (F.STN_PORT_STATUS_WIDTH st k) 0
  let s := ((s.putB (F.STN_PORT_STATUS_FLIT st k) false).put (F.STN_PORT_STATUS_L0P_WIDTH st k) 0).put (F.STN_PORT_STATUS_PM st k) 0
  (s.putB (F.STN_PORT_STATUS_SCALED_FC st k) false).putB (F.STN_PORT_STATUS_RRS st k) false

/-- A port leaves its stage for another that is not ACTIVE. From ACTIVE: 0x1006, Data Link Layer State Changed, credit forgotten,
queues flushed, lendings suspended; a Seam link is lost. -/
def State.leaveTo (s : State) (p stage cause lsCause : Nat) : State :=
  let from_ := s.stage p
  let s := if from_ = stMEASURE then s.leaveMeasure p else s
  let s := ((s.setStage p stage).clearLanes p).modPort p fun x => { x with timer := false }
  if from_ != stACTIVE then s
  else
    let st := stnOf p
    let s := s.raise (srcStn st) 0x1006 1 (scPort p) [p, from_, cause]
    let s := (s.linkFields p).modPort p fun x => { x with txHdr := [], txData := [], txInf := [], l0p := false }
    let s := if s.pciRole p = 2 then s.orCw p ofLNKCTL 0 |>.orCw p ofSLTCTL slDllsc else s
    let s := (s.dropTrace p).flushStart p 1
    s.suspendPort p lsCause

/-- A port's link goes to OFF. -/
def State.goOff (s : State) (p cause lsCause : Nat) : State :=
  let s := if s.seamMode (stnOf p) && s.stage p == stACTIVE then s.seamLost (stnOf p) slAdmin else s
  if s.stage p = stOFF then s else s.leaveTo p stOFF cause lsCause

/-! ### Reset of a virtual switch (R82, R83) -/

/-- Attention Indicator Control of a DSP is set, and drives the slot's pin (Table 3.7): 1 on, 2 blink, 3 off; the reserved code 0 leaves the
pin as it is (log entry 11). -/
def State.setAttn (s : State) (p v : Nat) : State :=
  let old := s.get (F.STN_PORT_HP_STATUS_ATTN_IND (stnOf p) (kOf p))
  let s := s.put (F.STN_PORT_HP_STATUS_ATTN_IND (stnOf p) (kOf p)) v
  if s.hasSlot p && v != old && v != 0 then s.emit (.attn (s.slotOf p) (v - 1)) else s

/-- The emulated configuration space of a port returns to its reset values; Power Controller Control of a DSP with a slot takes the
commanded value of its controller. -/
def State.cfgReset (s : State) (p : Nat) : State :=
  let s := s.modPort p fun x => { x with cfg := [], slotWrite := none }
  if s.pciRole p = 2 then
    let st := stnOf p
    let k := kOf p
    let s := s.setAttn p 3
    s.putB (F.STN_PORT_HP_STATUS_PCC st k) (!s.hasSlot p || !s.cmdOn (s.slotOf p))
  else s

/-- Hot reset on a port's link: an ACTIVE link leaves for DETECT. -/
def State.hotReset (s : State) (p : Nat) : State :=
  if s.stage p = stACTIVE then s.leaveTo p stDETECT ldHot lsVs else s

/-- Causes of 0x1033, in the table's order: hot reset, link down, secondary bus reset. -/
def vrHot : Nat := 0
def vrDown : Nat := 1
def vrSbr : Nat := 2

/-- Lendings and remote bindings whose owner is virtual switch v are suspended. -/
def State.suspendOwner (s : State) (v : Nat) : State :=
  (s.allLends.filter fun x => s.lendOwner x.1 x.2 == v).foldl (fun s x => s.suspendLend x.1 x.2 lsVs) s

/-- R82. -/
def State.vsResetOp (s : State) (v cause : Nat) : State :=
  let s := (s.vsPorts v).foldl State.cfgReset s
  let s := (s.dsps v).foldl State.hotReset s
  let s := (s.epReset0 v).epReset1 v pcVsReset
  let s := match s.usp v with
    | some u => s.flushStart u 3
    | none => s
  let s := s.suspendOwner v
  let s := s.closeCreds (credOfVs v)
  let s := s.modVs v fun w => { w with rrs := true, sbr := false, pme := [], pmeWait := false }
  let s := (s.dsps v).foldl (fun s p => (s.modPort p fun x => { x with dis := { x.dis with sbr := false, link := false } }).kick p) s
  s.raise (srcStn (match s.usp v with | some u => stnOf u | none => 0)) 0x1033 1 (scVs v) [v, cause]

/-! ### Containment entries (R218 to R222) -/

/-- The lowest-numbered free entry. -/
def State.cqFree (s : State) (st : Nat) : Option Nat := (List.range 32).find? fun i => !s.flag (F.STN_CQ_ENTRY0_VALID st i)

/-- The open entry an error belongs to: that of the object itself, or the port entry whose scope holds it (R219). -/
def State.cqScope (s : State) (st kind obj : Nat) : Option Nat :=
  match s.cqFind st kind obj with
  | some i => some i
  | none =>
    if kind = 1 then s.cqFind st 0 (s.lendPort st obj)
    else if kind = 2 then s.cqFind st 0 obj
    else if kind = 4 ∧ obj / 65536 = tLend then s.cqFind st 0 (s.lendPort st (obj % 65536))
    else if kind = 4 ∧ obj / 65536 = tCrt then s.cqFind st 0 (9 * st + obj % 65536 / 256)
    else none

/-- R220. -/
def State.cqNested (s : State) (st i cause : Nat) : State :=
  let n j := s.get (F.STN_CQ_ENTRY3_NCAUSE st i j)
  let s := s.bump (F.STN_CQ_ENTRY1_NESTED st i)
  let s := (((s.put (F.STN_CQ_ENTRY3_NCAUSE st i 3) (n 2)).put (F.STN_CQ_ENTRY3_NCAUSE st i 2) (n 1)).put
    (F.STN_CQ_ENTRY3_NCAUSE st i 1) (n 0)).put (F.STN_CQ_ENTRY3_NCAUSE st i 0) cause
  s.raiseLim ms100 (st * 32 + i) (srcStn st) 0x2702 2 (scStn st) 1 [st, i, cause, s.get (F.STN_CQ_ENTRY1_NESTED st i)]

/-- An error of an object that opens no entry of its own: counted while the station is fenced (R222), else nested on the entry that holds the
object (R219). -/
def State.cqNest (s : State) (st kind obj cause : Nat) : State :=
  if s.fenced st then s.bump (F.STN_CQ_STATUS_FENCE_ERRS st)
  else match s.cqScope st kind obj with
    | some i => s.cqNested st i cause
    | none => s

/-- Take entry i for an object: OPEN, with 0x2701. -/
def State.cqTake (s : State) (st i kind obj cause : Nat) : State :=
  let s := ((s.putB (F.STN_CQ_ENTRY0_VALID st i) true).put (F.STN_CQ_ENTRY0_STATE st i) 1).put (F.STN_CQ_ENTRY0_KIND st i) kind
  let s := ((s.put (F.STN_CQ_ENTRY0_OBJECT st i) obj).put (F.STN_CQ_ENTRY1_CAUSE st i) cause).put (F.STN_CQ_ENTRY1_NESTED st i) 0
  let s := (s.put (F.STN_CQ_ENTRY2_TIME st i) (s.fabNow % 2 ^ 32)).setReg (F.STN_CQ_ENTRY3_NCAUSE st i 0).addr 0
  let used := s.get (F.STN_CQ_STATUS_USED st) + 1
  let s := s.put (F.STN_CQ_STATUS_USED st) used
  let s := if s.get (F.STN_CQ_STATUS_HWM st) < used then s.put (F.STN_CQ_STATUS_HWM st) used else s
  s.raise (srcStn st) 0x2701 3 (scStn st) [st, i, kind, obj, cause]

/-- Free entry i. -/
def State.cqDrop (s : State) (st i : Nat) : State :=
  if s.flag (F.STN_CQ_ENTRY0_VALID st i) then
    let s := (s.setReg (F.STN_CQ_ENTRY0_VALID st i).addr 0).put (F.STN_CQ_STATUS_USED st) (s.get (F.STN_CQ_STATUS_USED st) - 1)
    (s.setReg (F.STN_CQ_ENTRY1_CAUSE st i).addr 0).setReg (F.STN_CQ_ENTRY2_TIME st i).addr 0 |>.setReg
      (F.STN_CQ_ENTRY3_NCAUSE st i 0).addr 0
  else s

/-- Conditions that end an entry, as 0x2704 names them and `PortSt.endCond` holds them: on reaching ACTIVE, DPC still to be released,
DPC released, removal found, left the configuration; other kinds: object restored. -/
def ecActive : Nat := 0
def ecDpcHeld : Nat := 1
def ecDpcDone : Nat := 2
def ecRemoval : Nat := 3
def ecLeft : Nat := 4
def ecRestored : Nat := 5

/-- End an entry with 0x2704. -/
def State.cqEnd (s : State) (st i cond : Nat) : State :=
  (s.raise (srcStn st) 0x2704 0 (scStn st) [st, i, cond, s.get (F.STN_CQ_ENTRY1_NESTED st i)]).cqDrop st i

/-- End the entry of an object, if one is open. -/
def State.cqEndObj (s : State) (st kind obj cond : Nat) : State :=
  match s.cqFind st kind obj with
  | some i => s.cqEnd st i cond
  | none => s

/-- What becomes of DPC on a DSP whose host has enabled it: Trigger Status and reason (PCI Express Base Specification 7.0: bit 0,
bits 2:1, extension bits 6:5), link disabled. -/
def State.dpcSet (s : State) (p reason ext : Nat) : State :=
  let st := stnOf p
  let s := s.putB (F.STN_PORT_STATUS_DPC_TRIG st (kOf p)) true
  let s := s.setCw p ofDPCS (1 + reason * 2 + 8 + ext * 32)
  let s := s.modPort p fun x => { x with dis := { x.dis with dpc := true }, endCond := ecDpcHeld }
  if bit (s.cw p ofDPC) 19 then s.emit (.errMsg (s.vsOf p) (BitVec.ofNat 16 (s.portRid p)) 3) else s

/-- DPC Trigger Enable: 1 fatal errors, 2 non-fatal and fatal errors. -/
def State.dpcEnable (s : State) (p : Nat) : Nat := bits (s.cw p ofDPC) 16 2

/-- Actions of a port entry (KIND 0): the link is disabled and goes to OFF, its queues flush, its lendings are suspended, its completion
return entries are released, and an upstream port resets its virtual switch. -/
def State.containPort (s : State) (p lsCause : Nat) : State :=
  let s := s.modPort p fun x => { x with dis := { x.dis with contain := true }, flushed := 0, suspended := 0 }
  let s := (s.flushStart p (if lsCause = lsDpc then 4 else 2)).goOff p ldDisable lsCause
  let s := s.suspendPort p lsCause
  let s := s.crtReleaseIf p fun _ => true
  if s.pciRole p = 1 then s.vsResetOp (s.vsOf p) vrDown else s

/-- One DSP of a station under fence: DPC where it is enabled, else Surprise Down. -/
def State.fenceDsp (s : State) (p : Nat) : State :=
  if s.pciRole p != 2 then s
  else if s.dpcEnable p != 0 then s.dpcSet p 3 1
  else s.aer p aeSD

/-- LINK_EVENT goes to the manager node and to the deputy (R290). -/
def State.linkEventMsg (s : State) (st cause : Nat) : State :=
  let f := [s.nodeId, 9 * st, cause]
  let go (s : State) (d : Nat) : State :=
    if d = 0xFF then s
    else if d = s.nodeId then { s with fab := { s.fab with events := s.fab.events ++ [(s.nodeId, 9 * st, cause)] } }
    else s.sendCtl d 0x20 f none
  if s.nodeId = 0xFF then s else go (go s (s.get F.FAB_STATE_MGR_NODE)) (s.get F.FAB_STATE_DEPUTY)

/-- R222: the station is fenced. -/
def State.fenceOp (s : State) (st kind cause : Nat) : State :=
  if s.fenced st then s
  else
    let s := s.putB (F.STN_CQ_STATUS_FENCED st) true
    let s := s.put F.ERR_FENCED_STATIONS (setBit (s.get F.ERR_FENCED_STATIONS) st true)
    let s := s.raise (srcStn st) 0x2705 4 (scStn st) [st, kind, cause]
    let ps := s.stnPorts st
    let s := ps.foldl (fun s p => s.modPort p fun x => { x with dis := { x.dis with fence := true } }) s
    let s := if s.seamMode st && s.stage (9 * st) == stACTIVE then (s.seamLost st slAdmin).linkEventMsg st slAdmin else s
    let s := ps.foldl (fun s p => s.flushStart p 2) s
    let s := ps.foldl (fun s p => if s.stage p = stOFF then s else s.leaveTo p stOFF ldDisable lsLink) s
    let s := ps.foldl State.fenceDsp s
    ps.foldl (fun s p => if s.pciRole p = 1 then s.vsResetOp (s.vsOf p) vrDown else s) s

/-- A trigger of Table 8.4 (R219): counted while the station is fenced, nested on an open entry, else a new entry (whose number is
given) or the fence. The actions of the entry follow where this answers a number. -/
def State.cqOpen (s : State) (st kind obj cause : Nat) : State × Option Nat :=
  if s.fenced st then (s.bump (F.STN_CQ_STATUS_FENCE_ERRS st), none)
  else match s.cqScope st kind obj with
    | some i => (s.cqNested st i cause, none)
    | none => match s.cqFree st with
      | none => (s.fenceOp st kind cause, none)
      | some i => (s.cqTake st i kind obj cause, some i)

/-- A port entry with its actions. -/
def State.openPort (s : State) (p cause lsCause : Nat) : State :=
  match s.cqOpen (stnOf p) 0 p cause with
  | (s, some _) => (s.modPort p fun x => { x with endCond := ecActive }).containPort p lsCause
  | (s, none) => s

/-- DPC triggers on a DSP (R217): the link is disabled and a port entry opens with the trigger's cause; an entry that is open keeps
its own cause and takes this one as nested. -/
def State.dpcTrigger (s : State) (p reason ext cause : Nat) : State :=
  let s := s.openPort p cause lsDpc
  let s := s.dpcSet p reason ext
  s.goOff p ldDisable lsDpc

/-- An uncorrectable error of Table 8.3 marked DPC at a DSP: DPC triggers where the host has enabled it for the error's severity; while DPC is
triggered already, the error is nested (R220). -/
def State.dpcError (s : State) (p b cause : Nat) : State :=
  let fatal := bit (s.cw p 0x10C) b
  let en := s.dpcEnable p
  if s.pciRole p = 2 && !bit (s.cw p 0x108) b && (en == 2 || (en == 1 && fatal)) then
    (if s.flag (F.STN_PORT_STATUS_DPC_TRIG (stnOf p) (kOf p)) then s.cqNest (stnOf p) 0 p cause else s.dpcTrigger p 0 0 cause)
  else s

/-- A Seam link in ACTIVE is lost on a cause of Table 9.14 (R272): DETECT, a KIND 2 entry, its queues flushed, LINK_EVENT. -/
def State.seamDown (s : State) (st cause : Nat) : State :=
  let p := 9 * st
  if s.stage p != stACTIVE then s
  else
    let s := (s.seamLost st cause).leaveTo p stDETECT ldDown lsLink
    (s.cqOpen st 2 p 0x20).1.linkEventMsg st cause

/-! ### Link down (R47, R224) -/

/-- Presence was lost before the link went down, on a port with a slot. -/
def State.slotAbsent (s : State) (p : Nat) : Bool :=
  s.hasSlot p && !s.flag (F.STN_PORT_HP_STATUS_PRESENT (stnOf p) (kOf p))

/-- An ACTIVE link goes down not by a disable, to DETECT or, when the station PLL lost lock, to PLL: a Seam link is lost; a USP's and
a DSP's unplanned link down opens a port entry, with the Surprise Down of a DSP held back for 10 ms; a removal and a pool port only
flush. -/
def State.linkFell (s : State) (p stage cause seamCause : Nat) : State :=
  if s.stage p != stACTIVE then s
  else if s.seamMode (stnOf p) then
    let s := s.seamDown (stnOf p) seamCause
    if s.stage p = stDETECT then s.setStage p stage else s
  else
    let s := s.leaveTo p stage cause lsLink
    if s.pciRole p = 1 then s.openPort p 0x0A lsLink
    else if s.pciRole p = 2 && !s.slotAbsent p then
      (s.modPort p fun x => { x with surprise := true }).openPort p 0x04 lsLink
    else s

def State.linkDownOp (s : State) (p : Nat) : State := s.linkFell p stDETECT ldDown slDead

end Sys2Proof.Machine
end

