-- ==== Sys2Proof/Machine/Pattern.lean ====
section
/-!
DEFINITION. Machine/Pattern.lean: the test patterns of R55 (Table 2.6), Gray-coded PAM4 symbols, and the polarity a lane sends and
receives with (R53, Table 2.5).
-/

namespace Sys2Proof.Machine

/-- The exponents of a pattern's polynomial other than 0 (Table 2.6); a reserved code has none. -/
def prbsTaps (pat : Nat) : List Nat := [[7, 6], [15, 14], [23, 18], [31, 28], [13, 12, 2, 1], [31, 28]].getD pat []

/-- The bit that follows the bits `past` (newest first): the sum of the bits as many places back as the exponents say. -/
def prbsNext (pat : Nat) (past : List Bool) : Bool := (prbsTaps pat).foldl (fun b t => b != past.getD (t - 1) false) false

/-- The next n bits of a pattern. -/
def prbsBits (pat : Nat) : Nat → List Bool → List Bool
  | 0, _ => []
  | n + 1, past =>
    let b := prbsNext pat past
    b :: prbsBits pat n (b :: past)

/-- A pattern may be sent at a rate: codes 6 and 7 are reserved, and the quaternary ones are for 64 and 128 GT/s only. -/
def patternOk (pat rate : Nat) : Bool := decide (pat < 6) && decide (rate < 7) && (decide (pat < 4) || decide (5 ≤ rate))

/-- The PAM4 level of two bits, first bit first, under Gray code: neighbouring levels differ in one bit. -/
def grayLevel (a b : Bool) : Nat := if a then (if b then 2 else 3) else (if b then 1 else 0)

/-- The two bits of a level. -/
def grayBits (l : Nat) : Bool × Bool := (decide (2 ≤ l), decide (l = 1 ∨ l = 2))

/-- Bits as PAM4 levels, two to a symbol; an odd last bit waits. -/
def pam4 : List Bool → List Nat
  | a :: b :: r => grayLevel a b :: pam4 r
  | _ => []

/-- What a lane sends for a run of bits at a rate: binary levels 0 and 3 up to 32 GT/s, PAM4 symbols above; inverted polarity sends the
mirrored level. -/
def laneSymbols (rate : Nat) (inverted : Bool) (bs : List Bool) : List Nat :=
  let ls := if 5 ≤ rate then pam4 bs else bs.map fun b => if b then 3 else 0
  if inverted then ls.map fun l => 3 - l else ls

end Sys2Proof.Machine
end

