-- ==== Sys2Proof/Machine/SlotPower.lean ====
section
/-!
DEFINITION. Machine/SlotPower.lean: the commands of chapter 16: card presence and seating, the button, the power states of Table
16.4, and the slot opcodes of group 0x0Axx (Table 14.16).
-/

namespace Sys2Proof.Machine

/-! ### Ties to the port's stage -/

/-- PERST_N of a slot has fallen: its port's link goes to OFF (Table 2.3). -/
def State.perstFell (s : State) (n : Nat) : State :=
  if n = 16 then s else match s.portOfSlot n with
  | some p => if s.perstOk p then s else s.goOff p ldPerst lsLink
  | none => s

/-- Presence on a slot has changed: a FAILED port leaves for OFF with its attempts cleared (Table 2.3). -/
def State.presenceMoved (s : State) (n : Nat) : State :=
  if n = 16 then s else match s.portOfSlot n with
  | some p =>
    if s.stage p = stFAILED then s.restartPort p else s
  | none => s

/-- An on command, and an off command with what it does to the port. -/
def State.commandOn (s : State) (n : Nat) : State := s.slotOn n
def State.commandOff (s : State) (n : Nat) : State := (s.slotOff n).perstFell n

/-- SPC16 is always commanded on: its CMD_ON reads 1 (Table 16.8). -/
def State.cmdHeld (s : State) (n : Nat) : Bool := n == 16 || s.cmdOn n

/-- The trip of controller n with what it does to the port. -/
def State.tripOut (s : State) (n cause : Nat) (m : SlotMeas) : State := (s.trip n cause m).perstFell n

/-! ### Cards and buttons (R429, R430) -/

/-- Filtered PRSNT_N goes low. A return of presence after a loss while latched is a presence toggle, which clears the latch. -/
def execSlotPresent (n : Slot) (s : State) : Res :=
  .next (
    if s.flag (F.SPC_STATUS_PRESENT n) then s
    else
      let s := (s.putB (F.SPC_STATUS_PRESENT n) true).modSpc n fun x => { x with presentAt := s.clk.now }
      let s := (s.raiseSlot n 0x9001 0 []).hpSync n
      let s := if s.spState n = spLATCHED ∧ (s.spcSt n).gone = true then s.unlatch n else s
      (s.modSpc n fun x => { x with gone := false }).presenceMoved n)

/-- A powered slot loses its card: fast pull-down with 0x9011, and PERST_N falls. A waiting or retrying one goes to OFF. -/
def State.cardLost (s : State) (n cause : Nat) : State :=
  let sp := s.spState n
  let s :=
    if poweredSp sp then s.powerOff n cause
    else if sp = spWAIT then ((s.leaveWait n).setSp n spOFF).hpSync n
    else if sp = spRETRY then (s.setSp n spOFF).hpSync n
    else s.hpSync n
  s.perstFell n

/-- Filtered presence is lost (R430, Table 16.4). -/
def execSlotRemoved (n : Slot) (s : State) : Res :=
  .next (
    if !s.flag (F.SPC_STATUS_PRESENT n) then s
    else
      let sp := s.spState n
      let s := (s.putB (F.SPC_STATUS_PRESENT n) false).putB (F.SPC_STATUS_SEATED n) false
      let s := s.raiseSlot n 0x9002 1 [sp]
      let s := if sp = spLATCHED then s.modSpc n fun x => { x with gone := true } else s
      (s.cardLost n lcGone).presenceMoved n)

/-- SEATED_N has been low for 100 ms while the card is present. -/
def execSlotSeated (n : Slot) (s : State) : Res :=
  .next (
    if !s.flag (F.SPC_STATUS_PRESENT n) || s.seated n then s
    else
      let s := s.putB (F.SPC_STATUS_SEATED n) true
      ((s.raiseSlot n 0x9003 0 [(s.clk.now - (s.spcSt n).presentAt) / msec]).hpSync n).presenceMoved n)

/-- A seating detector sees a high; the fast detector works only while the gate is on (R429). -/
def execSlotSeatLost (n : Slot) (fast : Bool) (s : State) : Res :=
  .next (
    if !s.seated n || (fast && !s.gateOn n) then s
    else
      let sp := s.spState n
      let s := s.putB (F.SPC_STATUS_SEATED n) false
      let s := s.raiseSlot n 0x9004 2 [sp, b2n fast]
      (s.cardLost n lcSeat).presenceMoved n)

/-- A filtered press (Table 3.7). -/
def execButtonPress (n : Slot) (s : State) : Res :=
  .next (
    let s := (s.putB (F.SPC_STATUS_BTN n) true).modSpc n fun x => { x with pressed := true }
    (s.slotBit n slAttn).hpSync n)

/-- A filtered release completes a button toggle, which clears a latch-off (Table 16.4, R442). -/
def execButtonRelease (n : Slot) (s : State) : Res :=
  .next (
    let toggle := (s.spcSt n).pressed
    let s := ((s.putB (F.SPC_STATUS_BTN n) false).modSpc n fun x => { x with pressed := false }).hpSync n
    if toggle && s.spState n == spLATCHED then s.unlatch n else s)

/-! ### Power (Table 16.4) -/

/-- R443: an input fault turns a powered slot off; it is no trip. VIN below 10.0 V is INPUT_UV, above 14.0 V INPUT_OV. -/
def execSlotInputFault (n : Slot) (m : SlotMeas) (s : State) : Res :=
  .next (
    if poweredSp (s.spState n) then
      (((s.setMeas n m).slotBit n slPowerFault).powerOff n (if m.vin < 10000 then lcUv else lcOv)).perstFell n
    else s.setMeas n m)

/-- The head of the queue may start its ramp: its class fits, STAGGER_MS since the last ramp start of SPC0 to SPC15 and the delay
after its last trip have passed; SPC16 waits for neither budget nor stagger (R433, R434, R441). -/
def State.mayRamp (s : State) (n : Nat) : Bool :=
  let rested := match (s.spcSt n).tripAt with
    | some t => decide (t + (s.spcSt n).delay ≤ s.clk.now)
    | none => true
  let gap := match s.spc.lastRamp with
    | some t => decide (t + s.get F.SPC_BUDGET_STAGGER_MS * msec ≤ s.clk.now)
    | none => true
  s.spState n == spWAIT && rested && (n == 16 || (s.spc.wait.head? == some n && s.fitsW n && gap))

/-- R434: WAIT to RAMP. -/
def execSlotRampStart (n : Slot) (s : State) : Res :=
  .next (
    if !s.mayRamp n then s
    else
      let s := (s.leaveWait n).setSp n spRAMP
      let s := s.putB (F.SPC_STATUS_GATE_ON n) true
      let s := s.modSpc n fun x => { x with gateAt := s.clk.now }
      let s := if n.val = 16 then s.modSpc n fun x => { x with inForce := none } else
        { (s.put F.SPC_BUDGET_USED_USED_W (s.usedW + classW (s.spcClass n))) with
          spc := { s.spc with lastRamp := some s.clk.now } }
      s.hpSync n)

/-- VOUT good: RAMP to QUAL. -/
def execVoutGood (n : Slot) (m : SlotMeas) (s : State) : Res :=
  .next (
    if s.spState n = spRAMP then
      ((s.setMeas n m).setSp n spQUAL).modSpc n fun x => { x with rampTime := s.clk.now - x.gateAt }
    else s)

/-- RAMP_TMO expires: a trip, cause RAMP. -/
def execRampTimeout (n : Slot) (m : SlotMeas) (s : State) : Res :=
  .next (if s.spState n = spRAMP then s.tripOut n lcRamp m else s)

/-- The qualification timer reaches 2 ms: PGOOD is released. -/
def execSlotPowerOn (n : Slot) (m : SlotMeas) (s : State) : Res :=
  .next (
    if s.spState n = spQUAL ∧ s.flag (F.SPC_STATUS_FAULT_TMR n) = false then
      let s := ((s.setMeas n m).setSp n spON).putB (F.SPC_STATUS_PGOOD n) true
      let s := s.modSpc n fun x => { x with pgoodAt := s.clk.now }
      (s.raiseSlot n 0x9010 0 [s.spcClass n, (s.spcSt n).rampTime, m.vout]).hpSync n
    else s)

/-- Assert PWRWARN_N: the first assertion of a period raises 0x9024; cause 0 the fault timer, 1 VIN (log entry 12). -/
def State.pwrWarn (s : State) (n cause vin : Nat) : State :=
  if s.flag (F.SPC_STATUS_PWRWARN n) then s
  else (s.putB (F.SPC_STATUS_PWRWARN n) true).raiseSlot n 0x9024 2 [cause, vin]

/-- The sense voltage has reached V_LIM, which is at most 50 mV (R425, R438): 10 mA × 10 µΩ is 100 nV. -/
def State.limiting (s : State) (n : Nat) (m : SlotMeas) : Bool :=
  decide (min (vlimNv (s.spcClass n) (s.spcSense n)) 50000000 ≤ m.iout * s.spcSense n * 100)

/-- A fault condition begins in QUAL or ON (R431, R438 to R440). -/
def execFaultConditionStart (n : Slot) (volt : Bool) (m : SlotMeas) (s : State) : Res :=
  .next (
    let sp := s.spState n
    if (sp = spQUAL ∨ sp = spON) ∧ s.flag (F.SPC_STATUS_FAULT_TMR n) = false then
      let s := ((s.setMeas n m).putB (F.SPC_STATUS_FAULT_TMR n) true).modSpc n fun x => { x with volt := volt }
      let s := if sp = spQUAL then s.raiseSlot n 0x9012 2 [if volt then m.vout else m.iout] else s.pwrWarn n 0 m.vin
      if s.limiting n m then
        (s.putB (F.SPC_STATUS_ILIM_ACTIVE n) true).raiseLim sec n 0x03 0x9020 2 (s.slotScope n) 0 [n, m.iout]
      else s
    else s)

/-- The fault condition ends before FAULT_TMO: the fault timer is cleared. -/
def execFaultConditionEnd (n : Slot) (s : State) : Res :=
  .next (
    if s.flag (F.SPC_STATUS_FAULT_TMR n) then
      (s.putB (F.SPC_STATUS_FAULT_TMR n) false).putB (F.SPC_STATUS_ILIM_ACTIVE n) false
    else s)

/-- The fault timer reaches FAULT_TMO: a trip, cause OVERCURRENT or VOUT_LOW. -/
def execSlotBreakerTrip (n : Slot) (m : SlotMeas) (s : State) : Res :=
  .next (
    if s.flag (F.SPC_STATUS_FAULT_TMR n) then s.tripOut n (if (s.spcSt n).volt then lcVout else lcOver) m else s)

/-- The fast-trip threshold is reached while the gate is on. -/
def execFastTrip (n : Slot) (m : SlotMeas) (s : State) : Res :=
  .next (if poweredSp (s.spState n) then s.tripOut n lcFast m else s)

/-- The retry delay ends (R441): 0x9022 on the first retry after each on command, then at most once per minute. -/
def execSlotRetry (n : Slot) (s : State) : Res :=
  .next (
    if s.spState n = spRETRY ∧ s.cmdHeld n = true ∧ s.seated n = true then
      let s := s.bump (F.SPC_CNT_RETRIES n)
      let k := 0x9022 * 2 ^ 32 + n.val
      let r : Rate := SMap.get (fun _ => {}) s.evs.rate k
      let s := if (s.spcSt n).retried then s
        else { s with evs := { s.evs with rate := SMap.set (fun _ => {}) s.evs.rate k { r with seen := false } } }
      let s := s.raiseLim (60 * sec) n 0x03 0x9022 1 (s.slotScope n) 0 [n, (s.spcSt n).delay]
      (s.modSpc n fun x => { x with retried := true }).enterWait n
    else s)

/-- 100 µs after an off command in ON the gate goes off (R437). An on command given in between finds a change from off to on. -/
def execOrderlyOffComplete (n : Slot) (s : State) : Res :=
  .next (
    if s.spState n = spON ∧ (s.spcSt n).offing = true then
      let s := s.powerOff n lcOff
      if s.cmdOn n then s.tryWait n else s
    else s)

/-- PERST_N may go high (R436). -/
def State.perstReady (s : State) (n : Nat) : Bool :=
  n != 16 && s.spState n == spON && !(s.spcSt n).offing
    && decide ((s.spcSt n).pgoodAt + s.get (F.SPC_CFG_PERST_DLY n) * msec ≤ s.clk.now)
    && (match s.portOfSlot n with | some p => s.started (stnOf p) | none => false)

/-- R436: PERST_N goes high, and the port may train. -/
def execPerstRelease (n : Slot) (s : State) : Res :=
  .next (
    if s.perstReady n then
      let s := s.modSpc n fun x => { x with perst := true }
      match s.portOfSlot n with
      | some p => s.kick p
      | none => s
    else s)

/-- R439: neither condition of the warning has held for 1 ms. -/
def execPwrwarnRelease (n : Slot) (s : State) : Res :=
  .next (
    if s.flag (F.SPC_STATUS_FAULT_TMR n) then s
    else (s.putB (F.SPC_STATUS_PWRWARN n) false).modSpc n fun x => { x with vinWarn := false })

/-- R433: SPC16 enters WAIT from OFF once its card is seated, VIN in range for 100 ms, and 1 s has passed since its last trip. After an
input fault VIN counts as in range again above 10.5 V, or below 13.5 V (Table 16.3). -/
def execSpc16Admit (m : SlotMeas) (s : State) : Res :=
  .next (
    let rested := match (s.spcSt 16).tripAt with
      | some t => decide (t + sec ≤ s.clk.now)
      | none => true
    let cause := s.get (F.SPC_STATUS_LAST_CAUSE 16)
    let lo := if cause = lcUv then 10500 else 10000
    let hi := if cause = lcOv then 13500 else 14000
    if s.spState 16 = spOFF ∧ s.seated 16 = true ∧ lo ≤ m.vin ∧ m.vin ≤ hi ∧ rested = true then
      ((s.setMeas 16 m).putB (F.SPC_STATUS_CMD_ON 16) true).enterWait 16
    else s.setMeas 16 m)

/-- VIN falls below 11.0 V while the gate is on (R439). -/
def execVinWarning (n : Slot) (m : SlotMeas) (s : State) : Res :=
  .next (
    let s := s.setMeas n m
    if s.gateOn n then (s.modSpc n fun x => { x with vinWarn := true }).pwrWarn n 1 m.vin else s)

/-! ### Opcodes (Table 14.16) -/

def whoFOP : List Cls := [.fm, .obs, .pm]

/-- Every register of controller n, SPC_THR as it is derived. -/
def State.spcWords (s : State) (n : Nat) : List Dat :=
  let b := (F.SPC_CFG_CLASS n).addr
  [.u32 (s.reg b).toNat, .u32 (s.reg (b + 4)).toNat, .u32 (s.spcThrWord n).toNat, .u32 (s.reg (b + 0xC)).toNat,
   .u32 (s.reg (b + 0x10)).toNat, .u32 (s.reg (b + 0x14)).toNat, .u32 (s.reg (b + 0x18)).toNat]

/-- SLOT_STATUS. -/
def execSlotStatus (h : Hdr) (slot : B8) (s : State) : Res :=
  .next (s.serve (.slotStatus h slot) { code := 0x0A00, kind := .R, who := whoFOP, forms := [.dev] } h [.u8 slot.toNat]
    fun x s =>
      let n := slot.toNat
      if 17 ≤ n then .fail .badParam s
      else
        let mine := match s.portOfSlot n with
          | some p => n != 16 && s.pciRole p == 2 && s.vsOf p == x.vs
          | none => false
        if x.isP && !mine then .fail .denied s else .read s (s.spcWords n))

/-- The limits of Table 16.8 for a staged SPC_CFG; AUTO_ON and PERST_DLY are ignored for SPC16 (R446). -/
def spcCfgOk (n cfg : Nat) : Bool :=
  let r := bits cfg 4 12
  decide (20 ≤ r) && decide (r ≤ 2000) && vlimOk (bits cfg 0 3) r
    && (n == 16 || (decide (100 ≤ bits cfg 16 10) && decide (bits cfg 16 10 ≤ 1000)))

/-- STAGE_SLOT_PARAMS. -/
def execStageSlotParams (h : Hdr) (slot : B8) (cfg : B32) (s : State) : Res :=
  .next (s.serve (.stageSlotParams h slot cfg) { code := 0x0A02, kind := .S, who := [.fm], forms := [.dev] } h
    [.u8 slot.toNat, .u32 cfg.toNat] fun x s =>
      let n := slot.toNat
      if 17 ≤ n ∨ spcCfgOk n cfg.toNat = false then .fail .badParam s
      else
        let m : B32 := if n = 16 then 0x0000FFF7#32 else 0x03FFFFFF#32
        s.stage_ x [.regs [((F.SPC_CFG_CLASS n).addr, m, cfg)]] 8 fun _ => none)

/-- STAGE_SLOT_BUDGET. -/
def execStageSlotBudget (h : Hdr) (budget : B32) (s : State) : Res :=
  .next (s.serve (.stageSlotBudget h budget) { code := 0x0A03, kind := .S, who := [.fm], forms := [.dev] } h
    [.u32 budget.toNat] fun x s =>
      let st := bits budget.toNat 16 8
      if st < 5 ∨ 100 < st then .fail .badParam s
      else s.stage_ x [.regs [(F.SPC_BUDGET_BUDGET_W.addr, 0x007FFFFF#32, budget)]] 4 fun _ => none)

end Sys2Proof.Machine
end

