-- ==== Sys2Proof/Machine/Stations.lean ====
section
/-!
DEFINITION. Machine/Stations.lean: the commands of chapter 2: start of stations (R45, R411), the station PLL (R47), a port's way to
EXCHANGE (Table 2.3), pattern measurement (R55 to R58), the spare lane's check (R59), and the opcodes that use them (Table 14.9).
LINK_UP stands in Machine/LinkUp.lean, since a Seam link reaches ACTIVE by its training (R269).
-/

namespace Sys2Proof.Machine

/-! ### Power domains as stations ask for them (R411) -/

def State.pdState (s : State) (d : Nat) : Nat := s.get (F.GLB_PD_STATE_STATE d)
def State.pdIsOn (s : State) (d : Nat) : Bool := s.pdState d == 2
/-- The sequencer's target for a domain. -/
def State.pdAsk (s : State) (d : Nat) (on : Bool) : State :=
  let s := s.putB (F.GLB_PD_STATE_REQ d) on
  { s with pow := { s.pow with reqAt := SMap.set (fun _ => 0) s.pow.reqAt d s.clk.now,
                               offBySet := if on then s.pow.offBySet.filter (· != d) else s.pow.offBySet } }

/-- The strap's upstream station (R406): 4 × bits [2:1] of the code. -/
def State.strapStn (s : State) : Nat := 4 * bits (s.get F.GLB_STRAP_CODE) 1 2

/-- A station is held: by HOLD, or because it is configured for Seam mode on a standalone device (R277). -/
def State.hold (s : State) (st : Nat) : Bool := s.flag (F.STN_LANE_MODE_HOLD st) || (s.seamMode st && s.nodeId == 0xFF)

/-- The start order of R45: the strap's upstream station, then the others in ascending number; held stations are skipped. -/
def State.startOrder (s : State) : List Nat :=
  let u := s.strapStn
  (u :: (List.range 16).filter (· != u)).filter fun st => !s.hold st

/-- A station that cannot start: a domain it needs is in fault or switched off by PD_SET (R412, R413). -/
def State.noStart (s : State) (st : Nat) : Bool :=
  [st, 16 + st, 32 + st, 48 + st / 2, 56 + st / 4].any fun d => s.pdState d == 3 || s.pow.offBySet.contains d

/-- A station's turn to start (R45): each one before it in the order has started or cannot, and 2 ms have passed since the last start. -/
def State.startTurn (s : State) (st : Nat) : Bool :=
  ((s.startOrder.takeWhile (· != st)).all fun x => s.started x || s.noStart x)
    && (match s.pow.lastStart with
      | some t => decide (t + 2 * msec ≤ s.clk.now)
      | none => true)

/-- A station leaves its hold: PD(32 + s) and PD(s) are asked for. -/
def State.unholdStn (s : State) (st : Nat) : State :=
  ((s.putB (F.STN_LANE_STATUS_HELD st) false).pdAsk (32 + st) true).pdAsk st true

/-- A station stops: PERST_N of its slots falls (R436). -/
def State.perstStn (s : State) (st : Nat) : State :=
  (s.stnPorts st).foldl (fun s p => if s.portOfSlot (s.slotOf p) == some p && (s.spcSt (s.slotOf p)).perst then
    (s.modSpc (s.slotOf p) fun x => { x with perst := false }).perstFell (s.slotOf p) else s) s

/-- A station is held: its logic is in reset, and PD(32 + s) and PD(s) are to be off (R411, R412). -/
def State.leaveHeld (s : State) (st : Nat) : State :=
  (((s.putB (F.STN_LANE_STATUS_HELD st) true).perstStn st).pdAsk st false).pdAsk (32 + st) false

/-- STATION_START: a station that is not held has its turn, and its domains are asked for (R45, R411). Its start is the moment PD(s) comes on,
which keeps the order and the 2 ms too. -/
def execStationStart (st : Stn) (s : State) : Res :=
  .next (
    if s.pow.sequenced && !s.hold st && s.flag (F.STN_LANE_STATUS_HELD st) && s.pdIsOn (16 + st) && s.pdState st != 3
        && s.pdState (32 + st) != 3 && s.startTurn st then s.unholdStn st
    else s)

/-- What the start of a station begins, whose moment is kept: its first series of PLL tries (R47), its station clock, and on a Seam station a fit spare. -/
def State.stationUp (s : State) (st : Nat) : State :=
  let s : State := { s with pow := { s.pow with lastStart := some s.clk.now } }
  let s := s.beginSeries st
  let s := s.put F.GLB_CLK_STATUS_STN_CLK_RUN (setBit (s.get F.GLB_CLK_STATUS_STN_CLK_RUN) st true)
  let s := if s.seamMode st then s.put (F.STN_LN_STATUS_SPARE_ROLE st 16) 1 else s
  s.kickStn st

/-! ### The station PLL (R47) -/

/-- Every port that is not held in OFF by its role or a disabled link. -/
def State.livePorts (s : State) (st : Nat) : List Nat :=
  (s.stnPorts st).filter fun p => (s.seamMode st || s.role p != 0) && !(s.port p).dis.any

/-- PLL_LOCK: ports in PLL go to DETECT. -/
def execPllLock (st : Stn) (s : State) : Res :=
  .next (
    let x := s.stn st
    if s.started st && decide (0 < x.tries) && !x.waiting then
      let s := (s.putB (F.STN_LANE_STATUS_PLL_LOCK st) true).modStn st fun x => { x with tries := 0 }
      (s.stnPorts st).foldl (fun s p => if s.stage p = stPLL then s.setStage p stDETECT else s.kick p) s
    else s)

/-- PLL_TRY_TIMEOUT: the first try of a series waits 10 ms for the second; the second takes every port of the station to FAILED. -/
def execPllTryTimeout (st : Stn) (s : State) : Res :=
  .next (
    let x := s.stn st
    if x.waiting then s
    else if x.tries = 1 then s.modStn st fun x => { x with waiting := true }
    else if x.tries = 2 then
      let s := (s.modStn st fun x => { x with tries := 0 }).raise (srcStn st) 0x1001 3 (scStn st) [st, 2]
      (s.livePorts st).foldl (fun s p => (if s.stage p = stMEASURE then s.leaveMeasure p else s).setStage p stFAILED) s
    else s)

/-- PLL_RETRY: the second try begins. -/
def execPllRetry (st : Stn) (s : State) : Res :=
  .next (if (s.stn st).waiting then s.modStn st fun x => { x with tries := 2, waiting := false } else s)

/-! ### Measurement (R55 to R58) -/

/-- Every running counter of the device is brought up to date before its registers are read. -/
def State.prbsAdvanceAll (s : State) : State :=
  (List.range 16).foldl (fun s st => (List.range 17).foldl (fun s l => s.prbsAdvance st l) s) s

/-- Clear both counters and LOCK_LOSS of a lane. -/
def State.prbsClear (s : State) (st l : Nat) : State :=
  let s := (s.put (F.STN_LN_PRBS_ERR_LO_ERR_LO st l) 0).put (F.STN_LN_PRBS_ERR_HI_ERR_HI st l) 0
  ((s.put (F.STN_LN_PRBS_BITS_LO_BITS_LO st l) 0).put (F.STN_LN_PRBS_BITS_HI_BITS_HI st l) 0).put
    (F.STN_LN_PRBS_STAT_LOCK_LOSS st l) 0

/-- A port goes to PLL because its station PLL has lost lock (Table 2.3); links that were up are lost, and containment follows. -/
def State.portToPll (s : State) (p : Nat) : State :=
  let g := s.stage p
  if g = stOFF ∨ g = stPLL then s
  else if g = stACTIVE then s.linkFell p stPLL ldPll slLock
  else
    let s := if g = stMEASURE then s.leaveMeasure p else s
    ((s.setStage p stPLL).clearLanes p).modPort p fun x => { x with timer := false }

/-- A locked station PLL loses lock. -/
def State.pllLost (s : State) (st : Nat) : State :=
  if s.pllLocked st then
    let s := (s.putB (F.STN_LANE_STATUS_PLL_LOCK st) false).beginSeries st
    (s.stnPorts st).foldl State.portToPll s
  else s

/-- PLL_LOCK_LOSS. -/
def execPllLockLoss (st : Stn) (s : State) : Res := .next (s.pllLost st)

/-- The port of a lane that may measure is in MEASURE (R56). -/
def State.inMeasure (s : State) (st l : Nat) : Bool :=
  (s.stnPorts st).any fun p => (s.measLanes p).contains l && s.stage p == stMEASURE

/-- CHECKER_LOCK: 128 consecutive correct bits. -/
def execCheckerLock (st : Stn) (lane : Lane) (s : State) : Res :=
  .next (if s.flag (F.STN_LN_PRBS_CTL_EN st lane) && s.flag (F.STN_LN_PRBS_CTL_CHK st lane) then
    s.putB (F.STN_LN_PRBS_STAT_CHK_LOCK st lane) true else s)

/-- PRBS_LOCK_LOSS: a locked checker counts one LOCK_LOSS and seeks lock again. -/
def execPrbsLockLoss (st : Stn) (lane : Lane) (s : State) : Res :=
  .next (if s.flag (F.STN_LN_PRBS_STAT_CHK_LOCK st lane) then
    ((s.prbsAdvance st lane).putB (F.STN_LN_PRBS_STAT_CHK_LOCK st lane) false).bump (F.STN_LN_PRBS_STAT_LOCK_LOSS st lane) else s)

/-- PRBS_CLR. -/
def execPrbsClr (st : Stn) (lane : Lane) (s : State) : Res := .next ((s.prbsAdvance st lane).prbsClear st lane)

/-- An offset clamped to ±lim; the field is 7 bits, two's complement. -/
def clampOff (v : Int) (lim : Nat) : Int := if v < -(lim : Int) then -(lim : Int) else if (lim : Int) < v then lim else v
def off7 (v : Int) : Nat := (v % 128).toNat
def int7 (n : Nat) : Int := if n < 64 then n else (n : Int) - 128
def int8 (n : Nat) : Int := if n < 128 then n else (n : Int) - 256

/-- A margin point starts: offsets clamped, BUSY set, EYE 0 at NRZ rates (R58). T_OFF and V_OFF then hold the clamped offsets, where the
spec does not say whether they keep what was written (log entry 55). -/
def State.marginStart (s : State) (st l : Nat) (t v : Int) (eye dwell : Nat) : State :=
  let t' := clampOff t 32
  let v' := clampOff v 63
  let nrz := decide (s.get (F.STN_LN_PRBS_CTL_MEAS_RATE st l) < 5)
  let s := (s.put (F.STN_LN_MARGIN_CTL_T_OFF st l) (off7 t')).put (F.STN_LN_MARGIN_CTL_V_OFF st l) (off7 v')
  let s := (s.put (F.STN_LN_MARGIN_CTL_EYE st l) (if nrz then 0 else eye)).put (F.STN_LN_MARGIN_CTL_DWELL st l) dwell
  (s.putB (F.STN_LN_MARGIN_STAT_CLAMPED st l) (t' != t || v' != v)).putB (F.STN_LN_MARGIN_STAT_BUSY st l) true

/-- A margin point ends with its count. -/
def State.marginEnd (s : State) (st l errs : Nat) : State :=
  (s.put (F.STN_LN_MARGIN_STAT_MARGIN_ERRS st l) (min (2 ^ 24 - 1) errs)).putB (F.STN_LN_MARGIN_STAT_BUSY st l) false

/-- MARGIN_GO: STN_LN_MARGIN_CTL is written with GO. -/
def execMarginGo (st : Stn) (lane : Lane) (ctl : B32) (s : State) : Res :=
  .next (
    let c := ctl.toNat
    if bit c 31 && s.inMeasure st lane && !s.flag (F.STN_LN_MARGIN_STAT_BUSY st lane) then
      s.marginStart st lane (int7 (bits c 0 7)) (int7 (bits c 8 7)) (bits c 16 2) (bits c 20 4)
    else s)

/-- MARGIN_POINT_DONE. -/
def execMarginPointDone (st : Stn) (lane : Lane) (errs : Nat) (s : State) : Res :=
  .next (if s.flag (F.STN_LN_MARGIN_STAT_BUSY st lane) then s.marginEnd st lane errs else s)

/-- The errors of a second, and the bits compared in it (a free value, log entry 8), go into the spare lane's counters. -/
def State.spareCount (s : State) (st errs : Nat) : State :=
  let n := s.clk.free
  let s := s.addWide (F.STN_LN_PRBS_ERR_LO_ERR_LO st 16) (F.STN_LN_PRBS_ERR_HI_ERR_HI st 16) errs
  (s.addWide (F.STN_LN_PRBS_BITS_LO_BITS_LO st 16) (F.STN_LN_PRBS_BITS_HI_BITS_HI st 16) (Config.prbsBits n).toNat).nextFree

/-- SPARE_CHECK (R59): once a second, while no substitution is in force. -/
def execSpareCheck (st : Stn) (errs : Nat) (s : State) : Res :=
  .next (
    let role := s.get (F.STN_LN_STATUS_SPARE_ROLE st 16)
    if !s.spareRuns st 16 || !(role == 1 || role == 3) || !s.flag (F.STN_LN_PRBS_CTL_EN st 16) then s
    else
      let s := s.spareCount st errs
      if s.get (F.STN_TRAIN_CTL_SPARE_ERR_LIMIT st) < errs then
        ((s.put (F.STN_LN_STATUS_SPARE_ROLE st 16) 3).modStn st fun x => { x with spareOk := 0 }).raise (srcStn st) 0x1021 2
          (scStn st) [st, errs]
      else
        let n := (s.stn st).spareOk + 1
        let s := s.modStn st fun x => { x with spareOk := min 60 n }
        if role = 3 ∧ 60 ≤ n then s.put (F.STN_LN_STATUS_SPARE_ROLE st 16) 1 else s)

/-! ### Credits a port advertises (R78, R79) -/

/-- Table 3.5: PH, PD, NPH, NPD, CplH, CplD by configured width. -/
def vc0Credits (w : Nat) : List Nat :=
  let w := if 16 ≤ w then 16 else if 8 ≤ w then 8 else if 4 ≤ w then 4 else if 2 ≤ w then 2 else 1
  [16 * w, 384 * w, 8 * w, 4 * w, 16 * w, 384 * w]

/-- The credits a port of a configured width advertises on a VC, and their scale factor (R78, R79): on VC1 an eighth, at least 4 and 16; ×8 and
×16 ports use scale factor 4, and without Scaled Flow Control advertise at most 127 and 2,047. -/
def advertised (w vc : Nat) (scaled : Bool) : Nat × List Nat :=
  let base := vc0Credits w
  let l := if vc = 0 then base else (List.range 6).map fun i => max (if i % 2 = 0 then 4 else 16) (base.getD i 0 / 8)
  let wide : Bool := decide (8 ≤ w)
  (if wide && scaled then 4 else 1, if wide && !scaled then (List.range 6).map fun i => min (if i % 2 = 0 then 127 else 2047) (l.getD i 0) else l)

/-- A port advertises the initial credits of a VC. -/
def State.advertise (s : State) (p vc : Nat) : State :=
  let a := advertised (s.width p) vc (s.flag (F.STN_PORT_STATUS_SCALED_FC (stnOf p) (kOf p)))
  s.emit (.fcInit p vc a.1 a.2)

/-! ### Training (Table 2.3) -/

/-- The mask of a list of lanes. -/
def maskOf (ls : List Nat) : Nat := ls.foldl (fun m l => setBit m l true) 0

/-- The longest run of used lanes. -/
def longestRun : List Bool → Nat → Nat → Nat
  | [], cur, best => max cur best
  | true :: r, cur, best => longestRun r (cur + 1) best
  | false :: r, cur, best => longestRun r 0 (max cur best)

/-- Target width: the widest permitted width on the contiguous lanes that are not marked unused (R40). -/
def State.targetWidth (s : State) (p : Nat) : Nat :=
  let n := longestRun ((s.lanesOf p).map fun l => s.laneCap (stnOf p) l != 3) 0 0
  if s.seamMode (stnOf p) then 16
  else if 16 ≤ n then 16 else if 8 ≤ n then 8 else if 4 ≤ n then 4 else if 2 ≤ n then 2 else n

/-- The lanes of a mask that are a port's and in use. -/
def State.usable (s : State) (p m : Nat) : List Nat :=
  (s.measLanes p).filter fun l => bit m l && s.laneCap (stnOf p) l != 3

/-- The equalization entry a lane trains with (R54), as one number. -/
def eqEntry (x : PortSt) (l : Nat) : Nat :=
  match x.eq.find? fun y => y.1 == l with
  | some y => y.2.1.toNat + y.2.2.toNat * 2 ^ 32
  | none => 0

/-- The same by the entries taken at PATTERN: what a COMMIT changes since then waits for the next entry (R54). -/
def State.trained (s : State) (p m : Nat) : List Nat :=
  (s.measLanes p).filter fun l => bit m l && bits (eqEntry (s.port p) l) 62 2 != 3

/-- The preset transmitted at a rate (Table 2.5): none below 8 GT/s. -/
def eqTxp (e rate : Nat) (seam : Bool) : Nat :=
  if seam then (if rate = 6 then bits e 56 4 else bits e 52 4)
  else if rate = 2 then bits e 0 4 else if rate = 3 then bits e 8 4 else if rate = 4 then bits e 16 4
  else if rate = 5 then bits e 24 4 else if rate = 6 then bits e 32 4 else 0

/-- The preset requested of the partner at a rate. -/
def eqReqp (e rate : Nat) : Nat :=
  if rate = 2 then bits e 4 4 else if rate = 3 then bits e 12 4 else if rate = 4 then bits e 20 4
  else if rate = 5 then bits e 28 4 else if rate = 6 then bits e 36 4 else 0

/-- The receiver profile for a rate's class. -/
def eqRxprof (e rate : Nat) : Nat := if 5 ≤ rate then bits e 48 4 else bits e 44 4

/-- Rate, initial preset and receiver profile of the lanes of a port that trains at a rate. -/
def State.lanesAt (s : State) (p rate : Nat) : State :=
  let st := stnOf p
  let x := s.port p
  (s.measLanes p).foldl (fun s l =>
    let e := eqEntry x l
    let s := (s.put (F.STN_LN_STATUS_RATE st l) rate).put (F.STN_LN_STATUS_ACTIVE_TXP st l) (eqTxp e rate (s.seamMode st))
    s.put (F.STN_LN_STATUS_RXPROF st l) (eqRxprof e rate)) s

/-- The widths a PCI Express link may have (R40). -/
def pcieWidth (w : Nat) : Bool := w == 1 || w == 2 || w == 4 || w == 8 || w == 16

/-- Lanes on which a port may go on: one at least; for a Seam link all of L0 to L15, or 15 of them and L16 (Table 9.11). -/
def State.lanesDo (s : State) (p : Nat) (ls : List Nat) : Bool :=
  if s.seamMode (stnOf p) then
    let n := (ls.filter (· < 16)).length
    decide (16 ≤ n) || (decide (15 ≤ n) && ls.contains 16)
  else !ls.isEmpty

/-- Bit lock enough to leave PATTERN: on one lane, for a Seam link on every lane detected. -/
def State.lockDoes (s : State) (p : Nat) (ls : List Nat) : Bool :=
  s.lanesDo p ls && (!s.seamMode (stnOf p) || (s.measLanes p).all fun l => !s.flag (F.STN_LN_STATUS_RX_PRESENT (stnOf p) l) || ls.contains l)

/-- What LOCK may end with: a permitted width up to the target one, on as many lanes that have lock (R40); on a Seam link all sixteen, where `failed` names each main lane without
bit lock, one at most, and L16 is there for it. -/
def State.lockEnds (s : State) (p width failed : Nat) : Bool :=
  let st := stnOf p
  let locked (l : Nat) : Bool := s.flag (F.STN_LN_STATUS_BIT_LOCK st l)
  let bad := (List.range 16).filter (bit failed ·)
  let good := (s.lanesOf p).filter fun l => locked l && !bit failed l
  pcieWidth width && decide (width ≤ (s.port p).target.1) && (if s.seamMode st then
    (width == 16 && decide (bad.length ≤ 1) && ((List.range 16).all fun l => locked l || bit failed l)
      && (bad.isEmpty || (locked 16 && !bit failed 16)))
    else decide (width ≤ good.length))

/-- RECEIVER_DETECTED: DETECT to PATTERN; the attempt timer starts, and the committed rate cap and equalization take effect. -/
def execReceiverDetected (p : Port) (lanes : Nat) (s : State) : Res :=
  .next (
    let ls := s.usable p lanes
    let st := stnOf p
    if s.stage p = stDETECT ∧ s.lanesDo p ls = true then
      let s := s.clearLanes p
      let s := ls.foldl (fun s l => s.putB (F.STN_LN_STATUS_RX_PRESENT st l) true) s
      let s := s.modPort p fun x =>
        { x with timer := true, failed := 0, target := (s.targetWidth p, s.targetRate p),
                 flitEn := s.flag (F.STN_PORT_CFG_FLIT_EN st (kOf p)), sris := s.flag (F.STN_PORT_CFG_SRIS st (kOf p)), coefs := [],
                 eq := (s.measLanes p).map fun l => (l, s.eqLo st l, s.eqHi st l) }
      (s.lanesAt p (if s.seamMode st then 5 else 0)).setStage p stPATTERN
    else s)

/-- DETECT_RETRY: no receiver, the port detects again after 12 ms. -/
def execDetectRetry (p : Port) (s : State) : Res :=
  .next (if s.stage p = stDETECT then s.clearLanes p else s)

/-- BIT_LOCK: PATTERN to LOCK. -/
def execBitLock (p : Port) (lanes : Nat) (s : State) : Res :=
  .next (
    let ls := s.trained p lanes
    let st := stnOf p
    if s.stage p = stPATTERN ∧ s.lockDoes p ls = true then
      let s := ls.foldl (fun s l => (s.putB (F.STN_LN_STATUS_BIT_LOCK st l) true).putB (F.STN_LN_STATUS_SYM_LOCK st l) true) s
      s.setStage p stLOCK
    else s)

/-- Logical numbers and detected polarity of a port's lanes: reversed or not (R40), `inverted` a mask of lanes; a Seam link takes its
polarity from the equalization table and detects none (R53). -/
def State.orderLanes (s : State) (p inverted : Nat) (reversed : Bool) : State :=
  let st := stnOf p
  let ls := s.lanesOf p
  let ns := if reversed then (List.range ls.length).reverse else List.range ls.length
  let s := (ls.zip ns).foldl (fun s x => s.put (F.STN_LN_STATUS_LANE_NUM st x.1) x.2) s
  if s.seamMode st then s else ls.foldl (fun s l => s.putB (F.STN_LN_STATUS_POL_DET st l) (bit inverted l)) s

/-- LOCK_COMPLETE: LOCK to EXCHANGE with a width and lanes that failed lock (a mask). -/
def execLockComplete (p : Port) (width : Fin 17) (failed inverted : Nat) (reversed : Bool) (s : State) : Res :=
  .next (
    let st := stnOf p
    if s.stage p = stLOCK ∧ s.lockEnds p width failed = true then
      let s := (s.modPort p fun x => { x with failed := failed }).put (F.STN_PORT_STATUS_WIDTH st (kOf p)) width
      let s := (s.orderLanes p inverted reversed).setStage p stEXCHANGE
      if s.seamMode st then s.modSeam st fun x => { x with step := 1, seenReady := false, rtts := [] } else s
    else s)

/-- An attempt ends without ACTIVE: counted with 0x1002; at the limit the port is FAILED, with 0x1003, whose 'lanes that reached lock' is
their number: the spec does not say number or mask (log entry 55). -/
def State.attemptOver (s : State) (p : Nat) : State :=
  let g := s.stage p
  let st := stnOf p
  if g = stPATTERN ∨ g = stLOCK ∨ g = stEXCHANGE then
    let n := (s.port p).attempts + 1
    let lim := s.get (F.STN_TRAIN_CTL_ATTEMPT_LIMIT st)
    let s := (s.modPort p fun x => { x with attempts := n, timer := false }).raise (srcStn st) 0x1002 1 (scPort p) [p, g, n]
    let s := s.put (F.STN_PORT_STATUS_WIDTH st (kOf p)) 0
    if lim ≠ 0 ∧ lim ≤ n then
      let locked := ((s.lanesOf p).filter fun l => s.flag (F.STN_LN_STATUS_BIT_LOCK st l)).length
      ((s.setStage p stFAILED).clearLanes p).raise (srcStn st) 0x1003 3 (scPort p) [p, n, locked]
    else (s.setStage p stDETECT).clearLanes p
  else s

/-- TRAIN_ATTEMPT_TIMEOUT. -/
def execTrainAttemptTimeout (p : Port) (s : State) : Res := .next (s.attemptOver p)

/-- LTSSM_RETURN_TO_DETECT: the specification's own timers, on a PCI Express port. -/
def execLtssmReturnToDetect (p : Port) (s : State) : Res :=
  .next (if s.seamMode (stnOf p) then s else s.attemptOver p)

/-- LINK_DOWN: an ACTIVE link goes down not by a disable. -/
def execLinkDown (p : Port) (s : State) : Res := .next (s.linkDownOp p)

/-- STATION_CLOCK_SLOWDOWN (R44): 1 ms after the last port left 64 and 128 GT/s the station clock returns to 1 GHz. -/
def execStationClockSlowdown (st : Stn) (s : State) : Res :=
  .next (if (s.stnPorts st).any fun p => s.stage p == stACTIVE && decide (5 ≤ s.get (F.STN_PORT_STATUS_RATE st (kOf p))) then s
    else s.putB (F.STN_LANE_STATUS_CLK_2G st) false)

/-! ### Opcodes (Table 14.9) -/

def opPort (code : Nat) (kind : OpKind) (who : List Cls) : OpInfo := { code := code, kind := kind, who := who, forms := [.port] }

/-- PORT_STATUS. -/
def execPortStatus (h : Hdr) (s : State) : Res :=
  .next (s.serve (.portStatus h) (opPort 0x0300 .R whoFOP) h [] fun x s =>
    let a := (F.STN_PORT_CFG_ROLE (stnOf x.n) (kOf x.n)).addr
    .read s ([a, a + 4, a + 8, a + 12].map fun a => Dat.u32 (s.reg a).toNat))

/-- PORT_RESTART. -/
def execPortRestart (h : Hdr) (s : State) : Res :=
  .next (s.serve (.portRestart h) (opPort 0x0302 .I [.fm]) h [] fun x s =>
    if s.stage x.n = stFAILED then .ok (s.restartPort x.n) else .fail .notIdle s)

/-- PORT_MEASURE: into MEASURE from DETECT, ACTIVE or FAILED, and back to OFF. -/
def execPortMeasure (h : Hdr) (enter : B8) (s : State) : Res :=
  .next (s.serve (.portMeasure h enter) (opPort 0x0303 .I [.fm]) h [.u8 enter.toNat] fun x s =>
    let p := x.n
    let g := s.stage p
    if 2 ≤ enter.toNat then .fail .badParam s
    else if enter.toNat = 1 then
      if g = stACTIVE then
        let s := if s.seamMode (stnOf p) then s.seamLost (stnOf p) slAdmin else s
        let s := s.leaveTo p stMEASURE ldMeasure lsLink
        .ok (if s.pciRole p = 1 then s.vsResetOp (s.vsOf p) vrDown else s)
      else if g = stDETECT ∨ g = stFAILED then .ok (s.setStage p stMEASURE)
      else .fail .notIdle s
    else if g = stMEASURE then .ok (((s.leaveMeasure p).setStage p stOFF).kick p)
    else .fail .notIdle s)

/-- A lane is inverted in pattern measurement (Table 2.5). -/
def State.txInverted (s : State) (st l : Nat) : Bool := bit (s.eqHi st l).toNat 28

/-- Pattern measurement of a lane is set up: EN while it runs, the counters cleared where CLR says so, the generator started (R55, R56); without
EN it ends. -/
def State.prbsSet (s : State) (st l : Nat) (en gen chk loop clr : Bool) (pat rate : Nat) : State :=
  let s := s.prbsAdvance st l
  let s := if clr then s.prbsClear st l else s
  let s := if en then s.putB (F.STN_LN_PRBS_STAT_ABORTED st l) false else s.prbsStop st l false
  let s := (s.putB (F.STN_LN_PRBS_CTL_EN st l) en).put (F.STN_LN_PRBS_CTL_PATTERN st l) pat
  let s := (s.putB (F.STN_LN_PRBS_CTL_GEN st l) gen).putB (F.STN_LN_PRBS_CTL_CHK st l) chk
  let s := (s.putB (F.STN_LN_PRBS_CTL_LOOP st l) loop).put (F.STN_LN_PRBS_CTL_MEAS_RATE st l) rate
  let s := s.putB (F.STN_LN_PRBS_STAT_CHK_LOCK st l) false
  if en && gen then s.emit (.pattern st l pat rate (s.txInverted st l) loop) else s

/-- LANE_PRBS: bits GEN, CHK, LOOP, CLR in `bts`. -/
def execLanePrbs (h : Hdr) (lane pattern bts rate : B8) (s : State) : Res :=
  .next (s.serve (.lanePrbs h lane pattern bts rate) (opPort 0x0304 .I [.fm]) h
    [.u8 lane.toNat, .u8 pattern.toNat, .u8 bts.toNat, .u8 rate.toNat] fun x s =>
      let p := x.n
      let b := bts.toNat
      if !(s.measLanes p).contains lane.toNat || decide (16 ≤ b) || !patternOk pattern.toNat rate.toNat then .fail .badParam s
      else if s.stage p ≠ stMEASURE then .fail .busy s
      else .ok (s.prbsSet (stnOf p) lane.toNat (bit b 0 || bit b 1 || bit b 2) (bit b 0) (bit b 1) (bit b 2) (bit b 3) pattern.toNat rate.toNat))

/-- Bits per second of a rate code in millions. -/
def rateMb (r : Nat) : Nat := [2500, 5000, 8000, 16000, 32000, 64000, 128000].getD r 2500

/-- LANE_MARGIN: one margin point measured at once; the errors it counts are a free value (log entry 8). -/
def execLaneMargin (h : Hdr) (lane tOff vOff eye dwell : B8) (s : State) : Res :=
  .next (s.serve (.laneMargin h lane tOff vOff eye dwell) (opPort 0x0305 .I [.fm]) h
    [.u8 lane.toNat, .u8 tOff.toNat, .u8 vOff.toNat, .u8 eye.toNat, .u8 dwell.toNat] fun x s =>
      let p := x.n
      let st := stnOf p
      let l := lane.toNat
      let mr := s.get (F.STN_LN_PRBS_CTL_MEAS_RATE st l)
      if !(s.measLanes p).contains l || decide (3 ≤ eye.toNat) || decide (16 ≤ dwell.toNat)
          || decide (rateMb mr * 1000000 < 2 ^ (20 + dwell.toNat)) then .fail .badParam s
      else if s.stage p ≠ stMEASURE ∨ s.flag (F.STN_LN_MARGIN_STAT_BUSY st l) = true then .fail .busy s
      else
        let s := s.marginStart st l (int8 tOff.toNat) (int8 vOff.toNat) eye.toNat dwell.toNat
        let e := (Config.marginErrs s.clk.free).toNat
        let s := (s.marginEnd st l e).nextFree
        { st := .ok, s := s, data := [.u32 (s.get (F.STN_LN_MARGIN_STAT_MARGIN_ERRS st l)),
                                      .u8 (s.get (F.STN_LN_MARGIN_STAT_CLAMPED st l))] })

/-- PRBS_READ. -/
def execPrbsRead (h : Hdr) (lane : B8) (s : State) : Res :=
  .next (s.serve (.prbsRead h lane) (opPort 0x0306 .R [.fm, .obs]) h [.u8 lane.toNat] fun x s =>
    let st := stnOf x.n
    let l := lane.toNat
    if !(s.measLanes x.n).contains l then .fail .badParam s
    else
      let s := s.prbsAdvance st l
      let a := (F.STN_LN_PRBS_STAT_CHK_LOCK st l).addr
      .read s ([a, a + 4, a + 8, a + 12, a + 16].map fun a => Dat.u32 (s.reg a).toNat))

/-- Byte enables of a configuration access of `size` bytes at an offset. -/
def cfgBe (off size : Nat) : B8 := BitVec.ofNat 8 ((2 ^ size - 1) * 2 ^ (off % 4))

/-- The request a proxied configuration access sends (R71). -/
def proxyTlp (wr : Bool) (target off : B16) (size : Nat) (data : Bytes) : Tlp :=
  { (default : Tlp) with kind := if wr then .cfgWr else .cfgRd, target := target, reg := off, be := cfgBe off.toNat size, data := data }

/-- PROXY_CFG_RD and PROXY_CFG_WR: parameters that name an aligned access inside a function's configuration space. -/
def proxyOk (off : B16) (size : B8) : Bool :=
  let n := size.toNat
  (n == 1 || n == 2 || n == 4) && off.toNat % n == 0 && decide (off.toNat < 4096)

/-- A proxied access on a pool port: over a link that is up it is sent, and what the device answers is a free value; over a link that
is not up it completes with Unsupported Request (1). -/
def State.proxyCfg (s : State) (p : Nat) (t : Tlp) (rd : Bool) : Ans :=
  if s.stage p = stACTIVE then
    let n := s.clk.free
    let d : List Dat := if rd then [.u32 (Config.proxyData n).toNat, .u8 (Config.proxyStatus n).toNat]
      else [.u8 (Config.proxyStatus n).toNat]
    { st := .ok, s := (s.emit (.tlp p t)).nextFree, data := d }
  else { st := .ok, s := s, data := if rd then [.u32 0xFFFFFFFF, .u8 1] else [.u8 1] }

/-- PROXY_CFG_RD. -/
def execProxyCfgRd (h : Hdr) (target off : B16) (size : B8) (s : State) : Res :=
  .next (s.serve (.proxyCfgRd h target off size) (opPort 0x0307 .R [.fm]) h
    [.u16 target.toNat, .u16 off.toNat, .u8 size.toNat] fun x s =>
      if s.pciRole x.n ≠ 3 then .fail .badScope s
      else if !proxyOk off size then .fail .badParam s
      else s.proxyCfg x.n (proxyTlp false target off size.toNat []) true)

/-- PROXY_CFG_WR. -/
def execProxyCfgWr (h : Hdr) (target off : B16) (size : B8) (data : B32) (s : State) : Res :=
  .next (s.serve (.proxyCfgWr h target off size data) (opPort 0x0308 .I [.fm]) h
    [.u16 target.toNat, .u16 off.toNat, .u8 size.toNat, .u8 0, .u32 data.toNat] fun x s =>
      if s.pciRole x.n ≠ 3 then .fail .badScope s
      else if !proxyOk off size then .fail .badParam s
      else s.proxyCfg x.n (proxyTlp true target off size.toNat (leBytes size.toNat data.toNat)) false)

end Sys2Proof.Machine
end

