-- ==== Sys2Proof/Machine/Ports.lean ====
section
/-!
DEFINITION. Machine/Ports.lean: the commands of chapter 3 on ports: quiesce and release (R72, R468, R469), Slot Control (R77, R89),
resets of a virtual switch and of a DSP's link (R82, R83), power states (R84 to R86), time (R87) and publication (R80).
-/

namespace Sys2Proof.Machine

/-! ### Quiesce (R72, R468, R469) -/

/-- The port has a part in a quiesce: a role, or the Seam link. -/
def State.hasRole (s : State) (p : Nat) : Bool := s.seamMode (stnOf p) || s.role p != 0

/-- Orderly mode signals through a slot: a DSP or a pool port with one. -/
def State.signals (s : State) (p : Nat) : Bool :=
  !s.seamMode (stnOf p) && (s.role p == 2 || s.role p == 3) && s.hasSlot p

/-- The slot's owner has switched it off: a DSP's host by Power Controller Control, a pool port's manager by SLOT_POWER. -/
def State.ownerOff (s : State) (p : Nat) : Bool :=
  if s.role p = 2 then s.flag (F.STN_PORT_HP_STATUS_PCC (stnOf p) (kOf p)) else !s.cmdOn (s.slotOf p)

/-- The rest of a quiesce: the old host sees presence and link go, the link is disabled, the queues flush; an upstream port resets
its virtual switch. PORT_QUIESCED ends it. -/
def State.quiesceNow (s : State) (p : Nat) : State :=
  let st := stnOf p
  let s := s.modPort p fun x => { x with dis := { x.dis with quiesce := true }, quiescing := x.quiescing.map fun q => { q with waiting := false } }
  let shown := s.flag (F.STN_PORT_HP_STATUS_PRESENT st (kOf p))
  let s := if s.pciRole p = 2 && shown then (s.putB (F.STN_PORT_HP_STATUS_PRESENT st (kOf p)) false).orCw p ofSLTCTL slPdc else s
  let up := s.stage p == stACTIVE
  let s := (s.flushStart p 2).goOff p ldDisable lsLink
  if s.pciRole p = 1 && up then s.vsResetOp (s.vsOf p) vrDown else s

/-- Begin the quiesce of a port in a mode, for the kind-A command of a handle and tag. -/
def State.quiesceStart (s : State) (p : Nat) (cred tag : B32) (orderly : Bool) : State :=
  let ord := orderly && s.signals p
  let wait := ord && !s.ownerOff p
  let s := s.modPort p fun x => { x with quiescing := some { cred := cred, tag := tag, orderly := orderly, waiting := wait } }
  if wait then (if s.role p = 2 then s.orCw p ofSLTCTL slAttn else s)
  else s.quiesceNow p

/-- A port that waits for its slot's owner goes on once the slot is off. -/
def State.quiesceGoOn (s : State) (p : Nat) : State :=
  match (s.port p).quiescing with
  | some q => if q.waiting && s.ownerOff p then s.quiesceNow p else s
  | none => s

/-- The output queues of a port are empty. -/
def State.queuesEmpty (s : State) (p : Nat) : Bool :=
  let b := s.bank (stnOf p)
  let qs := if s.seamMode (stnOf p) then [58, 59, 60, 61] else (List.range 6).map (6 * kOf p + ·)
  qs.all fun q => (b.q q).recs.isEmpty

/-- The kind-A command a port's quiesce belongs to: PORT_QUIESCE of that port, or QUIESCE of its station. -/
def quiesceCmd (p : Nat) (q : Quiescing) (a : Async) : Bool :=
  a.cred == q.cred && a.tag == q.tag
    && ((a.opcode == 0x0301 && a.obj == p) || (a.opcode == 0x0204 && a.obj == stnOf p))

/-- A port of a station still has to quiesce for a QUIESCE command. -/
def State.quiesceLeft (s : State) (st : Nat) : Bool := (s.stnPorts st).any fun p => (s.port p).quiescing.isSome

/-- PORT_QUIESCED (R72): stage OFF, queues empty, absent from the old virtual switch. -/
def execPortQuiesced (p : Port) (s : State) : Res :=
  .next (
    match (s.port p).quiescing with
    | none => s
    | some q =>
      let st := stnOf p
      if q.waiting || s.stage p != stOFF || !s.queuesEmpty p || bit (s.get (F.STN_OB_FLUSH_FLUSHING st)) (kOf p) then s
      else
        let s := (s.putB (F.STN_PORT_STATUS_QUIESCED st (kOf p)) true).modPort p fun x => { x with quiescing := none }
        let s := if s.pciRole p = 2 then s.modVs (s.vsOf p) fun w => { w with left := w.left.filter (· != s.devnum p) ++ [s.devnum p] } else s
        let d := [p.val, b2n (!q.orderly), s.vsOf p]
        if s.cmd.asyncs.any fun a => a.ended == none && quiesceCmd p q a && (a.opcode == 0x0301 || !s.quiesceLeft st) then
          s.raiseEnd (quiesceCmd p q) (srcStn st) 0x1036 0 (scPort p) d
        else s.raise (srcStn st) 0x1036 0 (scPort p) d)

/-- QUIESCE_TIMEOUT: the limit of a quiesce has passed. Ports that still wait for their slot's owner are as they were. -/
def execQuiesceTimeout (cred tag : B32) (s : State) : Res :=
  .next (
    let mine (a : Async) : Bool := a.cred == cred && a.tag == tag && (a.opcode == 0x0301 || a.opcode == 0x0204)
    if s.cmd.asyncs.any fun a => mine a && a.ended == none then
      let s := allPorts.foldl (fun s p => match (s.port p).quiescing with
        | some q => if q.cred == cred && q.tag == tag && q.waiting then s.modPort p fun x => { x with quiescing := none } else s
        | none => s) s
      s.endAsync mine .timeout none
    else s)

/-- PORT_QUIESCE. -/
def execPortQuiesce (h : Hdr) (mode : B8) (limit : B32) (s : State) : Res :=
  .next (s.serve (.portQuiesce h mode limit) (opPort 0x0301 .A [.fm]) h [.u8 mode.toNat, .u8 0, .u16 0, .u32 limit.toNat] fun x s =>
    let p := x.n
    if 2 ≤ mode.toNat ∨ limit.toNat = 0 ∨ 60000 < limit.toNat then .fail .badParam s
    else if (s.port p).quiescing.isSome then .fail .busy s
    else
      let s := s.asyncObj p mode.toNat
      if s.quiesced p || !s.hasRole p then
        { st := .accepted, s := s.endAsync (fun a => a.opcode == 0x0301 && a.cred == x.key && a.tag == h.tag) .ok none }
      else { st := .accepted, s := s.quiesceStart p x.key h.tag (mode.toNat == 0) })

/-- QUIESCE: every port of the station; ports without a role are quiesced at once. -/
def execQuiesce (h : Hdr) (mode : B8) (limit : B32) (s : State) : Res :=
  .next (s.serve (.quiesce h mode limit) { code := 0x0204, kind := .A, who := [.fm], forms := [.stn] } h
    [.u8 mode.toNat, .u8 0, .u16 0, .u32 limit.toNat] fun x s =>
      let st := x.n
      if 2 ≤ mode.toNat ∨ limit.toNat = 0 ∨ 60000 < limit.toNat then .fail .badParam s
      else if s.quiesceLeft st then .fail .busy s
      else
        let s := s.asyncObj st mode.toNat
        let ps := (s.stnPorts st).filter fun p => s.hasRole p && !s.quiesced p
        let s := ps.foldl (fun s p => s.quiesceStart p x.key h.tag (mode.toNat == 0)) s
        if ps.isEmpty then
          { st := .accepted, s := s.endAsync (fun a => a.opcode == 0x0204 && a.cred == x.key && a.tag == h.tag) .ok none }
        else { st := .accepted, s := s })

/-- A quiesce ends (R469): the port appears in the virtual switch its committed configuration names, with 0x1037, and trains. -/
def State.unquiesce (s : State) (p : Nat) : State :=
  let st := stnOf p
  let s := s.putB (F.STN_PORT_STATUS_QUIESCED st (kOf p)) false
  let s := s.modPort p fun x => { x with dis := { x.dis with quiesce := false }, quiescing := none }
  let s := if s.hasSlot p then s.hpSync (s.slotOf p) else s
  let s := if s.pciRole p = 2 then s.modVs (s.vsOf p) fun w => { w with left := w.left.filter (· != s.devnum p) } else s
  let s := s.raise (srcStn st) 0x1037 0 (scPort p) [p, s.pciRole p, s.vsOf p, s.devnum p]
  s.kick p

/-- RELEASE: every port of its scope that is still quiesced. -/
def execRelease (h : Hdr) (s : State) : Res :=
  .next (s.serve (.release h) { code := 0x0205, kind := .I, who := [.fm], forms := [.stn, .port] } h [] fun x s =>
    let ps := if x.form == .stn then s.stnPorts x.n else [x.n]
    .ok ((ps.filter s.quiesced).foldl State.unquiesce s))

/-! ### Slot Control (R77, R89 to R91) -/

/-- A host's write of Slot Control of a DSP: kept for reading, and carried out at once; Command Completed follows once, after the
last of the writes that arrive before it (R77; log entry 17). -/
def State.slotCtl (s : State) (p : Nat) (val : Nat) : State :=
  let st := stnOf p
  let k := kOf p
  if s.quiesced p || (s.port p).dis.quiesce then s
  else
    let s := s.setCw p ofSLTCTL ((s.cw p ofSLTCTL / 65536) * 65536 + val % 8192)
    let s := s.modPort p fun x => { x with slotWrite := some (BitVec.ofNat 16 val) }
    let pcc := bit val 10
    let s := (s.setAttn p (bits val 6 2)).putB (F.STN_PORT_HP_STATUS_PCC st k) pcc
    let n := s.slotOf p
    let s :=
      if !s.hasSlot p then s
      else if s.flag (F.STN_PORT_CFG_HP_OWNER st k) || s.role p == 3 then
        let s := s.putB (F.STN_PORT_HP_STATUS_HP_IGNORED st k) true
        if (s.port p).hpRaised then s
        else (s.modPort p fun x => { x with hpRaised := true }).raise (srcStn st) 0x1035 1 (scPort p) [p, val]
      else if pcc then s.commandOff n else s.commandOn n
    s.quiesceGoOn p

/-- COMMAND_COMPLETED (R77). -/
def execCommandCompleted (p : Port) (s : State) : Res :=
  .next (if (s.port p).slotWrite.isSome then
    (s.orCw p ofSLTCTL slCc).modPort p fun x => { x with slotWrite := none } else s)

/-- SLOT_POWER: DENIED while the slot's DSP is its host's to power (R89). -/
def execSlotPower (h : Hdr) (slot on : B8) (s : State) : Res :=
  .next (s.serve (.slotPower h slot on) { code := 0x0A01, kind := .I, who := [.fm], forms := [.dev] } h
    [.u8 slot.toNat, .u8 on.toNat] fun _ s =>
      let n := slot.toNat
      if 16 ≤ n ∨ 2 ≤ on.toNat then .fail .badParam s
      else
        let hostOwns := match s.portOfSlot n with
          | some p => s.pciRole p == 2 && !s.flag (F.STN_PORT_CFG_HP_OWNER (stnOf p) (kOf p))
          | none => false
        if hostOwns then .fail .denied s
        else
          let s := if on.toNat = 1 then s.commandOn n else s.commandOff n
          .ok (match s.portOfSlot n with
            | some p => s.quiesceGoOn p
            | none => s))

/-! ### Resets (R82, R83) -/

/-- VS_RESET: hot reset received on the USP, whose link then trains again, or its link down. -/
def execVsReset (v : VsId) (hot : Bool) (s : State) : Res :=
  .next (match s.usp v with
    | none => s
    | some u => if hot then (s.vsResetOp v vrHot).hotReset u else s.vsResetOp v vrDown)

/-! ### Power states (R84 to R86) -/

/-- PM field codes. -/
def pmL0 : Nat := 0
def pmL23 : Nat := 4

/-- Message codes of PCI Express Base Specification 7.0 (log entry 11). -/
def msgPmeTurnOff : Nat := 0x19
def msgPmeToAck : Nat := 0x1B
def msgPtmRequest : Nat := 0x52
def msgPtmResponse : Nat := 0x53

/-- PME_TURN_OFF: forwarded to every DSP whose link is up. -/
def execPmeTurnOff (v : VsId) (s : State) : Res :=
  .next (
    if (s.usp v).isNone then s
    else
      let ps := (s.dsps v).filter fun p => s.stage p == stACTIVE
      let s := ps.foldl (fun s p => s.emit (.msg p msgPmeTurnOff 0)) s
      s.modVs v fun w => { w with pme := ps, pmeWait := true })

/-- The USP returns its one PME_TO_Ack and enters L2/L3 Ready. -/
def State.pmeDone (s : State) (v : Nat) : State :=
  let s := s.modVs v fun w => { w with pme := [], pmeWait := false }
  match s.usp v with
  | some u => (s.emit (.msg u msgPmeToAck 0)).put (F.STN_PORT_STATUS_PM (stnOf u) (kOf u)) pmL23
  | none => s

/-- A DSP's link enters L2/L3 Ready with the acknowledgement of its handshake (Table 3.6); the last one ends the wait of its upstream port. -/
def State.pmeAcked (s : State) (p : Nat) : State :=
  let v := s.vsOf p
  if (s.vs v).pmeWait && (s.vs v).pme.contains p then
    let s := s.modVs v fun w => { w with pme := w.pme.filter (· != p) }
    let s := s.put (F.STN_PORT_STATUS_PM (stnOf p) (kOf p)) pmL23
    if (s.vs v).pme.isEmpty then s.pmeDone v else s
  else s

/-- PME_TO_ACK: every DSP has acknowledged. -/
def execPmeToAck (v : VsId) (s : State) : Res := .next (if (s.vs v).pmeWait && (s.vs v).pme.isEmpty then s.pmeDone v else s)

/-- PME_TO_TIMEOUT: 5 ms after forwarding, with the DSPs that have not acknowledged. -/
def execPmeToTimeout (v : VsId) (s : State) : Res :=
  .next (
    if (s.vs v).pmeWait then
      let silent := (s.vs v).pme
      let src := match s.usp v with
        | some u => stnOf u
        | none => 0
      (s.pmeDone v).raise (srcStn src) 0x1034 2 (scVs v) (v.val :: silent)
    else s)

/-- L0P_REQUEST: a reduction the partner asks for is accepted with L0P_EN set, in FLIT mode, on a link of ×2 or wider (R85). -/
def execL0pRequest (p : Port) (width : Fin 17) (s : State) : Res :=
  .next (
    let st := stnOf p
    let k := kOf p
    let w := s.get (F.STN_PORT_STATUS_WIDTH st k)
    if s.stage p = stACTIVE && s.pciRole p != 0 && s.flag (F.STN_PORT_CFG_L0P_EN st k) && s.flag (F.STN_PORT_STATUS_FLIT st k)
        && decide (0 < width.val) && decide (width.val < w) then
      (s.put (F.STN_PORT_STATUS_L0P_WIDTH st k) width).modPort p fun x => { x with l0p := true }
    else s)

/-- A port at reduced width requests full width, and has it (R85). -/
def State.l0pFull (s : State) (p : Nat) : State :=
  if (s.port p).l0p then
    let w := s.get (F.STN_PORT_STATUS_WIDTH (stnOf p) (kOf p))
    ((s.put (F.STN_PORT_STATUS_L0P_WIDTH (stnOf p) (kOf p)) w).modPort p fun x => { x with l0p := false }).emit (.l0pFull p w)
  else s

/-- An output queue of the port holds more than 4 cells. -/
def State.queueOver (s : State) (p : Nat) : Bool :=
  (List.range 6).any fun i => decide (4 < ((s.bank (stnOf p)).q (6 * kOf p + i)).occ)

/-- L0P_WIDTH_RESTORE: an output queue exceeds 4 cells. -/
def execL0pWidthRestore (p : Port) (s : State) : Res := .next (if s.queueOver p then s.l0pFull p else s)

/-- Traffic on a link in L1 or one of its substates takes it back to L0 (log entry 11). -/
def State.pmWake (s : State) (p : Nat) : State :=
  let f := F.STN_PORT_STATUS_PM (stnOf p) (kOf p)
  if s.get f = 0 ∨ s.get f = pmL23 then s else s.put f pmL0

/-- ASPM_L1_ENTRY (Table 3.6): sub 0 L1, 1 L1.1, 2 L1.2; PCI-PM L1 when the device below is in D3hot. ASPM Control is Link Control bits
1:0; the substate enables are bits 3:0 of L1 PM Substates Control 1 (log entry 11). L1.1 and L1.2 need the SLOTnn_CLKREQ_N of a slot, which follows the request where it is wired (`clkreq`). -/
def execAspmL1Entry (p : Port) (sub : Fin 3) (pciPm : Bool) (s : State) (clkreq : Bool := false) : Res :=
  .next (
    let st := stnOf p
    let k := kOf p
    let c := s.cw p 0x348
    let subBit := if pciPm then (if sub.val = 1 then 1 else 0) else (if sub.val = 1 then 3 else 2)
    let subOk := sub.val == 0 || (s.hasSlot p && clkreq && s.flag (F.STN_PORT_CFG_L1SS_EN st k) && bit c subBit)
    let l1Ok := pciPm || (s.flag (F.STN_PORT_CFG_ASPM_L1_EN st k) && bit (s.cw p ofLNKCTL) 1)
    if s.pciRole p = 2 && s.stage p == stACTIVE && l1Ok && subOk then s.put (F.STN_PORT_STATUS_PM st k) (1 + sub.val) else s)

/-! ### Time (R87) -/

/-- PTM_EXCHANGE: the offset between the host's PTM time and fabric time is measured. -/
def execPtmExchange (v : VsId) (time : B64) (s : State) : Res :=
  .next (s.modVs v fun w => { w with ptm := some (time - s.clk.fab) })

/-- PTM_REQUEST at a DSP: fabric time corrected by the offset, or the response of a responder with no valid time (2^64 stands for
it in the output). -/
def execPtmRequest (p : Port) (s : State) : Res :=
  .next (
    if s.pciRole p = 2 then
      match (s.vs (s.vsOf p)).ptm with
      | some o => s.emit (.msg p msgPtmResponse (s.clk.fab + o).toNat)
      | none => s.emit (.msg p msgPtmResponse (2 ^ 64))
    else s)

/-! ### Publication (R80) -/

/-- VS_READY: the virtual switch is published; Request Retry Status ends. -/
def execVsReady (v : VsId) (s : State) : Res :=
  .next (
    match s.usp v with
    | none => s
    | some u =>
      let st := stnOf u
      if (s.vs v).published || !s.started st || !s.fabPublished || s.fab.unpub.contains v.val then s
      else
        let s := (s.modVs v fun w => { w with published := true }).putB (F.STN_PORT_STATUS_RRS st (kOf u)) false
        s.raise (srcStn st) 0x1032 0 (scVs v) [v, u, (s.clk.now - s.pow.releasedAt) / msec])

end Sys2Proof.Machine
end

