-- ==== Sys2Proof/Machine/BufCode.lean ====
section
/-!
DEFINITION. Machine/BufCode.lean: the buffer code RS(36,32) over GF(2^8) (R107), its decoder (R108), and a queue's bytes as the bank
stores them (R94, R95).
-/

namespace Sys2Proof.Machine

/-! ### The field -/

/-- Multiplication by α, a root of x^8 + x^4 + x^3 + x^2 + 1. -/
def gfDouble (x : B8) : B8 := if x.getLsbD 7 then (x <<< 1) ^^^ 0x1D#8 else x <<< 1

/-- The product of two field elements. -/
def gfMul (x y : B8) : B8 :=
  [7, 6, 5, 4, 3, 2, 1, 0].foldl (fun a i => if y.getLsbD i then gfDouble a ^^^ x else gfDouble a) 0

/-- α^n. -/
def gfPow : Nat → B8
  | 0 => 1
  | n + 1 => gfDouble (gfPow n)

/-- The inverse of a field element other than 0: its 254th power. -/
def gfInv (x : B8) : B8 := [1, 1, 1, 1, 1, 1, 0].foldl (fun a (b : Nat) => let q := gfMul a a; if b = 1 then gfMul q x else q) x

/-! ### The code -/

/-- A polynomial, highest power first, times x + a. -/
def polyRoot (p : List B8) (a : B8) : List B8 := List.zipWith (· ^^^ ·) (p ++ [0]) (0 :: p.map (gfMul a))

/-- g(x) = (x + α^0)(x + α^1)(x + α^2)(x + α^3). -/
def rsGen : List B8 := [0, 1, 2, 3].foldl (fun p j => polyRoot p (gfPow j)) [1]

/-- One step of the division by g(x): the remainder r takes in the next coefficient. -/
def rsStep (r : List B8) (d : B8) : List B8 :=
  let f := d ^^^ r.headD 0
  List.zipWith (· ^^^ ·) (r.drop 1 ++ [0]) ((rsGen.drop 1).map (gfMul f))

/-- The check bytes of one codeword: the remainder of its data polynomial times x^4, divided by g(x). -/
def rsCheck (data : List B8) : List B8 := data.foldl rsStep [0, 0, 0, 0]

/-- Bytes 4n + i of a line: those of codeword i. -/
def lane4 (i n : Nat) (b : Bytes) : List B8 := (List.range n).map fun k => b.getD (4 * k + i) 0

/-- The 144 bytes in which a line of 128 data bytes is stored: the data, then the check bytes of codeword i at 4n + i. -/
def storedLine (data : Bytes) : Bytes :=
  let c := [0, 1, 2, 3].map fun i => rsCheck (lane4 i 32 data)
  (List.range 128).map (fun n => data.getD n 0) ++ (List.range 16).map fun n => (c.getD (n % 4) []).getD (n / 4) 0

/-- The syndrome at α^j of a word of 36 coefficients, highest power first. -/
def rsSyn (w : List B8) (j : Nat) : B8 := w.foldl (fun a c => gfMul a (gfPow j) ^^^ c) 0

/-- A word is a codeword: c(x) vanishes at the roots of g(x). -/
def rsIsCode (w : List B8) : Bool := [0, 1, 2, 3].all fun j => rsSyn w j == 0

/-- The word with byte n changed by e. -/
def flipAt (w : List B8) (n : Nat) (e : B8) : List B8 := w.set n (w.getD n 0 ^^^ e)

/-- The byte and the change that correct one wrong byte. -/
def rsOne (s0 s1 s2 s3 : B8) : Option (Nat × B8) :=
  ((List.range 36).find? fun n =>
    let x := gfPow (35 - n)
    s0 != 0 && gfMul s0 x == s1 && gfMul s1 x == s2 && gfMul s2 x == s3).map fun n => (n, s0)

/-- The two bytes that correct two wrong ones: x and y locate them when S2 = (x + y) S1 + xy S0 and S3 = (x + y) S2 + xy S1. -/
def rsTwo (s0 s1 s2 s3 : B8) : Option ((Nat × B8) × (Nat × B8)) :=
  (((List.range 36).flatMap fun n => (List.range n).map fun m => (m, n)).find? fun (mn : Nat × Nat) =>
    let x := gfPow (35 - mn.1)
    let y := gfPow (35 - mn.2)
    gfMul (x ^^^ y) s1 ^^^ gfMul (gfMul x y) s0 == s2 && gfMul (x ^^^ y) s2 ^^^ gfMul (gfMul x y) s1 == s3).map fun mn =>
      let x := gfPow (35 - mn.1)
      let y := gfPow (35 - mn.2)
      let e := gfMul (s1 ^^^ gfMul s0 x) (gfInv (x ^^^ y))
      ((mn.1, s0 ^^^ e), (mn.2, e))

/-- R108: the codeword within two bytes of the word read, none when there is none and the decoder flags it uncorrectable. -/
def rsDecode (w : List B8) : Option (List B8) :=
  let s0 := rsSyn w 0
  let s1 := rsSyn w 1
  let s2 := rsSyn w 2
  let s3 := rsSyn w 3
  if s0 == 0 && s1 == 0 && s2 == 0 && s3 == 0 then some w
  else match rsOne s0 s1 s2 s3 with
    | some (n, e) => some (flipAt w n e)
    | none => (rsTwo s0 s1 s2 s3).map fun x => flipAt (flipAt w x.1.1 x.1.2) x.2.1 x.2.2

/-! ### A line as it is read -/

/-- What the decoder makes of one line (Table 4.4): codewords it corrects, codewords it flags uncorrectable, both as masks, and the data
bytes that are wrong in the line as it is delivered. -/
structure LineRead where
  corrected : Nat
  bad : Nat
  wrong : List Nat
  deriving DecidableEq, Repr

/-- The error pattern of a stored line. -/
def flipBytes (fs : List (Fin 144 × B8)) : Bytes :=
  fs.foldl (fun w f => flipAt w f.1.val f.2) (List.replicate 144 0)

/-- The decoder on a damaged line. The code is linear, so what it makes of a codeword is what it makes of the error pattern alone: a
pattern it takes for another codeword stays as an error of the bytes delivered. -/
def lineRead (fs : List (Fin 144 × B8)) : LineRead :=
  let e := flipBytes fs
  let ws := [0, 1, 2, 3].map fun i => (i, lane4 i 36 e, rsDecode (lane4 i 36 e))
  let mask (p : List B8 × Option (List B8) → Bool) : Nat := (ws.filter fun w => p w.2).foldl (fun n w => n + 2 ^ w.1) 0
  { corrected := mask fun x => x.2.isSome && x.2 != some x.1
    bad := mask fun x => x.2.isNone
    wrong := ws.flatMap fun w => ((List.range 32).filter fun n => ((w.2.2.getD []).getD n 0) != 0).map fun n => 4 * n + w.1 }

/-- Codewords in a mask. -/
def maskCount (m : Nat) : Nat := b2n (bit m 0) + b2n (bit m 1) + b2n (bit m 2) + b2n (bit m 3)

/-! ### The bytes of a queue -/

/-- A record as its queue holds it: unused bytes, the record head, the TLP's bytes and those up to the 4-byte boundary (R95). -/
def Rec.stored (r : Rec) : Bytes :=
  List.replicate r.gap 0 ++ slice (leBytes 8 r.head ++ tlpBytes r.tlp) 0 (recSize r - r.gap)

/-- Line l of a queue, counted from the first line of its first cell, as the bank stores it. -/
def Queue.storedLine (q : Queue) (l : Nat) : Bytes :=
  Sys2Proof.Machine.storedLine (slice (List.replicate q.headOff 0 ++ q.recs.flatMap Rec.stored) (128 * l) 128)

end Sys2Proof.Machine
end

