-- ==== Sys2Proof/Machine/Flit.lean ====
section
/-!
DEFINITION. Machine/Flit.lean: the bytes of a Seam flit (R240 to R244, Table 9.12): header, carriage word, training block, bypass slots,
trailer, flit CRC and FEC; the lanes and symbols they travel on; and what a receiver makes of a damaged flit (R241).
-/

namespace Sys2Proof.Machine

/-! ### Big-endian fields -/

/-- A natural as n big-endian bytes. -/
def beBytes (n v : Nat) : Bytes := (leBytes n v).reverse

/-- Fields given as (width, value), the most significant first, as one number. -/
def packBE (fs : List (Nat × Nat)) : Nat := fs.foldl (fun n f => n * 2 ^ f.1 + f.2 % 2 ^ f.1) 0

/-! ### Flit CRC and FEC (R241) -/

/-- One bit of the ECMA-182 CRC, most significant bit first. -/
def crc64Bit (c : B64) : B64 := if c.getLsbD 63 then (c <<< 1) ^^^ 0x42F0E1EBA9EA3693#64 else c <<< 1

/-- One byte. -/
def crc64Byte (c : B64) (b : B8) : B64 := (List.range 8).foldl (fun c _ => crc64Bit c) (c ^^^ (b.setWidth 64 <<< 56))

/-- The flit CRC of bytes 0 to 241: it starts from all ones and is inverted at the end. -/
def flitCrc (bs : Bytes) : B64 := ~~~ (bs.foldl crc64Byte (~~~ 0#64))

/-- The places of FEC codeword i in a flit: bytes 3n + i up to 249, then its two check bytes. -/
def fecPlaces (i : Nat) : List Nat :=
  ((List.range 84).map fun n => 3 * n + i).filter (fun b => decide (b ≤ 249)) ++ [250 + 2 * i, 251 + 2 * i]

/-- The syndrome at α^j of bytes taken from the highest power down. -/
def fecSyn (w : List B8) (j : Nat) : B8 := w.foldl (fun a c => gfMul a (gfPow j) ^^^ c) 0

/-- The check bytes of a codeword: the remainder of its data polynomial times x^2, divided by (x + 1)(x + α). -/
def fecCheck (data : List B8) : List B8 :=
  data.foldl (fun r d =>
    let f := d ^^^ r.headD 0
    [r.getD 1 0 ^^^ gfMul f 3, gfMul f 2]) [0, 0]

/-- A flit from its first 242 bytes: the CRC follows, then the check bytes of the three codewords. -/
def sealFlit (body : Bytes) : Bytes :=
  let b := body ++ beBytes 8 (flitCrc body).toNat
  b ++ [0, 1, 2].flatMap fun i => fecCheck ((fecPlaces i).dropLast.dropLast.map fun n => b.getD n 0)

/-- The correction of a codeword's error pattern: the byte and the change that bring both syndromes to 0. -/
def fecFix (w : List B8) : Option (Nat × B8) :=
  let s0 := fecSyn w 0
  let s1 := fecSyn w 1
  if s0 == 0 then none
  else ((List.range w.length).find? fun k => gfMul s0 (gfPow (w.length - 1 - k)) == s1).map fun k => (k, s0)

/-- What the receiver makes of a flit: the bytes it corrects, and whether the flit passes. -/
structure FlitRead where
  fixed : List Nat
  ok : Bool
  deriving DecidableEq, Repr

/-- The error pattern of a flit. -/
def flitErr (fs : List (Fin 256 × B8)) : Bytes := fs.foldl (fun w f => flipAt w f.1.val f.2) (List.replicate 256 0)

/-- R241 on a flit damaged by these errors. Both codes are linear, so what the receiver makes of the flit follows from the errors alone: the
flit passes when the errors left after correction are themselves a word of the CRC. -/
def flitRead (fs : List (Fin 256 × B8)) : FlitRead :=
  if fs.isEmpty then { fixed := [], ok := true }
  else
    let e := flitErr fs
    let fix := [0, 1, 2].filterMap fun i =>
      (fecFix ((fecPlaces i).map fun n => e.getD n 0)).map fun x => ((fecPlaces i).getD x.1 0, x.2)
    let left := fix.foldl (fun w x => flipAt w x.1 x.2) e
    { fixed := fix.map Prod.fst
      ok := ((left.take 242).foldl crc64Byte 0).toNat == beNat ((left.drop 242).take 8) }

/-! ### The parts of a flit -/

/-- The header (Table 9.3): FTYPE, SEQ, ACK, NAK, CR_CLASS, CR_COUNT, BACK, XOFF, ONOFF. -/
def hdrBytes (ftype : Nat) (h : FlitHdr) : Bytes :=
  beBytes 8 (packBE [(2, ftype), (12, h.seq), (12, h.ack), (1, b2n h.nak), (2, h.crClass), (16, h.crCount), (8, h.back), (4, h.xoff),
    (1, b2n h.onoff), (6, 0)])

/-- FTYPE and the header that eight bytes spell; `flips` are the errors the flit arrived with. -/
def hdrOf (bs : Bytes) (flips : List (Fin 256 × B8)) : Nat × FlitHdr :=
  let v := beNat (slice bs 0 8)
  (bits v 62 2, { seq := Fin.ofNat 4096 (bits v 50 12), ack := Fin.ofNat 4096 (bits v 38 12), nak := bit v 37,
                  crClass := Fin.ofNat 4 (bits v 35 2), crCount := Fin.ofNat 65536 (bits v 19 16), back := Fin.ofNat 256 (bits v 11 8),
                  xoff := Fin.ofNat 16 (bits v 7 4), onoff := bit v 6, flips := flips })

/-- The trailer (Table 9.4). -/
def trailerBytes (plen mark : Nat) : Bytes := beBytes 4 (packBE [(8, plen), (12, mark), (12, 0)])

/-- A carriage word (Table 9.5). -/
def carBytes (c : Carriage) : Bytes :=
  beBytes 4 c.btag.toNat ++ [c.ingNode, c.ingPort, c.destNode, c.destPort]
    ++ beBytes 2 (packBE [(2, c.cls), (1, c.vc), (1, b2n c.pass), (1, b2n c.resv), (11, c.rlen)]) ++ beBytes 2 c.route.toNat

/-- The carriage word that twelve bytes spell. -/
def carOf (bs : Bytes) : Carriage :=
  let v := beNat (slice bs 8 2)
  { btag := BitVec.ofNat 32 (beNat (slice bs 0 4)), ingNode := bs.getD 4 0, ingPort := bs.getD 5 0, destNode := bs.getD 6 0,
    destPort := bs.getD 7 0, cls := Fin.ofNat 4 (bits v 14 2), vc := Fin.ofNat 2 (bits v 13 1), pass := bit v 12, resv := bit v 11,
    rlen := bits v 0 11, route := BitVec.ofNat 16 (beNat (slice bs 10 2)) }

/-- The training block (Table 9.12), bytes 8 to 39 of a TRAIN flit. -/
def trainBytes (b : TrainBlk) : Bytes :=
  beBytes 1 b.tstep ++ beBytes 1 (packBE [(1, b2n b.fcMode), (1, b2n b.spareFit), (1, b2n b.allow128), (1, b2n b.seen)]) ++ [b.node, b.port]
    ++ beBytes 4 b.fabricId.toNat ++ beBytes 2 b.units ++ beBytes 2 b.headroom
    ++ [0, 1, 2, 3].flatMap (fun c => beBytes 2 (b.res.getD c 0)) ++ beBytes 4 b.stamp ++ beBytes 4 b.echo ++ beBytes 4 b.hold

/-- The training block that the payload of a TRAIN flit spells. -/
def trainOf (bs : Bytes) : TrainBlk :=
  let f := (bs.getD 1 0).toNat
  { tstep := Fin.ofNat 4 (bs.getD 0 0).toNat, seen := bit f 0, allow128 := bit f 1, spareFit := bit f 2, fcMode := bit f 3,
    node := bs.getD 2 0, port := bs.getD 3 0, fabricId := BitVec.ofNat 32 (beNat (slice bs 4 4)), units := beNat (slice bs 8 2),
    headroom := beNat (slice bs 10 2), res := [0, 1, 2, 3].map fun c => beNat (slice bs (12 + 2 * c) 2),
    stamp := beNat (slice bs 20 4), echo := beNat (slice bs 24 4), hold := beNat (slice bs 28 4) }

/-- A slot of a BYPASS flit (R264): BSEQ, MTYPE and 14 parameter bytes, whose places Table 9.9 does not give. -/
def bypassSlot (bseq mtype : Nat) (params : List Nat) : Bytes :=
  beBytes 1 bseq ++ beBytes 1 mtype ++ slice (Config.bypassParams mtype params) 0 14

/-- A flit of a type: header, payload up to 228 bytes, trailer, two reserved bytes, CRC and check bytes (Table 9.2). -/
def flitBytes (ftype : Nat) (h : FlitHdr) (payload : Bytes) (plen mark : Nat) : Bytes :=
  sealFlit (hdrBytes ftype h ++ slice payload 0 228 ++ trailerBytes plen mark ++ [0, 0])

/-- A DATA flit, whose PLEN counts its payload. -/
def dataFlitBytes (h : FlitHdr) (payload : Bytes) (mark : Nat) : Bytes := flitBytes 0 h payload payload.length mark

/-- An IDLE flit. -/
def idleFlitBytes (h : FlitHdr) : Bytes := flitBytes 1 h [] 0 0

/-- A BYPASS flit: up to 14 messages, PLEN 16 times their number. -/
def bypassFlitBytes (h : FlitHdr) (slots : List Bytes) : Bytes := flitBytes 2 h (slots.take 14).flatten (16 * min 14 slots.length) 0

/-- The header of a TRAIN flit: every field but FTYPE is 0. -/
def trainHdr : FlitHdr := { seq := 0, ack := 0, nak := false, crClass := 0, crCount := 0, back := 0, xoff := 0, onoff := false, flips := [] }

/-- A TRAIN flit. -/
def trainFlitBytes (b : TrainBlk) : Bytes := flitBytes 3 trainHdr (trainBytes b) 0 0

/-- The record stream of a record (R244): its carriage word, then RLEN bytes. -/
def recStream (c : Carriage) (t : Tlp) : Bytes := carBytes c ++ slice (tlpBytes t) 0 c.rlen

/-! ### Lanes (R240, R269) -/

/-- The logical lane on which byte b of a flit travels. -/
def flitLane (b : Nat) : Nat := b % 16

/-- A byte's bits, the most significant first. -/
def msbBits (b : B8) : List Bool := [7, 6, 5, 4, 3, 2, 1, 0].map b.getLsbD

/-- The PAM4 symbols in which a flit travels on logical lane l. -/
def laneOfFlit (flit : Bytes) (l : Nat) : List Nat := pam4 ((List.range 16).flatMap fun n => msbBits (flit.getD (16 * n + l) 0))

/-- The 64-UI block that a lane repeats in PATTERN and LOCK: 56 UI of PRBS13Q (112 bits of the pattern from the state `past`), then the
8-UI marker 0xA5 and the lane number. -/
def laneBlock (past : List Bool) (lane : Nat) : List Nat :=
  pam4 (prbsBits 4 112 past ++ msbBits 0xA5 ++ msbBits (BitVec.ofNat 8 lane))

end Sys2Proof.Machine
end

