-- ==== Sys2Proof/Machine/SeamTx.lean ====
section
/-!
DEFINITION. Machine/SeamTx.lean: the sender of a Seam link: credit (R257), permission (R246, R260), records cut into flits that the replay
store keeps (R243, R244, R249), abandoned records (R247).
-/

namespace Sys2Proof.Machine

/-! ### Credit -/

def State.seamCons (s : State) (st c : Nat) : Nat := SMap.get (fun _ => 0) (s.seam st).cons c

/-- OUT[c]: the 16-bit difference of CONS and FREED as a signed number. -/
def State.seamOut (s : State) (st c : Nat) : Int :=
  let d := (s.seamCons st c + 65536 - SMap.get (fun _ => 0) (s.seam st).freed c) % 65536
  if 32768 ≤ d then (d : Int) - 65536 else d

/-- may_send of R257: u units of class c against the partner's reservations and shared pool. -/
def State.maySend (s : State) (st c u : Nat) : Bool :=
  let x := s.seam st
  let res (d : Nat) : Int := (x.pRes.getD d 0 : Nat)
  let excess (v : Int) : Int := if 0 < v then v else 0
  let used := [0, 1, 2, 3].foldl (fun n d => n + excess (s.seamOut st d - res d)) 0
  let extra := excess (s.seamOut st c + u - res c) - excess (s.seamOut st c - res c)
  decide (extra ≤ (x.pShared : Int) - used)

/-- Flow-control permission of class c: XOFF clear in on/off mode, else credit. -/
def State.seamPerm (s : State) (st c u : Nat) : Bool :=
  if (s.seam st).pOnoff then !bit (s.get (F.STN_SEAM_STATUS_XOFF_SEEN st)) c else s.maySend st c u

/-! ### Records -/

/-- Units and flits of a record. -/
def seamUnits (rlen : Nat) : Nat := (12 + rlen + 15) / 16
def seamFlits (rlen : Nat) : Nat := (12 + rlen + 227) / 228

/-- A record as a Seam link carries it: in the FLIT-mode header format, converted by the egress station (R95, R244), its tag following the
change (log entry 39). -/
def Rec.onSeam (r : Rec) : Rec :=
  let t := flitForm r.tlp
  if r.hfmt then { r with tlp := t, btag := retag r.btag r.tlp t, rlen := t.len, hfmt := false } else r

/-- The posted-count test of R104 for a record of queue q. -/
def State.countTest (s : State) (bank q : Nat) (r : Rec) : Bool :=
  isPosted q || r.pass || decide (((s.bank bank).sentCnt q + 2 ^ 18 - r.pcnt) % 2 ^ 18 < 2 ^ 17)

/-- The head of class c's queue, where it may start: class 3 and 0 wait for no other class, one record is sent at a time, and its flits
stay within the 1,536 that may be outstanding (R238, R246, R249). -/
def State.seamHead (s : State) (st c : Nat) : Option Rec :=
  let x := s.seam st
  match ((s.bank st).q (58 + c)).recs.head? with
  | none => none
  | some r =>
    if s.seamMode st && s.stage (9 * st) == stACTIVE && x.replayFrom.isNone && x.txOpen.isNone
        && decide (x.store.length + seamFlits r.onSeam.rlen ≤ 1536)
        && (c == 0 || c == 3 || s.countTest st (58 + c) r) && s.seamPerm st c (seamUnits r.onSeam.rlen) then some r else none

/-- The class whose turn it is: round-robin over the heads that may leave. -/
def State.seamTurn (s : State) (st : Nat) : Option Nat :=
  (([1, 2, 3, 4].map fun i => ((s.seam st).rr + i) % 4).find? fun c => (s.seamHead st c).isSome)

/-- Take the head off a queue: its cells return and a posted one advances P_SENT. -/
def State.popRec (s : State) (bank q : Nat) : State :=
  let o := (s.bank bank).q q
  match o.pop with
  | none => s
  | some (_, rest) => (s.modBank bank fun b => (b.setQ q rest).addSent q 1).freeCells bank (o.cells.take (o.occ - rest.occ))

/-- CONS by class as a list. -/
def State.consList (s : State) (st : Nat) : List Nat := [0, 1, 2, 3].map (s.seamCons st)

/-- The header of the next flit (R242, R249 to R251, R258, R260): current values of every field, the classes' counts in turn. -/
def State.nextHdr (s : State) (st seq : Nat) : FlitHdr :=
  let x := s.seam st
  { seq := Fin.ofNat 4096 seq
    ack := Fin.ofNat 4096 (s.get (F.STN_SEAM_RXSEQ_EXPECTED st) + 4095)
    nak := false
    crClass := Fin.ofNat 4 x.crTurn
    crCount := Fin.ofNat 65536 (SMap.get (fun _ => 0) x.rxFreed (x.crTurn % 4))
    back := Fin.ofNat 256 (s.get (F.STN_SEAM_RXSEQ_BEXP st) + 255)
    xoff := Fin.ofNat 16 (s.get (F.STN_SEAM_STATUS_XOFF_SENT st))
    onoff := decide (2 ≤ s.get (F.STN_SEAM_STATUS_FC st))
    flips := [] }

/-- One DATA flit goes out with current values in its header (R252). -/
def State.flitOut (s : State) (st : Nat) (f : SentFlit) : State :=
  (s.emit (.flit st (dataFlitBytes (s.nextHdr st f.seq) f.payload (b2n f.mark)))).modSeam st fun x => { x with crTurn := (x.crTurn + 1) % 4 }

/-- DATA flits with these payloads go out under the next sequence numbers and enter the replay store; the last of them ends record r, with
its MARK bit. -/
def State.pushFlits (s : State) (st cls units : Nat) (r : Option Rec) (mark : Bool) : List Bytes → State
  | [] => s
  | b :: bs =>
    let next := s.get (F.STN_SEAM_TXSEQ_NEXT_SEQ st)
    let f : SentFlit := { seq := next, cls := cls, units := units, r := if bs.isEmpty then r else none, cons := s.consList st, payload := b,
                          mark := mark && bs.isEmpty }
    let s := (s.modSeam st fun x => { x with store := x.store ++ [f] }).put (F.STN_SEAM_TXSEQ_NEXT_SEQ st) ((next + 1) % 4096)
    let s := (s.putB (F.STN_SEAM_STATUS_STALLED st) (decide (1536 ≤ (s.seam st).store.length))).flitOut st f
    s.pushFlits st cls 0 r mark bs

/-- The payloads of n bytes or fewer flits' worth of stream: 228 bytes each. -/
def chunks : Nat → Bytes → List Bytes
  | 0, _ => []
  | n + 1, b => if b.isEmpty then [] else b.take 228 :: chunks n (b.drop 228)

/-- Payloads that are closed short, at the doublewords given. -/
def shortChunks : List (Fin 57) → Bytes → List Bytes
  | [], _ => []
  | w :: ws, b => b.take (4 * w.val) :: shortChunks ws (b.drop (4 * w.val))

/-- The units of a record are taken at its start. -/
def State.takeUnits (s : State) (st c u : Nat) : State :=
  s.modSeam st fun x => { x with cons := SMap.set (fun _ => 0) x.cons c ((SMap.get (fun _ => 0) x.cons c + u) % 65536), rr := c }

/-- The carriage word of a record as this egress sends it (Table 9.5, R283). -/
def State.carriage (s : State) (st c : Nat) (r : Rec) : Carriage :=
  let down := bit (s.get F.FAB_SEAM_DIR_DOWN) st
  { btag := r.btag, ingNode := BitVec.ofNat 8 r.node, ingPort := BitVec.ofNat 8 r.ing, destNode := BitVec.ofNat 8 r.destNode,
    destPort := BitVec.ofNat 8 r.destPort, cls := Fin.ofNat 4 c, vc := Fin.ofNat 2 r.vc, pass := r.pass, resv := false, rlen := r.rlen,
    route := BitVec.ofNat 16 (setBit r.route.toNat 13 (down || bit r.route.toNat 13)) }

/-- A record's end goes out: the last `left` bytes of its stream, after the payloads closed short; its MARK bit is set when the screen
failed. -/
def State.seamSend (s : State) (st c : Nat) (r : Rec) (units left : Nat) (cuts : List (Fin 57)) (mark : Bool) : State :=
  let car := s.carriage st c r
  let b := (recStream car r.tlp).drop (12 + r.rlen - left)
  let pre := shortChunks cuts b
  let s := s.pushFlits st c units (some r) mark (pre ++ chunks 12 (b.drop pre.flatten.length))
  let s := (s.count st 0x03 0 c r.vc 1).count st 0x04 0 c r.vc r.tlp.len
  let s := if mark then (s.bump (F.STN_SEAM_CNT_MARK_MARKED_TX st)).bump (F.STN_BASTE_SCREEN_EGR st)
      |>.raiseLim ms100 (2 * st) (srcStn st) 0x2602 3 (scPort (9 * st)) 0 [9 * st, 1] else s
  s.emit (.seamData st car r.tlp mark)

/-- A record whose bytes are all in the bank leaves. -/
def State.seamLeave (s : State) (st c : Nat) (r : Rec) (units left : Nat) (cuts : List (Fin 57)) (mark : Bool) : State :=
  (s.seamSend st c r units left cuts mark).popRec st (58 + c)

/-- The record that has started is in the bank whole: the rest of its flits leave. -/
def State.seamFinish (s : State) (st : Nat) : State :=
  match (s.seam st).txOpen with
  | none => s
  | some t => match ((s.bank st).q (58 + t.cls)).recs.head? with
    | none => s
    | some r =>
      if !r.committed then s
      else (s.modSeam st fun x => { x with txOpen := none }).seamLeave st t.cls r.onSeam 0 t.left [] r.marked

/-- The record that has started is abandoned: its remaining bytes are zeros, and it is marked. Causes, numbered by the model: 1 no bytes
for 2 µs, 2 rolled back (log entry 12). -/
def State.seamAbandon (s : State) (st cause : Nat) : State :=
  match (s.seam st).txOpen with
  | none => s
  | some t =>
    let whole := ((((s.bank st).q (58 + t.cls)).recs.head?).map Rec.committed).getD false
    if whole then s
    else
      let s := (s.modSeam st fun x => { x with txOpen := none }).pushFlits st t.cls 0 none true (chunks 12 (List.replicate t.left 0))
      (s.bump (F.STN_SEAM_CNT_MARK_MARKED_TX st)).raiseLim ms100 st (srcStn st) 0x5040 1 (scPort (9 * st)) 0 [cause, t.cls]

/-- SEAM_RECORD_ABANDONED. -/
def execSeamRecordAbandoned (st : Stn) (s : State) : Res := .next (s.seamAbandon st 1)

/-! ### Seals (R288, R289) -/

/-- The body of a seal: 12 bytes of its class. -/
def sealTlp (c : Nat) : Tlp :=
  let k : TlpKind := if c = 0 then .msg else if c = 1 then .mrd else .cpl
  let t : Tlp := { (default : Tlp) with kind := k, len := 12, flitFmt := true }
  { t with hdr := Config.hdrBytes t }

/-- Send the seal of a round in one class on one Seam link, behind the records of its class, as soon as its queue admits it (R100). -/
def State.sendSeal (s : State) (st round c : Nat) : State :=
  let t := sealTlp c
  let r : Rec := { tlp := t, btag := crc32c (tlpBytes t), rlen := 12, hfmt := false, pass := false, ing := 0xFE, vs := 0, node := s.nodeId,
                   rid0 := 0, cls := c, vc := 0, destNode := s.get (F.STN_SEAM_PARTNER_NODE st), destPort := 0xFA,
                   route := BitVec.ofNat 16 round, committed := true }
  if s.admits st (58 + c) 12 == .yes then s.enqueue st (58 + c) r
  else s.modSeam st fun x => { x with sealWait := x.sealWait ++ [(round, c)] }

/-- Seals of a Seam link that its queues refused are presented again. -/
def State.retrySeals (s : State) (st : Nat) : State :=
  let w := (s.seam st).sealWait
  if w.isEmpty then s
  else w.foldl (fun s x => s.sendSeal st x.1 x.2) (s.modSeam st fun x => { x with sealWait := [] })

end Sys2Proof.Machine
end

