-- ==== Sys2Proof/Machine/BufRead.lean ====
section
/-!
DEFINITION. Machine/BufRead.lean: what a read of a record meets in the bank (R108 to R110): lines corrected, lines lost with the records
they hold, link entries corrected, and chains that end at a cell whose link entry is lost.
-/

namespace Sys2Proof.Machine

/-! ### Link entries (R109) -/

def State.chainAt (s : State) (st q : Nat) (ing : Option Nat) : Queue :=
  match ing with
  | none => (s.bank st).q q
  | some i => (s.bank st).chain q i

/-- A link entry is corrected: counted, 0x2203. -/
def State.linkFixed (s : State) (st : Nat) (c : Cell) : State :=
  (s.bump (F.STN_OB_LINK_ERR_LINK_CORR st)).raise 0x04 0x2203 1 (scStn st) [st, c.ix]

/-- Drop the last n arrivals of a chain. -/
def dropArrival (a : Nat × Nat) : List (Nat × Nat) → List (Nat × Nat)
  | [] => []
  | x :: xs => if x = a then xs else x :: dropArrival a xs

def lastArrivals (a : Nat × Nat) (n : Nat) (l : List (Nat × Nat)) : List (Nat × Nat) :=
  ((List.range n).foldl (fun r _ => dropArrival a r) l.reverse).reverse

/-- RES_OCC follows the store. -/
def State.resCount (s : State) (bank : Nat) : State :=
  let n := (s.bank bank).resOcc
  let s := s.put (F.STN_OB_RES_STAT_RES_OCC bank) n
  if s.get (F.STN_OB_RES_STAT_RES_HWM bank) < n then s.put (F.STN_OB_RES_STAT_RES_HWM bank) n else s

/-- How many records of a chain end within its first n + 1 cells. -/
def Queue.within (o : Queue) (n : Nat) : Nat := ((spans o.headOff o.recs).takeWhile fun y => decide (y.2 ≤ 256 * (n + 1))).length

/-- What a chain is after it ends at its n-th cell: the records that end within it stay; with none the cells are free. -/
def Queue.endAt (o : Queue) (n : Nat) : Queue :=
  if o.within n = 0 then {}
  else { recs := o.recs.take (o.within n), headOff := o.headOff, cells := o.cells.take (n + 1), cut := true }

/-- A chain ends at its n-th cell (R109): the record that runs past it and every later one are discarded, and the cells after it are left
to the sieve audit. `own` leaves the report of the head to the egress that reads it. -/
def State.cutAt (s : State) (st q : Nat) (ing : Option Nat) (n : Nat) (own : Bool) : State :=
  let o := s.chainAt st q ing
  match o.cells[n]? with
  | none => s
  | some c =>
    let keep := o.within n
    let gone := o.recs.drop keep
    let lost := (o.cells.drop (n + 1)).map fun e => ({ ix := e.ix, epoch := e.epoch, unmarked := false } : LostCell)
    let f (b : Bank) : Bank :=
      let b := match ing with
        | none => (b.setQ q (o.endAt n)).addSent q gone.length
        | some i => { b.setChain q i (o.endAt n) with arrivals := lastArrivals (q, i) gone.length b.arrivals }
      { b with lost := b.lost ++ lost, lastDrop := some s.clk.now }
    let s := (s.modBank st f).freeCells st (if keep = 0 then o.cells.take (n + 1) else [])
    let s := if ing.isSome then s.resCount st else s
    let s := (if own && keep == 0 then gone.drop 1 else gone).foldl (fun s r => s.integrityDiscard r st q 2) s
    let s := (gone.filter fun r => !r.committed).foldl (fun s r => s.destGone r.fid st q) s
    (s.bump (F.STN_OB_LINK_ERR_LINK_UNCORR st)).raise 0x04 0x2204 3 (scStn st) [st, c.ix, q, gone.length]

/-! ### Lines (R108, R110) -/

/-- How many records of a queue an uncorrectable line takes: those with a byte in it, and, if it takes a record head, those up to the first
head of the next cell. -/
def lineTakes (sp : List (Nat × Nat)) (l : Nat) : Nat :=
  let lo := 128 * l
  let hi := lo + 128
  let head := sp.any fun x => decide (x.1 < hi ∧ lo < x.1 + 8)
  let hi' := if head then 256 * (l / 2 + 1) else hi
  (sp.takeWhile fun x => decide (x.1 < hi')).length

/-- Discard the first n records of a queue for damage of the buffer; `own` leaves the report of the head to its egress. -/
def State.loseHeads (s : State) (st q : Nat) (own : Bool) : Nat → State
  | 0 => s
  | n + 1 =>
    match ((s.bank st).q q).recs.head? with
    | none => s
    | some r =>
      let s := (if own then s else s.integrityDiscard r st q 2).popRec st q
      (if r.committed then s else s.destGone r.fid st q).loseHeads st q false n

/-- A line of the head record as it was read: its place in the queue, its cell, and what the decoder made of it. -/
abbrev ReadLine := Nat × Nat × LineRead

/-- A delivered line whose codewords were corrected: ECC_CORR counts them, 0x2201. -/
def State.lineFixed (s : State) (st : Nat) (x : ReadLine) : State :=
  if x.2.2.bad ≠ 0 ∨ x.2.2.corrected = 0 then s
  else (s.bumpN (F.STN_OB_ECC_CORR_CORR st) (maskCount x.2.2.corrected)).raiseLim ms100 st 0x04 0x2201 1 (scStn st) 0
    [st, x.2.1, x.1 % 2, x.2.2.corrected]

/-- The registers and the event of an uncorrectable line that takes n records. -/
def State.lineBad (s : State) (st q : Nat) (x : ReadLine) (n : Nat) : State :=
  let s := ((s.bump (F.STN_OB_ECC_UNCORR_UNCORR st)).put (F.STN_OB_ECC_LAST_CELL st) x.2.1).put (F.STN_OB_ECC_LAST_LINE st) (x.1 % 2)
  (s.put (F.STN_OB_ECC_LAST_CW_MASK st) x.2.2.bad).raise 0x04 0x2202 3 (scStn st) [st, x.2.1, x.1 % 2, x.2.2.bad, q, n]

/-- The uncorrectable lines of a read: each takes the records that no earlier one has taken. -/
def State.linesBad (s : State) (st q : Nat) (xs : List ReadLine) : State :=
  let o := (s.bank st).q q
  let y := xs.foldl (fun (y : State × Nat) x =>
    let n := lineTakes (spans o.headOff o.recs) x.1
    (y.1.lineBad st q x (n - y.2), max n y.2)) (s, 0)
  y.1.loseHeads st q true y.2

/-- Records with one of these bytes of their queue no longer fit their tags (Table 4.4). -/
def State.spoilRecs (s : State) (st q : Nat) (bytes : List Nat) : State :=
  s.modBank st fun b =>
    let o := b.q q
    let f (x : Rec × (Nat × Nat)) : Rec := if bytes.any fun n => decide (x.2.1 ≤ n ∧ n < x.2.2) then x.1.spoil else x.1
    b.setQ q { o with recs := (o.recs.zip (spans o.headOff o.recs)).map f }

/-! ### The read of a queue head -/

/-- What the read of a head found: its record is lost, and then by the line that holds its record head, or not, and how many bytes of its
TLP come before the loss. -/
structure HeadRead where
  lost : Bool
  early : Bool
  good : Nat
  deriving DecidableEq, Repr

/-- The damaged lines of the record at bytes a to b, those in cells after the n-th left out. -/
def readLines (o : Queue) (a b n : Nat) (hs : List LineHit) : List ReadLine :=
  (hs.filter fun h => decide (128 * (a / 128 + h.line) < b ∧ (a / 128 + h.line) / 2 ≤ n)).map fun h =>
    (a / 128 + h.line, ((o.cells[(a / 128 + h.line) / 2]?).map Cell.ix).getD 0, lineRead h.flips)

/-- The head record of queue q is read (R108 to R110): what its lines and link entries meet takes effect. A head that is lost is out of
its queue, and its report is left to the egress. -/
def State.readHead (s : State) (st q : Nat) (phys : ReadPhys) : State × HeadRead :=
  let o := (s.bank st).q q
  match spans o.headOff o.recs with
  | [] => (s, { lost := true, early := true, good := 0 })
  | (a, b) :: _ =>
    let cells := (phys.links.filter fun h => decide (256 * (a / 256 + h.cell) < b)).map fun h => (a / 256 + h.cell, h.double)
    let ends := ((List.range ((b + 255) / 256)).find? fun n => cells.contains (n, true))
    let xs := readLines o a b (ends.getD ((b - 1) / 256)) phys.lines
    let s := (cells.filter fun c => !c.2 && decide (c.1 ≤ ends.getD c.1)).foldl (fun s c => match o.cells[c.1]? with
      | some e => s.linkFixed st e
      | none => s) s
    let s := match ends with
      | some n => s.cutAt st q none n true
      | none => s
    let s := s.spoilRecs st q ((xs.filter fun x => x.2.2.bad == 0).flatMap fun x => x.2.2.wrong.map (128 * x.1 + ·))
    let s := (xs.foldl (fun s x => s.lineFixed st x) s).linesBad st q (xs.filter fun x => x.2.2.bad != 0)
    let dead := xs.any fun x => x.2.2.bad != 0
    (s, { lost := dead || decide (256 * (ends.getD ((b - 1) / 256) + 1) < b)
          early := xs.any fun x => x.2.2.bad != 0 && x.1 == a / 128
          good := (xs.foldl (fun n x => if x.2.2.bad == 0 then n else min n (128 * x.1)) (256 * (ends.getD ((b - 1) / 256) + 1))) - (a + 8) })

/-! ### A TLP whose transmission has begun (R30, R211) -/

/-- A non-FLIT egress ends a TLP with EDB and inverted LCRC: STN_NULLIFIED, 0x2603. -/
def State.nullify (s : State) (st p cause : Nat) (t : Tlp) : State :=
  ((s.bump (F.STN_NULLIFIED_NULLIFIED st)).raiseLim ms100 p (srcStn st) 0x2603 3 (scPort p) 0 [p, cause]).emit (.nullified p t)

/-- Every TLP that a non-FLIT egress of a bank has begun and that will not come whole is nullified. -/
def State.nullifyOpen (s : State) (st : Nat) : State :=
  let hs := allQids.filterMap fun q => (((s.bank st).q q).recs.head?).map fun r => (q, r)
  (hs.filter fun x => x.2.started && !x.2.committed).foldl (fun s x =>
    s.nullify st (if x.1 = 57 then x.2.destPort else qPort st x.1) 0 x.2.tlp) s

end Sys2Proof.Machine
end

