-- ==== Sys2Proof/Machine/Switch.lean ====
section
/-!
DEFINITION. Machine/Switch.lean: the switch core between classification and departure (chapters 4 and 6): entry into the crossbar
(R149, R164, R168, R181), admission and commitment (R99 to R103, R162), residue chains (R163), flushes (R112, R165), the sieve audit
(R113, R114), stalls of quadrants (R115 to R117), trace samplers (R172, R173) and link credit from partners.
-/

namespace Sys2Proof.Machine

/-! ### Paths to another node (R284, R285) -/

/-- The n-th valid path of a route entry. -/
def nthPath (valid : Nat) (n : Nat) : Option Nat := ((List.range 4).filter fun p => bit valid p)[n]?

/-- next_hop of R284: the Seam port of path q toward node n for records with DOWN d. -/
def State.nextHop (s : State) (n d path : Nat) : Option Nat :=
  let ports := s.get (F.FAB_ROUTE_LO_PORTS n d)
  let valid := bits (s.get (F.FAB_ROUTE_HI_ATTR n d)) 0 4
  let c := ((List.range 4).filter fun p => bit valid p).length
  if c = 0 then none else (nthPath valid (path % c)).map fun p => bits ports (8 * p) 8

/-- The pin of a flow: ingress index, VC, destination node. -/
def State.pinOf (s : State) (i v n : Nat) : Nat := bits (s.get (F.FAB_PIN_PINS (3 * (2 * i + v) + n / 16))) (2 * (n % 16)) 2

/-- The ingress index of a flow (R284). -/
def ingIndex (src stn : Nat) : Nat := if src < 144 then src else 144 + stn

/-- A destination on another node that the hold of a route change affects (R287). -/
def State.heldDest (s : State) (d : Dest) : Bool :=
  match s.fab.hold with
  | some (mask, _) => decide (d.r.destNode < 48) && d.r.destNode != s.nodeId && bit mask d.r.destNode
  | none => false

/-- A record toward another node takes the path its flow's pin and the route tables give as it leaves its ingress class (R284, R287). -/
def State.repath (s : State) (f : Flight) (d : Dest) : Dest :=
  if d.r.destNode < 48 ∧ d.r.destNode ≠ s.nodeId then
    let path := s.pinOf (ingIndex f.src f.stn) f.vc d.r.destNode
    match s.nextHop d.r.destNode 0 path with
    | some sp => { d with bank := stnOf sp, r := { d.r with route := BitVec.ofNat 16 (path * 2 ^ 14 + d.r.route.toNat % 2 ^ 13) } }
    | none => d
  else d

/-- A TLP that arrived on a Seam link is in transit: holds and pins are its ingress device's. -/
def State.transit (s : State) (f : Flight) : Bool := decide (f.src < 144) && s.seamMode (stnOf f.src)

/-! ### Order of the TLPs of one ingress -/

/-- TLPs in flight that arrived before f. -/
def State.before (s : State) (f : Flight) : List Flight := s.core.flights.takeWhile fun g => g.id != f.id

/-- Same ordering class (R147). -/
def sameClass (f g : Flight) : Bool := f.src == g.src && f.vc == g.vc && f.cls == g.cls

/-- Two destinations leave by the same egress port, endpoint channel or Seam link. -/
def sameEgress (d e : Dest) : Bool :=
  d.bank == e.bank && (if d.qid < 54 then decide (e.qid < 54) && d.qid / 6 == e.qid / 6
    else if d.qid < 57 then decide (54 ≤ e.qid ∧ e.qid < 57) else decide (58 ≤ e.qid) && decide (58 ≤ d.qid))

/-- The ingress number records carry: the port, or 0xFE for the endpoint channel. -/
def srcIng (src : Nat) : Nat := if src < 256 then src else 0xFE

/-- A residue record of this ingress and VC waits toward the same egress (R164). -/
def State.residueWaits (s : State) (f : Flight) (d : Dest) : Bool :=
  decide (d.qid < 57) && (s.bank d.bank).chains.any fun c =>
    let q := c.1 / 1024
    c.1 % 1024 == srcIng f.src && (if d.qid < 54 then decide (q < 54) && q / 6 == d.qid / 6 else decide (54 ≤ q))
      && c.2.recs.any fun r => (if f.src < 144 then s.vcOf f.src r.tlp.tc.val else 0) == f.vc

/-- A posted TLP that came before f by the same ingress port and VC has still to be committed toward an egress of f (R149). A TLP still in
an engine counts with the destination it has so far: its program may yet REDIRECT it, which the spec does not say whether to wait for
(log entry 22). -/
def awaited (f g : Flight) : Bool :=
  g.src == f.src && g.vc == f.vc && g.cls == 0 && g.dests.any fun e => !e.committed && e.trace == 0 && f.dests.any fun d => sameEgress d e

/-- R149, R164 and R181: what a TLP waits for before it enters the crossbar. -/
def State.mayEnter (s : State) (f : Flight) : Bool :=
  let b := s.before f
  let pass := f.dests.all fun d => d.r.pass
  (s.transit f || !f.dests.any s.heldDest) && f.ready && f.fired.isEmpty && b.all (fun g => !sameClass f g || g.entered)
    && (f.cls == 0 || f.cls == 3 || pass || (b.all (fun g => !awaited f g) && f.dests.all fun d => !s.residueWaits f d))

/-! ### Trace copies (R168, R171) -/

/-- The rule under which a TLP is copied to a trace port: the lowest enabled one with DEST 0 among those that ask for it. -/
def State.traceRule (s : State) (f : Flight) : Option Nat :=
  (List.range 16).find? fun r => f.traceReq.contains r && s.flag (F.MCT_TR_CTL_EN r) && !s.flag (F.MCT_TR_CTL_DEST r)

/-- The destination of a trace copy: the TLP exactly as it enters the crossbar. -/
def State.traceDest (s : State) (f : Flight) (r : Nat) : Option Dest :=
  f.dests.head?.map fun d =>
    let p := s.get (F.MCT_TR_CTL_TRACE_PORT r)
    { bank := stnOf p, qid := 57, trace := r + 1,
      r := { d.r with trace := true, crt := none, mc := false, destPort := p, cls := f.cls, vc := f.vc } }

/-! ### Admission (R99 to R103, R162) -/

/-- Lines of TLP bytes that a record brings to the write port (R96). -/
def lineCount (rlen : Nat) : Nat := (rlen + 127) / 128

/-- A destination that will take nothing in: its port's queues are closed after a flush, or its quadrant has failed (R111, R117). -/
def State.destShut (s : State) (d : Dest) : Bool :=
  s.quadFailed d.bank || (d.qid != 57 && qPort d.bank d.qid != 0xFF && (s.port (qPort d.bank d.qid)).closed)

/-- The trace copy of a TLP: written if its port is ACTIVE and its queue has room, else lost (R169). -/
def State.admitTrace (s : State) (f : Flight) : State :=
  match f.dests.find? fun d => d.trace != 0 && !d.admitted with
  | none => s
  | some d =>
    let rule := d.trace - 1
    let r := { d.r with fid := f.id, committed := false }
    if s.stage d.r.destPort == stACTIVE && !s.recovering d.bank && !s.quadFailed d.bank && s.admits d.bank 57 r.rlen == .yes then
      let g (e : Dest) : Dest := if e.trace = d.trace then { e with admitted := true, left := lineCount r.rlen } else e
      ((s.enqueue d.bank 57 r).bump (F.MCT_TR_COPIED_COPIED rule)).setFlight { f with dests := f.dests.map g }
    else
      let s := (s.bump (F.MCT_TR_LOST_LOST rule)).raiseLim ms100 rule 0x05 0x2504 2 scDev 0 [rule, d.r.destPort]
      s.setFlight { f with dests := f.dests.filter fun e => e.trace != d.trace }

/-- CROSSBAR_ENTRY: the TLP enters the crossbar; its trace copy is admitted at once or lost, so that the copies of one ingress port stand
in their queue in the order in which they entered (R170). -/
def execCrossbarEntry (id : Nat) (s : State) : Res :=
  .next (
    match s.flight id with
    | none => s
    | some f =>
      if f.entered || !s.mayEnter f then s
      else
        let extra := ((s.traceRule f).bind (s.traceDest f)).toList
        let ds := if s.transit f then f.dests else f.dests.map (s.repath f)
        let f := { f with entered := true, dests := ds ++ extra }
        (s.setFlight f).admitTrace f)

/-- Every destination of a TLP that is shut refuses it, as R111 states. -/
def State.refuseShut (s : State) (f : Flight) : State :=
  (f.dests.filter fun d => !d.admitted && d.trace == 0 && s.destShut d).foldl (fun s d =>
    (s.refuseRec d.r d.bank d.qid).destGone f.id d.bank d.qid) s

/-- The residue chain that a destination's records of TLP f join: that of the port by which the TLP entered this device (R161). -/
def Flight.key (f : Flight) : Nat := srcIng f.src

/-- Room for a residue record of rlen bytes: RES_LIM and the shared pool (R161). -/
def State.resAdmits (s : State) (bank q ing rlen : Nat) : Bool :=
  let need := ((s.bank bank).chain q ing).need rlen
  decide ((s.bank bank).resOcc + need ≤ s.get (F.STN_OB_RES_CFG_RES_LIM bank)) && decide (need ≤ s.sharedCells bank)

/-- 0x2502: the store is full or the shared pool is empty. -/
def State.resFull (s : State) (bank : Nat) : State :=
  s.raiseQuiet ms100 bank 0x04 0x2502 2 (scStn bank) [bank, (s.bank bank).resOcc, s.get (F.STN_OB_FREE_FREE_CNT bank)]

/-- Put a record onto the residue chain of its queue and of ingress i; 0x2502 once the store stands at RES_LIM or the shared pool is empty
(R165). -/
def State.resPut (s : State) (bank q i : Nat) (r : Rec) : State :=
  let b := s.bank bank
  let c := b.chain q i
  let new : List Cell := (b.topCells (c.need r.rlen)).map fun n => { ix := n, epoch := b.epoch }
  let s := (s.takeCells bank (c.need r.rlen)).count bank 0x0A (qk q) 0 0 (c.need r.rlen)
  let f (b : Bank) : Bank := { b.setChain q i (c.push r new) with arrivals := b.arrivals ++ [(q, i)] }
  let s := (s.modBank bank f).resCount bank
  if s.get (F.STN_OB_RES_CFG_RES_LIM bank) ≤ (s.bank bank).resOcc ∨ s.sharedCells bank = 0 then s.resFull bank else s

/-- Admit one record of TLP f at a destination; none when it cannot be taken now. -/
def State.admitDest (s : State) (f : Flight) (d : Dest) : Option (State × Dest) :=
  let r := { d.r with fid := f.id, committed := false }
  let direct := !f.resGroup || ((s.bank d.bank).chain d.qid f.key).recs.isEmpty
  if s.recovering d.bank then none
  else if direct && s.admits d.bank d.qid r.rlen == .yes then
    some (s.enqueue d.bank d.qid r, { d with admitted := true, left := lineCount r.rlen })
  else if f.resGroup && s.resAdmits d.bank d.qid f.key r.rlen then
    some (s.resPut d.bank d.qid f.key r, { d with admitted := true, residue := true, left := lineCount r.rlen })
  else none

/-- Admit every destination of TLP f that has not been admitted, or none of them. -/
def State.admitAll (s : State) (f : Flight) : List Dest → Option (State × List Dest)
  | [] => some (s, [])
  | d :: ds =>
    if d.admitted || d.trace != 0 then (State.admitAll s f ds).map fun x => (x.1, d :: x.2)
    else match s.admitDest f d with
      | none => none
      | some (s', d') => (State.admitAll s' f ds).map fun x => (x.1, d' :: x.2)

/-- TLP f, in the crossbar at the head of its ingress class, waits for an output that does not admit it: its class is held (R24). -/
def State.heldHead (s : State) (f : Flight) : Bool :=
  f.entered && !f.dests.all Dest.admitted && !f.dests.any s.destShut && (s.before f).all (fun g => !sameClass f g || g.dests.all Dest.admitted)
    && (s.admitAll f f.dests).isNone

/-- Say why the destination that refuses did so: AT_LIMIT, NO_SHARED, a full residue store. -/
def State.noteHeld (s : State) (f : Flight) : State :=
  (f.dests.filter fun d => !d.admitted && d.trace == 0).foldl (fun s d =>
    let a := s.admits d.bank d.qid d.r.rlen
    let direct := !f.resGroup || ((s.bank d.bank).chain d.qid f.key).recs.isEmpty
    let s := if a == .yes then s else s.noteRefusal d.bank d.qid a
    if f.resGroup && !(direct && a == .yes) && !s.resAdmits d.bank d.qid f.key d.r.rlen then s.resFull d.bank else s) s

/-- RECORD_ADMIT: the TLP at the head of its class is admitted at the bank, and with it wherever else it goes (R100, R103); destinations
that are shut refuse it. -/
def execRecordAdmit (bank : Stn) (id : Nat) (s : State) : Res :=
  .next (
    match s.flight id with
    | none => s
    | some f =>
      if !f.entered || !(f.dests.any fun d => d.bank == bank.val && !d.admitted)
          || !((s.before f).all fun g => !sameClass f g || g.dests.all Dest.admitted) then s
      else
        let s := s.refuseShut f
        match s.flight id with
        | none => s
        | some f =>
          match s.admitAll f f.dests with
          | none => s.noteHeld f
          | some (s, ds) =>
            let f := { f with dests := ds }
            let s := (s.setFlight f).admitTrace f
            match s.flight id with
            | some f => s.settle f
            | none => s)

/-! ### Commitment (R101) -/

/-- Grants of one handshake of a port that serves `m` clients: up to n lines, one at a time, round-robin among the clients that want lines,
starting after the client granted last, no client more than `cap` of them. -/
def grants (m cap : Nat) (want : List Nat) : Nat → Nat → List Nat → List Nat
  | 0, _, got => got
  | n + 1, last, got =>
    match ((List.range m).map fun k => (last + 1 + k) % m).find? fun i => decide (got.count i < min cap (want.getD i 0)) with
    | none => got
    | some i => grants m cap want n i (got ++ [i])

/-- A destination of an admitted TLP whose lines the bank's write port has still to write. -/
def Dest.writing (bank : Nat) (d : Dest) : Bool := d.bank == bank && d.admitted && !d.committed && d.left != 0

/-- Lines that each station's crossbar input holds for a bank. -/
def State.writeWants (s : State) (bank : Nat) : List Nat := (List.range 16).map fun st =>
  (s.core.flights.filter fun f => f.stn == st).foldl (fun n f => (f.dests.filter (Dest.writing bank)).foldl (fun n d => n + d.left) n) 0

/-- One line of the first record that still has some is written. -/
def writeDest (bank : Nat) : List Dest → List Dest
  | [] => []
  | d :: ds => if d.writing bank then { d with left := d.left - 1 } :: ds else d :: writeDest bank ds

/-- One line of the oldest TLP of an input is written. -/
def writeLine (bank st : Nat) : List Flight → List Flight
  | [] => []
  | f :: fs =>
    if f.stn == st && f.dests.any (Dest.writing bank) then
      { f with dests := writeDest bank f.dests } :: fs
    else f :: writeLine bank st fs

/-- Handshakes of the write port (R96: eight lines each, no input more than three) until TLP `id` has no line left to write in the bank. -/
def State.writeUntil (s : State) (bank id : Nat) : Nat → State
  | 0 => s
  | n + 1 =>
    match s.flight id with
    | none => s
    | some f =>
      if !f.dests.any (Dest.writing bank) then s
      else
        let g := grants 16 3 (s.writeWants bank) 8 (s.bank bank).wrLast []
        let s := { s with core := { s.core with flights := g.foldl (fun fs st => writeLine bank st fs) s.core.flights } }
        (s.modBank bank fun b => { b with wrLast := g.getLast?.getD b.wrLast }).writeUntil bank id n

/-- Mark the records of a TLP committed in a queue. -/
def Queue.commit (q : Queue) (fid : Nat) : Queue :=
  { q with recs := q.recs.map fun r => if r.fid = fid then { r with committed := true } else r }

/-- The records of a TLP in a bank are committed: its last line there has been written. A trace copy comes with the TLP's other records. -/
def State.commitIn (s : State) (bank id : Nat) : State :=
  match s.flight id with
  | none => s
  | some f =>
    let real := f.dests.any fun d => d.trace == 0 && d.admitted
    let mine (d : Dest) : Bool := d.bank == bank && d.admitted && !d.committed && (d.trace == 0 || real)
    if s.recovering bank || !f.dests.any mine then s
    else
      let s := s.writeUntil bank id (f.dests.length * 17 + s.core.flights.length * 170)
      let s := (f.dests.filter mine).foldl (fun s d =>
        (s.count (16 + bank / 4) 0x21 16 0 0 (lineCount d.r.rlen)).modBank bank fun b =>
          if d.residue then b.setChain d.qid f.key ((b.chain d.qid f.key).commit id)
          else b.setQ d.qid ((b.q d.qid).commit id)) s
      match s.flight id with
      | none => s
      | some f => s.settle { f with dests := f.dests.map fun d => if mine d then { d with committed := true, left := 0 } else d }

/-! ### Residue chains (R163) -/

/-- The record of a TLP in flight stands in its queue from now on, where its commitment finds it (R163). -/
def State.linkedDest (s : State) (fid bank q : Nat) : State :=
  match s.flight fid with
  | none => s
  | some f => s.setFlight { f with dests := f.dests.map fun d => if d.bank = bank ∧ d.qid = q then { d with residue := false } else d }

/-- RESIDUE_LINK: the head of a chain enters its queue once the queue admits it; of several chains of a queue the one whose head
arrived first goes first. -/
def execResidueLink (bank : Stn) (q : Fin 64) (ing : Fin 256) (s : State) : Res :=
  .next (
    let b := s.bank bank
    let first := (b.arrivals.find? fun a => a.1 == q.val).map Prod.snd
    match (b.chain q ing).pop with
    | none => s
    | some (r, rest) =>
      let shut := s.quadFailed bank || (qPort bank q != 0xFF && (s.port (qPort bank q)).closed)
      if first != some ing.val || s.recovering bank || shut || s.admits bank q r.rlen != .yes then s
      else
        let back := (b.chain q ing).cells.take ((b.chain q ing).occ - rest.occ)
        let f (b : Bank) : Bank := { b.setChain q ing rest with arrivals := dropArrival (q.val, ing.val) b.arrivals }
        let s := ((s.modBank bank f).freeCells bank back).resCount bank
        (s.enqueue bank q { r with gap := 0 }).linkedDest r.fid bank q)

/-! ### Flushes (R111, R112, R165) -/

/-- The queues of a port: six of a PCIe port, four of a Seam link. -/
def State.portQs (s : State) (p : Nat) : List Nat :=
  if s.seamMode (stnOf p) then [58, 59, 60, 61] else (List.range 6).map (6 * kOf p + ·)

/-- One queue is emptied: its cells return to the free list, or with a drop flush stay unlinked for the sieve audit. -/
def State.flushAs (s : State) (st q : Nat) (drop : Bool) (cause : Nat) : State :=
  let o := (s.bank st).q q
  let f (b : Bank) : Bank :=
    let b' := (b.setQ q {}).addSent q o.recs.length
    if drop then { b' with lost := b'.lost ++ o.cells.map fun e => { ix := e.ix, epoch := e.epoch, unmarked := false } } else b'
  let s := s.modBank st f
  let s := if drop then s else s.freeCells st o.cells
  o.recs.foldl (fun s r => (if r.cls = 0 then s.lateError r cause (qPort st q) else s).destGone r.fid st q) s

/-- The flush of R111: its discards are late errors of cause 3. -/
def State.flushQueue (s : State) (st q : Nat) (drop : Bool) : State := s.flushAs st q drop 3

/-- The residue chains of one queue are emptied; answers how many records they held. -/
def State.flushChains (s : State) (st q : Nat) : State × Nat :=
  let cs := (s.bank st).chains.filter fun c => c.1 / 1024 == q
  let recs := cs.flatMap fun c => c.2.recs
  let cells := cs.flatMap fun c => c.2.cells
  let f (b : Bank) : Bank :=
    { b with chains := b.chains.filter (fun c => c.1 / 1024 != q), arrivals := b.arrivals.filter fun a => a.1 != q }
  let s := ((s.modBank st f).freeCells st cells).resCount st
  (recs.foldl (fun s r => (s.lateError r 3 (qPort st q)).destGone r.fid st q) s, recs.length)

/-- Link entries that a walk of queue q meets damaged (R109): corrected ones up to the first uncorrectable one, at which the chain ends;
answers whether it met one. -/
def State.walkLinks (s : State) (st q : Nat) (hs : List LinkHit) : State × Bool :=
  let o := (s.bank st).q q
  let ends := (List.range o.occ).find? fun n => hs.any fun h => h.double && h.cell == n
  let s := (hs.filter fun h => !h.double && decide (h.cell ≤ ends.getD h.cell)).foldl (fun s h => match o.cells[h.cell]? with
    | some e => s.linkFixed st e
    | none => s) s
  match ends with
  | some n => (s.cutAt st q none n false, true)
  | none => (s, false)

/-- What the walk of a port's flush meets: an uncorrectable link entry is an error of the containment action, nested with cause 0x50 (R220). A
drop flush walks nothing. -/
def State.flushWalk (s : State) (p : Nat) (drop : Bool) (links : List (Fin 64 × LinkHit)) : State :=
  if drop then s
  else (s.portQs p).foldl (fun s q =>
    let x := s.walkLinks (stnOf p) q ((links.filter fun y => y.1.val == q).map Prod.snd)
    if x.2 then x.1.cqNest (stnOf p) (if x.1.seamMode (stnOf p) then 2 else 0) p 0x50 else x.1) s

/-- PORT_FLUSHED: the flush of a port ends; while its bank recovers, flushes wait. `links` are the damaged link entries that its walk meets. -/
def execPortFlushed (p : Port) (s : State) (links : List (Fin 64 × LinkHit) := []) : Res :=
  .next (
    let st := stnOf p
    let fl := F.STN_OB_FLUSH_FLUSHING st
    if !bit (s.get fl) (kOf p) || s.recovering st then s
    else
      let drop := (s.port p).flushDrop
      let s := s.flushWalk p drop links
      let qs := s.portQs p
      let n := qs.foldl (fun n q => n + ((s.bank st).q q).recs.length) 0
      let s := qs.foldl (fun s q => s.flushQueue st q drop) s
      let s := if drop then s.modBank st fun b => { b with lastDrop := some s.clk.now } else s
      let x := qs.foldl (fun (x : State × Nat) q => let y := x.1.flushChains st q; (y.1, x.2 + y.2)) (s, 0)
      let s := if x.2 = 0 then x.1
               else (x.1.bumpN (F.STN_OB_RES_DISCARD_RES_DISCARD st) x.2).raise 0x04 0x2503 1 (scStn st) [st, p, x.2]
      let s := s.put fl (setBit (s.get fl) (kOf p) false)
      let s := s.modPort p fun y => { y with flushed := y.flushed + n + x.2, closed := s.stage p != stACTIVE }
      let s := s.count st 0x0B (kOf p) 0 0 (n + x.2)
      s.raise 0x04 0x2301 0 (scStn st) [st, p, (s.port p).flushTrig, b2n drop, n])

/-! ### The sieve audit (R113, R114) -/

def State.sieveOn (s : State) : Bool := s.flag F.CORE_SIEVE_CTL_EN

/-- The bank's epoch toggles at the start of a pass. -/
def State.toggleEpoch (s : State) (b : Nat) : State := s.modBank b fun x => { x with epoch := !x.epoch }

/-- SIEVE_PASS_START: while a quadrant recovers or has failed, the audit of its banks is paused (R114). -/
def execSievePassStart (bank : Stn) (s : State) : Res :=
  .next (
    if s.sieveOn && !s.flag (F.STN_OB_SIEVE_STAT_ACTIVE bank) && !s.flag (F.STN_OB_SIEVE_STAT_PAUSED bank) && !s.recovering bank then
      (s.toggleEpoch bank).putB (F.STN_OB_SIEVE_STAT_ACTIVE bank) true
    else s)

/-- A pass has ended within the window of the latest drop flush or truncation. -/
def State.dropWindow (s : State) (b : Nat) : Bool :=
  match (s.bank b).lastDrop with
  | some t => decide (s.clk.now ≤ t + 2 * (s.get F.CORE_SIEVE_CTL_INTERVAL * 100000) + 64000)
  | none => false

/-- Cell indices in rising order, each once. -/
def sortIx (l : List Nat) : List Nat := l.foldl (fun a x => a.filter (· < x) ++ [x] ++ a.filter (x < ·)) []

/-- The end of a pass (sieve_end of R113): a cell unmarked at two ends in a row, of the other epoch, is returned; the rest are noted
unmarked. A cell that was dropped or cut while the pass ran counts as unmarked at its end: the spec leaves open whether that pass had
already marked it (log entry 52). -/
def State.sieveEnd (s : State) (b : Nat) : State :=
  let x := s.bank b
  let back (c : LostCell) : Bool := c.unmarked && c.epoch != x.epoch
  let cs := sortIx ((x.lost.filter back).map LostCell.ix)
  let n := cs.length
  let keep := (x.lost.filter fun c => !back c).map fun c => { c with unmarked := true }
  let s := (s.modBank b fun y => { y with lost := keep }).freeCells b (cs.map fun i => { ix := i, epoch := x.epoch })
  let s := s.bump (F.STN_OB_SIEVE_STAT_PASSES b)
  if n = 0 then s
  else if s.dropWindow b then (s.bumpN (F.STN_OB_SIEVE_RECLAIMED b) n).raise 0x04 0x2302 1 (scStn b) [b, n]
  else (s.bumpN (F.STN_OB_SIEVE_LEAKS b) n).raise 0x04 0x2303 2 (scStn b) [b, n, cs.headD 0]

/-- The free list without cell i, if it holds it. -/
def Bank.pull (b : Bank) (i : Nat) : Option Bank :=
  if b.freed.contains i then some { b with freed := b.freed.filter (· != i) }
  else if b.fresh ≤ i ∧ i < 40960 then
    some { b with freed := b.freed ++ (List.range (i - b.fresh)).map (b.fresh + ·), fresh := i + 1 }
  else none

/-- A free cell that no structure reaches any longer is met by a pass for the first time: the model gives it the epoch that is not the
bank's, and counts it unmarked at this pass's end, since the spec gives a leaked cell neither (log entry 52). -/
def State.leakCell (s : State) (b i : Nat) : State :=
  match (s.bank b).pull i with
  | none => s
  | some x =>
    let c : LostCell := { ix := i, epoch := !x.epoch, unmarked := true }
    (s.freeCount b (s.get (F.STN_OB_FREE_FREE_CNT b) - 1)).modBank b fun _ => { x with lost := x.lost ++ [c] }

/-- The queue that holds a cell, directly or on a residue chain. -/
def Bank.holder (b : Bank) (i : Nat) : Option Nat :=
  match b.qs.find? fun x => x.2.cells.any fun c => c.ix == i with
  | some x => some x.1
  | none => (b.chains.find? fun x => x.2.cells.any fun c => c.ix == i).map fun x => x.1 / 1024

/-- A cell of a queue found on the free list too is taken off the list (R114). The list holds it in the place of the cell the model has on
top, which nothing reaches any longer (log entry 52). -/
def State.corruptCell (s : State) (b i : Nat) : State :=
  match (s.bank b).holder i with
  | none => s
  | some q =>
    let s := s.raise 0x04 0x2304 3 (scStn b) [b, i, q]
    if s.get (F.STN_OB_FREE_FREE_CNT b) = 0 then s else ((s.bank b).topCells 1).foldl (fun s i => s.leakCell b i) s

/-- What a pass meets on a chain: a link entry to correct, or the cell at which the chain ends. -/
def State.sieveLink (s : State) (b : Nat) (r : ChainRef) (h : LinkHit) : State :=
  let ing := r.ing.map Fin.val
  if h.double then s.cutAt b r.q ing h.cell false
  else match (s.chainAt b r.q ing).cells[h.cell]? with
    | some c => s.linkFixed b c
    | none => s

/-- One pass over a bank: chains that loop end at the cell that closes the loop, link entries and corrupt cells are dealt with, cells
return, leaks are met (R109, R113, R114). -/
def State.sievePass (s : State) (b : Nat) (x : SieveFind) : State :=
  let s := x.loops.foldl (fun s l => s.cutAt b l.1.q (l.1.ing.map Fin.val) l.2 false) s
  let s := x.links.foldl (fun s l => s.sieveLink b l.1 l.2) s
  let s := x.corrupt.foldl (fun s i => s.corruptCell b i.val) s
  let s := s.sieveEnd b
  x.leaks.foldl (fun s i => s.leakCell b i.val) s

/-- SIEVE_PASS_END. -/
def execSievePassEnd (bank : Stn) (leaks corrupt : List (Fin 40960)) (loops : List (ChainRef × Nat)) (s : State)
    (links : List (ChainRef × LinkHit) := []) : Res :=
  .next (
    if !s.flag (F.STN_OB_SIEVE_STAT_ACTIVE bank) then s
    else (s.putB (F.STN_OB_SIEVE_STAT_ACTIVE bank) false).sievePass bank ⟨leaks, corrupt, loops, links⟩)

/-! ### Stalls of a quadrant (R115 to R117) -/

/-- Banks of a quadrant (Table 1.1). -/
def quadBanks (q : Nat) : List Nat := [4 * q, 4 * q + 1, 4 * q + 2, 4 * q + 3]

/-- TLPs with a record still to be committed in the quadrant's banks. -/
def State.pendingAt (s : State) (q : Nat) : List Flight :=
  s.core.flights.filter fun f => f.entered && f.dests.any fun d => d.bank / 4 == q && !d.committed

def State.quadSt (s : State) (q : Nat) : QuadSt := SMap.get (fun _ => {}) s.core.quads q
def State.setQuad (s : State) (q : Nat) (x : QuadSt) : State :=
  { s with core := { s.core with quads := SMap.set (fun _ => {}) s.core.quads q x } }

/-- Uncommitted records leave a queue; a posted one advances P_SENT, since its new admission counts again. -/
def State.rollQueue (s : State) (st q : Nat) : State :=
  let o := (s.bank st).q q
  let kept := Queue.keepRecs Rec.committed 0 o.recs
  let gone := o.recs.length - kept.length
  let o' : Queue := if kept.isEmpty then {} else { o with recs := kept }
  let need := (o'.used + 255) / 256
  let o'' := { o' with cells := o'.cells.take need }
  if gone = 0 then s
  else (s.modBank st fun b => (b.setQ q o'').addSent q gone).freeCells st (o.cells.drop o''.occ)

/-- The same for a residue chain. -/
def State.rollChain (s : State) (st key : Nat) : State :=
  let o := (s.bank st).chain (key / 1024) (key % 1024)
  let kept := Queue.keepRecs Rec.committed 0 o.recs
  let gone := o.recs.length - kept.length
  let o' : Queue := if kept.isEmpty then {} else { o with recs := kept }
  let o'' := { o' with cells := o'.cells.take ((o'.used + 255) / 256) }
  let a := (key / 1024, key % 1024)
  let f (b : Bank) : Bank :=
    { b.setChain a.1 a.2 o'' with arrivals := lastArrivals a gone b.arrivals }
  if gone = 0 then s else ((s.modBank st f).freeCells st (o.cells.drop o''.occ)).resCount st

/-- Step 2 of Table 4.6 for one bank. -/
def State.rollBack (s : State) (st : Nat) : State :=
  let s := (s.seamAbandon st 2).nullifyOpen st
  let s := allQids.foldl (fun s q => s.rollQueue st q) s
  let s := ((s.bank st).chains.map Prod.fst).foldl (fun s k => s.rollChain st k) s
  let g (d : Dest) : Dest := if d.bank = st ∧ d.committed = false then { d with admitted := false, residue := false, left := 0 } else d
  { s with core := { s.core with flights := s.core.flights.map fun f => { f with dests := f.dests.map g } } }

/-- A quadrant is failed (R117): its banks take nothing in, its stations' ports are contained, TLPs that wait for it are refused. -/
def State.quadFail (s : State) (q cause : Nat) : State :=
  let s := s.put F.CORE_STALL_STATUS_RECOVERING (setBit (s.get F.CORE_STALL_STATUS_RECOVERING) q false)
  let s := s.put F.CORE_STALL_STATUS_FAILED (setBit (s.get F.CORE_STALL_STATUS_FAILED) q true)
  let s := s.raise 0x04 0x2403 5 scDev [q, cause]
  let s := (quadBanks q).foldl (fun s b => s.putB (F.STN_OB_SIEVE_STAT_PAUSED b) true) s
  let s := (s.pendingAt q).foldl State.refuseShut s
  (quadBanks q).foldl (fun s st => (s.stnPorts st).foldl (fun s p => (s.goOff p ldQuad lsLink).openPort p 0x0B lsLink) s) s

/-- QUADRANT_STALL. -/
def execQuadrantStall (q : Quad) (s : State) : Res :=
  .next (
    let waiting := s.pendingAt q
    if waiting.isEmpty || bit (s.get F.CORE_STALL_STATUS_RECOVERING) q || bit (s.get F.CORE_STALL_STATUS_FAILED) q then s
    else
      let s := s.bump (F.CORE_STALL_CNT_STALLS q)
      let inputs := (List.range 16).filter fun st => waiting.any fun f => f.stn == st
      let s := s.raise 0x04 0x2401 3 scDev [q, inputs.length, s.get (F.CORE_PACE_M_HS (16 + q.val))]
      let s := (quadBanks q).foldl (fun s b => (s.putB (F.STN_OB_SIEVE_STAT_ACTIVE b) false).rollBack b) s
      let again := match (s.quadSt q).recoveredAt with
        | some t => decide (s.clk.now ≤ t + 10 * msec)
        | none => false
      if again then s.quadFail q 1
      else
        let s := s.put F.CORE_STALL_STATUS_RECOVERING (setBit (s.get F.CORE_STALL_STATUS_RECOVERING) q true)
        let s := (quadBanks q).foldl (fun s b => s.putB (F.STN_OB_SIEVE_STAT_PAUSED b) true) s
        s.setQuad q { s.quadSt q with since := s.clk.now })

/-- QUADRANT_RECOVERED: the sieve pass of step 5 has run over the four banks, with what it met in each of them, and the TLPs that wait are
presented again. -/
def execQuadrantRecovered (q : Quad) (s : State) (finds : List SieveFind := []) : Res :=
  .next (
    if !bit (s.get F.CORE_STALL_STATUS_RECOVERING) q then s
    else
      let s := (quadBanks q).foldl (fun s b =>
        ((s.toggleEpoch b).sievePass b (finds.getD (b % 4) {})).putB (F.STN_OB_SIEVE_STAT_PAUSED b) false) s
      let s := s.put F.CORE_STALL_STATUS_RECOVERING (setBit (s.get F.CORE_STALL_STATUS_RECOVERING) q false)
      let since := (s.quadSt q).since
      let s := s.setQuad q { since := 0, recoveredAt := some s.clk.now }
      s.raise 0x04 0x2402 1 scDev [q, s.clk.now - since, (s.pendingAt q).length])

/-- RECOVERY_MONITOR_TIMEOUT. -/
def execRecoveryMonitorTimeout (q : Quad) (s : State) : Res :=
  .next (if bit (s.get F.CORE_STALL_STATUS_RECOVERING) q then s.quadFail q 2 else s)

/-! ### Trace samplers (R171 to R173) -/

/-- One shift of the generator of R172. -/
def lfsrStep (x : Nat) : Nat :=
  (x * 2 + (b2n (bit x 31) + b2n (bit x 21) + b2n (bit x 1) + b2n (bit x 0)) % 2) % 2 ^ 32

def lfsr32 (x : Nat) : Nat := (List.range 32).foldl (fun x _ => lfsrStep x) x

/-- The seed of rule r's generators. -/
def lfsrSeed (r : Nat) : Nat := 0x0000ACE1 ^^^ (r * 65536)

def State.sampler (s : State) (st r : Nat) : Sampler := SMap.get (fun _ => {}) s.core.samplers (16 * st + r)
def State.setSampler (s : State) (st r : Nat) (x : Sampler) : State :=
  { s with core := { s.core with samplers := SMap.set (fun _ => {}) s.core.samplers (16 * st + r) x } }

/-- A sampler with its next gap: N in MODE 0, one drawn from the generator in MODE 1. -/
def State.loadSampler (s : State) (r : Nat) (x : Sampler) : Sampler :=
  let n := s.get (F.MCT_TR_RATE_N_M1 r) + 1
  if s.flag (F.MCT_TR_CTL_MODE r) then
    let g := lfsr32 (if x.lfsr.toNat = 0 then lfsrSeed r else x.lfsr.toNat)
    { left := 1 + g % (2 * n - 1), lfsr := BitVec.ofNat 32 g }
  else { x with left := n }

/-- The TYPES bit of a TLP (Table 6.3). -/
def typeBit (t : Tlp) : Nat :=
  match t.kind with
  | .mwr => 0 | .mrd => 1 | .atomic => 2 | .cfgRd => 3 | .cfgWr => 3 | .cpld => 4 | .cpl => 5 | .msg => 6 | .other => 7

/-- R171. -/
def State.ruleHits (s : State) (f : Flight) (r : Nat) : Bool :=
  let ing := s.get (F.MCT_TR_MATCH_ING_PORT r)
  let egr := s.get (F.MCT_TR_MATCH_EGR_PORT r)
  s.flag (F.MCT_TR_CTL_EN r) && bit (s.get (F.MCT_TR_CTL_TYPES r)) (typeBit f.tlp0)
    && (ing == 0xFF || ing == srcIng f.src)
    && (egr == 0xFF || f.dests.any fun d => qPort d.bank d.qid == egr)
    && (s.flag (F.MCT_TR_MATCH_VS_ANY r) || s.get (F.MCT_TR_MATCH_VS r) == f.vs)
    && (!s.flag (F.MCT_TR_MATCH_MC_ONLY r) || f.repl)

/-- Stage 6: one rule's match is counted, and its sampler counts down; it fires when its gap is reached. -/
def State.countRule (s : State) (x : Flight) (r : Nat) : State × Flight :=
  if !s.ruleHits x r then (s, x)
  else
    let s := s.bump (F.MCT_TR_MATCHED_MATCHED r)
    let y := s.sampler x.stn r
    let y := if y.left = 0 then s.loadSampler r y else y
    if y.left ≤ 1 then
      (s.setSampler x.stn r (s.loadSampler r y), { x with fired := x.fired ++ [r], firedAll := x.firedAll ++ [r] })
    else (s.setSampler x.stn r { y with left := y.left - 1 }, x)

/-- Every rule at the ingress station of a TLP. -/
def State.countRules (s : State) (f : Flight) : State × Flight :=
  (List.range 16).foldl (fun (x : State × Flight) r => x.1.countRule x.2 r) (s, f)

/-- DEST of a sample entry: destination port, 0xFF replicated, 0xFE endpoint queue. -/
def sampleDest (f : Flight) : Nat :=
  if f.repl then 0xFF else match f.dests.head? with
    | some d => if 54 ≤ d.qid ∧ d.qid < 57 then 0xFE else qPort d.bank d.qid
    | none => 0xFF

/-- A sample entry (R173, Table 6.2): at most one each 50 ns; the ring keeps the newest 256. -/
def State.sampleEntry (s : State) (f : Flight) (rule : Nat) : State :=
  let late := match s.core.lastSample with
    | some t => decide (s.clk.now < t + 50)
    | none => false
  match f.dests.head? with
  | none => s
  | some d =>
    if !s.flag F.MCT_CTL_SMP_EN then s
    else if late then s.bump F.MCT_SMP_LOST_LOST
    else
      let seq := s.get F.MCT_SMP_STATUS_NEXT_SEQ
      let e : Sample :=
        { time := f.t6, seq := seq, rule := rule, ing := srcIng f.src, dest := sampleDest f,
          flags := b2n d.r.pass + 2 * b2n f.repl + 4 * b2n f.translated, rlen := d.r.rlen, btag := d.r.btag,
          head := slice (d.r.tlp.hdr ++ d.r.tlp.data) 0 40 }
      let l := s.core.samples ++ [e]
      ({ s with core := { s.core with samples := l.drop (l.length - 256), lastSample := some s.clk.now } }).bumpWrap
        F.MCT_SMP_STATUS_NEXT_SEQ 1 |>.bump (F.MCT_TR_COPIED_COPIED rule)

/-- TRACE_SAMPLER_FIRE: rule's sampler at station st has fired on a TLP: a copy to its trace port is asked for, or a sample entry is
made for the lowest-numbered rule of DEST 1 that fires. -/
def execTraceSamplerFire (st : Stn) (rule : Fin 16) (id : Nat) (s : State) : Res :=
  .next (
    match s.flight id with
    | none => s
    | some f =>
      if f.stn != st.val || !f.fired.contains rule.val || !f.ready then s
      else
        let f := { f with fired := f.fired.filter (· != rule.val) }
        if s.flag (F.MCT_TR_CTL_DEST rule) then
          let first := f.firedAll.all fun r => !(decide (r < rule.val) && s.flag (F.MCT_TR_CTL_DEST r))
          let s := s.setFlight f
          if first then s.sampleEntry f rule else s
        else s.setFlight { f with traceReq := f.traceReq ++ [rule.val] })

/-! ### Credit from link partners (R106) -/

/-- LINK_CREDIT_RETURNED. -/
def execLinkCreditReturned (p : Port) (vc : Fin 2) (cls : Fin 3) (hdr data : Nat) (s : State) : Res :=
  .next (
    let k := 3 * vc.val + cls.val
    if s.stage p = stACTIVE then s.modPort p fun x =>
      { x with txHdr := SMap.set (fun _ => 0) x.txHdr k (SMap.get (fun _ => 0) x.txHdr k + hdr)
               txData := SMap.set (fun _ => 0) x.txData k (SMap.get (fun _ => 0) x.txData k + data) }
    else s)

end Sys2Proof.Machine
end

