-- ==== Sys2Proof/Machine/Contain.lean ====
section
/-!
DEFINITION. Machine/Contain.lean: the containment queue as its entries go on (R218 to R224), DPC release (R217), the fence opcodes, late
errors as they are read (R226, R229), and the opcodes of chapter 6 (R159, R167, R173).
-/

namespace Sys2Proof.Machine

/-! ### Entries (R219, R221) -/

def State.cqState (s : State) (st i : Nat) : Nat := s.get (F.STN_CQ_ENTRY0_STATE st i)
def State.cqKind (s : State) (st i : Nat) : Nat := s.get (F.STN_CQ_ENTRY0_KIND st i)
def State.cqObject (s : State) (st i : Nat) : Nat := s.get (F.STN_CQ_ENTRY0_OBJECT st i)
def State.cqValid (s : State) (st i : Nat) : Bool := s.flag (F.STN_CQ_ENTRY0_VALID st i)

/-- A port is still being flushed. -/
def State.flushing (s : State) (p : Nat) : Bool := bit (s.get (F.STN_OB_FLUSH_FLUSHING (stnOf p))) (kOf p)

/-- All actions of an entry have completed: the flush of a port or a Seam link, the reload of an engine (Table 8.4). -/
def State.cqDone (s : State) (st i : Nat) : Bool :=
  let k := s.cqKind st i
  if k = 0 ∨ k = 2 then !s.flushing (s.cqObject st i)
  else if k = 3 then s.get (F.STN_BE_STATE_STATE st (s.cqObject st i % 16)) != 2
  else true

/-- A port's entry no longer holds its link, but for a held Surprise Down and a failed quadrant. -/
def State.uncontain (s : State) (p : Nat) : State :=
  (s.modPort p fun x => { x with dis := { x.dis with contain := false } }).kick p

/-- CONTAINED (R221): 0x2703, and the link is enabled again as Table 8.4 states. -/
def execContained (st : Stn) (i : Fin 32) (s : State) : Res :=
  .next (
    if !s.cqValid st i || s.cqState st i != 1 || !s.cqDone st i then s
    else
      let s := s.put (F.STN_CQ_ENTRY0_STATE st i) 2
      let p := s.cqObject st i
      let port := s.cqKind st i == 0
      let x := s.port p
      let age := (s.fabNow % 2 ^ 32 + 2 ^ 32 - s.get (F.STN_CQ_ENTRY2_TIME st i)) % 2 ^ 32
      let s := s.raise (srcStn st) 0x2703 1 (scStn st) [st, i, age, if port then x.flushed else 0, if port then x.suspended else 0]
      if port && !x.surprise && s.get (F.STN_CQ_ENTRY1_CAUSE st i) != 0x0B then s.uncontain p else s)

/-- The end condition of an entry is met; its code in 0x2704. -/
def State.cqOver (s : State) (st i : Nat) : Option Nat :=
  let o := s.cqObject st i
  match s.cqKind st i with
  | 0 =>
    let c := (s.port o).endCond
    if !s.hasRole o || !s.exists o then some ecLeft
    else if c = ecActive then (if s.stage o = stACTIVE then some ecActive else none)
    else if c = ecDpcHeld then none
    else some c
  | 1 => if s.lendValid st o && s.lendState st o != 1 then none else some ecRestored
  | 2 => if s.stage o = stACTIVE then some ecActive else if s.seamMode st then none else some ecLeft
  | 3 =>
    let e := s.get (F.STN_BE_STATE_STATE st (o % 16))
    if e = 0 ∨ e = 3 then some ecRestored else none
  | _ => if s.entryBad (o / 65536) st (o % 65536) 32 then none else some ecRestored

/-- CONTAIN_RELEASED (R219). -/
def execContainReleased (st : Stn) (i : Fin 32) (s : State) : Res :=
  .next (
    if !s.cqValid st i || s.cqState st i != 2 then s
    else match s.cqOver st i with
      | some c => s.cqEnd st i c
      | none => s)

/-- SURPRISE_DOWN_HOLDOFF: 10 ms after an unplanned link down of a DSP (R224): a removal frees the entry; else the Surprise Down is
reported and triggers DPC where it is enabled, as the entry's own trigger. -/
def execSurpriseDownHoldoff (p : Port) (s : State) : Res :=
  .next (
    if !(s.port p).surprise then s
    else
      let st := stnOf p
      let s := s.modPort p fun x => { x with surprise := false }
      let contained := match s.cqFind st 0 p with
        | some i => s.cqState st i == 2
        | none => true
      if s.slotAbsent p then (s.cqEndObj st 0 p ecRemoval).uncontain p
      else
        let en := s.dpcEnable p
        let dpc := !bit (s.cw p 0x108) aeSD && (en == 2 || (en == 1 && bit (s.cw p 0x10C) aeSD))
          && !s.flag (F.STN_PORT_STATUS_DPC_TRIG st (kOf p))
        let s := s.aer p aeSD
        let s := if dpc then (s.dpcSet p 0 0).suspendPort p lsDpc else s
        if contained then s.uncontain p else s)

/-- DPC_RELEASE: the host has cleared DPC Trigger Status (R217). -/
def State.dpcReleaseOp (s : State) (p : Nat) : State :=
  if s.flag (F.STN_PORT_STATUS_DPC_TRIG (stnOf p) (kOf p)) then
    let s := s.putB (F.STN_PORT_STATUS_DPC_TRIG (stnOf p) (kOf p)) false
    let s := s.setCw p ofDPCS (s.cw p ofDPCS / 2 * 2)
    (s.modPort p fun x => { x with dis := { x.dis with dpc := false }, endCond := ecDpcDone }).kick p
  else s

def execDpcRelease (p : Port) (s : State) : Res := .next (s.dpcReleaseOp p)

/-- Bits of the AER Correctable Error Status (PCI Express Base Specification 7.0, log entry 11). -/
def aeReceiver : Nat := 0
def aeBadTlp : Nat := 6
def aeBadDllp : Nat := 7
def aeRollover : Nat := 8
def aeReplayTmo : Nat := 12

/-- Data Link Protocol Error and Flow Control Protocol Error (Table 8.3): DPC on a DSP where it is enabled, a port entry on a USP. -/
def State.protocolError (s : State) (p b cause : Nat) : State :=
  let s := s.aer p b
  if s.pciRole p = 1 then s.openPort p cause lsLink else s.dpcError p b cause

/-- RECEIVER_ERROR (R27, R214): an error of the port's physical or data link layer. Bytes of a flit that failed its check have left the tag's
computation, and a correctable error has no other effect than its AER bit. -/
def execReceiverError (p : Port) (s : State) (err : PortErr := .receiver) : Res :=
  .next (if s.pciRole p = 1 ∨ s.pciRole p = 2 then
    match err with
    | .receiver => s.aerCorr p aeReceiver
    | .badTlp => s.aerCorr p aeBadTlp
    | .badDllp => s.aerCorr p aeBadDllp
    | .replayTimeout => s.aerCorr p aeReplayTmo
    | .replayRollover => s.aerCorr p aeRollover
    | .linkProtocol => s.protocolError p aeDLP 0x05
    | .flowProtocol => s.protocolError p aeFCP 0x06
    else s)

/-! ### Opcodes of group 0x09 -/

/-- CQ_READ. -/
def execCqRead (h : Hdr) (s : State) : Res :=
  .next (s.serve (.cqRead h) { code := 0x0900, kind := .R, who := [.fm, .obs], forms := [.stn] } h [] fun x s =>
    let a := (F.STN_CQ_ENTRY0_VALID x.n 0).addr
    .read s (Dat.u32 (s.reg (F.STN_CQ_STATUS_USED x.n).addr).toNat ::
      (List.range 128).map fun w => Dat.u32 (s.reg (a + 4 * w)).toNat))

/-- FENCE: R222, with KIND and CAUSE 0 in the event's detail since no error overflowed (log entry 12). -/
def execFence (h : Hdr) (s : State) : Res :=
  .next (s.serve (.fence h) { code := 0x0901, kind := .I, who := [.fm], forms := [.stn] } h [] fun x s =>
    .ok (s.fenceOp x.n 0 0))

/-- A fence ends (R223): every entry is free and every port trains from OFF. -/
def State.unfence (s : State) (st : Nat) : State :=
  let s := (List.range 32).foldl (fun s i => s.cqDrop st i) s
  let s := s.putB (F.STN_CQ_STATUS_FENCED st) false
  let s := s.put F.ERR_FENCED_STATIONS (setBit (s.get F.ERR_FENCED_STATIONS) st false)
  let f (s : State) (p : Nat) : State :=
    (s.modPort p fun x => { x with dis := { x.dis with fence := false, contain := false }, surprise := false }).kick p
  let s := (s.stnPorts st).foldl f s
  s.raise (srcStn st) 0x2706 1 (scStn st) [st, s.get (F.STN_CQ_STATUS_FENCE_ERRS st)]

/-- FENCE_RELEASE. -/
def execFenceRelease (h : Hdr) (s : State) : Res :=
  .next (s.serve (.fenceRelease h) { code := 0x0902, kind := .I, who := [.fm], forms := [.stn] } h [] fun x s =>
    if !s.fenced x.n then .fail .notIdle s
    else if s.get (F.STN_OB_FLUSH_FLUSHING x.n) ≠ 0 then .fail .busy s
    else .ok (s.unfence x.n))

/-- Sequence number q lies at or after f, modulo 2^32. -/
def seqGe (q f : Nat) : Bool := decide ((q + 2 ^ 32 - f % 2 ^ 32) % 2 ^ 32 < 2 ^ 31)

/-- The bytes of a late-error entry (Table 8.8). -/
def LateEnt.dat (e : LateEnt) : List Dat :=
  [.u32 (e.time.toNat % 2 ^ 32), .u32 (e.time.toNat / 2 ^ 32), .u32 e.seq, .u16 e.rid.toNat, .u8 e.ing, .u8 e.vs, .u8 e.node,
   .u8 e.discNode, .u8 e.discPort, .u8 e.cause, .u16 e.len, .u16 e.count, .u32 (e.addr.toNat % 2 ^ 32),
   .u32 (e.addr.toNat / 2 ^ 32)]

/-- LATE_READ: a partition manager receives the entries of its own virtual switch (R229); entries read are marked fetched. -/
def execLateRead (h : Hdr) (first count : B32) (s : State) : Res :=
  .next (s.serve (.lateRead h first count) { code := 0x0903, kind := .R, who := [.fm, .pm], forms := [.dev] } h
    [.u32 first.toNat, .u32 count.toNat] fun x s =>
      if count.toNat = 0 ∨ 127 < count.toNat then .fail .badParam s
      else
        let es := (s.late.log.filter fun e => seqGe e.seq first.toNat && (!x.isP || e.vs == x.vs)).take count.toNat
        let ids := es.map LateEnt.seq
        let f (e : LateEnt) : LateEnt := if ids.contains e.seq then { e with fetched := true } else e
        let q := match es with
          | e :: _ => e.seq
          | [] => first.toNat
        .read { s with late := { s.late with log := s.late.log.map f } } (Dat.u32 q :: es.flatMap LateEnt.dat))

/-- LATE_CLEAR (R226). -/
def execLateClear (h : Hdr) (s : State) : Res :=
  .next (s.serve (.lateClear h) { code := 0x0904, kind := .I, who := [.fm], forms := [.dev] } h [] fun _ s =>
    .ok { s with late := { s.late with log := [] } })

/-! ### Manager groups and trace rules (R159, R167, R173) -/

/-- A member of a manager group entry. -/
def State.groupWord (s : State) (g w : Nat) : Nat := (s.reg (groupAddr g w)).toNat
def State.groupHas (s : State) (g p : Nat) : Bool := bit (s.groupWord g (p / 32)) (p % 32)
def State.groupValid (s : State) (g : Nat) : Bool := bit (s.groupWord g 5) 0
def State.groupRes (s : State) (g : Nat) : Bool := bit (s.groupWord g 5) 1
def State.groupVs (s : State) (g : Nat) : Nat := bits (s.groupWord g 5) 2 5

/-- Groups with RESIDUE set: entries of the table that hold a word other than 0. -/
def State.resGroups (s : State) : Nat :=
  (s.regs.filter fun x => groupAddr 0 5 ≤ x.1 && decide (x.1 ≤ groupAddr 255 5) && (x.1 - groupAddr 0 5) % 0x20 == 0
    && bit x.2.toNat 0 && bit x.2.toNat 1).length

/-- Check of one staged group entry (R159). -/
def State.groupCheck (s : State) (g : Nat) : Option (Status × Nat) :=
  let ms := (List.range 160).filter (s.groupHas g)
  if !s.groupValid g then none
  else if ms.any fun p => !(s.exists p && !s.seamMode (stnOf p)) then some (.badParam, 0)
  else if ms.any fun p => !(s.vsOf p == s.groupVs g && (s.role p == 1 || s.role p == 2)) then some (.stagedConflict, 0)
  else if 8 < s.resGroups then some (.noResource, 0)
  else none

/-- STAGE_MGROUP. -/
def execStageMgroup (h : Hdr) (group : B8) (entry : List B32) (s : State) : Res :=
  .next (s.serve (.stageMgroup h group entry)
    { code := 0x0500, kind := .S, who := [.fm], forms := [.dev], len := entry.length == 8 } h
    ([.u8 group.toNat, .u8 0, .u8 0, .u8 0] ++ entry.map fun w => .u32 w.toNat) fun x s =>
      let g := group.toNat
      let w5 := (entry.getD 5 0).toNat % 128
      let ws := ((List.range 5).map fun w => regWhole (groupAddr g w) (entry.getD w 0).toNat) ++ [regWhole (groupAddr g 5) w5]
      s.stage_ x [.regs ws] 36 fun sc => sc.groupCheck g)

/-- A rule in force that copies to a trace port. -/
def State.traceOn (s : State) (r : Nat) : Bool := s.flag (F.MCT_TR_CTL_EN r) && !s.flag (F.MCT_TR_CTL_DEST r)

/-- R167's cross-checks: every trace port is a pool port, and a station has one. -/
def State.traceOk (s : State) : Bool :=
  let ps := ((List.range 16).filter s.traceOn).map fun r => s.get (F.MCT_TR_CTL_TRACE_PORT r)
  ps.all fun p => s.pciRole p == 3 && ps.all fun q => stnOf q != stnOf p || q == p

/-- STAGE_TRACE_RULE. -/
def execStageTraceRule (h : Hdr) (rule : B8) (ctl mtch rate : B32) (s : State) : Res :=
  .next (s.serve (.stageTraceRule h rule ctl mtch rate) { code := 0x0501, kind := .S, who := [.fm], forms := [.dev] } h
    [.u8 rule.toNat, .u8 0, .u8 0, .u8 0, .u32 ctl.toNat, .u32 mtch.toNat, .u32 rate.toNat] fun x s =>
      let r := rule.toNat
      if 16 ≤ r ∨ 143 < bits ctl.toNat 12 8 then .fail .badParam s
      else
        s.stage_ x [.regs [((F.MCT_TR_CTL_EN r).addr, 0x000FFFF7#32, ctl), ((F.MCT_TR_MATCH_ING_PORT r).addr, 0x007FFFFF#32, mtch),
            ((F.MCT_TR_RATE_N_M1 r).addr, 0x0000FFFF#32, rate)]] 16
          fun sc => if sc.traceOk then none else some (.stagedConflict, 0))

/-- The bytes of a sample entry (Table 6.2). -/
def Sample.dat (e : Sample) : List Dat :=
  [.u32 (e.time.toNat % 2 ^ 32), .u32 (e.time.toNat / 2 ^ 32), .u32 e.seq, .u8 e.rule, .u8 e.ing, .u8 e.dest, .u8 e.flags,
   .u16 e.rlen, .u16 0, .u32 e.btag.toNat] ++ e.head.map fun b => Dat.u8 b.toNat

/-- READ_SAMPLES: overwritten entries are skipped. -/
def execReadSamples (h : Hdr) (first count : B32) (s : State) : Res :=
  .next (s.serve (.readSamples h first count) { code := 0x0502, kind := .R, who := [.fm, .obs], forms := [.dev] } h
    [.u32 first.toNat, .u32 count.toNat] fun _ s =>
      if count.toNat = 0 ∨ 63 < count.toNat then .fail .badParam s
      else
        let es := (s.core.samples.filter fun e => seqGe e.seq first.toNat).take count.toNat
        let q := match es with
          | e :: _ => e.seq
          | [] => first.toNat
        .read s (Dat.u32 q :: es.flatMap Sample.dat))

end Sys2Proof.Machine
end

