-- ==== Sys2Proof/Machine/Ranges.lean ====
section
/-!
DEFINITION. Machine/Ranges.lean: what the tables say of the values a register may be staged with (BAD_PARAM, R395), and the board equalization
table's fields and their defaults (Table 2.5, R51).
-/

namespace Sys2Proof.Machine

/-- Fields of a lane entry with their lowest bit, width, upper limit and default (Table 2.5). -/
def eqFields : List (Nat × Nat × Nat × Nat) :=
  [(0, 4, 10, 4), (4, 4, 10, 4), (8, 4, 10, 4), (12, 4, 10, 4), (16, 4, 10, 4), (20, 4, 10, 4), (24, 4, 10, 5), (28, 4, 10, 5),
   (32, 4, 10, 5), (36, 4, 10, 5), (40, 3, 6, 3), (52, 4, 10, 5), (56, 4, 10, 5)]

/-- A lane entry with its reserved bit 43 at 0 and each field that is out of range replaced by its default, and the lowest bits of those
fields with the values replaced (R51). -/
def eqFix (v : Nat) : Nat × List (Nat × Nat) :=
  eqFields.foldl (fun (x : Nat × List (Nat × Nat)) f =>
    let c := bits x.1 f.1 f.2.1
    if f.2.2.1 < c then (x.1 - c * 2 ^ f.1 + f.2.2.2 * 2 ^ f.1, x.2 ++ [(f.1, c)]) else x) (setBit v 43 false, [])

/-- The bits of the fields that eqFix has replaced. -/
def eqMask (fs : List (Nat × Nat)) : Nat :=
  fs.foldl (fun m f => m ||| ((eqFields.find? fun x => x.1 == f.1).map fun x => (2 ^ x.2.1 - 1) * 2 ^ x.1).getD 0) 0

/-- The staged values of the register at address a lie within the limits its table states. -/
def State.regRange (s : State) (a : Nat) : Bool :=
  let within (f : Fld) (lo hi : Nat) : Bool := decide (lo ≤ s.get f) && decide (s.get f ≤ hi)
  match regFind a with
  | none => true
  | some (r, ix) =>
    match r.base, ix with
    | 0x01000000, [st] => bifurcValid (s.get (F.STN_LANE_MODE_BIFURC st))
    | 0x01000008, [st] => within (F.STN_TRAIN_CTL_ATTEMPT_TMO st) 16 255 && within (F.STN_TRAIN_CTL_SPARE_ERR_LIMIT st) 1 255
    | 0x01020000, [st, k] => within (F.STN_PORT_CFG_MAX_RATE st k) 0 6
        && (s.get (F.STN_PORT_CFG_ROLE st k) != 2 || within (F.STN_PORT_CFG_DEVNUM st k) 1 31)
    | 0x01020004, [st, k] => within (F.STN_PORT_SLOT_SLOT st k) 0 15 || s.get (F.STN_PORT_SLOT_SLOT st k) == 31
    | 0x02000004, _ => within F.CORE_PACE_THR_WARN_HS 600 1150 && within F.CORE_PACE_THR_WARN_BE 260 506
    | 0x02000010, _ => within F.CORE_STALL_CTL_STALL_TMO 5 100
    | 0x02000020, _ => within F.CORE_SIEVE_CTL_INTERVAL 1 1000
    | 0x010C0100, [st, q] =>
      let l := s.qlim st q
      let m := s.get (F.STN_OB_Q_CFG_QMIN st q)
      decide (m ≤ l) && (if q < 57 then decide (16 ≤ l ∧ l ≤ 2048) || s.get (F.STN_OB_Q_CFG_QLIM st q) == 0 && decide (q < 54)
        else if q = 57 then decide (l ≤ 8192)
        else if q < 62 then decide (256 ≤ l ∧ l ≤ 8192)
        else l == 0) && decide (s.sumQmin st ≤ 16384)
    | 0x010C0030, [st] => within (F.STN_OB_RES_CFG_RES_LIM st) 0 8192
    | 0x01040000, [st] => within (F.STN_CLS_CTL_CRT_TMO st) 1 255
    | 0x02101000, [n] => within (F.MCT_TR_CTL_TRACE_PORT n) 0 143
    | 0x01080000, [st] => within (F.STN_BB_CTL_RUN_TMO st) 1 100
    | 0x01021000, [st] => within (F.STN_SEAM_CFG_REPLAY_TMO st) 2 12 && within (F.STN_SEAM_CFG_BYP_TMO st) 1 8
        && within (F.STN_SEAM_CFG_DEAD_TMO st) 5 15 && within (F.STN_SEAM_CFG_LANE_CORR_LIMIT st) 4 255
        && decide (2 * s.get (F.STN_SEAM_RTT_RTT_LAST st) ≤ 1000 * s.get (F.STN_SEAM_CFG_REPLAY_TMO st))
    | 0x01021004, [st] => within (F.STN_SEAM_RES0_RES0 st) 160 65535 && within (F.STN_SEAM_RES0_RES1 st) 160 65535
    | 0x01021008, [st] => within (F.STN_SEAM_RES1_RES2 st) 160 65535 && within (F.STN_SEAM_RES1_RES3 st) 64 65535
    | 0x02200014, _ => within F.FAB_CTL_FORM_TMO 300 640 && within F.FAB_CTL_SEAL_ROUND_TMO 10 30
    | 0x02300000, _ => within F.SHT_CTL_CPL_TMO 1 255
    | 0x02340004, [n] => within (F.SHT_PNL_RING_SQ_ORDER n) 4 16 && within (F.SHT_PNL_RING_CQ_ORDER n) 4 16
    | 0x02340008, [n] => s.get (F.SHT_PNL_SQ_LO_SQ_BASE_LO n) % 4096 == 0
    | 0x02340010, [n] => s.get (F.SHT_PNL_CQ_LO_CQ_BASE_LO n) % 4096 == 0
    | 0x0238000C, [g] => s.get (F.SHT_GNT_SIZE_SIZE g) != 0
    | 0x00180000, [v, w] => within (F.ACW_EP_WIN_DBASE v w) 0 62
    | 0x02500000, _ => within F.PMC_CTL_READ_PERIOD 1 1000
    | 0x0014000C, _ => within F.ACW_WDT_CONFIRM_TMO 10 600
    | 0x00140020, _ => within F.ACW_THERM_CFG_WARN_C 70 100 && within F.ACW_THERM_CFG_HYST_C 1 10
    | 0x00140034, _ => within F.ACW_LOG_CTL_PERSIST_MINSEV 0 5
    | 0x00101000, [c] => within (F.ACW_CHAN_CFG_MAX_CLASS c) 0 3
    | 0x02400000, _ => within F.SPC_BUDGET_STAGGER_MS 5 100
    | 0x02400100, [n] => spcCfgOk n (s.reg a).toNat
    | _, _ => true

/-- The value a STAGE_REG item leaves as a masked write: a port queue's QLIM in full, once part of it is staged (log entry 5), and in a lane
entry word whole fields out of range replaced by their defaults (R51). -/

def State.normItem (s : State) (a : Nat) (m v : B32) : Nat × B32 × B32 :=
  match regFind a with
  | some (r, ix) =>
    match r.base, ix with
    | 0x010C0100, [st, q] =>
      if q < 54 ∧ m.toNat % 2 ^ 14 ≠ 0 then
        let new := (BitVec.ofNat 32 (s.qlim st q) &&& ~~~m ||| v &&& m).toNat % 2 ^ 14
        (a, m ||| 0x3FFF#32, BitVec.ofNat 32 (v.toNat / 2 ^ 14 * 2 ^ 14 + new))
      else (a, m, v)
    | 0x01001000, _ =>
      let new := (s.reg a &&& ~~~m ||| v &&& m).toNat
      let x := eqFix new
      (a, m ||| BitVec.ofNat 32 (eqMask x.2), BitVec.ofNat 32 x.1)
    | 0x01001004, _ =>
      let new := (s.reg a &&& ~~~m ||| v &&& m).toNat
      let x := eqFix (new * 2 ^ 32)
      (a, m ||| BitVec.ofNat 32 (eqMask x.2 / 2 ^ 32), BitVec.ofNat 32 (x.1 / 2 ^ 32))
    | _, _ => (a, m, v)
  | none => (a, m, v)

/-- 0x1010 for the fields that a lane entry has replaced: lane, lowest bit of the field and the value it held. -/
def State.eqRaise (s : State) (l : Nat) (fs : List (Nat × Nat)) : State :=
  fs.foldl (fun s f => s.raise (srcStn (l / 17)) 0x1010 2 (s.laneScope (l / 17) (l % 17)) [l, f.1, f.2]) s

/-- The same for a staged word of an entry. -/
def State.eqEvents (s : State) (a : Nat) (v : Nat) : State :=
  let st := (a - 0x01000000) / 0x100000
  let l := 17 * st + (a % 0x100000 - 0x1000) / 0x40
  let hi := a % 0x40 == 4
  s.eqRaise l (eqFix (if hi then v * 2 ^ 32 else v)).2

def isEqReg (a : Nat) : Bool :=
  match regFind a with
  | some (r, _) => r.base == 0x01001000 || r.base == 0x01001004
  | none => false

/-- A queue limit item that stages 0 for a port queue. -/
def zeroQlim (x : Nat × B32 × B32) : Bool :=
  match regFind x.1 with
  | some (r, [_, q]) => r.base == 0x010C0100 && decide (q < 54) && x.2.1.toNat % 2 ^ 14 == 2 ^ 14 - 1 && x.2.2.toNat % 2 ^ 14 == 0
  | _ => false

end Sys2Proof.Machine
end

