-- ==== Sys2Proof/Machine/RegAccess.lean ====
section
/-!
DEFINITION. Machine/RegAccess.lean: the register network as its initiators see it: reads with the views that are computed from
other state, wide quantities and their latches (R9), writes by access code (R10), the mailbox and counter registers that hosts
write (R349, R400), the power domain of each register (R14), and COUNTER_CLEAR's counters.
-/

namespace Sys2Proof.Machine

/-! ### Power domains of registers (R14, Table 1.1) -/

/-- The domain a register sits in; blocks that Table 1.1 does not place sit with GLB in PD62 (log entry 15). -/
def domainOf (a : Nat) : Nat :=
  if 0x01000000 ≤ a ∧ a < 0x02000000 then
    let st := (a - 0x01000000) / 0x100000
    if 0xC0000 ≤ a % 0x100000 ∧ a % 0x100000 < 0xE0000 then 48 + st / 2 else 16 + st
  else if 0x02008000 ≤ a ∧ a < 0x0200C000 then 56 + (a - 0x02008000) / 0x1000
  else if 0x02300000 ≤ a ∧ a < 0x02400000 then 60
  else if 0x02400000 ≤ a ∧ a < 0x02500000 then 63
  else if 0x00180000 ≤ a ∧ a < 0x00200000 then 61
  else 62

/-- A domain is on; PD63 with VAUX3. -/
def State.pdOn (s : State) (d : Nat) : Bool := if d = 63 then s.pow.stby else s.get (F.GLB_PD_STATE_STATE d) = 2

/-- The register lies in a block under block reset (Table 15.9). -/
def State.blocked (s : State) (a : Nat) : Bool :=
  match s.pow.block with
  | none => false
  | some (c, st) =>
    let o := a - (0x01000000 + 0x100000 * st)
    let inStn := decide (0x01000000 + 0x100000 * st ≤ a) && decide (o < 0x100000)
    if c = 0x01 then inStn && decide (0x20000 ≤ o ∧ o < 0x80000)
    else if c = 0x02 then inStn && decide (0x80000 ≤ o ∧ o < 0xC0000)
    else if c = 0x03 then inStn && decide (o < 0x20000)
    else if c = 0x10 then decide (0x02300000 ≤ a ∧ a < 0x02340000)
    else if c = 0x11 then a == 0x140024 || decide (0x140100 ≤ a ∧ a < 0x140180)
    else decide (0x02500000 ≤ a ∧ a < 0x02600000)

/-- An access to a register is answered: its domain is on, and its block is not being reset (R415). -/
def State.regOn (s : State) (a : Nat) : Bool := s.pdOn (domainOf a) && !s.blocked a

/-! ### Views -/

/-- Index of an instance of a register block: base, stride, count. -/
def instOf (a base stride count : Nat) : Option Nat :=
  if base ≤ a ∧ (a - base) % stride = 0 ∧ (a - base) / stride < count then some ((a - base) / stride) else none

/-- The 32-bit word at offset o of a byte string. -/
def wordAt (bs : Bytes) (o : Nat) : B32 := BitVec.ofNat 32 (leAt bs o 4)

/-- A sample ring entry of Table 6.2. -/
def sampleBytes (x : Sample) : Bytes :=
  leBytes 8 x.time.toNat ++ leBytes 4 x.seq ++ leBytes 1 x.rule ++ leBytes 1 x.ing ++ leBytes 1 x.dest ++ leBytes 1 x.flags
    ++ leBytes 2 x.rlen ++ leBytes 2 0 ++ leBytes 4 x.btag.toNat ++ slice x.head 0 40

/-- A counter sample entry of Table 12.7. -/
def pmcBytes (x : PmcSample) : Bytes :=
  leBytes 8 x.time.toNat ++ leBytes 4 x.seq ++ leBytes 1 x.unit ++ leBytes 1 x.counter ++ leBytes 2 0
    ++ (x.values.flatMap fun v => leBytes 4 v.toNat) ++ leBytes 16 0

/-- An event record (Table 13.9) with log sequence number `seq`. -/
def evBytes (seq : Nat) (e : Ev) : Bytes :=
  leBytes 8 e.time.toNat ++ leBytes 2 e.code ++ leBytes 1 e.sev ++ leBytes 1 e.src ++ leBytes 2 e.scope ++ leBytes 1 e.flags
    ++ leBytes 1 (seq % 256) ++ leBytes 16 (Config.packDetail e.code e.detail).toNat

/-- Word w of last-gasp record i (R421); a record never written reads as zero. -/
def State.gaspWord (s : State) (i w : Nat) : B32 :=
  match s.evs.gasp.find? fun x => x.1 == i with
  | some (_, e) => wordAt (evBytes i e) (4 * w)
  | none => 0

/-- The unit and offset of a counter unit register. -/
def pmuOf (a : Nat) : Option (Nat × Nat) :=
  ((List.range 22).find? fun u => decide (pmuBase u ≤ a) && decide (a < pmuBase u + 0x80)).map fun u => (u, a - pmuBase u)

/-- Word w of entry i of an engine's sample ring (Table 7.9): the entry with SEQ i modulo 32. -/
def State.engSample (s : State) (e i w : Nat) : B32 :=
  match (s.eng e).ring.find? fun x => x.toNat / 65536 % 65536 % 32 == i with
  | some x => BitVec.ofNat 32 (x.toNat / 2 ^ (32 * w))
  | none => 0

/-- The bytes of a late-error entry (Table 8.8). -/
def lateBytes (x : LateEnt) : Bytes :=
  leBytes 8 x.time.toNat ++ leBytes 4 x.seq ++ leBytes 2 x.rid.toNat ++ leBytes 1 x.ing ++ leBytes 1 x.vs ++ leBytes 1 x.node
    ++ leBytes 1 x.discNode ++ leBytes 1 x.discPort ++ leBytes 1 x.cause ++ leBytes 2 x.len ++ leBytes 2 x.count ++ leBytes 8 x.addr.toNat

/-- Word w of the late-error entry at index i (R226: entry SEQ at SEQ mod 1,024); an empty index reads as zero. -/
def State.lateWord (s : State) (i w : Nat) : B32 :=
  match s.late.log.find? fun x => x.seq % 1024 == i with
  | some x => wordAt (lateBytes x) (4 * w)
  | none => 0

/-- What a read of a register returns: its stored word, or the view of other state that the register is. -/
def State.regRead (s : State) (a : Nat) : B32 :=
  if a = F.FAB_TIME_LO_TIME_LO.addr then BitVec.ofNat 32 s.fabNow
  else if a = F.FAB_TIME_HI_TIME_HI.addr then BitVec.ofNat 32 (s.fabNow / 2 ^ 32)
  else if a = F.GLB_SS_TICKS_LO_TICKS_LO.addr then BitVec.ofNat 32 s.ssTicks
  else if a = F.GLB_SS_TICKS_HI_TICKS_HI.addr then BitVec.ofNat 32 (s.ssTicks / 2 ^ 32)
  else if 0x02610000 ≤ a ∧ a < 0x02618000 then s.lateWord ((a - 0x02610000) / 0x20) (a % 0x20 / 4)
  else if 0x400 ≤ a ∧ a < 0x600 then s.gaspWord ((a - 0x400) / 0x20) (a % 0x20 / 4)
  else if a = F.MCT_RES_GROUPS_COUNT.addr then BitVec.ofNat 32 s.resGroups
  else if a = F.SHT_READY_READY.addr then BitVec.ofNat 32 s.readyPanels.length
  else if 0x02108000 ≤ a ∧ a < 0x0210C000 then
    match s.core.samples.find? fun x => x.seq % 256 == (a - 0x02108000) / 0x40 with
    | some x => wordAt (sampleBytes x) ((a - 0x02108000) % 0x40)
    | none => 0
  else if 0x02508000 ≤ a ∧ a < 0x0250C000 then
    match s.ep.samples.find? fun x => x.seq % 256 == (a - 0x02508000) / 0x40 with
    | some x => wordAt (pmcBytes x) ((a - 0x02508000) % 0x40)
    | none => 0
  else if 0x02400100 ≤ a ∧ a < 0x02400100 + 0x20 * 17 ∧ (a - 0x02400100) % 0x20 = (F.SPC_THR_V_CB 0).addr - 0x02400100 then
    s.spcThrWord ((a - 0x02400100) / 0x20)
  else if 0x01000000 ≤ a ∧ a < 0x02000000 then
    let st := (a - 0x01000000) / 0x100000
    let o := a % 0x100000
    if a = (F.STN_OB_OWED_OWED st).addr then BitVec.ofNat 32 (s.owed st + s.sumQmin st * 65536)
    else if o = 0x40024 then
      let t := s.get (F.STN_CLS_TBL_ADDR_TABLE st)
      let i := s.get (F.STN_CLS_TBL_ADDR_INDEX st)
      let w := s.get (F.STN_CLS_TBL_ADDR_WORD st)
      BitVec.ofNat 32 (if s.flag (F.STN_CLS_TBL_ADDR_COPY st) then s.twShadow t st i w else s.tw t st i w)
    else if 0x21080 ≤ o ∧ o < 0x21090 then
      let c := (o - 0x21080) / 4
      BitVec.ofNat 32 ((s.seamOut st c % 65536).toNat + (s.seam st).occ c * 65536)
    else if 0x84000 ≤ o ∧ o < 0x85000 then s.engSample (16 * st + (o - 0x84000) / 0x100) ((o % 0x100) / 8) (o % 8 / 4)
    else match instOf o 0xC0100 8 64, instOf o 0xC0104 8 64 with
      | some q, _ => BitVec.ofNat 32 (s.qlim st q + s.get (F.STN_OB_Q_CFG_QMIN st q) * 65536)
      | none, some q => BitVec.ofNat 32 ((s.reg a).toNat / 65536 * 65536 + ((s.bank st).q q).occ)
      | none, none => s.reg a
  else s.reg a

/-! ### Wide quantities (R9) -/

/-- The chained pair of a counter unit that starts at even counter a (R346). -/
def State.chainedAt (s : State) (a : Nat) : Bool :=
  match pmuOf a with
  | some (u, o) => decide (0x40 ≤ o) && decide (o < 0x60) && (o - 0x40) % 8 == 0
      && s.flag (F.PMU_CNT_CTL_CHAIN u ((o - 0x40) / 4 + 1))
  | none => false

/-- Rows that hold the low word of a wide quantity; its high word follows. -/
def wideLows : List Nat :=
  [0x01001000, 0x01001014, 0x0100101C, 0x01040014, 0x01081004, 0x0108100C, 0x02200008, 0x02200020, 0x02301004, 0x02340008, 0x02340010,
   0x02380004, 0x02501000, 0x00100004, 0x40, 0x02201000]

/-- Low words of wide quantities that lie in rings and records: engine samples (Table 7.9), and TIME, and ADDR of a late error, in the
entries of Tables 6.2, 8.8, 12.7 and 13.9. -/
def ringLow (a : Nat) : Bool :=
  let o := a % 0x100000
  (decide (0x01000000 ≤ a ∧ a < 0x02000000 ∧ 0x84000 ≤ o ∧ o < 0x85000) && a % 8 == 0)
    || (decide (0x02108000 ≤ a ∧ a < 0x0210C000) && a % 0x40 == 0) || (decide (0x02508000 ≤ a ∧ a < 0x0250C000) && a % 0x40 == 0)
    || (decide (0x02610000 ≤ a ∧ a < 0x02618000) && (a % 0x20 == 0 || a % 0x20 == 0x18))
    || (decide (0x400 ≤ a ∧ a < 0x600) && a % 0x20 == 0)

/-- A register is the low word of a wide quantity. -/
def State.wideLow (s : State) (a : Nat) : Bool :=
  s.chainedAt a || ringLow a || (match regFind a with
    | some (r, _) => wideLows.contains r.base
    | none => false)

/-- One read by an initiator: a low word loads its latch with the high word, and a high word the latch holds is taken from it. -/
def State.readBy (s : State) (init a : Nat) : State × B32 :=
  let v := s.regRead a
  let setL (x : Option (Nat × B32)) : State := { s with ep := { s.ep with latch := SMap.set (fun _ => none) s.ep.latch init x } }
  if s.wideLow a then (setL (some (a + 4, s.regRead (a + 4))), v)
  else match SMap.get (fun _ => none) s.ep.latch init with
    | some (h, w) => if h = a then (setL none, w) else (s, v)
    | none => (s, v)

/-! ### Mailbox registers (R383, R385, R400) -/

/-- A write of ACW_MBX_CFG: setting EN clears HEAD, TAIL and FAULT; while EN is set, ORDER, VEC and MBX_BASE keep their values; an ORDER
outside 2 to 8 is not taken. -/
def State.mbxCfgWrite (s : State) (v x : Nat) : State :=
  let was := s.flag (F.ACW_MBX_CFG_EN v)
  let en := bit x 0
  let s := s.putB (F.ACW_MBX_CFG_VEC_EN v) (bit x 16)
  let o := bits x 4 4
  let s := if was then s
    else
      let s := s.put (F.ACW_MBX_CFG_VEC v) (bits x 8 8)
      if 2 ≤ o ∧ o ≤ 8 then s.put (F.ACW_MBX_CFG_ORDER v) o else s
  let s := if en && !was then
      let s := ((s.put (F.ACW_MBX_HEAD_HEAD v) 0).put (F.ACW_MBX_HEAD_PHASE v) 1).put (F.ACW_MBX_TAIL_TAIL v) 0
      (s.putB (F.ACW_MBX_STATUS_FAULT v) false).put (F.ACW_MBX_STATUS_CAUSE v) 0
    else s
  s.putB (F.ACW_MBX_CFG_EN v) en

/-- A write of ACW_MBX_TAIL: stored; out of range it stops the ring once Aclia looks at it. -/
def State.mbxTailWrite (s : State) (v x : Nat) : State :=
  let s := s.put (F.ACW_MBX_TAIL_TAIL v) x
  if s.acl.up && s.flag (F.ACW_MBX_CFG_EN v) && !s.flag (F.ACW_MBX_STATUS_FAULT v)
      && decide (2 ^ s.get (F.ACW_MBX_CFG_ORDER v) ≤ x % 256) then s.ringFault v 2 (s.get (F.ACW_MBX_HEAD_HEAD v))
  else s

/-! ### Counter units as registers (Table 12.9) -/

/-- CLR of one counter: cleared, with CHG set. -/
def State.cntClr (s : State) (u c : Nat) : State := (s.put (F.PMU_CNT_VALUE u c) 0).putB (F.PMU_CNT_CTL_CHG u c) true

/-- CLR_ALL: every counter and OVF bit of the unit. -/
def State.unitClr (s : State) (u : Nat) : State :=
  (List.range 8).foldl (fun s c => (s.cntClr u c).putB (F.PMU_CNT_CTL_OVF u c) false) s

/-- A write inside a counter unit. -/
def State.pmuWrite (s : State) (u o : Nat) (v : Nat) : State :=
  if o = 0 then
    let s := s.putB (F.PMU_UNIT_CTL_RUN u) (bit v 0)
    if bit v 1 then s.unitClr u else s
  else if 0x10 ≤ o ∧ o < 0x30 then
    let c := (o - 0x10) / 4
    let a := (F.PMU_CNT_CTL_EVSEL u c).addr
    let old := (s.reg a).toNat
    let s := if bits old 0 19 = bits v 0 19 then s
      else (s.setReg a (BitVec.ofNat 32 (old / 2 ^ 19 * 2 ^ 19 + bits v 0 19))).putB (F.PMU_CNT_CTL_CHG u c) true
    let s := if bit v 19 then s.putB (F.PMU_CNT_CTL_OVF u c) false else s
    if bit v 31 then s.cntClr u c else s
  else if 0x60 ≤ o ∧ o < 0x80 then s.put (F.PMU_PRELOAD_PRELOAD u ((o - 0x60) / 4)) v
  else s

/-! ### Writes (R10) -/

/-- A lane's margin point by a write of STN_LN_MARGIN_CTL. -/
def State.marginWrite (s : State) (st l v : Nat) : State :=
  if bit v 31 && s.inMeasure st l && !s.flag (F.STN_LN_MARGIN_STAT_BUSY st l) then
    s.marginStart st l (int7 (bits v 0 7)) (int7 (bits v 8 7)) (bits v 16 2) (bits v 20 4)
  else s.maskReg (F.STN_LN_MARGIN_CTL_T_OFF st l).addr (regMask (· == .rw) (F.STN_LN_MARGIN_CTL_T_OFF st l).addr) (BitVec.ofNat 32 v)

/-- A write into the shadow copy of a register (R10): normalised and judged like a staged item, on top of the writes that wait there; one out of
its table's range changes nothing. -/
def State.shadowWrite (s : State) (a : Nat) (m v : B32) : State :=
  let waiting := s.tbl.regShadow.foldl (fun t x => t.maskReg x.1 x.2.1 x.2.2) s
  let x := waiting.normItem a m v
  if zeroQlim x || !(waiting.maskReg x.1 x.2.1 x.2.2).regRange a then s
  else
    let s : State := { s with tbl := { s.tbl with regShadow := s.tbl.regShadow ++ [x] } }
    if isEqReg a then s.eqEvents a ((waiting.reg a &&& ~~~m) ||| (v &&& m)).toNat else s

/-- A write of a register by its access codes: RW and RWS bits take the value, RW1C bits written 1 clear, RWC and QO bits go to the shadow
copy until the next COMMIT, and the rest is ignored. -/
def State.plainWrite (s : State) (a : Nat) (v : B32) : State :=
  let now := regMask (fun c => c == .rw || c == .rws) a
  let clr := regMask (· == .rw1c) a
  let shadow := regMask (fun c => c == .rwc || c == .qo) a
  let s := s.maskReg a now v
  let s := s.setReg a (s.reg a &&& ~~~(clr &&& v))
  if shadow = 0 then s else s.shadowWrite a shadow v

/-- A write of STN_LN_PRBS_CTL: CLR clears in every stage; the rest sets up a measurement, which only a lane whose port is in MEASURE may have
(R56), with a pattern its rate allows. -/
def State.prbsWrite (s : State) (st l n : Nat) : State :=
  if s.inMeasure st l && patternOk (bits n 1 3) (bits n 8 3) then
    s.prbsSet st l (bit n 0) (bit n 4) (bit n 5) (bit n 6) (bit n 7) (bits n 1 3) (bits n 8 3)
  else if bit n 7 then (s.prbsAdvance st l).prbsClear st l else s

/-- A write of a register, with what the write itself does. -/
def State.regWrite (s : State) (a : Nat) (v : B32) : State :=
  let n := v.toNat
  match instOf a 0x00100000 0x40 32, instOf a 0x00100004 0x40 32, instOf a 0x00100008 0x40 32, instOf a 0x0010000C 0x40 32 with
  | some i, _, _, _ => s.mbxCfgWrite i n
  | none, some i, _, _ => if s.flag (F.ACW_MBX_CFG_EN i) then s else s.plainWrite a v
  | none, none, some i, _ => if s.flag (F.ACW_MBX_CFG_EN i) then s else s.plainWrite a v
  | none, none, none, some i => s.mbxTailWrite i n
  | none, none, none, none =>
    match pmuOf a with
    | some (u, o) => s.pmuWrite u o n
    | none =>
      let st := (a - 0x01000000) / 0x100000
      let o := (a - 0x01000000) % 0x100000
      if a < 0x01000000 ∨ 0x02000000 ≤ a then s.plainWrite a v
      else if o = 0x40024 then
        let k := tkey (s.get (F.STN_CLS_TBL_ADDR_TABLE st)) st (s.get (F.STN_CLS_TBL_ADDR_INDEX st)) (s.get (F.STN_CLS_TBL_ADDR_WORD st))
        let sh := tableShape (s.get (F.STN_CLS_TBL_ADDR_TABLE st))
        let ok := decide (s.get (F.STN_CLS_TBL_ADDR_TABLE st) < 4 ∧ s.get (F.STN_CLS_TBL_ADDR_INDEX st) < sh.2 ∧ s.get (F.STN_CLS_TBL_ADDR_WORD st) < sh.1)
        if ok && s.flag (F.STN_CLS_TBL_ADDR_COPY st) then { s with tbl := { s.tbl with shadow := s.tbl.shadow ++ [(k, v)] } } else s
      else match instOf o 0x100C 0x40 17, instOf o 0x1024 0x40 17, instOf o 0x81018 0x40 16 with
        | some l, _, _ => s.prbsWrite st l n
        | none, some l, _ => s.marginWrite st l n
        | none, none, some e => (s.plainWrite a v).modEng (16 * st + e) fun x => { x with count := 0, due := none }
        | none, none, none => s.plainWrite a v

/-- Whether the host of virtual switch v may write a register (R349, R400): its own mailbox block, or a counter unit whose control it has
been granted. -/
def State.hostWritable (s : State) (v a : Nat) : Bool :=
  regHost a && (match pmuOf a with
    | some (u, _) => s.flag (F.PMC_GRANT_CTL_EN u) && s.get (F.PMC_GRANT_CTL_VS u) == v
    | none => decide (0x00100000 + 0x40 * v ≤ a) && decide (a < 0x00100000 + 0x40 * (v + 1)))

/-! ### Saturating counters (COUNTER_CLEAR) -/

/-- Rows of the tables that hold saturating counters, with the bits the counters take (log entry 18). -/
def counterRows : List (Nat × Nat) :=
  [(0x01001010, 0xFF00), (0x01001014, 0xFFFFFFFF), (0x01001018, 0xFFFF), (0x0100101C, 0xFFFFFFFF), (0x01001020, 0xFFFF),
   (0x02000018, 0xFFFFFFFF), (0x010C0010, 0xFFFFFFFF), (0x010C0014, 0xFFFFFFFF), (0x010C001C, 0xFFFFFFFF), (0x010C0020, 0xFFFFFFFF),
   (0x010C0024, 0xFFFFFF), (0x010C0038, 0xFFFFFFFF), (0x010C0004, 0xFFFF0000), (0x010C0034, 0x3FFF0000),
   (0x01040008, 0xFFFFFFFF), (0x0104000C, 0xFFFFFFFF), (0x01040140, 0xFFFF0000),
   (0x02100008, 0xFFFFFFFF), (0x0210100C, 0xFFFFFFFF), (0x02101010, 0xFFFFFFFF), (0x02101014, 0xFFFFFFFF), (0x01080018, 0xFFFFFFFF)]
  ++ [(0x01080020, 0xFFFFFFFF), (0x01081000, 0x3FC0), (0x01081004, 0xFFFFFFFF), (0x01081008, 0xFFFF), (0x0108100C, 0xFFFFFFFF),
   (0x01081010, 0xFFFF), (0x01081014, 0xFFFFFFFF), (0x0108101C, 0xFFFFFF00), (0x01020A00, 0xFFFF3F00), (0x01020A04, 0xFFFFFFFF),
   (0x01020A08, 0xFFFFFFFF), (0x01020A0C, 0xFFFFFFFF), (0x02600004, 0xFFFFFFFF), (0x02600200, 0xFFFFFFFF), (0x01021040, 0xFFFFFFFF),
   (0x01021044, 0xFFFFFFFF), (0x01021048, 0xFFFFFFFF), (0x0102104C, 0xFFFFFFFF), (0x01021050, 0xFFFFFFFF), (0x01021054, 0xFFFFFFFF)]
  ++ [(0x02200028, 0xFFFFFFFF), (0x0220002C, 0xFFFFFFFF), (0x0230000C, 0xFFFFFFFF), (0x02300010, 0xFFFFFFFF), (0x02300014, 0xFFFFFFFF),
   (0x02301004, 0xFFFFFFFF), (0x02301008, 0xFFFF), (0x00180800, 0xFFFF), (0x00180C00, 0xFFFFFFFF), (0x00180C04, 0xFFFFFFFF),
   (0x00180C08, 0xFFFF0000), (0x0250000C, 0xFFFFFFFF), (0x0014000C, 0xFFFF), (0x00140038, 0xFFFFFFFF), (0x00101000, 0xFFFF0000),
   (0x00000024, 0xFFFFFFFF), (0x00000050, 0xFFFF0000), (0x00000100, 0xFF00), (0x00000204, 0xFFFFFFFF), (0x02400114, 0xFFFFFFFF)]

/-- The counter bits of a register. -/
def counterMask (a : Nat) : Nat :=
  match regFind a with
  | some (r, _) => ((counterRows.find? fun x => x.1 == r.base).map Prod.snd).getD 0
  | none => 0

/-- Registers that hold a mark since last cleared beside the count it follows: row, bits of the count, place of the mark (LOW_WATER,
RES_HWM, HWM). A cleared mark starts again from the count of the moment (log entry 18). -/
def markRows : List (Nat × Nat × Nat) := [(0x010C0004, 16, 16), (0x010C0034, 14, 16), (0x01020A00, 6, 8)]

/-- Start the mark of a register again. -/
def State.clearMark (s : State) (a : Nat) : State :=
  match regFind a with
  | some (r, _) => match markRows.find? fun x => x.1 == r.base with
    | some (_, w, at_) => s.setReg a (s.reg a ||| BitVec.ofNat 32 ((s.reg a).toNat % 2 ^ w * 2 ^ at_))
    | none => s
  | none => s

/-- Clear the counters of one register. -/
def State.clearCounter (s : State) (a : Nat) : State := (s.maskReg a (BitVec.ofNat 32 (counterMask a)) 0).clearMark a

/-- Clear every counter at addresses that satisfy p: a register not listed holds none that has counted. -/
def State.clearCounters (s : State) (p : Nat → Bool) : State :=
  ((s.regs.map Prod.fst).filter fun a => p a && counterMask a != 0).foldl State.clearCounter s

/-! ### Opcodes and events on single registers -/

/-- COUNTER_CLEAR: one counter register, or every saturating counter of the scope. -/
def execCounterClear (h : Hdr) (addr : B32) (s : State) : Res :=
  .next (s.serve (.counterClear h addr) { code := 0x0C00, kind := .I, who := [.fm], forms := [.dev, .stn] } h [.u32 addr.toNat] fun x s =>
    let a := addr.toNat
    let mine (a : Nat) : Bool := x.form == .dev || (decide (0x01000000 + 0x100000 * x.n ≤ a) && decide (a < 0x01100000 + 0x100000 * x.n))
    let s := s.prbsAdvanceAll
    if a = 0 then .ok (s.clearCounters mine)
    else if counterMask a = 0 || !mine a then .fail .badParam s
    else .ok (s.clearCounter a))

/-- REGISTER_LOW_READ: initiators 0 to 3 the Aclia cores, 4 the central reader, 5 + v the proxy for VSv. -/
def execRegisterLowRead (init : Fin 37) (addr : Nat) (s : State) : Res :=
  .next (if s.wideLow addr && s.regOn addr then (s.prbsAdvanceAll.readBy init addr).1 else s)

/-- REGISTER_WRITE. -/
def execRegisterWrite (init : Fin 37) (addr : Nat) (val : B32) (s : State) : Res :=
  .next (
    if addr % 4 != 0 || !s.regOn addr then s
    else if init.val < 5 then s.regWrite addr val
    else if s.hostWritable (init.val - 5) addr then s.regWrite addr val
    else s)

/-- BRIDGE_RETRY (R339): the initiator keeps nothing at the bridge; RETRIES counts. -/
def execBridgeRetry (_init : Fin 5) (s : State) : Res := .next ((s.bump F.ACW_EP_BRIDGE_RETRIES).count 21 0x42 16 0 0 1)

/-- MAILBOX_ENABLE: a host writes ACW_MBX_CFG. -/
def execMailboxEnable (v : VsId) (cfg : B32) (s : State) : Res := .next (s.mbxCfgWrite v cfg.toNat)

/-- MAILBOX_TAIL_WRITE. -/
def execMailboxTailWrite (v : VsId) (tail : B8) (s : State) : Res := .next (s.mbxTailWrite v tail.toNat)

/-- PMU_CLR_ALL. -/
def execPmuClrAll (u : Pmu) (s : State) : Res := .next (s.unitClr u)

/-- PMU_COUNTER_CLR. -/
def execPmuCounterClr (u : Pmu) (c : Fin 8) (s : State) : Res := .next (s.cntClr u c)

end Sys2Proof.Machine
end

