-- ==== Sys2Proof/Machine/Route.lean ====
section
/-!
DEFINITION. Machine/Route.lean: stages 2 to 6 of the classifier (Table 5.1) as shared operations: requester and window lookups with
their uncorrectable words (R129, R134), route resolution (Table 5.2), ACS, permissions (R130), translation (R131, R143, R467),
refusals (R132), the capability groups of chapter 6 (R156, R158) and the fabric's carriage fields (R280, R284). What the host programs
in configuration space is read as PCI Express Base Specification 7.0 places it (log entry 11).
-/

namespace Sys2Proof.Machine

/-! ### What enters, and from where -/

/-- Where a TLP enters a virtual switch (R122): its upstream port, a downstream port, endpoint function fn, the virtual downstream port of
a lending, that of a home binding (R294), or an export entry (R296). -/
inductive Origin where
  | usp (p : Nat)
  | dsp (p : Nat)
  | ep (fn : Bool)
  | vdp (st i : Nat)
  | home (hi : Nat)
  | exp (g : Nat)
  deriving DecidableEq, Repr

/-- A TLP comes from below the virtual switch. -/
def Origin.below : Origin → Bool
  | .dsp _ | .ep _ | .vdp .. | .home _ => true
  | .usp _ | .exp _ => false

/-- The context of stage 2: source of the flight (port, 256 + v for an endpoint channel, Seam port), classifying station, origin, ingress
virtual switch, ingress port and node as records name them, class and ingress VC, requester class with the entry it came from, PROG_SRC,
lending, Requester ID and tag as received, SVS of a record from another node, units and class it holds of a Seam link. -/
structure Cx where
  src : Nat
  stn : Nat
  org : Origin
  vs : Nat
  ing : Nat
  node : Nat
  cls : Nat
  vc : Nat
  rclass : Nat := 0
  req : Nat := 0xFFFF
  prog : Nat := 0
  lend : Nat := 0xFFFF
  rid0 : B16 := 0
  tag0 : B16 := 0
  svs : Nat := 0xFF
  units : Nat := 0
  scls : Nat := 0
  deriving DecidableEq, Repr

/-- Why stage 3 or 4 stops a TLP: a row of Table 5.6 (row 2 with the ACS control, row 4 as stage 3 finds it at DKIND 2 or 3, row 6 with table
and index), the permission row under an export (R296), an unclaimed completion, or consumed without a trace. -/
inductive Stop where
  | row (n : Nat)
  | dkind
  | expDenied
  | acs (control : Nat)
  | bad (table idx : Nat)
  | unexpected
  | owner (i : Nat)
  | gone
  deriving DecidableEq, Repr

/-- A destination: a port of this device, an endpoint function, or another node with DEST_PORT and ARG (Table 10.2). -/
inductive Tgt where
  | port (p : Nat)
  | ep (v : Nat) (fn : Bool)
  | node (n dport arg : Nat)
  deriving DecidableEq, Repr

/-- A route that stages 3 to 5 have found: destinations, the TLP as stage 5 leaves it, the return entry its request needs, whether it is a
capability group's copy or a manager group served through the residue store, ports that block their copy with the cause, DEST of Table 7.2,
and what its window hit adds to the context. -/
structure Way where
  tgts : List Tgt
  t : Tlp
  crt : Option CrtNeed := none
  mc : Bool := false
  res : Bool := false
  repl : Bool := false
  blocked : List (Nat × Nat) := []
  dest : Nat
  win : Nat := 0xFFFF
  agroup : Nat := 0
  prog : Bool := false
  deriving DecidableEq, Repr

/-- Posted, non-posted, completion (stage 1). -/
def tlpClass (t : Tlp) : Nat :=
  match t.kind with
  | .mwr | .msg => 0
  | .mrd | .atomic | .cfgRd | .cfgWr | .other => 1
  | .cpl | .cpld => 2

/-! ### Changed headers (R143, R467) -/


/-- A TLP with changed fields: its header bytes spell them. -/
def reheader (t u : Tlp) : Tlp := if u = t then t else { u with hdr := Config.hdrBytes u }

/-- A translated address, with the length of the address format it needs (R467). -/
def readdress (t : Tlp) (a : Nat) : Tlp :=
  let old := t.addr.toNat
  let len := if old < 2 ^ 32 ∧ 2 ^ 32 ≤ a then t.len + 4 else if 2 ^ 32 ≤ old ∧ a < 2 ^ 32 then t.len - 4 else t.len
  { t with addr := BitVec.ofNat 64 a, len := len }

/-! ### Bridge windows and bus numbers as hosts programmed them -/

/-- Memory and prefetchable windows of a bridge, from its configuration doublewords. -/
def bridgeWins (g : Nat → Nat) : List (Nat × Nat) :=
  let m := g ofMEM
  let p := g ofPREF
  [(bits m 4 12 * 2 ^ 20, bits m 20 12 * 2 ^ 20 + 0xFFFFF),
   (bits p 4 12 * 2 ^ 20 + g ofPREFB * 2 ^ 32, bits p 20 12 * 2 ^ 20 + 0xFFFFF + g ofPREFL * 2 ^ 32)]

def inWins (g : Nat → Nat) (a : Nat) : Bool := (bridgeWins g).any fun w => decide (w.1 ≤ a) && decide (a ≤ w.2)

/-- Memory Space Enable and Bus Master Enable of a port. -/
def State.portMse (s : State) (p : Nat) : Bool := bit (s.cw p ofCMD) 1
def State.portBme (s : State) (p : Nat) : Bool := bit (s.cw p ofCMD) 2

/-- Secondary to subordinate range of a bridge. -/
def inBuses (sec sub bus : Nat) : Bool := sec != 0 && decide (sec ≤ bus) && decide (bus ≤ sub)

/-- Bindings of Table 10.8. -/
def State.bw (s : State) (i w : Nat) : Nat := (s.reg (bindAddr0 i w)).toNat
where bindAddr0 (i w : Nat) : Nat := 0x02205000 + 0x10 * i + 4 * w
def State.bindValid (s : State) (i : Nat) : Bool := bit (s.bw i 0) 0
def State.bindFar (s : State) (i : Nat) : Bool := bit (s.bw i 0) 1
def State.bindState (s : State) (i : Nat) : Nat := bits (s.bw i 0) 2 2
def State.bindVs (s : State) (i : Nat) : Nat := bits (s.bw i 0) 4 5
def State.bindVdev (s : State) (i : Nat) : Nat := bits (s.bw i 0) 9 5
def State.bindVport (s : State) (i : Nat) : Nat := bits (s.bw i 0) 14 8
def State.bindFarNode (s : State) (i : Nat) : Nat := bits (s.bw i 1) 0 8
def State.bindFarPort (s : State) (i : Nat) : Nat := bits (s.bw i 1) 8 8
def State.bindHomeNode (s : State) (i : Nat) : Nat := bits (s.bw i 1) 16 8
def State.bindHomeIdx (s : State) (i : Nat) : Nat := bits (s.bw i 1) 24 6

/-- Home bindings of a virtual switch. -/
def State.homes (s : State) (v : Nat) : List Nat :=
  (List.range 64).filter fun i => s.bindValid i && !s.bindFar i && s.bindVs i == v

/-- The far binding that holds a pool port. -/
def State.farOf (s : State) (p : Nat) : Option Nat :=
  (List.range 64).find? fun i => s.bindValid i && s.bindFar i && s.bindFarPort i == p

/-- A configuration doubleword of home binding i's virtual downstream port. -/
def State.homeDw (s : State) (i off : Nat) : Nat := s.vdp 16 i 0 off

/-- Lendings whose borrower is virtual switch v, as (station, index). -/
def State.borrowed (s : State) (v : Nat) : List (Nat × Nat) := s.allLends.filter fun x => s.lendVs x.1 x.2 == v

/-- The lendings whose physical function sits below a port. -/
def State.lendsOn (s : State) (p : Nat) : List Nat := (s.lends (stnOf p)).filter fun i => s.lendPort (stnOf p) i == p

/-- Base address and size of BAR pair b (0, 1, 2) of an endpoint function (Table 12.1), as its host programmed it. -/
def epBar (f : EpFn) (fn : Bool) (b : Nat) : Nat × Nat :=
  let size := match fn, b with
    | false, 0 => 2 ^ 24 | false, 1 => 2 ^ 16 | false, 2 => 2 ^ 20
    | true, 0 => 2 ^ 16 | true, 1 => 2 ^ 24 | _, _ => 0
  let lo := f.dw (0x10 + 8 * b)
  ((lo - lo % 16 + f.dw (0x14 + 8 * b) * 2 ^ 32) / (max size 1) * size, size)

/-- The endpoint function and BAR of virtual switch v that claim an address: with Memory Space Enable, or from above, where R333 answers
for a function that responds to nothing. -/
def State.epClaims (s : State) (v a : Nat) (above : Bool) : Option (Bool × Nat) :=
  let hit (fn : Bool) (b : Nat) : Bool :=
    let f := (s.vs v).fn fn
    let x := epBar f fn b
    x.2 != 0 && decide (x.1 ≤ a) && decide (a < x.1 + x.2) && ((f.mse && !f.d3) || (above && x.1 != 0))
  [(false, 0), (false, 1), (false, 2), (true, 0), (true, 1)].find? fun x => hit x.1 x.2

/-! ### Stage 2: requesters (R129, R134) -/

/-- The requester entry a TLP takes: an entry, the port default (none), or the uncorrectable entry its lookup meets. -/
def State.requester (s : State) (st rid port : Nat) : Except Nat (Option Nat) :=
  match s.reqFind st rid port with
  | some i => .ok (some i)
  | none => match (bucketIdxs (bucketOf rid port)).find? fun i => s.entryBad tReq st i 2 with
    | some i => .error i
    | none => .ok none

/-! ### Stage 3: windows (R126, R134) -/

inductive WinLook where
  | hit (w : Win)
  | bad (idx : Nat)
  | miss

/-- The words that hold VALID, VS, BASE and LIMIT of a window entry are sound. -/
def State.winSound (s : State) (st i : Nat) : Bool := [0, 2, 3, 4, 5].all fun w => !s.twBad tWin st i w

def State.winBads (s : State) (st : Nat) : List Nat :=
  squash ((s.tbl.bad.filter fun k => k / 32 / 65536 == tWin * 16 + st).map fun k => k / 32 % 65536)

/-- The window lookup of one address in one virtual switch at station st. -/
def State.winLook (s : State) (st v a : Nat) : WinLook :=
  let covers (w : Win) : Bool := w.valid && w.vs == v && decide (w.base ≤ a) && decide (a ≤ w.limit)
  match (s.tIdxs tWin st).find? fun i => s.winSound st i && covers (s.win st i) with
  | some i => if s.entryBad tWin st i 8 then .bad i else .hit (s.win st i)
  | none =>
    match (s.winBads st).find? fun i => !s.winSound st i
        && (s.twBad tWin st i 0 || ((s.win st i).valid && (s.win st i).vs == v)) with
    | some i => .bad i
    | none => .miss

/-! ### Multicast capability groups (R156, R158) -/

/-- The capability group an address hits at a port: MC_Enable, MC_Base, MC_Index_Position, MC_Num_Group. -/
def State.mcGroup (s : State) (p a : Nat) : Option Nat :=
  let ctl := s.cw p ofMCCAP
  let b := s.cw p ofMCBASE
  let pos := bits b 0 6
  let base := b / 4096 * 4096 + s.cw p (ofMCBASE + 4) * 2 ^ 32
  if bit ctl 31 && decide (base ≤ a) && decide (a < base + 2 ^ pos * (bits ctl 16 6 + 1)) then some ((a - base) / 2 ^ pos) else none

/-- A 64-bit configuration value. -/
def State.cw64 (s : State) (p off : Nat) : Nat := s.cw p off + s.cw p (off + 4) * 2 ^ 32

/-- Members of a capability group, and those of them that block the copy (R158) with the cause as event 0x2501 gives it, numbered by the
model: 1 MC_Block_All, 2 MC_Block_Untranslated (log entry 12). -/
def State.mcMembers (s : State) (v ing g : Nat) (untr : Bool) : List Nat × List (Nat × Nat) :=
  let all := (s.vsPorts v).filter fun p => p != ing && bit (s.cw p ofMCCAP) 31 && bit (s.cw64 p ofMCRCV) g
  let cause (p : Nat) : Nat :=
    if s.pciRole p != 2 then 0 else if bit (s.cw64 p ofMCBLK) g then 1 else if untr && bit (s.cw64 p ofMCBLKU) g then 2 else 0
  (all.filter fun p => cause p == 0, (all.filter fun p => cause p != 0).map fun p => (p, cause p))

/-! ### Manager groups (Table 6.1) -/

def State.grpWord (s : State) (g w : Nat) : Nat := (s.reg (0x02102000 + 0x20 * g + 4 * w)).toNat
/-- The virtual switch that holds every member of a group. -/
def State.grpVs (s : State) (g : Nat) : Nat := bits (s.grpWord g 5) 2 5
/-- A port is an upstream or downstream port of virtual switch v. -/
def State.portIn (s : State) (p v : Nat) : Bool := (s.pciRole p == 1 || s.pciRole p == 2) && s.vsOf p == v
def State.grpMembers (s : State) (g : Nat) : List Nat :=
  allPorts.filter fun p => bit (s.grpWord g (p / 32)) (p % 32) && s.portIn p (s.grpVs g)

/-! ### Proxies (R131, R297) -/

/-- The virtual switch that holds a destination port. -/
def State.destVs (s : State) (p : Nat) : Nat := s.vsOf p

/-- Stage 5's substitution of the requester by proxy function fn of virtual switch v; a non-posted request needs a return entry. -/
def State.proxied (s : State) (cx : Cx) (v fn : Nat) (lent : Bool) (idx : Nat) (t : Tlp) : Except Stop (Tlp × Option CrtNeed) :=
  match s.proxyId v fn with
  | none => .error (.row 8)
  | some id =>
    let need : CrtNeed := { rid := cx.rid0, tag := cx.tag0, port := if cx.ing = 0xFE then 0xFF else cx.ing, lent := lent, idx := idx,
                            fret := fn == 6, node := cx.node, vs := if fn = 6 then cx.svs else cx.vs }
    .ok ({ t with rid := id }, if cx.cls = 1 then some need else none)

/-! ### Routes by address -/

/-- The borrower's lending behind a hardware window (R139), as (station, index). -/
def State.hwLend (s : State) (w : Win) : Option (Nat × Nat) :=
  let st := stnOf w.dest
  ((s.lendsOn w.dest).find? fun i => s.lendVs st i == w.vs
    && (List.range 6).any fun k => s.lendOrd st i k != 0 && s.lendBorrow st i k == w.base).map fun i => (st, i)

/-- A request takes the proxy ID of a virtual switch (R131). One that a lent function itself issues is not proxied: it keeps the borrower ID. -/
def State.proxyTo (s : State) (cx : Cx) (v : Nat) (lent : Bool) (idx : Nat) (t : Tlp) : Except Stop (Tlp × Option CrtNeed) :=
  match cx.org with
  | .vdp .. => .ok (t, none)
  | _ => s.proxied cx v 7 lent idx t

/-- A lending of owner A whose REAL_BASE ranges hold an address below port p (Table 5.11): A regains the access only once the lending has
been reclaimed (R146). -/
def State.ownerHit (s : State) (p a : Nat) : Option Nat :=
  let st := stnOf p
  (s.lendsOn p).find? fun i => (s.lendState st i == 1 || s.lendState st i == 3) && (List.range 6).any fun k =>
    s.lendOrd st i k != 0 && decide (s.lendReal st i k ≤ a) && decide (a < s.lendReal st i k + 2 ^ s.lendOrd st i k)

/-- DEST of Table 7.2 for one target. -/
def destCode : Tgt → Nat
  | .port p => p
  | .ep .. => 0x3FE
  | .node n .. => 0x300 + n

/-- A route to one target. -/
def Way.one (x : Tgt) (t : Tlp) : Way := { tgts := [x], t := t, dest := destCode x }

/-- A TLP of an export leaves under the fabric proxy ID of its virtual switch (R297). -/
def State.expProxy (s : State) (cx : Cx) (w : Way) : Except Stop Way :=
  match cx.org with
  | .exp _ => (s.proxied cx cx.vs 6 false 0 w.t).map fun x => { w with t := x.1, crt := x.2 }
  | _ => .ok w

/-- What the permission matrix must hold for a TLP (R130): bit 0 R, bit 1 W. -/
def permNeed (t : Tlp) : Nat :=
  match t.kind with
  | .atomic => 3
  | .mrd | .cfgRd | .cfgWr | .other => 1
  | _ => 2

/-- A TLP that hits a window entry. Of the TLPs that hit a DKIND 2 window only posted Memory Writes are replicated (R155); an address-routed
message is refused as a non-posted request there is, which the spec does not state (log entry 53). -/
def State.viaWindow (s : State) (cx : Cx) (t : Tlp) (w : Win) : Except Stop Way :=
  let a := t.addr.toNat
  let pi := cx.rclass * 16 + w.agroup / 16
  let isExp : Bool := match cx.org with
    | .exp _ => true
    | _ => false
  let u := if w.xlate then readdress t ((a + w.offset) % 2 ^ 64) else t
  let note (y : Way) : Way := { y with win := w.idx, agroup := w.agroup, prog := w.prog }
  if w.dkind = 3 || (w.dkind = 2 && t.kind != .mwr) then .error .dkind
  else if !w.hw && s.twBad tPerm cx.stn pi 0 then .error (.bad tPerm pi)
  else if !w.hw && (s.permOf cx.stn cx.rclass w.agroup) &&& permNeed t != permNeed t then .error (.row 3)
  else if w.limit < a + max t.nbytes 1 - 1 then .error (.row 4)
  else if w.dkind = 1 then
    if isExp || s.nodeId = 0xFF then .error (.row 1)
    else .ok (note (Way.one (.node w.dest 0xFE w.agroup) u))
  else if w.dkind = 2 then
    if !bit (s.grpWord w.dest 5) 0 then .error (.row 1)
    else
      let mk (u : Tlp) : Way :=
        note { tgts := (s.grpMembers w.dest).map Tgt.port, t := u, res := bit (s.grpWord w.dest 5) 1, repl := true, dest := 0x100 + w.dest }
      if w.proxy then (s.proxyTo cx (s.grpVs w.dest) false 0 u).map fun x => mk x.1 else .ok (mk u)
  else if w.hw then
    match s.hwLend w with
    | none => .error (.row 1)
    | some (st, i) =>
      if s.entryBad tLend st i 32 then .error (.bad tLend i)
      else if s.lendState st i != 1 then .error (.row 1)
      else if !s.lendMse st i then .error (.row 5)
      else (s.proxyTo cx (s.lendOwner st i) true i u).map fun x => { note (Way.one (.port w.dest) x.1) with crt := x.2 }
  else if s.pciRole w.dest != 1 && s.pciRole w.dest != 2 then .error (.row 1)
  else match (if s.destVs w.dest = cx.vs then s.ownerHit w.dest u.addr.toNat else none) with
    | some i => .error (.owner i)
    | none =>
      if w.proxy then (s.proxyTo cx (s.destVs w.dest) false 0 u).map fun x => { note (Way.one (.port w.dest) x.1) with crt := x.2 }
      else s.expProxy cx (note (Way.one (.port w.dest) u))

/-- ACS controls of a port: SV 0, TB 1, RR 2, CR 3, UF 4, EC 5, DT 6 (Control register, PCI Express Base Specification 7.0). -/
def State.acs (s : State) (p c : Nat) : Bool := bit (s.cw p ofACS) (16 + c)

/-- Whether Upstream Forwarding of the ingress DSP sends up a TLP that bridge windows or bus numbers would return below it. -/
def State.forwardsUp (s : State) (cx : Cx) : Bool :=
  match cx.org with
  | .dsp p => s.acs p 4
  | _ => false

/-- The bridge that a TLP from below passes upward lets it: Bus Master Enable of the ingress bridge. -/
def State.mayMaster (s : State) (cx : Cx) : Bool :=
  match cx.org with
  | .dsp p => s.portBme p
  | .vdp st i => bit (s.vdp st i 0 ofCMD) 2
  | .home h => bit (s.homeDw h ofCMD) 2
  | _ => true

/-- Bridge windows of the virtual switch, its endpoint functions' BARs, then toward the upstream port (steps 2 and 3 of Table 5.2). -/
def State.viaBridges (s : State) (cx : Cx) (t : Tlp) : Except Stop Way :=
  let a := t.addr.toNat
  match s.usp cx.vs with
  | none => .error (.row 1)
  | some u =>
    let above := !cx.org.below
    let inside := inWins (s.cw u) a
    if !s.mayMaster cx || (above && !(s.portMse u && inside)) then .error (.row 1)
    else
      match (s.dsps cx.vs).find? fun p => s.portMse p && inWins (s.cw p) a with
      | some p =>
        if cx.org = .dsp p then (if s.forwardsUp cx then .ok (Way.one (.port u) t) else .error (.row 1))
        else match s.ownerHit p a with
          | some i => .error (.owner i)
          | none => s.expProxy cx (Way.one (.port p) t)
      | none =>
        match (s.homes cx.vs).find? fun i => bit (s.homeDw i ofCMD) 1 && inWins (s.homeDw i) a with
        | some i =>
          if cx.org = .home i || s.bindState i != 1 then .error (.row 1)
          else match cx.org with
            | .exp _ => .error (.row 1)
            | _ => .ok (Way.one (.node (s.bindFarNode i) (s.bindFarPort i) 0) t)
        | none =>
          match s.epClaims cx.vs a above with
          | some (fn, _) => s.expProxy cx (Way.one (.ep cx.vs fn) t)
          | none =>
            if (s.borrowed cx.vs).any fun x => bit (s.vdp x.1 x.2 0 ofCMD) 1 && inWins (s.vdp x.1 x.2 0) a then .error (.row 1)
            else if above || !s.portBme u then .error (.row 1)
            else .ok (Way.one (.port u) t)

/-- Memory requests, AtomicOps and address-routed messages. In a capability group's range only a Memory Write is replicated and a non-posted
request is an Unsupported Request (R155); an address-routed message there is refused as one without a route, which the spec does not
state (log entry 53). -/
def State.memRoute (s : State) (cx : Cx) (t : Tlp) : Except Stop Way :=
  let a := t.addr.toNat
  match s.winLook cx.stn cx.vs a with
  | .bad i => .error (.bad tWin i)
  | .hit w => s.viaWindow cx t w
  | .miss =>
    let group : Option (Nat × Nat) := match cx.org with
      | .usp p | .dsp p => (s.mcGroup p a).map fun g => (p, g)
      | _ => none
    match group with
    | some (p, g) =>
      if t.kind = .mwr then
        let m := s.mcMembers cx.vs p g t.untranslated
        .ok { tgts := m.1.map Tgt.port, t := t, mc := true, repl := true, blocked := m.2, dest := 0x200 + g }
      else .error (.row 1)
    | none => s.viaBridges cx t

/-- A local request of the Shuttle function: one of slot 0 or of a ring, the requests it issues with AT Translated (R314, R316). -/
def isLocal (cx : Cx) (t : Tlp) : Bool := decide (cx.org = .ep true) && !t.untranslated

/-- A local request goes only toward the upstream port; a window entry that would send it elsewhere refuses it (R314). -/
def State.localRoute (s : State) (cx : Cx) (t : Tlp) : Except Stop Way :=
  match s.usp cx.vs with
  | none => .error (.row 1)
  | some u =>
    match s.winLook cx.stn cx.vs t.addr.toNat with
    | .bad i => .error (.bad tWin i)
    | .hit w => if w.dkind = 3 ∨ (w.dkind = 0 ∧ w.dest = u) then s.viaWindow cx t w else .error (.row 3)
    | .miss => if s.portBme u then .ok (Way.one (.port u) t) else .error (.row 1)

/-! ### Routes by ID -/

/-- Step 2 and 3 of Table 5.2 for a completion or an ID-routed message to function id; `unexpected` when nothing claims it. The borrower ID
becomes REAL_RID toward the lent function (Table 5.10). -/
def State.idRoute (s : State) (cx : Cx) (id : Nat) (t : Tlp) (set : Tlp → B16 → Tlp) : Except Stop Way :=
  let bus := id / 256
  match s.usp cx.vs with
  | none => .error .unexpected
  | some u =>
    let up : Except Stop Way := if cx.org.below then .ok (Way.one (.port u) t) else .error .unexpected
    if s.secBus u != 0 && bus == s.secBus u then
      (if id % 256 = 0 then .ok (Way.one (.ep cx.vs false) t) else if id % 256 = 1 then .ok (Way.one (.ep cx.vs true) t)
       else .error .unexpected)
    else match (s.dsps cx.vs).find? fun p => inBuses (s.secBus p) (s.subBus p) bus with
      | some p => if cx.org = .dsp p then (if s.forwardsUp cx then up else .error .unexpected) else .ok (Way.one (.port p) t)
      | none => match (s.borrowed cx.vs).find? fun x => s.lendBus x.1 x.2 != 0 && s.lendBus x.1 x.2 == bus with
        | some x =>
          if s.entryBad tLend x.1 x.2 32 then .error (.bad tLend x.2)
          else if id = s.borrowerId x.1 x.2 ∧ s.lendState x.1 x.2 = 1 then
            .ok (Way.one (.port (s.lendPort x.1 x.2)) (set t (BitVec.ofNat 16 (s.lendRid x.1 x.2))))
          else .error .unexpected
        | none => match (s.homes cx.vs).find? fun i =>
              inBuses (bits (s.homeDw i ofBUS) 8 8) (bits (s.homeDw i ofBUS) 16 8) bus with
          | some i => if cx.org = .home i || s.bindState i != 1 then .error .unexpected
                      else .ok (Way.one (.node (s.bindFarNode i) (s.bindFarPort i) 0) t)
          | none => up

/-- The virtual switch of a request that entered by the host endpoint channel: the borrower of its lending, else the one the entry was taken
for, which the table's hardware keeps beside Table 5.7 (log entry 21). -/
def State.epOwner (s : State) (st p tag : Nat) : Nat :=
  let e := s.crt p tag
  if crtLent e then s.lendVs st (crtLend e) else s.patch p tag / 8

/-- Where the request of a completion return entry entered. -/
def State.crtHome (s : State) (p tag : Nat) : Tgt :=
  let e := s.crt p tag
  if crtPort e = 0xFF then .ep (s.epOwner (stnOf p) p tag) (crtRid e % 8 == 1) else .port (crtPort e)

/-- Step 1 of Table 5.2 for an ID-routed message: its target is the proxy ID that an entry of its ingress port recorded. The message goes
where that entry's request entered, to its requester; of several entries the lowest tag decides (log entry 53). -/
def State.msgReturn (s : State) (p : Nat) (t : Tlp) : Option Way :=
  ((List.range 256).find? fun tag => crtValid (s.crt p tag) && crtProxy (s.crt p tag) == t.target.toNat).map fun tag =>
    Way.one (s.crtHome p tag) { t with target := BitVec.ofNat 16 (crtRid (s.crt p tag)) }

/-! ### Messages -/

def msErrCor : Nat := 0x30
def msErrNonfatal : Nat := 0x31
def msErrFatal : Nat := 0x33

/-- Implicitly routed and ID-routed messages (Table 5.2); routing codes are PCI Express Base Specification 7.0's. -/
def State.msgRoute (s : State) (cx : Cx) (t : Tlp) : Except Stop Way :=
  match t.msgRoute.toNat with
  | 0 => match s.usp cx.vs with
    | some u => if cx.org.below then .ok (Way.one (.port u) t) else .error (.row 1)
    | none => .error (.row 1)
  | 1 => s.memRoute cx t
  | 2 =>
    let ret : Option Way := match cx.org with
      | .usp p | .dsp p => s.msgReturn p t
      | _ => none
    match ret with
    | some w => .ok w
    | none => match s.idRoute cx t.target.toNat t (fun t id => { t with target := id }) with
      | .error .unexpected => .error (.row 1)
      | x => x
  | 3 => match cx.org with
    | .usp _ =>
      let far := ((s.homes cx.vs).filter fun i => s.bindState i == 1).map fun i => Tgt.node (s.bindFarNode i) (s.bindFarPort i) 0
      .ok { tgts := (s.dsps cx.vs).map Tgt.port ++ far, t := t, repl := true, dest := 0x3FE }
    | _ => .error (.row 1)
  | 4 | 5 => .error .gone
  | _ => .error (.row 1)

/-! ### Stage 4: ACS of the ingress downstream port -/

/-- The egress control vector bit of port e. -/
def State.acsVec (s : State) (p e : Nat) : Bool := bit (s.cw p (ofACS + 4 + 4 * (e / 32))) (e % 32)

/-- Source Validation and Translation Blocking, for any request that enters at DSP p. -/
def State.acsSource (s : State) (p : Nat) (t : Tlp) : Option Nat :=
  if tlpClass t = 2 then none
  else if s.acs p 0 && !inBuses (s.secBus p) (s.subBus p) (t.rid.toNat / 256) then some 0
  else if s.acs p 1 && !t.untranslated && (t.kind == .mwr || t.kind == .mrd || t.kind == .atomic) then some 1
  else none

/-- The peer-to-peer controls, for a TLP that bridge windows or bus numbers send from DSP p to another port below the virtual switch: a
redirect goes to the upstream port. -/
def State.acsPeer (s : State) (cx : Cx) (w : Way) : Except Stop Way :=
  match cx.org, w.tgts with
  | .dsp p, [.port e] =>
    match s.usp cx.vs with
    | some u =>
      let direct := s.acs p 6 && !w.t.untranslated && (w.t.kind == .mwr || w.t.kind == .mrd || w.t.kind == .atomic)
      if w.win != 0xFFFF || e = u || s.pciRole e != 2 || direct then .ok w
      else if cx.cls = 2 then
        if s.acs p 3 && !w.t.ro then .ok { Way.one (.port u) w.t with crt := w.crt } else .ok w
      else if s.acs p 5 && s.acsVec p e then
        (if s.acs p 2 then .ok (Way.one (.port u) w.t) else .error (.acs 5))
      else if s.acs p 2 then .ok (Way.one (.port u) w.t)
      else .ok w
    | none => .ok w
  | .dsp p, [.ep ..] =>
    match s.usp cx.vs with
    | some u => if s.acs p 2 && w.win = 0xFFFF && cx.cls != 2 then .ok (Way.one (.port u) w.t) else .ok w
    | none => .ok w
  | _, _ => .ok w

/-! ### Refusals (R132, R134) -/

/-- An advisory uncorrectable error: reported as a correctable one unless its severity is fatal. -/
def State.aerAdv (s : State) (p b : Nat) : State :=
  if bit (s.cw p 0x10C) b then s.aer p b
  else
    let s' := s.orCw p ofAERU (2 ^ b)
    if bit (s.cw p 0x108) b then s' else s'.aerCorr p 13

/-- Report a refusal on the ingress port's AER, or on that of the virtual downstream port it came in by. -/
def State.denyAer (s : State) (cx : Cx) (b : Nat) (t : Tlp) : State :=
  match cx.org with
  | .usp p | .dsp p => (if cx.cls = 1 && b == aeUR then s.aerAdv p b else s.aer p b).headerLog p t.hdr
  | .vdp st i => s.vdpAer st i b
  | _ => s

/-- R134: an uncorrectable word is met: counted when first met, a KIND 4 entry opens; met again, it is nested on that entry (R219). -/
def State.meetBad (s : State) (st table idx : Nat) : State :=
  let obj := table * 65536 + idx
  if (s.cqFind st 4 obj).isSome then s.cqNest st 4 obj 0x40
  else (s.bump (F.STN_CLS_ECC_UNCORR st)).cqOpen st 4 obj 0x40 |>.1

/-- The row of Table 5.6 behind a stop. -/
def Stop.rowOf : Stop → Nat
  | .row n => n
  | .dkind => 4
  | .expDenied => 3
  | .acs _ => 2
  | .bad .. => 6
  | .owner _ => 7
  | _ => 0

/-- The scope of a classifier event: the ingress port, or the device for the endpoint channel. -/
def Cx.scope (cx : Cx) : Nat := if cx.ing < 144 then scPort cx.ing else scStn cx.stn

/-- The function of the port where a TLP came in, as the completer of what the device answers there (R132): a virtual downstream port's on its
borrower's or home's internal bus; for what came by the endpoint channel or from another node that of the upstream port (log entry 53). -/
def State.completerOf (s : State) (cx : Cx) : B16 :=
  let internal (v dev : Nat) : Nat := match s.usp v with
    | some u => s.secBus u * 256 + dev * 8
    | none => dev * 8
  BitVec.ofNat 16 (match cx.org with
    | .usp p | .dsp p => s.portRid p
    | .vdp st i => internal (s.lendVs st i) (s.lendVdev st i)
    | .home i => internal (s.bindVs i) (s.bindVdev i)
    | .ep _ | .exp _ => (s.usp cx.vs).elim 0 s.portRid)

/-- A refused TLP (Table 5.6): counted, reported, completed or discarded. `w` is the window's access group where one was hit. -/
def State.refuse (s : State) (cx : Cx) (t : Tlp) (agroup : Nat) (x : Stop) : State :=
  let st := cx.stn
  let row := x.rowOf
  let a := t.addr.toNat
  let s := (s.bump (F.STN_CLS_DENY_CNT_DENIES st)).count st 0x06 (if cx.ing < 144 then kOf cx.ing else 16) 0 0 1
  let s := ((s.put (F.STN_CLS_LAST_DENY_RID st) cx.rid0.toNat).put (F.STN_CLS_LAST_DENY_PORT st) cx.ing).put
    (F.STN_CLS_LAST_DENY_CAUSE st) row
  let s := (s.put (F.STN_CLS_DENY_ADDR_LO_ADDR_LO st) a).put (F.STN_CLS_DENY_ADDR_HI_ADDR_HI st) (a / 2 ^ 32)
  let key := cx.ing * 16 + row
  let lim (s : State) (code sev : Nat) (d : List Nat) : State := s.raiseLim ms100 key (srcStn st) code sev cx.scope 0 d
  let s := match x with
    | .acs c => lim (s.denyAer cx aeACS t) 0x3003 1 [cx.ing, cx.rid0.toNat, c]
    | .bad table idx =>
      (s.meetBad st table idx).raiseLim ms100 key (srcStn st) 0x3006 3 cx.scope 0 [st, table, idx]
    | .owner i => s.raiseLim ms100 key (srcStn st) 0x3012 1 (scVs cx.vs) 0
      (if t.kind = .cfgRd ∨ t.kind = .cfgWr then [i, t.reg.toNat, leAt t.data 0 4] else [i, a, 0])
    | .expDenied => s
    | .row 3 => lim (s.denyAer cx aeACS t) 0x3001 2 [cx.ing, cx.rid0.toNat, cx.rclass, agroup, a]
    | .row 4 | .dkind => lim (s.denyAer cx aeUR t) 0x3002 2 [cx.ing, cx.rid0.toNat, a, t.nbytes]
    | .row 5 => (match s.winLook st cx.vs a with
      | .hit w => (match s.hwLend w with
        | some (lst, i) => s.vdpAer lst i aeUR
        | none => s)
      | _ => s)
    | _ => s.denyAer cx aeUR t
  if cx.cls = 1 then s.emit (.completion (s.backTo cx.node cx.ing) cx.rid0 cx.tag0 (if row = 2 ∨ row = 3 then 4 else 1) (s.completerOf cx)) else s

/-! ### Stage 6 -/

/-- The record of a TLP toward one target, with its bank and QID; none where no path leads to the node (R285). -/
def State.destOf (s : State) (cx : Cx) (w : Way) (btag : B32) (x : Tgt) : Option Dest :=
  let r : Rec := { tlp := w.t, btag := btag, rlen := w.t.len, hfmt := !w.t.flitFmt, pass := cx.cls == 2 && w.t.ro, ing := cx.ing,
                   vs := cx.vs, node := cx.node, rid0 := cx.rid0, cls := cx.cls, vc := cx.vc, mc := w.mc, crt := w.crt }
  match x with
  | .port p =>
    let v := s.vcOf p w.t.tc.val
    some { bank := stnOf p, qid := if s.seamMode (stnOf p) then 58 + cx.cls else 6 * kOf p + 3 * v + cx.cls, r := { r with vc := v, destPort := p } }
  | .ep v fn =>
    some { bank := (s.usp v).elim cx.stn stnOf, qid := 54 + cx.cls, r := { r with ep := 2 * v + b2n fn } }
  | .node n dp arg =>
    let path := s.pinOf (ingIndex cx.src cx.stn) cx.vc n
    (s.nextHop n 0 path).map fun sp =>
      { bank := stnOf sp, qid := 58 + cx.cls,
        r := { r with destNode := n, destPort := dp, route := BitVec.ofNat 16 (path * 2 ^ 14 + cx.vs % 32 * 256 + arg) } }

/-- A DSP that blocks a capability-group copy reports it (R158). -/
def State.mcBlocked (s : State) (t : Tlp) (group : Nat) (x : Nat × Nat) : State :=
  ((s.aer x.1 aeMCB).headerLog x.1 t.hdr).raiseLim ms100 x.1 (srcStn (stnOf x.1)) 0x2501 1 (scPort x.1) 0 [x.1, group, x.2]

/-- Classes for which an image of the station, active or staging, gives an entry point (R178): offsets 16, 18 and 20 of Table 7.10. -/
def imgEntry (img : Bytes) (cls : Nat) : Nat := if img.isEmpty then 0xFFFF else leAt img (16 + 2 * cls) 2
def State.hasEntry (s : State) (st cls : Nat) : Bool :=
  imgEntry (s.bstn st).active cls != 0xFFFF || ((s.bstn st).swap != 0 && imgEntry (s.bstn st).staging cls != 0xFFFF)

/-- Hand-off queue occupancies as registers (Table 7.13). -/
def State.hqCount (s : State) (st : Nat) : State :=
  let n (k : Nat) : Nat := (SMap.get (fun _ => []) (s.bstn st).queues k).length
  let s := ((s.put (F.STN_BB_HQ0_OCC_P st) (n 0)).put (F.STN_BB_HQ0_OCC_NP st) (n 1)).put (F.STN_BB_HQ0_OCC_CPL st) (n 2)
  s.put (F.STN_BB_HQ1_OCC_VC1 st) (n 3 + n 4 * 256 + n 5 * 65536)

/-- The hand-off queue of a header's class and VC. -/
def Flight.queue (f : Flight) : Nat := 3 * f.vc + f.cls

/-- Headers in hand-off queue k of a station, the oldest first. -/
def State.handQueue (s : State) (st k : Nat) : List Nat := SMap.get (fun _ => []) (s.bstn st).queues k

/-- Put a header into a hand-off queue. -/
def State.enqueueHand (s : State) (st k id : Nat) : State :=
  (s.modBstn st fun b => { b with queues := SMap.set (fun _ => []) b.queues k (SMap.get (fun _ => []) b.queues k ++ [id]) }).hqCount st

/-- Put a header into the hand-off queue of its class, or, when that holds 64 headers, let it wait for a place; it keeps its link credit
all the while, which is the hold of R24 on its ingress class (R178). -/
def State.handOff (s : State) (st : Nat) (f : Flight) : State :=
  if (s.handQueue st f.queue).length < 64 then s.enqueueHand st f.queue f.id
  else s.modBstn st fun b => { b with waiting := b.waiting ++ [f.id] }

/-- A place is free in hand-off queue k: the oldest header that waits for one takes it. -/
def State.takeWaiting (s : State) (st k : Nat) : State :=
  match (s.bstn st).waiting.find? fun id => (s.flight id).any fun f => f.queue == k with
  | some id =>
    if (s.handQueue st k).length < 64 then (s.modBstn st fun b => { b with waiting := b.waiting.filter (· != id) }).enqueueHand st k id else s
  | none => s

/-- A classified TLP becomes a TLP in flight: its destinations marked, trace rules counted, handed off where PROG is set and the class has
a program. A TLP whose destinations are all gone leaves at once. -/
def State.launch (s : State) (cx : Cx) (t0 : Tlp) (btag0 : B32) (w : Way) : State :=
  let u := reheader t0 w.t
  let btag := retag btag0 t0 u
  let w := { w with t := u }
  let s := w.blocked.foldl (fun s x => s.mcBlocked t0 (w.dest - 0x200) x) s
  let ds := w.tgts.filterMap (s.destOf cx w btag)
  if ds.isEmpty && !w.repl then s.refuse cx t0 w.agroup (.row 1)
  else
    let id := s.core.nextId
    let prog := cx.prog + (if w.prog then 1 else 0)
    let addr : B64 := match u.kind with
      | .mwr | .mrd | .atomic => u.addr
      | .msg => if u.msgRoute = 1#8 then u.addr else 0
      | _ => 0
    let hand : Hand := { rclass := cx.rclass, agroup := w.agroup, win := w.win, req := cx.req, lend := cx.lend, progSrc := prog,
                         dest := w.dest, addr := addr, rid := u.rid }
    let off := prog != 0 && !s.seamMode cx.stn && s.hasEntry cx.stn cx.cls
    let f : Flight := { id := id, src := cx.src, cls := cx.cls, vc := cx.vc, tlp0 := t0, dests := ds, resGroup := w.res, repl := w.repl,
                        units := cx.units, scls := cx.scls, stn := cx.stn, vs := cx.vs, t6 := s.clk.fab, ready := !off,
                        translated := decide ({ w.t with type1 := t0.type1, hdr := t0.hdr } ≠ t0), hand := if off then some hand else none }
    let s := { s with core := { s.core with nextId := id + 1 } }
    let x := s.countRules f
    let s := { x.1 with core := { x.1.core with flights := x.1.core.flights ++ [x.2] } }
    if off then s.handOff cx.stn x.2 else s.settle x.2

/-- A TLP that the classifier discards or answers itself returns its ingress credit (R101). -/
def State.creditBack (s : State) (cx : Cx) (t : Tlp) : State :=
  s.returnCredit { id := 0, src := cx.src, cls := cx.cls, vc := cx.vc, tlp0 := t, dests := [], units := cx.units, scls := cx.scls }

end Sys2Proof.Machine
end

