-- ==== Sys2Proof/Machine/Shuttle.lean ====
section
/-!
DEFINITION. Machine/Shuttle.lean: the commands of chapter 11: doorbell writes, movers and their reads, translations, completion
messages, and the panel opcodes of group 0x08xx (Table 14.14).
-/

namespace Sys2Proof.Machine

/-! ### Doorbell pages -/

/-- A function's BARs respond (R333, R334). -/
def EpFn.responds (f : EpFn) : Bool := f.mse && !f.d3 && !f.inReset

/-- A write to the doorbell page of panel n in BAR2 of VSv: discarded while the BAR does not respond (R333), stray for a page of no
panel of VSv (R304), else `act`. -/
def State.doorbell (s : State) (v n : Nat) (act : State → State) : State :=
  if !(s.vs v).f1.responds then s.bump F.ACW_EP_HOST_CNT_DISCARDED
  else if s.panelVs n != some v then s.bump F.SHT_STRAY_STRAY
  else act s

/-- A refused pointer write halts a running panel and changes no pointer (R309, Table 11.2). -/
def State.badPointer (s : State) (n status : Nat) : State :=
  if s.pState n = pRunning then s.haltPanel n status else s

/-- SHT_DB_SQ_TAIL (R309). -/
def execShtDbSqTail (v : VsId) (n : Panel) (val : B16) (s : State) : Res :=
  .next (s.doorbell v n fun s =>
    if s.sqSize n ≤ val.toNat then s.badPointer n psBadTail
    else s.modPnl n fun x => { x with sqTail := val.toNat })

/-- SHT_DB_CQ_HEAD (R309): from the current head, exclusive, to CQ_TAIL, inclusive, around the ring. -/
def execShtDbCqHead (v : VsId) (n : Panel) (val : B16) (s : State) : Res :=
  .next (s.doorbell v n fun s =>
    let size := s.cqSize n
    let x := s.pnl n
    let step := (val.toNat + size - x.cqHead) % size
    let avail := (x.cqTail + size - x.cqHead) % size
    if size ≤ val.toNat ∨ step = 0 ∨ avail < step then s.badPointer n psBadHead
    else (s.modPnl n fun x => { x with cqHead := val.toNat }).goOn n)

/-- A HALTED panel runs again: its failed descriptor is retried from its DONE; one refused under R307
or ended with INTERNAL starts again with DONE 0 (R328). -/
def State.retryPanel (s : State) (n : Nat) : State :=
  let last := s.get (F.SHT_PNL_STATE_LAST_STATUS n)
  let again := last = psBadDesc ∨ last = psInternal
  let s := (s.setP n pRunning).modPnl n fun x => { x with revoked := [] }
  let s := s.modPnl n fun x =>
    match x.cur with
    | some d => if again then { x with cur := none, fetched := d :: x.fetched, done := 0, wr := 0, rd := 0 }
                else { x with wr := x.done, rd := x.done, ending := none }
    | none => x
  s.goOn n

/-- RESUME (R305, Table 11.2). -/
def execDoorbellResume (v : VsId) (n : Panel) (s : State) : Res :=
  .next (s.doorbell v n fun s => if s.pState n = pHalted then s.retryPanel n else s)

/-- RESUME with SKIP: the failed descriptor is completed with its status and passed. A status that is the panel's alone names no
descriptor to pass. -/
def execDoorbellResumeSkip (v : VsId) (n : Panel) (s : State) : Res :=
  .next (s.doorbell v n fun s =>
    if s.pState n = pHalted then
      let st := s.get (F.SHT_PNL_STATE_LAST_STATUS n)
      if st < psBadTail then ((s.endDesc n st).setP n pRunning).goOn n else s.retryPanel n
    else s)

/-- SHT_DB_TMSG with a flipped TOGGLE (R320): the word replaces one whose event has not been logged yet. -/
def execTenantMsg (v : VsId) (n : Panel) (word : B32) (s : State) : Res :=
  .next (s.doorbell v n fun s =>
    if word.getLsbD 31 = (s.pnl n).tmsg.getLsbD 31 then s
    else
      let s := s.modPnl n fun x => { x with tmsg := word }
      let r := s.ram 0x07
      let mine (e : Ev) : Bool := e.code == 0x6005 && e.scope == scPanel n
      let detail := [n.val, v.val, word.toNat]
      let s :=
        if r.held.any mine then
          let f (e : Ev) : Ev := if mine e then { e with detail := detail } else e
          let r' : EvRam := { r with held := r.held.map f }
          { s with evs := { s.evs with ram := SMap.set (fun _ => {}) s.evs.ram 0x07 r' } }
        else s.raise 0x07 0x6005 1 (scPanel n) detail
      s.fire v false (s.get F.SHT_CTL_MSG_VECTOR))

/-- R304: the write is discarded and counted. -/
def execDoorbellStrayWrite (v : VsId) (n : Panel) (s : State) : Res :=
  .next (if s.panelVs n = some v.val then s else s.bump F.SHT_STRAY_STRAY)

/-! ### Movers -/

/-- R311: the next ready panel after the one taken last; its quantum is WEIGHT × 64 KiB. The mover's thimble is given the panel's context
record (Table 12.4). -/
def execMoverTake (m : Mover) (s : State) : Res :=
  .next (if (s.mover m).panel.isSome then s
  else
    let r := s.readyPanels
    match (match r.find? fun n => decide (s.sht.last < n) with | some n => some n | none => r.head?) with
    | none => s
    | some n =>
      let s := s.modMover m fun x =>
        { x with panel := some n, left := (s.get (F.SHT_PNL_RING_WEIGHT_M1 n) + 1) * 65536 }
      let s := { s with sht := { s.sht with last := n } }
      let s := s.modThm (256 + m.val) fun x =>
        { x with regions := [[BitVec.ofNat 32 (768 * n), BitVec.ofNat 32 (768 * n + 767), 3, 0]] }
      let s := (s.putB (F.SHT_MV_STAT_BUSY m) true).put (F.SHT_MV_STAT_PANEL m) n
      let s := s.put F.SHT_BUSY_BUSY (setBit (s.get F.SHT_BUSY_BUSY) m true)
      s.goOn n)

/-- R311: with no read outstanding, at a chunk boundary, once the quantum is used, the work is done or the panel runs no more. -/
def execMoverRelease (m : Mover) (s : State) : Res :=
  .next (match (s.mover m).panel with
    | none => s
    | some n =>
      let x := s.pnl n
      let idle : Bool := match x.cur with
        | none => true
        | some d => atChunk d x.wr || x.wr == 0 || x.wr == x.done
      let ended : Bool := (s.mover m).left == 0 || s.pState n != pRunning || (x.cur.isNone && (x.fetched.isEmpty || s.cqFull n))
      if (s.liveReads n).isEmpty && x.rd == x.wr && idle && ended then s.letGo m else s)

/-- R328: an uncorrectable word of a panel's context (`false`) or descriptor cache ends its descriptor and halts the panel. -/
def State.panelInternal (s : State) (n : Nat) (cache : Bool) (word : Nat) : State :=
  let s := (s.bump F.SHT_CTX_ECC_UNCORR).raise 0x07 0x6008 3 (scPanel n) [n, b2n cache, word]
  if s.pState n = pQuiescing then (s.dropReads n 0).endDesc n psInternal
  else if s.pState n = pRunning ∨ s.pState n = pFreezing then s.haltPanel n psInternal
  else s

/-- R310: the read of the next descriptor of the ring and its completion; an error halts the panel with RING_ERROR. `fixed` words of
its context and cache were corrected on the way, and `upset` is an uncorrectable one. -/
def execDescriptorFetch (n : Panel) (fixed : Nat) (upset : Option (Bool × Nat)) (data : Option Bytes) (s : State) : Res :=
  .next (
    let s := s.bumpN F.SHT_CTX_ECC_CORR fixed
    let s := match upset with
      | some (cache, word) => s.panelInternal n cache word
      | none => s
    let x := s.pnl n
    let v := s.pVs n
    let size := s.sqSize n
    let held := x.fetched.length + (if x.cur.isSome then 1 else 0)
    let owned := (x.sqTail + size - s.sqHead n) % size
    if s.pState n = pRunning ∧ s.shtMaster v = true ∧ x.fetched.length < 4 ∧ held < owned then
      let idx := (s.sqHead n + held) % size
      let s := (s.emit (.hostRead v (s.pPasid n + 1) (BitVec.ofNat 64 (s.sqBase n + 64 * idx)) 64)).count 20 0x32 16 0 0 1
      match data with
      | none => s.haltPanel n psRing
      | some d => (s.modPnl n fun x => { x with fetched := x.fetched ++ [slice d 0 64] }).goOn n
    else s)

/-- The translation of a local page, if it is cached. -/
def State.atcFind (s : State) (v pasid page : Nat) : Option AtsEnt :=
  s.sht.atc.find? fun e => e.v == v && e.pasid == pasid && e.page == page

/-- What slot 0 or a grant slot gives for an access at offset x: the address to use with the translation it rests on, or the status
that ends the descriptor, or the page whose translation must be asked for. -/
inductive SlotAcc where
  | go (addr : Nat) (page : Option (Nat × Nat × Nat))
  | fail (status : Nat)
  | ask (page : Nat)

def State.slotAccess (s : State) (n g x len : Nat) (write : Bool) : SlotAcc :=
  if g = 0 then
    match s.atcFind (s.pVs n) (s.pPasid n) (x / 4096) with
    | none => .ask (x / 4096)
    | some e =>
      if (if write then e.write else e.read) then .go (e.phys + x % 4096) (some (s.pVs n, s.pPasid n, x / 4096))
      else .fail psXlate
  else match s.grantErr n g x len write with
    | some e => .fail e
    | none => .go (s.slotAddr n g x).1 none

/-- Ask for a translation once (R314). -/
def State.askAts (s : State) (n page : Nat) (write : Bool) : State :=
  if (s.pnl n).atsWait.any fun w => w.1 == page then s
  else (s.modPnl n fun x => { x with atsWait := x.atsWait ++ [(page, write)] }).emit
    (.ats (s.pVs n) 0 (BitVec.ofNat 64 (page * 4096))) |>.count 20 0x33 16 0 0 1

/-- Grants that the descriptor uses have changed since its last chunk boundary (R317). -/
def grantHit (d : Bytes) (revoked : List OldGrant) : Option OldGrant :=
  revoked.find? fun o => o.slot != 0 && (o.slot == dSrcSlot d || o.slot == dDstSlot d)

/-- R317: at a chunk boundary a descriptor that uses a changed slot ends with GRANT_DENIED, after its flush read. -/
def State.revokeAt (s : State) (n : Nat) (o : OldGrant) : State :=
  (s.raiseLim ms100 n 0x07 0x6007 1 (scPanel n) 0 [n, o.slot, o.grant, (s.pnl n).done]).endSoon n psDenied

/-- Bytes of staging a mover's reads take (R318). -/
def stagingUsed (x : MoverSt) : Nat := x.reads.foldl (fun n r => n + r.len) 0

/-- R312, R316, R318: the mover issues the next read of its panel's descriptor, or for FILL the next write, inside one source page
and one chunk of the destination. -/
def State.issueNext (s : State) (m n : Nat) (d : Bytes) : State :=
  let x := s.pnl n
  let off := x.rd
  let fill : Bool := dOp d == 2
  let room := 4096 - (dDst d + off) % 4096
  let srcRoom := if fill then 4096 else 4096 - (dSrc d + off) % 4096
  let len := min (min (dLen d - off) (min room srcRoom)) (if fill then 4096 else s.shtMrrs (s.pVs n))
  match s.slotAccess n (dDstSlot d) (dDst d + off) len true with
  | .fail e => s.endSoon n e
  | .ask p => s.askAts n p true
  | .go dst dp =>
    if fill then
      let pat := leBytes 8 (dSrc d)
      let data := (List.range len).map fun i => pat.getD ((off + i) % 8) 0
      let s := s.modPnl n fun x => { x with rd := off + len }
      let s := s.modMover m fun y => { y with left := y.left - len }
      let s := s.issueWrites n m dst (if dDstSlot d = 0 then s.pPasid n + 1 else 0) data
      (s.modPnl n fun x => { x with wr := off + len, done := if dDstSlot d = 0 then off + len else x.done }).goOn n
    else match s.slotAccess n (dSrcSlot d) (dSrc d + off) len false with
      | .fail e => s.endSoon n e
      | .ask p => s.askAts n p false
      | .go src sp =>
        let y := s.mover m
        match (List.range 64).find? fun t => !(y.reads.any fun r => r.tag == t) with
        | none => s
        | some t =>
          if 32768 < stagingUsed y + len then s
          else
            let r : ShRead := { tag := t, panel := n, off := off, len := len, src := src, dst := dst,
                                pages := dp.toList ++ sp.toList }
            let s := s.modMover m fun y => { y with reads := y.reads ++ [r], left := y.left - len }
            let s := s.modPnl n fun x => { x with rd := off + len }
            let pasid := if dSrcSlot d = 0 then s.pPasid n + 1 else 0
            ((s.emit (.hostRead (s.pVs n) pasid (BitVec.ofNat 64 src) len)).count 20 0x32 16 0 0 1).showReads m

/-- R318: while its panel runs, quiesces, or freezes short of a chunk boundary. -/
def execShuttleReadIssue (m : Mover) (s : State) : Res :=
  .next (match (s.mover m).panel with
    | none => s
    | some n =>
      let x := s.pnl n
      let st := s.pState n
      match x.cur with
      | none => s
      | some d =>
        let edge : Bool := atChunk d x.rd || x.rd == x.done && x.rd == 0
        if !s.shtMaster (s.pVs n) || x.ending.isSome || decide (dMoves d ≤ x.rd)
            || !(st == pRunning || st == pQuiescing || st == pFreezing) then s
        else match (if edge then grantHit d x.revoked else none) with
          | some g => s.revokeAt n g
          | none =>
            if atChunk d x.rd && (st == pFreezing || (s.mover m).left == 0) then s
            else s.issueNext m n d)

/-- A Shuttle read ends with an error: counted, and the descriptor ends with READ_ERROR once the reads before it are written; one its
panel has abandoned only gives its tag back (R326, R328). -/
def State.readFails (s : State) (m : Nat) (r : ShRead) (cnt : Fld) : State :=
  let s := (s.modMover m fun y => { y with reads := y.reads.filter fun q => q.tag != r.tag }).showReads m
  let s := s.bump cnt
  if r.dead then s
  else
    let s := s.dropReads r.panel (r.off + r.len)
    (s.modPnl r.panel fun x => { x with rd := r.off }).endSoon r.panel psRead

/-- R318, R322: data for one read; written out in ascending order. -/
def execShuttleReadCompletion (m : Mover) (tag : Nat) (data : Option Bytes) (s : State) : Res :=
  .next (match (s.mover m).reads.find? fun r => r.tag == tag && r.data.isNone with
    | none => s
    | some r =>
      match data with
      | none => s.readFails m r F.SHT_CPL_ERR_ERRORS
      | some bs =>
        if r.dead then (s.modMover m fun y => { y with reads := y.reads.filter fun q => q.tag != tag }).showReads m
        else
          let f (q : ShRead) : ShRead := if q.tag = tag then { q with data := some bs } else q
          let s := s.modMover m fun y => { y with reads := y.reads.map f }
          ((s.drainReads 64 m r.panel).showReads m).goOn r.panel)

/-- R328: no completion within CPL_TMO. -/
def execShtCplTimeout (m : Mover) (tag : Nat) (s : State) : Res :=
  .next (match (s.mover m).reads.find? fun r => r.tag == tag && r.data.isNone with
    | none => s
    | some r =>
      (s.raiseLim ms100 r.panel 0x07 0x6006 2 (scPanel r.panel) 0 [r.panel, m.val, r.src]).readFails m r
        F.SHT_CPL_ERR_TIMEOUTS)

/-- R312, R316: the flush read of a granted destination. -/
def execFlushReadComplete (n : Panel) (ok : Bool) (s : State) : Res :=
  .next (if !(s.pnl n).flushing then s
  else
    let s := s.modPnl n fun x => { x with flushing := false }
    if s.pState n = pResetting then s
    else if ok then (s.modPnl n fun x => { x with done := x.wr }).goOn n
    else (s.bump F.SHT_CPL_ERR_ERRORS).failDesc n psFlush)

/-- R313. -/
def execIntHoldoffExpiry (n : Panel) (s : State) : Res :=
  .next (if (s.pnl n).owedMsg then
    (s.modPnl n fun x => { x with lastMsg := some s.clk.now, owedMsg := false }).fire (s.pVs n) true
      (s.get (F.SHT_PNL_RING_VECTOR n))
  else s)

/-- R314: the answer to a translation request of panel n. -/
def execAtsTranslation (n : Panel) (page : B64) (ok read write : Bool) (phys : B64) (s : State) : Res :=
  .next (
    let pg := page.toNat / 4096
    match (s.pnl n).atsWait.find? fun w => w.1 == pg with
    | none => s
    | some w =>
      let s := s.modPnl n fun x => { x with atsWait := x.atsWait.filter fun y => y.1 != pg }
      if ok && (if w.2 then write else read) then
        let e : AtsEnt := { v := s.pVs n, pasid := s.pPasid n, page := pg, read := read, write := write,
                            phys := phys.toNat / 4096 * 4096 }
        let rest := s.sht.atc.filter fun y => !(y.v == e.v && y.pasid == e.pasid && y.page == e.page)
        { s with sht := { s.sht with atc := rest ++ [e] } }
      else s.endSoon n psXlate)

/-- R314: translations of the pages leave the cache; reads that use them are waited for. -/
def execAtsInvalidate (v : VsId) (pasid : Option Nat) (page : B64) (pages : Nat) (itag : Nat) (s : State) : Res :=
  .next (
    let lo := page.toNat / 4096
    let hit (w : Nat × Nat × Nat) : Bool :=
      w.1 == v.val && (pasid.isNone || pasid == some w.2.1) && decide (lo ≤ w.2.2) && decide (w.2.2 < lo + pages)
    let uses := s.sht.movers.flatMap fun x => (x.2.reads.filter fun r => r.pages.any hit).map fun r => (x.1, r.tag)
    let atc := s.sht.atc.filter fun e => !hit (e.v, e.pasid, e.page)
    { s with sht := { s.sht with atc := atc, inv := s.sht.inv ++ [(v.val, itag, uses)] } })

/-- R314: an invalidation completes once no read that used its translations is outstanding. -/
def execAtsInvalidateComplete (v : VsId) (itag : Nat) (s : State) : Res :=
  .next (match s.sht.inv.find? fun i => i.1 == v.val && i.2.1 == itag with
    | none => s
    | some i =>
      if i.2.2.any fun u => (s.mover u.1).reads.any fun r => r.tag == u.2 then s
      else ({ s with sht := { s.sht with inv := s.sht.inv.filter fun j => !(j.1 == v.val && j.2.1 == itag) } }).emit
        (.ats v 2 (BitVec.ofNat 64 itag)))

/-- A flush read owed since Bus Master Enable was clear is issued now. -/
def State.payFlush (s : State) (n : Nat) : State :=
  match (s.pnl n).cur with
  | some d => s.flushRead n d
  | none => s.modPnl n fun x => { x with flushOwed := false }

/-- R322. -/
def execPanelFrozen (n : Panel) (s : State) : Res :=
  .next (
    let x := s.pnl n
    if s.pState n != pFreezing || !s.shtMaster (s.pVs n) then s
    else if x.flushOwed then s.payFlush n
    else
      let still : Bool := match x.cur with
        | none => true
        | some d => x.ending.isSome || x.wr == 0 || atChunk d x.wr || x.wr == x.done
      if s.anyRead n || x.flushing || x.rd != x.wr || !still || (dstHeld x) then s
      else
        let s := (s.letGoPanel n).setP n pFrozen
        let s := s.modPnl n fun x => { x with ending := none, fetched := [] }
        s.raiseEnd (fun a => a.opcode == 0x0805 && a.obj == n.val) 0x07 0x6002 0 (scPanel n)
          [n.val, b2n x.cur.isSome, x.done, s.clk.now - x.since])
where
  /-- writes toward a granted destination that no flush read covers yet -/
  dstHeld (x : PanelSt) : Bool :=
    match x.cur with
    | some d => dDstSlot d != 0 && decide (x.done < x.wr) && x.ending.isNone
    | none => false

/-- R325, R326: a quiescing panel whose descriptor has ended, or a resetting one with nothing in flight. -/
def execPanelStopped (n : Panel) (s : State) : Res :=
  .next (
    let x := s.pnl n
    let st := s.pState n
    if st = pQuiescing ∧ x.cur = none ∧ s.anyRead n = false ∧ x.flushing = false then
      ((s.letGoPanel n).setP n pStopped).raiseEnd (fun a => a.opcode == 0x0804 && a.obj == n.val) 0x07 0x6003 0 (scPanel n)
        [n.val, pcQuiesce]
    else if st = pResetting ∧ s.anyRead n = false ∧ x.flushing = false
        ∧ (x.cause = pcReset → s.shtMaster (s.pVs n) = true) then
      if x.flushOwed then s.payFlush n
      else
        let s := (((s.letGoPanel n).setP n pStopped).put (F.SHT_PNL_STATE_LAST_STATUS n) psAborted).put
          (F.SHT_PNL_STATE_SQ_HEAD n) 0
        let s := s.modPnl n fun x => { tmsg := x.tmsg, mmsg := x.mmsg, descDone := x.descDone, bytes := x.bytes,
                                       lastMsg := x.lastMsg, owedMsg := x.owedMsg }
        let s := s.raiseEnd (fun a => a.opcode == 0x0809 && a.obj == n.val) 0x07 0x6003 0 (scPanel n) [n.val, x.cause]
        if (s.vs (s.pVs n)).f1.inReset then s.shtResetDone (s.pVs n) else s
    else s)

/-! ### Opcodes (Table 14.14) -/

/-- A panel opcode. -/
def opPnl (code : Nat) (kind : OpKind) (who : List Cls) : OpInfo := { code := code, kind := kind, who := who, forms := [.panel] }
def whoFP : List Cls := [.fm, .pm]
def whoFPT : List Cls := [.fm, .pm, .tenant]

/-- PANEL_ALLOT: the panels that the partition manager of a virtual switch may bind. -/
def execPanelAllot (h : Hdr) (first count : B16) (s : State) : Res :=
  .next (s.serve (.panelAllot h first count) { code := 0x0800, kind := .I, who := [.fm], forms := [.vs] } h
    [.u16 first.toNat, .u16 count.toNat] fun x s =>
      let lo := first.toNat
      let hi := lo + count.toNat
      if 4096 < hi then .fail .badParam s
      else
        let others := s.cmd.allot.filter fun a => a.2.2 != x.n
        if (others.any fun a => decide (a.1 < hi) && decide (lo < a.1 + a.2.1))
            || ((s.boundPanels x.n).any fun n => decide (n < lo) || decide (hi ≤ n)) then .fail .stagedConflict s
        else .ok { s with cmd := { s.cmd with allot := others ++ (if lo < hi then [(lo, count.toNat, x.n)] else []) } })

/-- R303: within one virtual switch at most one bound panel carries a PASID. -/
def State.pasidTaken (s : State) (n v pasid : Nat) : Bool :=
  (s.boundPanels v).any fun p => p != n && s.pPasid p == pasid

/-- The register writes of a binding and ring configuration (Table 11.10). -/
def bindParts (n v pasid sqb cqb sqo cqo vec weight holdoff : Nat) : List (Nat × B32 × B32) :=
  [regWhole (F.SHT_PNL_BIND_VALID n).addr (1 + v * 2 + pasid * 64),
   regWhole (F.SHT_PNL_RING_SQ_ORDER n).addr (sqo + cqo * 32 + vec * 2 ^ 10 + (weight - 1) * 2 ^ 21 + holdoff * 2 ^ 25),
   regWhole (F.SHT_PNL_SQ_LO_SQ_BASE_LO n).addr (sqb % 2 ^ 32), regWhole (F.SHT_PNL_SQ_HI_SQ_BASE_HI n).addr (sqb / 2 ^ 32),
   regWhole (F.SHT_PNL_CQ_LO_CQ_BASE_LO n).addr (cqb % 2 ^ 32), regWhole (F.SHT_PNL_CQ_HI_CQ_BASE_HI n).addr (cqb / 2 ^ 32)]

/-- The limits of R306 and Table 11.6. -/
def ringOk (sqb cqb sqo cqo vec weight holdoff : Nat) : Bool :=
  decide (4 ≤ sqo) && decide (sqo ≤ 16) && decide (4 ≤ cqo) && decide (cqo ≤ 16) && sqb % 4096 == 0 && cqb % 4096 == 0
    && decide (vec ≤ 2047) && decide (1 ≤ weight) && decide (weight ≤ 16) && decide (holdoff ≤ 127)

/-- The virtual switch a binding of panel n by this sender names: its own for a partition manager, else the allotment's
(the opcode carries none; log entry 13). -/
def State.panelBindVs (s : State) (x : Sess) : Option Nat :=
  if x.isP then some x.vs
  else match s.panelVs x.n with
    | some v => some v
    | none => (s.cmd.allot.find? fun a => decide (a.1 ≤ x.n) && decide (x.n < a.1 + a.2.1)).map fun a => a.2.2

/-- PANEL_BIND. -/
def execPanelBind (h : Hdr) (pasid : B32) (sqb cqb : B64) (sqo cqo : B8) (vec : B16) (weight holdoff : B8) (s : State) : Res :=
  .next (s.serve (.panelBind h pasid sqb cqb sqo cqo vec weight holdoff) (opPnl 0x0801 .S whoFP) h
    [.u32 pasid.toNat, .u64 sqb.toNat, .u64 cqb.toNat, .u8 sqo.toNat, .u8 cqo.toNat, .u16 vec.toNat, .u8 weight.toNat,
     .u8 holdoff.toNat] fun x s =>
      if 2 ^ 20 ≤ pasid.toNat ∨ ringOk sqb.toNat cqb.toNat sqo.toNat cqo.toNat vec.toNat weight.toNat holdoff.toNat = false then
        .fail .badParam s
      else match s.panelBindVs x with
        | none => .fail .stagedConflict s
        | some v =>
          let ws := bindParts x.n v pasid.toNat sqb.toNat cqb.toNat sqo.toNat cqo.toNat vec.toNat weight.toNat holdoff.toNat
          s.stage_ x [.bind x.n v ws] 28 fun sc =>
            if sc.pasidTaken x.n v pasid.toNat then some (.stagedConflict, 0) else none)

/-- PANEL_UNBIND (R327). -/
def execPanelUnbind (h : Hdr) (s : State) : Res :=
  .next (s.serve (.panelUnbind h) (opPnl 0x0802 .S whoFP) h [] fun x s =>
    if s.pState x.n != pStopped then .fail .busy s else s.stage_ x [.unbind x.n] 0 fun _ => none)

/-- PANEL_ENABLE. -/
def execPanelEnable (h : Hdr) (s : State) : Res :=
  .next (s.serve (.panelEnable h) (opPnl 0x0803 .I whoFPT) h [] fun x s =>
    let st := s.pState x.n
    if st = pStopped then .ok ((s.setP x.n pRunning).goOn x.n)
    else if st = pHalted then .ok (s.retryPanel x.n)
    else .fail .notIdle s)

/-- PANEL_QUIESCE (R325): descriptors fetched ahead stay in the ring; a failed descriptor of a HALTED panel is the current one and
runs to its end. -/
def execPanelQuiesce (h : Hdr) (limit : B32) (s : State) : Res :=
  .next (s.serve (.panelQuiesce h limit) (opPnl 0x0804 .A whoFPT) h [.u32 limit.toNat] fun x s =>
    let st := s.pState x.n
    if st != pRunning && st != pHalted then .fail .notIdle s
    else
      let bad := st = pHalted ∧ s.get (F.SHT_PNL_STATE_LAST_STATUS x.n) = psBadDesc
      let s := (s.asyncObj x.n 0).setP x.n pQuiescing
      let s := s.modPnl x.n fun y => { y with fetched := [], cause := pcQuiesce, ending := if st = pHalted then none else y.ending,
                                              wr := if st = pHalted then y.done else y.wr,
                                              rd := if st = pHalted then y.done else y.rd }
      { st := .accepted, s := if bad then s.endDesc x.n psBadDesc else s.goOn x.n })

/-- PANEL_FREEZE (R322). -/
def execPanelFreeze (h : Hdr) (s : State) : Res :=
  .next (s.serve (.panelFreeze h) (opPnl 0x0805 .A whoFP) h [] fun x s =>
    let st := s.pState x.n
    if st != pRunning && st != pHalted && st != pStopped then .fail .notIdle s
    else
      let s := (s.asyncObj x.n 0).setP x.n pFreezing
      let s := s.modPnl x.n fun y => { y with fetched := [], since := s.clk.now,
                                              ending := if st = pHalted then some 0 else y.ending,
                                              rd := if st = pHalted then y.wr else y.rd }
      { st := .accepted, s := s.goOn x.n })

/-- The context record of a panel (Table 11.6). -/
def State.panelRecord (s : State) (n : Nat) : Bytes :=
  let x := s.pnl n
  let slot (g : Nat) : Nat := if g = 0 then 0 else match s.slotGrant n g with
    | some q => q + 2 ^ 15
    | none => 0
  let body :=
    [0x48#8, 0x56#8, 0x50#8, 0x43#8] ++ leBytes 2 1 ++ leBytes 1 pFrozen ++ leBytes 1 (s.get (F.SHT_PNL_STATE_LAST_STATUS n))
      ++ leBytes 4 (s.get F.FAB_UID_LO_UID_LO) ++ leBytes 4 (s.get F.FAB_UID_HI_UID_HI) ++ leBytes 2 n ++ leBytes 1 (s.pVs n)
      ++ leBytes 1 0 ++ leBytes 4 (s.pPasid n) ++ leBytes 8 (s.sqBase n) ++ leBytes 8 (s.cqBase n)
      ++ leBytes 1 (s.get (F.SHT_PNL_RING_SQ_ORDER n)) ++ leBytes 1 (s.get (F.SHT_PNL_RING_CQ_ORDER n))
      ++ leBytes 2 (s.get (F.SHT_PNL_RING_VECTOR n)) ++ leBytes 1 (s.get (F.SHT_PNL_RING_WEIGHT_M1 n) + 1)
      ++ leBytes 1 (s.get (F.SHT_PNL_RING_INT_HOLDOFF n)) ++ leBytes 2 0 ++ leBytes 2 (s.sqHead n) ++ leBytes 2 x.sqTail
      ++ leBytes 2 x.cqTail ++ leBytes 2 x.cqHead ++ leBytes 1 (b2n x.phase) ++ leBytes 1 (b2n x.cur.isSome) ++ leBytes 6 0
      ++ slice (x.cur.getD []) 0 64 ++ leBytes 8 x.done ++ leBytes 8 x.descDone ++ leBytes 8 x.bytes ++ leBytes 4 x.tmsg.toNat
      ++ leBytes 4 x.mmsg.toNat ++ (List.range 16).flatMap (fun g => leBytes 2 (slot g)) ++ List.replicate 572 0
  body ++ leBytes 4 (crc32c body).toNat

/-- PANEL_SAVE (R323). -/
def execPanelSave (h : Hdr) (s : State) : Res :=
  .next (s.serve (.panelSave h) (opPnl 0x0806 .R whoFP) h [] fun x s =>
    if s.pState x.n != pFrozen then .fail .notIdle s
    else .read s ((s.panelRecord x.n).map fun b => .u8 b.toNat))

/-- R324's checks of a record. -/
def recordOk (r : Bytes) : Bool :=
  let zero (off n : Nat) : Bool := (slice r off n).all fun b => b == 0
  leAt r 0 4 == 0x43505648 && leAt r 4 2 == 1 && leAt r 6 1 == pFrozen && leAt r 764 4 == (crc32c (r.take 764)).toNat
    && ringOk (leAt r 24 8) (leAt r 32 8) (leAt r 40 1) (leAt r 41 1) (leAt r 42 2) (leAt r 44 1) (leAt r 45 1)
    && zero 19 1 && decide (leAt r 20 4 < 2 ^ 20) && zero 46 2 && zero 58 6 && zero 160 2 && zero 192 572
    && decide (leAt r 56 1 ≤ 1) && decide (leAt r 57 1 ≤ 1)

/-- Bind the grants a restore supplies: slot, grant halfword. -/
def State.bindSlots (s : State) (n : Nat) (gs : List (Nat × Nat)) : State :=
  gs.foldl (fun s x =>
    let w := x.1 / 2
    let on : Bool := bit x.2 15
    if x.1 % 2 = 0 then (s.putB (F.SHT_PNL_SLOT_VALID0 n w) on).put (F.SHT_PNL_SLOT_GRANT0 n w) (x.2 % 1024)
    else (s.putB (F.SHT_PNL_SLOT_VALID1 n w) on).put (F.SHT_PNL_SLOT_GRANT1 n w) (x.2 % 1024)) s

/-- Write a record into a panel: it is FROZEN with the binding the opcode names (R324). -/
def State.putRecord (s : State) (n v pasid : Nat) (r : Bytes) : State :=
  let ws := bindParts n v pasid (leAt r 24 8) (leAt r 32 8) (leAt r 40 1) (leAt r 41 1) (leAt r 42 2) (leAt r 44 1) (leAt r 45 1)
  let s := s.applyItem (.bind n v ws)
  let s := ((s.setP n pFrozen).put (F.SHT_PNL_STATE_LAST_STATUS n) (leAt r 7 1)).put (F.SHT_PNL_STATE_SQ_HEAD n) (leAt r 48 2)
  let done := leAt r 128 8
  s.modPnl n fun _ =>
    { sqTail := leAt r 50 2, cqTail := leAt r 52 2, cqHead := leAt r 54 2, phase := leAt r 56 1 = 1,
      cur := if leAt r 57 1 = 1 then some (slice r 64 64) else none, done := done, wr := done, rd := done,
      descDone := leAt r 136 8, bytes := leAt r 144 8, tmsg := BitVec.ofNat 32 (leAt r 152 4),
      mmsg := BitVec.ofNat 32 (leAt r 156 4) }

/-- PANEL_RESTORE. -/
def execPanelRestore (h : Hdr) (vs : B8) (pasid : B32) (grants : List B16) (rec : Bytes) (s : State) : Res :=
  .next (s.serve (.panelRestore h vs pasid grants rec)
    { opPnl 0x0807 .I whoFP with len := grants.length == 16 && rec.length == 768 } h
    ([.u8 vs.toNat, .u8 0, .u8 0, .u8 0, .u32 pasid.toNat] ++ grants.map (fun g => .u16 g.toNat) ++ rec.map (fun b => .u8 b.toNat))
    fun x s =>
      let given := ((List.range 16).zip (grants.map BitVec.toNat)).filter fun g => g.1 != 0 && bit g.2 15
      if x.isP && !given.isEmpty then .fail .denied s
      else if x.isP && vs.toNat != x.vs then .fail .denied s
      else if 32 ≤ vs.toNat ∨ 2 ^ 20 ≤ pasid.toNat ∨ recordOk rec = false then .fail .badParam s
      else
        let st := s.pState x.n
        if !(st == pUnbound || (st == pStopped && s.sqHead x.n == (s.pnl x.n).sqTail)) then .fail .notIdle s
        else if s.pasidTaken x.n vs.toNat pasid.toNat
            || (given.any fun g => s.get (F.SHT_GNT_CTL_VS (g.2 % 1024)) != vs.toNat) then .fail .stagedConflict s
        else
          let s := ((s.putRecord x.n vs.toNat pasid.toNat rec).clearSlots x.n).bindSlots x.n given
          .ok (s.raise 0x07 0x6004 0 (scPanel x.n) [x.n, vs.toNat, leAt rec 8 8, leAt rec 16 2]))

/-- PANEL_RESUME. -/
def execPanelResume (h : Hdr) (s : State) : Res :=
  .next (s.serve (.panelResume h) (opPnl 0x0808 .I whoFP) h [] fun x s =>
    let st := s.pState x.n
    if st = pFrozen then .ok ((s.setP x.n pRunning).goOn x.n)
    else if st = pHalted then .ok (s.retryPanel x.n)
    else .fail .notIdle s)

/-- PANEL_RESET (R326). -/
def execPanelReset (h : Hdr) (s : State) : Res :=
  .next (s.serve (.panelReset h) (opPnl 0x0809 .A whoFP) h [] fun x s =>
    if s.pState x.n = pUnbound then .fail .notIdle s
    else { st := .accepted, s := (s.asyncObj x.n 0).resetPanel x.n pcReset })

/-- PANEL_MESSAGE (R320). -/
def execPanelMessage (h : Hdr) (word : B32) (s : State) : Res :=
  .next (s.serve (.panelMessage h word) (opPnl 0x080A .I whoFP) h [.u32 word.toNat] fun x s =>
    match s.panelVs x.n with
    | none => .fail .notIdle s
    | some v =>
      let w := word.toNat % 2 ^ 31 + (if (s.pnl x.n).mmsg.getLsbD 31 then 0 else 2 ^ 31)
      .ok ((s.modPnl x.n fun y => { y with mmsg := BitVec.ofNat 32 w }).fire v true (s.get (F.SHT_PNL_RING_VECTOR x.n))))

/-- PANEL_STATUS. -/
def execPanelStatus (h : Hdr) (s : State) : Res :=
  .next (s.serve (.panelStatus h) (opPnl 0x080B .R [.fm, .obs, .pm, .tenant]) h [] fun x s =>
    let y := s.pnl x.n
    .read s [.u32 (s.reg (F.SHT_PNL_STATE_STATE x.n).addr).toNat, .u32 (y.cqTail + b2n y.phase * 65536), .u64 y.descDone,
             .u64 y.bytes])

/-- R315: the whole range of a valid grant lies inside one valid window entry of its virtual switch, in the station that classifies
the Shuttle's requests, that leads outside under PROXY or to another node. -/
def State.grantOk (s : State) (q : Nat) : Bool :=
  if !s.flag (F.SHT_GNT_CTL_VALID q) then true
  else
    let v := s.get (F.SHT_GNT_CTL_VS q)
    let lo := s.grantBase q
    let hi := lo + s.get (F.SHT_GNT_SIZE_SIZE q) * 4096
    match s.usp v with
    | none => false
    | some u => (s.wins (stnOf u)).any fun w => w.vs == v && decide (w.base ≤ lo) && decide (hi ≤ w.limit + 1)
        && (w.dkind == 1 || (w.dkind == 0 && w.proxy && s.vsOf w.dest != v))

/-- The valid grants: VALID is 0 in every register that has not been written. -/
def State.validGrants (s : State) : List Nat :=
  let base := (F.SHT_GNT_CTL_VALID 0).addr
  (s.regs.filterMap fun x =>
    if base ≤ x.1 && decide (x.1 < base + 0x10 * 1024) && decide ((x.1 - base) % 0x10 = 0) then some ((x.1 - base) / 0x10)
    else none).filter fun q => s.flag (F.SHT_GNT_CTL_VALID q)

/-- STAGE_GRANT (R315). -/
def execStageGrant (h : Hdr) (grant : B16) (ctl lo hi size : B32) (s : State) : Res :=
  .next (s.serve (.stageGrant h grant ctl lo hi size) { code := 0x080C, kind := .S, who := [.fm], forms := [.dev] } h
    [.u16 grant.toNat, .u16 0, .u32 ctl.toNat, .u32 lo.toNat, .u32 hi.toNat, .u32 size.toNat] fun x s =>
      let q := grant.toNat
      if 1024 ≤ q ∨ size.toNat = 0 then .fail .badParam s
      else s.stage_ x [.regs [regWhole (F.SHT_GNT_CTL_VALID q).addr (ctl.toNat % 256),
          regWhole (F.SHT_GNT_BASE_LO_BASE_LO q).addr (lo.toNat / 4096 * 4096),
          regWhole (F.SHT_GNT_BASE_HI_BASE_HI q).addr hi.toNat, regWhole (F.SHT_GNT_SIZE_SIZE q).addr size.toNat]] 20
        fun sc => if sc.grantOk q then none else some (.stagedConflict, 0))

/-- A slot of a panel may name only a grant of the panel's virtual switch (R315). -/
def State.slotOk (s : State) (n g : Nat) : Bool :=
  match s.slotGrant n g with
  | none => true
  | some q => s.panelVs n == some (s.get (F.SHT_GNT_CTL_VS q))

/-- STAGE_SLOT (R315, R317). -/
def execStageSlot (h : Hdr) (slot valid : B8) (grant : B16) (s : State) : Res :=
  .next (s.serve (.stageSlot h slot valid grant) { opPnl 0x080D .S [.fm] with len := true } h
    [.u8 slot.toNat, .u8 valid.toNat, .u16 grant.toNat] fun x s =>
      let g := slot.toNat
      if g = 0 ∨ 16 ≤ g ∨ 2 ≤ valid.toNat ∨ 1024 ≤ grant.toNat then .fail .badParam s
      else
        let w := g / 2
        let parts := if g % 2 = 0 then [fldPart (F.SHT_PNL_SLOT_GRANT0 x.n w) grant.toNat, fldPart (F.SHT_PNL_SLOT_VALID0 x.n w) valid.toNat]
          else [fldPart (F.SHT_PNL_SLOT_GRANT1 x.n w) grant.toNat, fldPart (F.SHT_PNL_SLOT_VALID1 x.n w) valid.toNat]
        s.stage_ x [.regs parts] 4 fun sc => if sc.slotOk x.n g then none else some (.stagedConflict, 0))

/-- R325: the limit of PANEL_QUIESCE has passed; the panel stays QUIESCING. -/
def execPanelQuiesceTimeout (cred tag : B32) (s : State) : Res :=
  .next (s.endAsync (fun a => a.opcode == 0x0804 && a.cred == cred && a.tag == tag) .timeout none)

end Sys2Proof.Machine
end

