-- ==== Sys2Proof/Machine/Endpoint.lean ====
section
/-!
DEFINITION. Machine/Endpoint.lean: the management function of each virtual switch (chapter 12): its register window and the host
proxy (R335 to R340), its vectors (R341), thimbles (R344), the central reader and the counter pages (R346 to R350), and the
opcodes PMC_GRANT, PMC_READ and STAGE_PROXY_REGIONS.
-/

namespace Sys2Proof.Machine

/-! ### Thimbles (R343, R344) -/

/-- A region record's base, limit and permissions (Table 7.11). -/
def regBase (r : List B32) : Nat := (r.getD 0 0).toNat
def regLimit (r : List B32) : Nat := (r.getD 1 0).toNat
def regPerm (r : List B32) : Nat := bits (r.getD 2 0).toNat 0 3

/-- What a thimble answers to an access. -/
inductive ThmAns where
  | allowed
  | denied
  | overlap (i j : Nat)
  deriving DecidableEq, Repr

/-- R344: one region must hold every byte, and its PERM bit `kind` (0 read, 1 write, 2 update) must be set; a region with an
uncorrectable word grants nothing. -/
def thmCheck (rs : List (List B32)) (bad : List Nat) (off len kind : Nat) : ThmAns :=
  let holds (i : Nat) : Bool :=
    let r := rs.getD i []
    !bad.contains i && decide (regBase r ≤ off) && decide (off + len ≤ regLimit r + 1)
  match (List.range rs.length).filter holds with
  | [] => .denied
  | [i] => if bit (regPerm (rs.getD i [])) kind then .allowed else .denied
  | i :: j :: _ => .overlap i j

/-- The form of a region record (Table 7.11) in a space of `size` bytes where PERM bits from `perms` on have no meaning. -/
def regionFmt (size perms : Nat) (r : List B32) : Bool :=
  r.length == 4 && regBase r % 64 == 0 && (regLimit r + 1) % 64 == 0 && decide (regBase r ≤ regLimit r) && decide (regLimit r < size)
    && regPerm r != 0 && decide ((r.getD 2 0).toNat < 2 ^ perms) && r.getD 3 0 == 0

/-- Two regions share a byte. -/
def regionsMeet (a b : List B32) : Bool := decide (regBase a ≤ regLimit b) && decide (regBase b ≤ regLimit a)

/-- Some two regions of a set share a byte. -/
def regionsOverlap : List (List B32) → Bool
  | [] => false
  | r :: rs => rs.any (regionsMeet r) || regionsOverlap rs

/-- A new rule set under a new epoch; the one before it stays for accesses in flight. -/
def ThimbleSt.install (x : ThimbleSt) (rs : List (List B32)) : ThimbleSt :=
  { regions := rs, old := x.regions, epoch := (x.epoch + 1) % 256, fence := true, bad := [] }

/-- THIMBLE_DENIED, at most once per 100 ms per thimble (R345). -/
def State.thmDenied (s : State) (th addr kind : Nat) : State :=
  s.raiseLim ms100 th 0x08 0xA010 2 scDev 0 [th, addr, kind, (s.thm th).epoch]

/-! ### Function resets (R334) -/

/-- A Function Level Reset of the management function: it also closes the virtual switch's credentials (R391). -/
def State.flr0 (s : State) (v : Nat) : State :=
  let n := (s.proxyQ v).length
  ((s.epReset0 v).closeCreds (credOfVs v)).raise 0x08 0x7110 0 (scVs v) [v, 0, n]

/-- A Function Level Reset of the Shuttle function. -/
def State.flr1 (s : State) (v : Nat) : State := (s.epReset1 v pcFlr).raise 0x08 0x7110 0 (scVs v) [v, 1, 0]

/-- ENDPOINT_FLR. -/
def execEndpointFlr (v : VsId) (s : State) : Res := .next (s.flr0 v)

/-- SHUTTLE_FLR. -/
def execShuttleFlr (v : VsId) (s : State) : Res := .next (s.flr1 v)

/-- FUNCTION_RESET_COMPLETE: Request Retry Status ends, unless a Secondary Bus Reset holds the function in reset (R83). -/
def execFunctionResetComplete (v : VsId) (s : State) : Res :=
  .next (if (s.vs v).sbr then s else s.modVs v fun w => { w with rrs := false, f0 := { w.f0 with inReset := false } })

/-! ### The host proxy (R335 to R340) -/

/-- Writes and reads in the proxy queue of a virtual switch. -/
def isRead : ProxyAcc → Bool
  | .read .. => true
  | .write .. => false
def State.proxyReads (s : State) (v : Nat) : Nat := ((s.proxyQ v).filter isRead).length
def State.proxyWrites (s : State) (v : Nat) : Nat := ((s.proxyQ v).filter fun a => !isRead a).length

/-- HOST_BAR0_READ: at most 4 reads wait; a function that responds to nothing answers Unsupported Request (R333). -/
def execHostBar0Read (v : VsId) (off len : Nat) (tag : B16) (s : State) : Res :=
  .next (
    if !(s.vs v).f0.responds then s.emit (.barReply v tag 1 [])
    else if 4 ≤ s.proxyReads v then s
    else (s.setProxyQ v (s.proxyQ v ++ [.read off len tag])).count 21 0x40 16 0 0 1)

/-- HOST_BAR0_WRITE: at most 16 writes wait. -/
def execHostBar0Write (v : VsId) (off : Nat) (data : List B32) (full : Bool) (s : State) : Res :=
  .next (
    if !(s.vs v).f0.responds then s.bump F.ACW_EP_HOST_CNT_DISCARDED
    else if 16 ≤ s.proxyWrites v then s
    else (s.setProxyQ v (s.proxyQ v ++ [.write off data full])).count 21 0x41 16 0 0 1)

/-- Unsupported Request in the AER of the management function (R337). -/
def State.epAer (s : State) (v b : Nat) : State :=
  let f := (s.vs v).f0
  let s' := s.modVs v fun w => { w with f0 := w.f0.setDw 0x104 (f.dw 0x104 ||| 2 ^ b) }
  let bus := (s.usp v).elim 0 s.secBus
  if bit (f.dw 0x108) b then s' else s'.emit (.errMsg v (BitVec.ofNat 16 (bus * 256)) (if bit (f.dw 0x10C) b then 2 else 1))

/-- A deferred write error (R337): cause of Table 12.2 and device address, or BAR0 offset for causes 1 and 2. -/
def State.deferErr (s : State) (v cause addr : Nat) : State :=
  let s := (s.bump (F.ACW_EP_DEFER_COUNT v)).put (F.ACW_EP_DEFER_CAUSE v) cause
  let s := (s.put (F.ACW_EP_DEFER_ADDR_ADDR v) addr).count 21 0x44 16 0 0 1
  let s := s.raiseLim ms100 v 0x08 0x7102 2 (scVs v) 0 [v, addr, cause]
  let s := if s.flag (F.ACW_EP_VS_VEC_DEFER_EN v) then s.fire v false (s.get (F.ACW_EP_VS_VEC_DEFER_VEC v)) else s
  if cause ≤ 4 then s.epAer v aeUR else s

/-- A host read completed with Completer Abort; causes 5 and 6 are Table 12.2's, 7 the 48 µs cut-off (log entry 12). -/
def State.abortRead (s : State) (v addr cause : Nat) (tag : B16) : State :=
  let s := (s.bump F.ACW_EP_HOST_CNT_ABORTED).raiseQuiet ms100 v 0x08 0x7101 2 (scVs v) [v, addr, cause]
  s.emit (.barReply v tag 4 [])

/-- The device address of a BAR0 offset through its window entry, none where the entry is not VALID (R335). -/
def State.bar0Addr (s : State) (v off : Nat) : Option Nat :=
  let w := off / 2 ^ 21 % 8
  if s.flag (F.ACW_EP_WIN_VALID v w) then some (s.get (F.ACW_EP_WIN_DBASE v w) * 2 ^ 20 + off % 2 ^ 21) else none

/-- The shape R336 asks of a request, but for the byte enables of a write: 1 to 16 whole doublewords within one 64-byte block. -/
def shapeOk (off len : Nat) : Bool :=
  off % 4 == 0 && len % 4 == 0 && decide (4 ≤ len) && decide (len ≤ 64) && decide (off % 64 + len ≤ 64)

/-- Refused by T292: counted with its event. An overlap reloads the rules (R345). -/
def State.proxyDenied (s : State) (addr kind : Nat) (a : ThmAns) : State :=
  let s := s.bump F.ACW_EP_PROXY_THM_DENIED
  match a with
  | .overlap i j => s.raise 0x08 0xA011 3 scDev [292, i, j, (s.thm 292).epoch]
  | _ => s.thmDenied 292 addr kind

def State.proxyThm (s : State) (addr len kind : Nat) : ThmAns := thmCheck (s.thm 292).regions (s.thm 292).bad addr len kind

/-- Read n registers from address a on by the proxy of VSv, in ascending order. -/
def State.proxyWords (s : State) (v a : Nat) : Nat → State × List B32
  | 0 => (s, [])
  | n + 1 =>
    let x := s.readBy (5 + v) a
    let y := State.proxyWords x.1 v (a + 4) n
    (y.1, x.2 :: y.2)

/-- A host read at the head of its queue (Table 12.2). -/
def State.proxyRead (s : State) (v off len : Nat) (tag : B16) : State :=
  if !shapeOk off len then s.emit (.barReply v tag 1 [])
  else match s.bar0Addr v off with
    | none => s.emit (.barReply v tag 1 [])
    | some a =>
      let words := (List.range (len / 4)).map fun i => a + 4 * i
      match words.find? fun w => s.proxyThm w 4 0 != .allowed with
      | some w => (s.proxyDenied w 0 (s.proxyThm w 4 0)).emit (.barReply v tag 1 [])
      | none =>
        match words.find? fun w => !s.regOn w with
        | some w => s.abortRead v w 5 tag
        | none =>
          let x := s.prbsAdvanceAll.proxyWords v a (len / 4)
          x.1.emit (.barReply v tag 0 x.2)

/-- One register access of a host write, with causes 3 to 5 of Table 12.2. -/
def State.proxyPut (s : State) (v a : Nat) (w : B32) : State :=
  let t := s.proxyThm a 4 1
  if t != .allowed then (s.proxyDenied a 1 t).deferErr v 3 a
  else if !s.hostWritable v a then s.deferErr v 4 a
  else if !s.regOn a then s.deferErr v 5 a
  else s.regWrite a w

/-- The register accesses of a host write from address a on, in ascending order. One that fails has its own record and the others are
still made: DESIGN CHOICE (log entry 54). -/
def State.proxyPuts (s : State) (v a : Nat) : List B32 → State
  | [] => s
  | w :: ws => (s.proxyPut v a w).proxyPuts v (a + 4) ws

/-- A host write at the head of its queue. -/
def State.proxyWrite (s : State) (v off : Nat) (data : List B32) (full : Bool) : State :=
  if !full || !shapeOk off (4 * data.length) then s.deferErr v 1 off
  else match s.bar0Addr v off with
    | none => s.deferErr v 2 off
    | some a => s.proxyPuts v a data

/-- PROXY_ACCESS: the oldest access of a virtual switch is translated, issued and answered (R335, R338). -/
def execProxyAccess (v : VsId) (s : State) : Res :=
  .next (match s.proxyQ v with
    | [] => s
    | .read off len tag :: rest => (s.setProxyQ v rest).proxyRead v off len tag
    | .write off data full :: rest => (s.setProxyQ v rest).proxyWrite v off data full)

/-- The device address an access in the queue leads to, or its offset. -/
def State.accAddr (s : State) (v off : Nat) : Nat := (s.bar0Addr v off).getD off

/-- REGISTER_ACCESS_TIMEOUT: the oldest access has no response within 1.5 µs, or meets an uncorrectable register word (R340). -/
def execRegisterAccessTimeout (v : VsId) (s : State) : Res :=
  .next (match s.proxyQ v with
    | [] => s
    | .read off _ tag :: rest => (s.setProxyQ v rest).abortRead v (s.accAddr v off) 6 tag
    | .write off _ _ :: rest => (s.setProxyQ v rest).deferErr v 6 (s.accAddr v off))

/-- Drop the oldest read of a queue, with what it was. -/
def takeRead : List ProxyAcc → Option ((Nat × B16) × List ProxyAcc)
  | [] => none
  | .read off _ tag :: rest => some ((off, tag), rest)
  | a :: rest => (takeRead rest).map fun x => (x.1, a :: x.2)

/-- HOST_READ_ABORTED: 48 µs after its arrival the oldest read is completed with Completer Abort. -/
def execHostReadAborted (v : VsId) (s : State) : Res :=
  .next (match takeRead (s.proxyQ v) with
    | none => s
    | some ((off, tag), rest) => (s.setProxyQ v rest).abortRead v (s.accAddr v off) 7 tag)

/-- BAR4_WRITE (R350). -/
def execBar4Write (_v : VsId) (s : State) : Res := .next (s.bump F.ACW_EP_HOST_CNT_DISCARDED)

/-! ### Vectors (R341) -/

/-- Table Size + 1 of a function. -/
def vecCount (fn : Bool) : Nat := if fn then 2048 else 256

/-- MSIX_MESSAGE: a vector's source fires. -/
def execMsixMessage (v : VsId) (fn : Bool) (vec : Fin 2048) (s : State) : Res :=
  .next (if vec.val < vecCount fn then s.fire v fn vec else s)

/-- Send the message of every vector that is pending and may send now. -/
def State.sendPending (s : State) (v : Nat) (fn : Bool) : State :=
  (((s.vs v).fn fn).vecs.filter fun x => x.2.pending).foldl (fun s x =>
    if ((s.vs v).fn fn).maySend x.1 then s.fire v fn x.1 else s) s

/-- MSIX_VECTOR_UNMASK: the host writes an entry of the MSI-X table with its mask bit clear. -/
def execMsixVectorUnmask (v : VsId) (fn : Bool) (vec : Fin 2048) (addr : B64) (data : B32) (s : State) : Res :=
  .next (
    let f := (s.vs v).fn fn
    if !f.responds then s.bump F.ACW_EP_HOST_CNT_DISCARDED
    else if vecCount fn ≤ vec.val then s
    else
      let e : Vec := { f.vec vec with addr := addr, data := data, masked := false }
      (s.modVs v fun w => w.modFn fn fun g => g.setVec vec e).sendPending v fn)

/-! ### Counters (R346 to R348) -/

/-- A counter of a running unit counts. -/
def State.cntRuns (s : State) (u c : Nat) : Bool :=
  s.flag (F.PMU_UNIT_CTL_RUN u) && (s.get (F.PMU_CNT_CTL_EVSEL u c) != 0 || (c % 2 == 1 && s.flag (F.PMU_CNT_CTL_CHAIN u c)))

/-- A counter reaches its wrap. -/
def State.wrap (s : State) (u c : Nat) : State :=
  (s.cntAdd u c (2 ^ 32 - s.get (F.PMU_CNT_VALUE u c)) fun s v i => s.fireVec v false i).1.cntChain u c fun s v i => s.fireVec v false i

/-- COUNTER_WRAP. -/
def execCounterWrap (u : Pmu) (c : Fin 8) (s : State) : Res :=
  .next (if s.cntRuns u c && !s.flag (F.PMU_CNT_CTL_SMP u c) then s.wrap u c else s)

/-- COUNTER_SAMPLE: a sampling counter wraps (R348). -/
def execCounterSample (u : Pmu) (c : Fin 8) (s : State) : Res :=
  .next (if s.cntRuns u c && s.flag (F.PMU_CNT_CTL_SMP u c) then s.wrap u c else s)

/-- A condition of unit u holds for one nanosecond, of the ports, classes and VCs listed: a counter that selects it and lets one of them
through its filters counts 1 (R346). -/
def State.lasts (s : State) (u ev : Nat) (on : List (Nat × Nat × Nat)) : State :=
  if s.flag (F.PMU_UNIT_CTL_RUN u) && !on.isEmpty then
    (List.range 8).foldl (fun s c =>
      if on.any fun x => s.cntSees u c ev x.1 x.2.1 x.2.2 then
        match s.cntAdd u c 1 fun s v i => s.fireVec v false i with
        | (s, true) => s.cntChain u c fun s v i => s.fireVec v false i
        | (s, false) => s
      else s) s
  else s

/-- The ingress classes of station st that are held (R24): a TLP of the class waits for an output, or for a place in its hand-off queue. -/
def State.heldClasses (s : State) (st : Nat) : List (Nat × Nat × Nat) :=
  (s.core.flights.filter fun f => f.stn == st && f.src < 144 && (s.heldHead f || (s.bstn st).waiting.contains f.id)).map fun f =>
    (kOf f.src, f.cls, f.vc)

/-- The hand-off queues of station st that are full (R28). -/
def State.fullHands (s : State) (st : Nat) : List (Nat × Nat × Nat) :=
  ((List.range 6).filter fun k => decide (64 ≤ (s.handQueue st k).length)).map fun k => (16, k % 3, k / 3)

/-- The duration events of Table 12.6. -/
def State.durations (s : State) : State :=
  let one (b : Bool) : List (Nat × Nat × Nat) := if b then [(16, 0, 0)] else []
  let s := (List.range 16).foldl (fun s st => (s.lasts st 0x05 (s.heldClasses st)).lasts st 0x09 (s.fullHands st)) s
  let s := (List.range 4).foldl (fun s q =>
    s.lasts (16 + q) 0x22 (one ((List.range 4).any fun b => (s.writeWants (4 * q + b)).any fun n => n != 0))) s
  s.lasts 20 0x34 (one ((List.range 32).all fun m => (s.mover m).panel.isSome))

/-- One nanosecond passes with no command: the duration events count it and the clocks advance. -/
def State.tick (s : State) : State := s.durations.nanosecond

/-- The reading the central reader took of a counter last. -/
def State.prevCnt (s : State) (u c : Nat) : Nat := (SMap.get (fun _ => 0) s.ep.prev (8 * u + c)).toNat
def State.setPrev (s : State) (u c v : Nat) : State :=
  { s with ep := { s.ep with prev := SMap.set (fun _ => 0) s.ep.prev (8 * u + c) (BitVec.ofNat 32 v) } }

/-- One counter in a sweep: an odd counter chained to the one before is part of it; a pair is read as 64 bits; CHG loads the
accumulator instead of adding; a sampling counter's accumulator counts its samples. -/
def State.sweepCnt (s : State) (u c : Nat) : State :=
  let chg := F.PMU_CNT_CTL_CHG u c
  let chained (c : Nat) : Bool := c % 2 == 1 && s.flag (F.PMU_CNT_CTL_CHAIN u c)
  if chained c then s.setAcc u c 0
  else if s.flag (F.PMU_CNT_CTL_SMP u c) then s.putB chg false
  else if s.get (F.PMU_CNT_CTL_EVSEL u c) = 0 then s
  else
    let v := s.get (F.PMU_CNT_VALUE u c)
    let pair : Bool := c % 2 == 0 && chained (c + 1)
    let hi := if pair then s.get (F.PMU_CNT_VALUE u (c + 1)) else 0
    let now := v + hi * 2 ^ 32
    let before := s.prevCnt u c + (if pair then s.prevCnt u (c + 1) * 2 ^ 32 else 0)
    let span := if pair then 2 ^ 64 else 2 ^ 32
    let fresh : Bool := s.flag chg || (pair && s.flag (F.PMU_CNT_CTL_CHG u (c + 1)))
    let s := if fresh then s.setAcc u c now else s.accAdd u c ((now + span - before) % span)
    let s := (s.setPrev u c v).putB chg false
    if pair then (s.setPrev u (c + 1) hi).putB (F.PMU_CNT_CTL_CHG u (c + 1)) false else s

/-- COUNTER_SWEEP: units of domains that are off are not read; each unit page's SEQ is even again afterwards. -/
def execCounterSweep (s : State) : Res :=
  .next (
    if !s.flag F.PMC_CTL_READER_EN then s
    else
      let s := ((List.range 22).filter fun u => s.pdOn (domainOf (pmuBase u))).foldl (fun s u =>
        (List.range 8).foldl (fun s c => s.sweepCnt u c) s) s
      let s := s.bumpWrap F.PMC_SWEEPS_SWEEPS 1
      { s with ep := { s.ep with sweepTime := s.clk.fab, sweepSeq := s.ep.sweepSeq + 2 } })

/-- Unit u is shown in BAR4 of VSv. -/
def State.pageShown (s : State) (u v : Nat) : Bool := bit (s.get (F.PMC_READ_MASK_READ_MASK u)) v

/-- The 64-bit word a host of VSv reads at an offset of BAR4 (Table 12.8). -/
def State.bar4 (s : State) (v off : Nat) : Nat :=
  if off = 0 then s.ep.sweepTime.toNat
  else if off = 8 then
    s.get F.PMC_SWEEPS_SWEEPS + ((List.range 22).foldl (fun n u => n + if s.pageShown u v then 2 ^ u else 0) 0) * 2 ^ 32
  else if 0x1000 ≤ off ∧ off < 0x17000 then
    let u := off / 0x1000 - 1
    let w := off % 0x1000 / 8
    if !s.pageShown u v then 0
    else if w < 8 then s.acc u w
    else if w = 8 then (List.range 8).foldl (fun n c => n + s.get (F.PMU_CNT_CTL_EVSEL u c) * 2 ^ (8 * c)) 0
    else if w = 14 then s.ep.sweepSeq
    else if w = 15 then s.ep.sweepTime.toNat
    else 0
  else if 0x18000 ≤ off ∧ off < 0x1C000 then
    match s.ep.samples.find? fun x => x.seq % 256 == (off - 0x18000) / 0x40 with
    | some x => if s.pageShown x.unit v then leAt (pmcBytes x) ((off - 0x18000) % 0x40) 8 else 0
    | none => 0
  else 0

/-! ### Opcodes -/

/-- PMC_GRANT (R349). -/
def execPmcGrant (h : Hdr) (unit vs en : B8) (mask : B32) (s : State) : Res :=
  .next (s.serve (.pmcGrant h unit vs en mask) { code := 0x0C01, kind := .S, who := [.fm], forms := [.dev] } h
    [.u8 unit.toNat, .u8 vs.toNat, .u8 en.toNat, .u8 0, .u32 mask.toNat] fun x s =>
      let u := unit.toNat
      if 22 ≤ u ∨ 32 ≤ vs.toNat ∨ 2 ≤ en.toNat then .fail .badParam s
      else s.stage_ x [.regs [regWhole (F.PMC_GRANT_CTL_VS u).addr (vs.toNat + en.toNat * 32),
          regWhole (F.PMC_READ_MASK_READ_MASK u).addr mask.toNat]] 8 fun _ => none)

/-- PMC_READ. -/
def execPmcRead (h : Hdr) (unit : B8) (s : State) : Res :=
  .next (s.serve (.pmcRead h unit) { code := 0x0C02, kind := .R, who := [.fm, .obs], forms := [.dev] } h [.u8 unit.toNat] fun _ s =>
    let u := unit.toNat
    if 22 ≤ u then .fail .badParam s else .read s ((List.range 8).map fun c => .u64 (s.acc u c)))

/-- Region records as packet fields. -/
def recDats (recs : List (List B32)) : List Dat := recs.flatMap fun r => r.map fun w => .u32 w.toNat

/-- STAGE_PROXY_REGIONS: regions of T292 over the 64 MiB device register space; indivisible updates have no meaning there. -/
def execStageProxyRegions (h : Hdr) (nreg : B8) (recs : List (List B32)) (s : State) : Res :=
  .next (s.serve (.stageProxyRegions h nreg recs)
    { code := 0x0F08, kind := .S, who := [.fm], forms := [.dev], len := recs.length == nreg.toNat && recs.all fun r => r.length == 4 } h
    ([.u8 nreg.toNat, .u8 0, .u8 0, .u8 0] ++ recDats recs) fun x s =>
      if 16 < nreg.toNat ∨ recs.all (regionFmt (2 ^ 26) 2) = false then .fail .badParam s
      else s.stage_ x [.proxyRegions recs] (4 + 16 * recs.length) fun _ =>
        if regionsOverlap recs then some (.stagedConflict, 0) else none)

end Sys2Proof.Machine
end

