-- ==== Sys2Proof/Machine/Bobbin.lean ====
section
/-!
DEFINITION. Machine/Bobbin.lean: the engines (chapter 7): dispatch, return and rejoin (R178 to R181), what a program sees (R182 to R184),
every instruction of Table 7.4, verdicts (R191, R192), faults and the loss of an engine (R197 to R199), sampling (R200), and the rule
fences of engine and other thimbles (R196, R344).
-/

namespace Sys2Proof.Machine

/-! ### Images as bytes (Table 7.10) -/

def imgProgLen (img : Bytes) : Nat := leAt img 12 2
def imgDataLen (img : Bytes) : Nat := leAt img 14 2
def imgId (img : Bytes) : Nat := leAt img 8 2
def imgVer (img : Bytes) : Nat := leAt img 10 2

/-- The i-th region record as four words. -/
def imgRegion (img : Bytes) (i : Nat) : List B32 := (List.range 4).map fun w => BitVec.ofNat 32 (leAt img (32 + 16 * i + 4 * w) 4)
def imgRegions (img : Bytes) : List (List B32) := (List.range (leAt img 22 1)).map (imgRegion img)

/-- Data space as an image copy sets it: the data section, followed by zeros (R184). -/
def imgData (img : Bytes) : SMap B8 :=
  let d := slice img (288 + 4 * imgProgLen img) (imgDataLen img)
  ((List.range d.length).zip d).filter fun x => x.2 != 0

/-- The image an engine runs: the staging one once it has changed over in a swap (R205). -/
def State.engImage (s : State) (e : Nat) : Bytes :=
  if (s.eng e).newImage then (s.bstn (e / 16)).staging else (s.bstn (e / 16)).active

/-! ### Engine states -/

def State.engState (s : State) (e : Nat) : Nat := s.get (F.STN_BE_STATE_STATE (e / 16) (e % 16))

/-- STATE with its bit of IN_SERVICE. -/
def State.setEngState (s : State) (e v : Nat) : State :=
  let st := e / 16
  let s := s.put (F.STN_BE_STATE_STATE st (e % 16)) v
  s.put (F.STN_BB_STATUS_IN_SERVICE st) (setBit (s.get (F.STN_BB_STATUS_IN_SERVICE st)) (e % 16) (v == 0))

def State.running (s : State) (e : Nat) : Bool := (s.eng e).run.isSome
def engsOf (st : Nat) : List Nat := (List.range 16).map fun k => 16 * st + k

/-- The station has an engine in service (STATE 0). -/
def State.serving (s : State) (st : Nat) : Bool := (engsOf st).any fun e => s.engState e == 0

/-- A CUT swap still has an engine to bring back: its stop of dispatch (R205) is no loss of the station's engines. -/
def State.cutting (s : State) (st : Nat) : Bool := (s.bstn st).swap == 1 && (engsOf st).any fun e => s.engState e == 1

/-- NO_ENGINE, once each time the station comes to have none in service (R199). -/
def State.checkEngines (s : State) (st : Nat) : State :=
  let none15 := !s.serving st && !s.cutting st
  let s' := if none15 && !(s.bstn st).none15 then
      s.raise (srcStn st) 0x4015 4 (scStn st) [st, s.get (F.STN_BB_CTL_FAULT_POLICY st)] else s
  s'.modBstn st fun b => { b with none15 := none15 }

/-- Engines that a swap takes out of dispatch: all idle ones in CUT mode, the next one in ROLLING mode once it is idle (R205). -/
def State.swapMark (s : State) (st : Nat) : State :=
  let take (s : State) (e : Nat) : State := if s.engState e = 0 ∧ s.running e = false then s.setEngState e 1 else s
  match (s.bstn st).swap with
  | 1 => (engsOf st).foldl (fun s e => if (s.eng e).newImage then s else take s e) s
  | 2 => (match (engsOf st).find? fun e => !(s.eng e).newImage with
    | some e => (take s e).checkEngines st
    | none => s)
  | _ => s

/-! ### Sampling (R200, Table 7.9) -/

/-- The due sample becomes a ring entry. -/
def State.smpWrite (s : State) (e : Nat) : State :=
  let x := s.eng e
  match x.due with
  | none => s
  | some (pc, cls, _) =>
    let v := pc % 4096 + cls % 4 * 2 ^ 12 + bits x.smp 1 2 * 2 ^ 14 + x.seq % 65536 * 2 ^ 16 + s.fabNow % 2 ^ 32 * 2 ^ 32
    let l := x.ring ++ [BitVec.ofNat 64 v]
    let s := s.modEng e fun y => { y with due := none, ring := l.drop (l.length - 32), seq := (x.seq + 1) % 65536 }
    (s.put (F.STN_BE_SMP_STAT_NEXT (e / 16) (e % 16)) ((x.seq + 1) % 32)).bump (F.STN_BE_SMP_STAT_TAKEN (e / 16) (e % 16))

/-- An event that a sampler may count happens at instruction pc; at the period a sample is due, and counting starts again. -/
def State.smpEvent (s : State) (e kind pc cls : Nat) : State :=
  let x := s.eng e
  if bit x.smp 0 && bits x.smp 1 2 == kind then
    if bits x.smp 4 16 < x.count + 1 then (s.smpWrite e).modEng e fun y => { y with count := 0, due := some (pc, cls, 0) }
    else s.modEng e fun y => { y with count := y.count + 1 }
  else s

/-- One more instruction within the skid: a due sample takes its PC, and is written at the third. -/
def State.smpSkid (s : State) (e pc : Nat) : State :=
  match (s.eng e).due with
  | none => s
  | some (_, cls, n) =>
    let s := s.modEng e fun y => { y with due := some (pc, cls, n + 1) }
    if 3 ≤ n + 1 then s.smpWrite e else s

/-- BOBBIN_SAMPLE. -/
def execBobbinSample (e : Eng) (s : State) : Res := .next (s.smpWrite e)

/-! ### Return and rejoin (R180) -/

/-- A returned header rejoins, or waits in the rejoin buffer for an earlier one of its ordering class. -/
def State.rejoin (s : State) (f : Flight) : State :=
  if (s.before f).any fun g => sameClass f g && !g.ready then
    (s.setFlight f).modBstn f.stn fun b => { b with rejoin := b.rejoin ++ [f.id] }
  else s.settle { f with ready := true }

/-- A header leaves without going on: a non-posted request is completed, a posted header or a completion is counted (in the model's own
count: the spec names no register for it, log entry 22), and its credit returns (Table 7.5, R197). -/
def State.bobDiscard (s : State) (f : Flight) (status : Nat) : State :=
  let s := if f.cls = 1 then
      s.emit (.completion (s.backTo s.nodeId (srcIng f.src)) f.tlp0.rid f.tlp0.tag status (s.completerAt (srcIng f.src) f.vs))
    else s.modBstn f.stn fun b => { b with discards := b.discards + 1 }
  (s.dropFlight f.id).returnCredit f

/-- REJOIN_RELEASE. -/
def execRejoinRelease (id : Nat) (s : State) : Res :=
  .next (
    match s.flight id with
    | none => s
    | some f =>
      let b := s.bstn f.stn
      if !b.rejoin.contains id || (s.before f).any fun g => sameClass f g && !g.ready then s
      else (s.modBstn f.stn fun b => { b with rejoin := b.rejoin.filter (· != id) }).settle { f with ready := true })

/-! ### The header window (R182) -/

/-- Bytes of the window that a TLP of this HDR_LEN and NPFX fills. -/
def winPresent (hdrLen npfx i : Nat) : Bool := if i < 48 then decide (i < hdrLen) else decide (i < 48 + 4 * npfx)

/-- The window of a TLP. -/
def winOfTlp (t : Tlp) (hdrLen npfx : Nat) : Bytes :=
  (List.range 64).map fun i => if winPresent hdrLen npfx i then (Config.window t).getD i 0 else 0

/-- The EP bit: bit 7 of byte 6 of the FLIT-mode header (PCI Express Base Specification 7.0; log entry 10). -/
def epByte : Nat := 6
def epMask : B8 := 0x80

/-- One byte written by STH: the first doubleword is read only, absent bytes are discarded, a set EP stays set. -/
def winByte (r : BRun) (i : Nat) (v : B8) : B8 :=
  let old := r.win.getD i 0
  if i < 4 ∨ winPresent r.hdrLen r.npfx i = false then old
  else if i = epByte then v ||| (old &&& epMask) else v

/-- The low n bytes of v into the window from off, the first byte the most significant. -/
def winStore (r : BRun) (off n : Nat) (v : B64) : Bytes :=
  (List.range 64).map fun i =>
    if off ≤ i ∧ i < off + n then winByte r i (BitVec.ofNat 8 (v.toNat / 2 ^ (8 * (off + n - 1 - i)))) else r.win.getD i 0

/-- n window bytes from off, the first byte the most significant. -/
def winLoad (win : Bytes) (off n : Nat) : Nat := (slice win off n).foldl (fun v b => v * 256 + b.toNat) 0

/-- A TLP as a program leaves it with this window, in the format in which it stands in the datapath: header bytes and fields follow the
window, the first doubleword and the payload stay, and EP once set stays set (R182). -/
def leftTlp (old : Tlp) (win : Bytes) : Tlp :=
  let f := flitForm old
  let h := Config.unwindow win f
  let t := Config.parseHdr h f
  let n := { t with hdr := h, data := old.data, len := old.len, tc := old.tc, ro := old.ro, ido := old.ido, kind := old.kind,
                    ep := old.ep || (win.getD epByte 0 &&& epMask) != 0, prefixes := old.prefixes, digest := old.digest, flitFmt := true }
  if old.flitFmt then n
  else { n with hdr := (Config.convert n).hdr, flitFmt := false }

/-! ### Ends of runs -/

/-- What an instruction does next: on to the instruction after it and off further, a run fault, or the end of the run with a verdict
(0 FORWARD, 1 DROP, 2 ABORT, 3 REDIRECT to a port). -/
inductive IOut where
  | go (s : State) (off : Nat)
  | fault (s : State) (cause : Nat)
  | quit (s : State) (v port : Nat)

/-- The engine is free again: runs counted, a due sample written, a swap waiting for it goes on. -/
def State.retire (s : State) (e : Nat) (r : BRun) : State :=
  let st := e / 16
  let s := (s.addWide (F.STN_BE_RUNS_LO_RUNS_LO st (e % 16)) (F.STN_BE_RUNS_HI_RUNS_HI st (e % 16)) 1).count st 0x07 16 r.cls 0 1
  let s := (s.smpEvent e 1 (s.eng e).pc r.cls).smpWrite e
  (s.modEng e fun x => { x with run := none }).swapMark st

/-- The tag of a TLP whose window the program has changed from `win0` to `win` (R189): the old tag with the CRC of the change of the bytes
it covers. -/
def leftTag (btag : B32) (old : Tlp) (win0 win : Bytes) : B32 := if win = win0 then btag else retag btag old (leftTlp old win)

/-- The flight as the program left it: header and tag, and the trace rules it asked for. -/
def returned (f : Flight) (r : BRun) : Flight :=
  let g (d : Dest) : Dest :=
    if r.win = r.win0 then d
    else { d with r := { d.r with btag := leftTag d.r.btag d.r.tlp r.win0 r.win, tlp := leftTlp d.r.tlp r.win } }
  { f with dests := f.dests.map g, traceReq := f.traceReq ++ r.rules, hand := none }

/-- The header as it was at dispatch, as if PROG had been clear; TRACE actions taken before a fault remain (R191). -/
def unreturned (f : Flight) (rules : List Nat) : Flight := { f with traceReq := f.traceReq ++ rules, hand := none }

/-- The destination of REDIRECT to port p, where it is valid (R192). -/
def State.redirect (s : State) (f : Flight) (p : Nat) : Option Dest :=
  match f.dests with
  | [d] =>
    if !f.repl && decide (d.qid < 54) && decide (d.r.destPort < 144) && decide (p < 144) && s.exists p
        && (s.role p == 1 || s.role p == 2) && s.vsOf p == s.vsOf d.r.destPort then
      let v := s.vcOf p d.r.tlp.tc.val
      some { d with bank := stnOf p, qid := 6 * kOf p + 3 * v + f.cls, r := { d.r with vc := v, destPort := p } }
    else none
  | _ => none

/-- FAULT_POLICY for a header: discarded, or rejoining as dispatched. -/
def State.faultPolicy (s : State) (st : Nat) (f : Flight) (rules : List Nat) : State :=
  if s.get (F.STN_BB_CTL_FAULT_POLICY st) = 0 then s.bobDiscard f 1 else s.rejoin (unreturned f rules)

/-- Count and record a fault (R197). -/
def State.noteFault (s : State) (st e pc cause cls : Nat) : State :=
  let s := ((s.bump (F.STN_BB_FAULTS_FAULTS st)).put (F.STN_BB_LAST_FAULT_ENGINE st) (e % 16)).put (F.STN_BB_LAST_FAULT_PC st) pc
  let s := (s.put (F.STN_BB_LAST_FAULT_CAUSE st) cause).put (F.STN_BB_LAST_FAULT_CLASS st) cls
  s.raiseLim ms100 (16 * st + cause) (srcStn st) 0x4010 2 (scStn st) 0 [e, pc, cause, cls]

/-- An engine stays out of service: ENGINE_FAILED. -/
def State.engFail (s : State) (e cause : Nat) : State :=
  (s.setEngState e 3).raise (srcStn (e / 16)) 0x4013 3 (scStn (e / 16)) [e, cause]

/-- An engine is taken out of service (Table 7.8); a second time within 1 s of its last restoration it stays out (R199). -/
def State.engOut (s : State) (e cause pc : Nat) : State :=
  let st := e / 16
  let again : Bool := match (s.eng e).restoredAt with
    | some t => decide (s.clk.now < t + 1000000000)
    | none => false
  let s := ((s.setEngState e 2).bump (F.STN_BE_STATE_LOSSES st (e % 16))).modEng e fun x => { x with outAt := s.clk.now }
  let s := s.raise (srcStn st) 0x4011 3 (scStn st) [e, cause, pc]
  let s := (s.cqOpen st 3 e 0x30).1
  (if again then s.engFail e cause else s).checkEngines st

/-- A run fault (R197). Causes 6, 7 and 9 take the engine out of service, but for a run that a fence ended. -/
def State.runFault (s : State) (e cause : Nat) (byFence : Bool) : State :=
  match (s.eng e).run with
  | none => s
  | some r =>
    let st := e / 16
    let pc := (s.eng e).pc
    let s := (s.noteFault st e pc cause r.cls).put (F.STN_BE_STATE_LAST_CAUSE st (e % 16)) cause
    let s := (s.smpEvent e 3 pc r.cls).retire e r
    let s := match s.flight r.fid with
      | some f => s.faultPolicy st f r.rules
      | none => s
    if (cause = 6 ∨ cause = 7 ∨ cause = 9) ∧ byFence = false then s.engOut e cause pc else s

/-- A run ends with a verdict (Table 7.5). -/
def State.runEnd (s : State) (e v port : Nat) : State :=
  match (s.eng e).run with
  | none => s
  | some r =>
    match s.flight r.fid with
    | none => s.retire e r
    | some f =>
      match v with
      | 0 => (s.retire e r).rejoin (returned f r)
      | 1 => (s.retire e r).bobDiscard f 1
      | 2 => (s.retire e r).bobDiscard f 4
      | _ =>
        match s.redirect (returned f r) port with
        | some d => (s.retire e r).rejoin { returned f r with dests := [d] }
        | none => s.runFault e 4 false

/-! ### Running one instruction -/

/-- A general register; g0 reads 0. -/
def State.greg (s : State) (e : Nat) (i : Fin 16) : B64 := if i = 0 then 0 else SMap.get (fun _ => 0) (s.eng e).regs i.val
/-- Write a general register; writes to g0 are discarded. -/
def State.setGreg (s : State) (e : Nat) (i : Fin 16) (v : B64) : State :=
  if i = 0 then s else s.modEng e fun x => { x with regs := SMap.set (fun _ => 0) x.regs i.val v }

/-- LDT results whose three instructions have passed reach their registers (R187). -/
def State.landLoads (s : State) (e : Nat) (r : BRun) : State :=
  let s := (r.loads.filter fun l => l.2.2 == 0).foldl (fun s l => s.setGreg e (Fin.ofNat 16 l.1) l.2.1) s
  let rest := (r.loads.filter fun l => l.2.2 != 0).map fun l => (l.1, l.2.1, l.2.2 - 1)
  s.modEng e fun x => { x with run := some { r with loads := rest } }

/-- An instruction of run r at engine e begins: LDT results land, it is counted, and a sample moves on. -/
def State.instrStart (s : State) (e : Nat) (r : BRun) : State :=
  let st := e / 16
  let pc := (s.eng e).pc
  let s := s.landLoads e r
  let s := (s.addWide (F.STN_BE_INSTR_LO_INSTR_LO st (e % 16)) (F.STN_BE_INSTR_HI_INSTR_HI st (e % 16)) 1).count st 0x08 16 r.cls 0 1
  (s.smpSkid e pc).smpEvent e 0 pc r.cls

/-- The instruction at the program counter of engine e, in the image it runs (R184, R185). -/
def State.fetch (s : State) (e : Eng) : Option Instr :=
  let img := s.engImage e
  let pc := (s.eng e).pc
  if pc < imgProgLen img then decodeBobbin e (leAt img (288 + 4 * pc) 4) else none

/-- A corrected or uncorrectable word of local memory: space 0 program, 1 data (R197). -/
def State.localEcc (s : State) (e space word ecc : Nat) : State :=
  if ecc = 1 then
    (s.bump (F.STN_BE_MEM_ECC_CORR (e / 16) (e % 16))).raiseLim ms100 e (srcStn (e / 16)) 0x4014 1 (scStn (e / 16)) 0 [e, space, word]
  else if ecc = 2 then s.bump (F.STN_BE_MEM_ECC_UNCORR (e / 16) (e % 16))
  else s

/-- The run comes to the slot whose word the decoder of program memory corrects (1) or cannot correct (2): the second is a fault of cause
LOCAL_UNCORR (Table 7.7). A word holds two slots. -/
def State.fetched (s : State) (e : Nat) : State :=
  match (s.eng e).run with
  | none => s
  | some r =>
    match r.bad with
    | none => s
    | some (slot, ecc) =>
      if slot ≠ (s.eng e).pc then s
      else
        let s := (s.modEng e fun x => { x with run := some { r with bad := none } }).localEcc e 0 (slot / 2) ecc
        if ecc = 2 then s.runFault e 6 false else s

/-- One instruction of engine e's run: x, if it is the one at the program counter (R188). Otherwise, and without a run, nothing happens. -/
def State.ins (s : State) (e : Eng) (x : Instr) (body : State → BRun → IOut) : State :=
  match (s.eng e).run with
  | none => s
  | some r =>
    if s.fetch e ≠ some x then s
    else
      let pc := (s.eng e).pc
      let s := s.instrStart e r
      match body s ((s.eng e).run.getD r) with
      | .go s off => (s.modEng e fun x => { x with pc := (pc + 1 + off) % 4096 }).fetched e
      | .fault s cause => s.runFault e cause false
      | .quit s v port => s.runEnd e v port

/-- Write the destination register and go on. -/
def State.toReg (s : State) (e : Nat) (d : Fin 16) (v : B64) : IOut := .go (s.setGreg e d v) 0

/-- An instruction that computes D from registers. -/
def State.alu (s : State) (e : Eng) (x : Instr) (d : Fin 16) (f : State → B64) : State := s.ins e x fun s _ => s.toReg e d (f s)

/-- A branch. -/
def State.branch (s : State) (e : Eng) (x : Instr) (off : BitVec 12) (c : State → Bool) : State :=
  s.ins e x fun s _ => .go s (if c s then off.toNat else 0)

/-! ### Instructions (Table 7.4) -/

def execNop (e : Eng) (s : State) : Res := .next (s.ins e (.nop e) fun s _ => .go s 0)

def execAluAdd (e : Eng) (d a b : Fin 16) (s : State) : Res := .next (s.alu e (.aluAdd e d a b) d fun s => s.greg e a + s.greg e b)
def execAluSub (e : Eng) (d a b : Fin 16) (s : State) : Res := .next (s.alu e (.aluSub e d a b) d fun s => s.greg e a - s.greg e b)
def execAluAnd (e : Eng) (d a b : Fin 16) (s : State) : Res := .next (s.alu e (.aluAnd e d a b) d fun s => s.greg e a &&& s.greg e b)
def execAluOr (e : Eng) (d a b : Fin 16) (s : State) : Res := .next (s.alu e (.aluOr e d a b) d fun s => s.greg e a ||| s.greg e b)
def execAluXor (e : Eng) (d a b : Fin 16) (s : State) : Res := .next (s.alu e (.aluXor e d a b) d fun s => s.greg e a ^^^ s.greg e b)
/-- Shifts use B[5:0]. -/
def execAluShl (e : Eng) (d a b : Fin 16) (s : State) : Res := .next (s.alu e (.aluShl e d a b) d fun s => s.greg e a <<< ((s.greg e b).toNat % 64))
def execAluShr (e : Eng) (d a b : Fin 16) (s : State) : Res := .next (s.alu e (.aluShr e d a b) d fun s => s.greg e a >>> ((s.greg e b).toNat % 64))
def execAluMinu (e : Eng) (d a b : Fin 16) (s : State) : Res :=
  .next (s.alu e (.aluMinu e d a b) d fun s => if (s.greg e a).toNat ≤ (s.greg e b).toNat then s.greg e a else s.greg e b)
def execAluMaxu (e : Eng) (d a b : Fin 16) (s : State) : Res :=
  .next (s.alu e (.aluMaxu e d a b) d fun s => if (s.greg e a).toNat ≤ (s.greg e b).toNat then s.greg e b else s.greg e a)
def execAluSeq (e : Eng) (d a b : Fin 16) (s : State) : Res := .next (s.alu e (.aluSeq e d a b) d fun s => if s.greg e a = s.greg e b then 1 else 0)
def execAluSltu (e : Eng) (d a b : Fin 16) (s : State) : Res :=
  .next (s.alu e (.aluSltu e d a b) d fun s => if (s.greg e a).toNat < (s.greg e b).toNat then 1 else 0)

def execAddi (e : Eng) (d a : Fin 16) (imm : BitVec 18) (s : State) : Res := .next (s.alu e (.addi e d a imm) d fun s => s.greg e a + imm.signExtend 64)
def execAndi (e : Eng) (d a : Fin 16) (imm : BitVec 18) (s : State) : Res := .next (s.alu e (.andi e d a imm) d fun s => s.greg e a &&& imm.setWidth 64)
def execOri (e : Eng) (d a : Fin 16) (imm : BitVec 18) (s : State) : Res := .next (s.alu e (.ori e d a imm) d fun s => s.greg e a ||| imm.setWidth 64)
def execXori (e : Eng) (d a : Fin 16) (imm : BitVec 18) (s : State) : Res := .next (s.alu e (.xori e d a imm) d fun s => s.greg e a ^^^ imm.setWidth 64)
def execShli (e : Eng) (d a : Fin 16) (sh : BitVec 6) (s : State) : Res := .next (s.alu e (.shli e d a sh) d fun s => s.greg e a <<< sh.toNat)
def execShri (e : Eng) (d a : Fin 16) (sh : BitVec 6) (s : State) : Res := .next (s.alu e (.shri e d a sh) d fun s => s.greg e a >>> sh.toNat)
def execLi (e : Eng) (d : Fin 16) (imm : BitVec 22) (s : State) : Res := .next (s.alu e (.li e d imm) d fun _ => imm.signExtend 64)
/-- MOVK replaces one 16-bit part of D. -/
def execMovk (e : Eng) (d : Fin 16) (hw : Fin 4) (imm : B16) (s : State) : Res :=
  .next (s.alu e (.movk e d hw imm) d fun s => (s.greg e d &&& ~~~((0xFFFF : B64) <<< (16 * hw.val))) ||| (imm.setWidth 64 <<< (16 * hw.val)))
/-- HASH. -/
def execHash (e : Eng) (d a b : Fin 16) (s : State) : Res :=
  .next (s.alu e (.hash e d a b) d fun s => (crc32c (leBytes 8 (s.greg e a).toNat ++ leBytes 8 (s.greg e b).toNat)).setWidth 64)

/-- LDH. -/
def execLdh (e : Eng) (d : Fin 16) (sz : Fin 4) (off : BitVec 6) (s : State) : Res :=
  .next (s.ins e (.ldh e d sz off) fun s r => s.toReg e d (BitVec.ofNat 64 (winLoad r.win off.toNat (2 ^ sz.val))))

/-- The TLP of a run as it was dispatched. -/
def State.runTlp (s : State) (r : BRun) : Tlp :=
  match s.flight r.fid with
  | some f => (f.dests.head?.map fun d => d.r.tlp).getD f.tlp0
  | none => default

/-- STH: the basting tag takes the CRC of the change in the same period (R189). -/
def execSth (e : Eng) (a : Fin 16) (sz : Fin 4) (off : BitVec 6) (s : State) : Res :=
  .next (s.ins e (.sth e a sz off) fun s r =>
    let w := winStore r off.toNat (2 ^ sz.val) (s.greg e a)
    let old := s.runTlp r
    let tag := if w = r.win then r.tag else leftTag r.tag0 old r.win0 w
    .go (s.modEng e fun x => { x with run := some { r with win := w, tag := tag } }) 0)

/-- A data access of n bytes (R186): its offset, or a fault before anything changes. A + IMM wraps modulo 2^64 before the test: the spec
does not say (log entry 22). -/
def State.dataAcc (s : State) (e : Nat) (a : Fin 16) (sz : Fin 4) (imm : B16) (ecc : Nat) (go : State → Nat → IOut) : IOut :=
  let n := 2 ^ sz.val
  let addr := (s.greg e a + imm.setWidth 64).toNat
  if addr % n ≠ 0 ∨ 0xC000 < addr + n then .fault s 1
  else
    let s := s.localEcc e 1 (addr / 8) ecc
    if ecc = 2 then .fault s 6 else go s addr

/-- A byte of data space. -/
def State.dataByte (s : State) (e i : Nat) : B8 := SMap.get (fun _ => 0) (s.eng e).data i

/-- LDL. -/
def execLdl (e : Eng) (d a : Fin 16) (sz : Fin 4) (imm : B16) (ecc : Fin 3) (s : State) : Res :=
  .next (s.ins e (.ldl e d a sz imm 0) fun s _ => s.dataAcc e a sz imm ecc fun s addr =>
    s.toReg e d (BitVec.ofNat 64 (leNat ((List.range (2 ^ sz.val)).map fun i => s.dataByte e (addr + i)))))

/-- STL. -/
def execStl (e : Eng) (d a : Fin 16) (sz : Fin 4) (imm : B16) (ecc : Fin 3) (s : State) : Res :=
  .next (s.ins e (.stl e d a sz imm 0) fun s _ => s.dataAcc e a sz imm ecc fun s addr =>
    let v := (s.greg e d).toNat
    .go (s.modEng e fun x => { x with
      data := (List.range (2 ^ sz.val)).foldl (fun m i => SMap.set (fun _ => 0) m (addr + i) (BitVec.ofNat 8 (v / 2 ^ (8 * i)))) x.data }) 0)

/-! ### Shared tables (R186, R187, R194, R195) -/

/-- The key of the shared word at a byte address of a station's table space. -/
def sharedKey (st addr : Nat) : Nat := st * 2 ^ 17 + addr / 8
def State.shared (s : State) (st addr : Nat) : B64 := SMap.get (fun _ => 0) s.bob.words (sharedKey st addr)
/-- Write a shared word; that replaces an uncorrectable one. -/
def State.setShared (s : State) (st addr : Nat) (v : B64) : State :=
  let k := sharedKey st addr
  { s with bob := { s.bob with words := SMap.set (fun _ => 0) s.bob.words k v, bad := s.bob.bad.filter (· != k) } }

/-- A shared-table access of kind 0 LDT, 1 STT, 2 ADDT under the engine's thimble. A + 8·IMM wraps modulo 2^64 before the test: the spec
does not say (log entry 22). -/
def State.sharedAcc (s : State) (e : Nat) (r : BRun) (a : Fin 16) (imm : BitVec 17) (kind : Nat) (go : State → Nat → IOut) : IOut :=
  let st := e / 16
  let addr := (s.greg e a + (imm.setWidth 64 : B64) * 8).toNat
  let th := s.thm e
  let cur := r.epoch == th.epoch
  let ans := if addr % 8 ≠ 0 ∨ 0xFFFF8 < addr then ThmAns.denied
    else thmCheck (if cur then th.regions else th.old) (if cur then th.bad else []) addr 8 kind
  match ans with
  | .allowed => go s addr
  | .denied => .fault (s.raiseLim ms100 e (srcStn st) 0x4020 2 (scStn st) 0 [e, addr, kind, r.epoch]) 2
  | .overlap i j => .fault (s.raise (srcStn st) 0x4021 3 (scStn st) [e, i, j, r.epoch]) 9

/-- The decoder's outcome for a shared word that is read: a corrected one is counted, an uncorrectable one stays until it is rewritten. -/
def State.sharedEcc (s : State) (st addr ecc : Nat) (go : State → IOut) : IOut :=
  let k := sharedKey st addr
  if s.bob.bad.contains k then .fault s 3
  else if ecc = 2 then
    .fault ({ s with bob := { s.bob with bad := s.bob.bad ++ [k] } }.bump (F.STN_CLS_ECC_UNCORR st)) 3
  else go (if ecc = 1 then s.bump (F.STN_CLS_ECC_CORR st) else s)

/-- LDT: the result reaches D before the fourth instruction after it. -/
def execLdt (e : Eng) (d a : Fin 16) (imm : BitVec 17) (ecc : Fin 3) (s : State) : Res :=
  .next (s.ins e (.ldt e d a imm 0) fun s r =>
    let s := s.smpEvent e 2 (s.eng e).pc r.cls
    s.sharedAcc e r a imm 0 fun s addr => s.sharedEcc (e.val / 16) addr ecc fun s =>
      if d = 0 then .go s 0
      else .go (s.modEng e fun x => { x with run := some { r with loads := r.loads ++ [(d.val, s.shared (e.val / 16) addr, 3)] } }) 0)

/-- STT. -/
def execStt (e : Eng) (d a : Fin 16) (imm : BitVec 17) (s : State) : Res :=
  .next (s.ins e (.stt e d a imm) fun s r => s.sharedAcc e r a imm 1 fun s addr => .go (s.setShared (e.val / 16) addr (s.greg e d)) 0)

/-- ADDT. -/
def execAddt (e : Eng) (d a : Fin 16) (imm : BitVec 17) (ecc : Fin 3) (s : State) : Res :=
  .next (s.ins e (.addt e d a imm 0) fun s r => s.sharedAcc e r a imm 2 fun s addr => s.sharedEcc (e.val / 16) addr ecc fun s =>
    .go (s.setShared (e.val / 16) addr (s.shared (e.val / 16) addr + s.greg e d)) 0)

/-! ### Context, branches, actions -/

/-- Table 7.2. -/
def ctxValue (f : Flight) (h : Hand) (r : BRun) (e sel : Nat) : Nat :=
  match sel with
  | 0 => srcIng f.src
  | 1 => f.vs
  | 2 => r.cls
  | 3 => r.vc
  | 4 => (f.dests.head?.map fun d => d.r.rlen).getD f.tlp0.len
  | 5 => h.rclass
  | 6 => h.agroup
  | 7 => h.win
  | 8 => h.req
  | 9 => h.lend
  | 10 => h.progSrc
  | 11 => h.dest
  | 12 => h.addr.toNat
  | 13 => h.rid.toNat
  | 14 => r.tag.toNat
  | 15 => f.t6.toNat
  | 16 => e
  | 17 => r.hdrLen
  | _ => r.npfx

/-- CTX; no image holds a word with a reserved selector (R193), and a command that names one does nothing. -/
def execCtx (e : Eng) (d : Fin 16) (sel : BitVec 6) (s : State) : Res :=
  .next (if 18 < sel.toNat then s
    else s.ins e (.ctx e d sel) fun s r => match s.flight r.fid with
      | some f => s.toReg e d (BitVec.ofNat 64 (ctxValue f (f.hand.getD {}) r e sel.toNat))
      | none => .go s 0)

def execBeq (e : Eng) (d a : Fin 16) (off : BitVec 12) (s : State) : Res := .next (s.branch e (.beq e d a off) off fun s => s.greg e d == s.greg e a)
def execBne (e : Eng) (d a : Fin 16) (off : BitVec 12) (s : State) : Res := .next (s.branch e (.bne e d a off) off fun s => s.greg e d != s.greg e a)
def execBltu (e : Eng) (d a : Fin 16) (off : BitVec 12) (s : State) : Res :=
  .next (s.branch e (.bltu e d a off) off fun s => decide ((s.greg e d).toNat < (s.greg e a).toNat))
def execBgeu (e : Eng) (d a : Fin 16) (off : BitVec 12) (s : State) : Res :=
  .next (s.branch e (.bgeu e d a off) off fun s => decide ((s.greg e a).toNat ≤ (s.greg e d).toNat))
def execBeqi (e : Eng) (d : Fin 16) (imm : B8) (off : BitVec 12) (s : State) : Res :=
  .next (s.branch e (.beqi e d imm off) off fun s => s.greg e d == imm.setWidth 64)
def execBnei (e : Eng) (d : Fin 16) (imm : B8) (off : BitVec 12) (s : State) : Res :=
  .next (s.branch e (.bnei e d imm off) off fun s => s.greg e d != imm.setWidth 64)
def execBbs (e : Eng) (d : Fin 16) (bit : BitVec 6) (off : BitVec 12) (s : State) : Res :=
  .next (s.branch e (.bbs e d bit off) off fun s => (s.greg e d).getLsbD bit.toNat)
def execBbc (e : Eng) (d : Fin 16) (bit : BitVec 6) (off : BitVec 12) (s : State) : Res :=
  .next (s.branch e (.bbc e d bit off) off fun s => !(s.greg e d).getLsbD bit.toNat)
def execJmp (e : Eng) (off : BitVec 12) (s : State) : Res := .next (s.branch e (.jmp e off) off fun _ => true)

/-- TRACE: a rule that is disabled or has DEST 1 ignores it. -/
def execTrace (e : Eng) (rule : Fin 16) (s : State) : Res :=
  .next (s.ins e (.trace e rule) fun s r =>
    if s.traceOn rule then .go (s.modEng e fun x => { x with run := some { r with rules := r.rules ++ [rule.val] } }) 0 else .go s 0)

/-- EVT: logged at most once per SUB and station in 100 ms; the others are counted in STN_BB_EVT_LOST. -/
def execEvt (e : Eng) (a : Fin 16) (sub : B8) (s : State) : Res :=
  .next (s.ins e (.evt e a sub) fun s _ =>
    let st := e.val / 16
    let s' := s.raiseLim ms100 st (srcStn st) (0x4800 + sub.toNat) 1 (scStn st) 0 [sub.toNat, e.val, (s.greg e a).toNat]
    .go (if s'.evs.next = s.evs.next then s'.bump (F.STN_BB_EVT_LOST_EVT_LOST st) else s') 0)

def execExitForward (e : Eng) (s : State) : Res := .next (s.ins e (.exitForward e) fun s _ => .quit s 0 0)
def execExitDrop (e : Eng) (s : State) : Res := .next (s.ins e (.exitDrop e) fun s _ => .quit s 1 0)
def execExitAbort (e : Eng) (s : State) : Res := .next (s.ins e (.exitAbort e) fun s _ => .quit s 2 0)
/-- REDIRECT to the port in bits [7:0] of the named register. -/
def execExitRedirect (e : Eng) (a : Fin 16) (s : State) : Res := .next (s.ins e (.exitRedirect e a) fun s _ => .quit s 3 ((s.greg e a).toNat % 256))

/-! ### Dispatch (R178, R179) -/

/-- Headers of a queue that an engine holds or that wait in its rejoin buffer. -/
def State.queueAway (s : State) (st k : Nat) : Nat :=
  let inRejoin := ((s.bstn st).rejoin.filterMap s.flight).filter fun f => 3 * f.vc + f.cls == k
  let inRun := (engsOf st).filter fun e => match (s.eng e).run with
    | some r => 3 * r.vc + r.cls == k
    | none => false
  inRejoin.length + inRun.length

/-- The next non-empty hand-off queue, round-robin; a queue whose rejoin buffer could overflow waits (log entry 22). -/
def State.nextQueue (s : State) (st : Nat) : Option Nat :=
  let b := s.bstn st
  ((List.range 6).map fun i => (b.served + 1 + i) % 6).find? fun k =>
    !(SMap.get (fun _ => []) b.queues k).isEmpty && decide (s.queueAway st k < 64)

/-- Take the head of a queue; a header that waits for a place in the queue takes the one that comes free. -/
def State.takeHead (s : State) (st k : Nat) : State :=
  ((s.modBstn st fun b => { b with served := k, queues := SMap.set (fun _ => []) b.queues k ((SMap.get (fun _ => []) b.queues k).drop 1) }).hqCount st).takeWaiting st k

/-- A header starts its run on engine e at the entry point of its class. -/
def State.startRun (s : State) (e : Nat) (f : Flight) (entry : Nat) (bad : Option (Nat × Nat)) : State :=
  let t := (f.dests.head?.map fun d => d.r.tlp).getD f.tlp0
  let tag := (f.dests.head?.map fun d => d.r.btag).getD 0
  let hl := max 12 (min 48 (Config.hdrLen (flitForm t)))
  let np := min 4 t.prefixes
  let w := winOfTlp (flitForm t) hl np
  let r : BRun := { fid := f.id, cls := f.cls, vc := f.vc, win := w, win0 := w, tag := tag, tag0 := tag, hdrLen := hl, npfx := np,
                    epoch := (s.thm e).epoch, since := s.clk.now, bad := bad }
  let ctl := (s.reg (F.STN_BE_SMP_CTL_EN (e / 16) (e % 16)).addr).toNat
  s.modEng e fun x => { x with regs := [], pc := entry, run := some r, smp := ctl, count := if x.smp = ctl then x.count else 0 }

/-- BOBBIN_DISPATCH: engine e, idle and in service, takes the head of a hand-off queue; `ecc` is what its program memory's decoder makes
of the word of `slot`, should the run come there (0 clean, 1 corrected, 2 uncorrectable). With no engine of the station in service the
head takes FAULT_POLICY with cause NO_ENGINE; such a fault has no engine, and the model records engine 0 and PC 0 for it (log entry 22).
Without an entry point of the engine's own image the header returns at once. -/
def execBobbinDispatch (e : Eng) (ecc : Fin 3) (s : State) (slot : BitVec 12 := 0) : Res :=
  .next (
    let st := e.val / 16
    if (s.bstn st).swap = 1 then s
    else match s.nextQueue st with
    | none => s
    | some k =>
      match (SMap.get (fun _ => []) (s.bstn st).queues k).head?.bind s.flight with
      | none => s.takeHead st k
      | some f =>
        if !s.serving st then
          ((s.takeHead st k).noteFault st 0 0 8 f.cls).faultPolicy st f []
        else if s.engState e ≠ 0 ∨ s.running e = true then s
        else
          let entry := imgEntry (s.engImage e) f.cls
          if entry = 0xFFFF then (s.takeHead st k).rejoin (unreturned f [])
          else
            ((s.takeHead st k).startRun e f entry (if ecc = 0 then none else some (slot.toNat, ecc.val))).fetched e)

/-! ### Loss and restoration (R198, R199) -/

/-- RUN_TIMEOUT. -/
def execRunTimeout (e : Eng) (s : State) : Res := .next (s.runFault e 7 false)

/-- ENGINE_RESTORED: the reload's copy has been read back; a failing read-back counts as a second loss. -/
def execEngineRestored (e : Eng) (ok : Bool) (s : State) : Res :=
  .next (
    let st := e.val / 16
    let img := s.engImage e
    if s.engState e ≠ 2 ∨ img.isEmpty then s
    else if ok then
      let s := (s.setEngState e 0).modEng e fun x => { x with data := imgData img, restoredAt := some s.clk.now, due := none }
      let s := (s.raise (srcStn st) 0x4012 1 (scStn st) [e.val, s.clk.now - (s.eng e).outAt]).modThm e fun t => { t with bad := [] }
      (s.swapMark st).checkEngines st
    else (s.engFail e (s.get (F.STN_BE_STATE_LAST_CAUSE st (e.val % 16)))).checkEngines st)

/-! ### Rule fences (R195, R196, R344) -/

/-- A run of an epoch older than its engine's. -/
def State.oldRun (s : State) (e : Nat) : Bool :=
  match (s.eng e).run with
  | some r => r.epoch != (s.thm e).epoch
  | none => false

/-- Regions of every engine of a station under a new epoch, with the fence that waits out the older ones (COMMIT). -/
def State.installRegions (s : State) (st : Nat) (recs : List (List B32)) : State :=
  let ep := (s.get (F.STN_BB_EPOCH_EPOCH st) + 1) % 256
  let s := (s.put (F.STN_BB_EPOCH_EPOCH st) ep).putB (F.STN_BB_EPOCH_FENCE_PEND st) true
  let s := (engsOf st).foldl (fun s e => s.modThm e fun t => { t with regions := recs, old := t.regions, epoch := ep, fence := true, bad := [] }) s
  s.modBstn st fun b => { b with fenceAt := s.clk.now, ended := 0 }

/-- The fence of a station completes once no older run remains. -/
def State.fenceDone (s : State) (st : Nat) : State :=
  if !s.flag (F.STN_BB_EPOCH_FENCE_PEND st) || (engsOf st).any s.oldRun then s
  else
    let s := s.putB (F.STN_BB_EPOCH_FENCE_PEND st) false
    let s := (engsOf st).foldl (fun s e => s.modThm e fun t => { t with old := [], fence := false }) s
    s.raise (srcStn st) 0x4022 0 (scStn st) [st, s.get (F.STN_BB_EPOCH_EPOCH st), (s.bstn st).ended]

/-- Older runs still in progress are ended as TIMEOUT faults; their engines stay in service. -/
def State.fenceEnds (s : State) (st : Nat) : State :=
  if s.flag (F.STN_BB_EPOCH_FENCE_PEND st) then
    (engsOf st).foldl (fun s e =>
      if s.oldRun e then (s.runFault e 7 true).modBstn st fun b => { b with ended := b.ended + 1 } else s) s
  else s

/-- RULE_FENCE_DONE. -/
def execRuleFenceDone (st : Stn) (s : State) : Res := .next (s.fenceDone st)

/-- RULE_FENCE_TIMEOUT: 2 µs after the COMMIT. -/
def execRuleFenceTimeout (st : Stn) (s : State) : Res := .next (s.fenceEnds st)

/-- Regions whose words are uncorrectable grant nothing until they are rewritten. -/
def State.thmBad (s : State) (th : Nat) (bad : List (Fin 16)) : State :=
  bad.foldl (fun s i =>
    if (s.thm th).bad.contains i.val || decide ((s.thm th).regions.length ≤ i.val) then s
    else (s.modThm th fun t => { t with bad := t.bad ++ [i.val] }).raise (if th < 256 then srcStn (th / 16) else 0x08) 0xA013 3
      (if th < 256 then scStn (th / 16) else scDev) [th, i.val]) s

/-- THIMBLE_RULE_FENCE_DONE: `bad` are the regions whose words the new set's check finds uncorrectable. -/
def execThimbleRuleFenceDone (th : Fin 293) (bad : List (Fin 16)) (s : State) : Res :=
  .next (
    let s := s.thmBad th bad
    if th.val < 256 then s.fenceDone (th.val / 16)
    else if (s.thm th).fence then
      let s := s.modThm th fun t => { t with old := [], fence := false }
      let s := if th.val = 292 then s.putB F.ACW_EP_PROXY_THM_FENCE_PEND false else s
      s.raise 0x08 0xA012 0 scDev [th.val, (s.thm th).epoch, 0]
    else s)

/-- THIMBLE_FENCE_TIMEOUT: accesses of an older epoch end with an error to their master. The model completes an access of a mover or of
the host proxy within the step that makes it, so only engine runs can be older. -/
def execThimbleFenceTimeout (th : Fin 293) (s : State) : Res :=
  .next (if th.val < 256 then s.fenceEnds (th.val / 16) else s)

end Sys2Proof.Machine
end

