-- ==== Sys2Proof/Machine/BobImage.lean ====
section
/-!
DEFINITION. Machine/BobImage.lean: the load-time checker (R193, Table 7.6), image swaps (R203 to R206) and the opcodes of group 0x06
(Table 14.12).
-/

namespace Sys2Proof.Machine

/-! ### Instructions as the checker reads them -/

/-- The offset of a branch or jump. -/
def insBranch : Instr → Option Nat
  | .beq _ _ _ o | .bne _ _ _ o | .bltu _ _ _ o | .bgeu _ _ _ o | .beqi _ _ _ o | .bnei _ _ _ o | .bbs _ _ _ o | .bbc _ _ _ o
  | .jmp _ o => some o.toNat
  | _ => none

def insJmp : Instr → Bool
  | .jmp .. => true
  | _ => false

def insExit : Instr → Bool
  | .exitForward .. | .exitDrop .. | .exitAbort .. | .exitRedirect .. => true
  | _ => false

/-- Registers an instruction reads. -/
def insReads : Instr → List Nat
  | .aluAdd _ _ a b | .aluSub _ _ a b | .aluAnd _ _ a b | .aluOr _ _ a b | .aluXor _ _ a b | .aluShl _ _ a b | .aluShr _ _ a b
  | .aluMinu _ _ a b | .aluMaxu _ _ a b | .aluSeq _ _ a b | .aluSltu _ _ a b | .hash _ _ a b => [a.val, b.val]
  | .addi _ _ a _ | .andi _ _ a _ | .ori _ _ a _ | .xori _ _ a _ | .shli _ _ a _ | .shri _ _ a _ | .sth _ a _ _ | .ldl _ _ a _ _ _
  | .ldt _ _ a _ _ | .evt _ a _ | .exitRedirect _ a => [a.val]
  | .stl _ d a _ _ _ | .stt _ d a _ | .addt _ d a _ _ | .beq _ d a _ | .bne _ d a _ | .bltu _ d a _ | .bgeu _ d a _ => [d.val, a.val]
  | .movk _ d _ _ | .beqi _ d _ _ | .bnei _ d _ _ | .bbs _ d _ _ | .bbc _ d _ _ => [d.val]
  | _ => []

/-- The register an instruction writes. -/
def insWrites : Instr → Option Nat
  | .aluAdd _ d _ _ | .aluSub _ d _ _ | .aluAnd _ d _ _ | .aluOr _ d _ _ | .aluXor _ d _ _ | .aluShl _ d _ _ | .aluShr _ d _ _
  | .aluMinu _ d _ _ | .aluMaxu _ d _ _ | .aluSeq _ d _ _ | .aluSltu _ d _ _ | .hash _ d _ _ | .addi _ d _ _ | .andi _ d _ _
  | .ori _ d _ _ | .xori _ d _ _ | .shli _ d _ _ | .shri _ d _ _ | .li _ d _ | .movk _ d _ _ | .ldh _ d _ _ | .ldl _ d _ _ _ _
  | .ldt _ d _ _ _ | .ctx _ d _ => some d.val
  | _ => none

/-- Where an instruction at index i may go on. -/
def insNext (i : Nat) (x : Instr) : List Nat :=
  if insExit x then []
  else match insBranch x with
    | some o => if insJmp x then [i + 1 + o] else [i + 1, i + 1 + o]
    | none => [i + 1]

/-- Window bytes within bounds, none of bytes 0 to 3 written (reason 8). -/
def insWindow : Instr → Bool
  | .ldh _ _ sz off => decide (off.toNat + 2 ^ sz.val ≤ 64)
  | .sth _ _ sz off => decide (off.toNat + 2 ^ sz.val ≤ 64) && decide (4 ≤ off.toNat)
  | _ => true

/-- Data offsets within bounds (reason 9). -/
def insData : Instr → Bool
  | .ldl _ _ _ sz imm _ | .stl _ _ _ sz imm _ => decide (imm.toNat + 2 ^ sz.val ≤ 0xC000)
  | _ => true

/-! ### Paths -/

/-- Instructions an entry point reaches, as (index, instruction): one pass in index order, since every branch goes forward (R188). -/
def reachFrom (targets : List Nat) : List (Nat × Instr) → List (Nat × Instr)
  | [] => []
  | (i, x) :: rest =>
    if targets.contains i then (i, x) :: reachFrom (insNext i x ++ targets) rest else reachFrom targets rest

/-- The instructions of the longest path from each index, the EXIT included, for the indexes of a list in order. -/
def longest : List (Nat × Instr) → List (Nat × Nat)
  | [] => []
  | (i, x) :: rest =>
    let l := longest rest
    let of (j : Nat) : Nat := ((l.find? fun y => y.1 == j).map fun y => y.2).getD 0
    (i, 1 + (insNext i x).foldl (fun m j => max m (of j)) 0) :: l

/-- Reason 7: an instruction among the next n on some path from these indexes that reads or writes d. -/
def hazard (prog : List (Nat × Instr)) (d : Nat) : Nat → List Nat → Option Nat
  | 0, _ => none
  | n + 1, front =>
    let xs := prog.filter fun y => front.contains y.1
    match xs.find? fun y => (insReads y.2).contains d || insWrites y.2 == some d with
    | some y => some y.1
    | none => hazard prog d n (xs.flatMap fun y => insNext y.1 y.2)

/-- Reasons 4 to 9 on the instructions an entry point reaches: the first test that fails, with the instruction index. -/
def checkPaths (plen : Nat) (entries : List Nat) (prog : List (Nat × Instr)) : Option (Nat × Nat) :=
  let r := reachFrom (entries.filter (· < plen)) prog
  let past (j : Nat) : Bool := decide (plen ≤ j)
  match r.find? fun y => (insBranch y.2).any fun o => past (y.1 + 1 + o) with
  | some y => some (4, y.1)
  | none => match r.find? fun y => (insNext y.1 y.2).any past with
    | some y => some (5, y.1)
    | none => match (longest r).find? fun y => entries.contains y.1 && decide (48 < y.2) with
      | some y => some (6, y.1)
      | none => match r.findSome? (fun y => match y.2 with
          | .ldt _ d _ _ _ => if d = 0 then none else hazard r d.val 3 (insNext y.1 y.2)
          | _ => none) with
        | some i => some (7, i)
        | none => match r.find? fun y => !insWindow y.2 with
          | some y => some (8, y.1)
          | none => (r.find? fun y => !insData y.2).map fun y => (9, y.1)

/-! ### The checker (Table 7.6) -/

/-- Reason 1. -/
def headerOk (img : Bytes) : Bool :=
  let p := imgProgLen img
  let d := imgDataLen img
  let n := leAt img 22 1
  decide (384 ≤ img.length) && leAt img 0 4 == 0x42425648 && leAt img 4 2 == 1 && leAt img 6 2 == 0 && leAt img 24 8 == 0
    && decide (1 ≤ p) && decide (p ≤ 4096) && d % 8 == 0 && decide (d ≤ 49152) && img.length == 288 + 4 * p + d + 96 && decide (n ≤ 16)
    && decide (leAt img 23 1 ≤ 4) && (slice img (32 + 16 * n) (16 * (16 - n))).all (· == 0)

/-- The key of a slot, if an image may name it (R204): slot 0 is Tvedmir's, 1 to 4 enrolled and not revoked. -/
def State.imgKey (s : State) (slot : Nat) : Option Bytes :=
  if slot = 0 then some (Config.romKey 4)
  else
    let k := SMap.get (fun _ => {}) s.acl.keys slot
    if k.enrolled && !k.revoked then some k.key else none

/-- Every word of program space with its index, or the first index whose word is no instruction (reason 3). -/
def imgProg (img : Bytes) : Except Nat (List (Nat × Instr)) :=
  (List.range (imgProgLen img)).foldr (fun i acc =>
    match decodeBobbin 0 (leAt img (288 + 4 * i) 4), acc with
    | none, _ => .error i
    | some _, .error j => .error j
    | some x, .ok l => .ok ((i, x) :: l)) (.ok [])

/-- The first test that fails: reason, instruction index, and whether two regions overlap. -/
def State.checkImage (s : State) (img : Bytes) : Option (Nat × Nat × Bool) :=
  if !headerOk img then some (1, 0, false)
  else
    let body := img.take (img.length - 96)
    let ok : Bool := match s.imgKey (leAt img 23 1) with
      | some k => Config.sigValid k body (img.drop (img.length - 96))
      | none => false
    if !ok then some (2, 0, false)
    else match imgProg img with
      | .error i => some (3, i, false)
      | .ok prog =>
        let plen := imgProgLen img
        let entries := [leAt img 16 2, leAt img 18 2, leAt img 20 2]
        match checkPaths plen entries prog with
        | some (r, i) => some (r, i, false)
        | none =>
          if entries.any (fun e => decide (plen ≤ e) && e != 0xFFFF) || !entries.any (· < plen) then some (10, 0, false)
          else
            let rs := imgRegions img
            if !rs.all (regionFmt (2 ^ 20) 3) then some (11, 0, false)
            else if regionsOverlap rs then some (11, 0, true) else none

/-! ### Swaps (R205, R206) -/

/-- An install's COMMIT at one station. -/
def State.installImage (s : State) (st : Nat) (rolling : Bool) (img : Bytes) : State :=
  let s := (s.putB (F.STN_BB_STATUS_SWAPPING st) true).putB (F.STN_BB_STATUS_ROLLING st) rolling
  let s := s.modBstn st fun b => { b with staging := img, swap := if rolling then 2 else 1, swapAt := s.clk.now, failed := 0, stepped := false }
  let s := (engsOf st).foldl (fun s e => s.modEng e fun x => { x with newImage := false, copied := false }) s
  s.swapMark st

/-- What stops an install or a set of regions at a station (R196, R203). -/
def State.swapBusy (s : State) (st : Nat) : Bool := (s.bstn st).swap != 0
def State.rulesBusy (s : State) (st : Nat) : Bool := s.flag (F.STN_BB_EPOCH_FENCE_PEND st) || s.swapBusy st

/-- Engine e may take the new image now: its own run, in CUT mode every run of the station, has ended, and in ROLLING mode every lower
engine has changed over. -/
def State.mayCopy (s : State) (e : Nat) : Bool :=
  let st := e / 16
  !(s.eng e).newImage && !s.running e && match (s.bstn st).swap with
    | 1 => (engsOf st).all fun x => !s.running x
    | 2 => (engsOf st).all fun x => decide (e ≤ x) || (s.eng x).newImage
    | _ => false

/-- A swap's new epoch becomes current with the first engine that changes over (R195, R205). -/
def State.stepEpoch (s : State) (st : Nat) : State :=
  if (s.bstn st).stepped then s else (s.bumpWrap (F.STN_BB_EPOCH_EPOCH st) 1).modBstn st fun b => { b with stepped := true }

/-- ENGINE_IMAGE_COPY: `ok` is the read-back's verdict; a copy that fails is repeated once, then the engine has failed. -/
def execEngineImageCopy (e : Eng) (ok : Bool) (s : State) : Res :=
  .next (
    let st := e.val / 16
    if !s.mayCopy e then s
    else if ok then
      let img := (s.bstn st).staging
      let s := s.stepEpoch st
      let ep := s.get (F.STN_BB_EPOCH_EPOCH st)
      let s := s.modThm e fun t => { t with regions := imgRegions img, old := t.regions, epoch := ep, bad := [] }
      let s := (s.setEngState e 0).modEng e fun x => { x with data := imgData img, newImage := true, copied := false, due := none }
      (s.swapMark st).checkEngines st
    else if (s.eng e).copied then
      let s := s.engFail e (s.get (F.STN_BE_STATE_LAST_CAUSE st (e.val % 16)))
      let s := (s.modEng e fun x => { x with newImage := true, copied := false }).modBstn st fun b => { b with failed := b.failed + 1 }
      (s.swapMark st).checkEngines st
    else s.modEng e fun x => { x with copied := true })

/-- The bit of station st leaves the stations that a COMMIT in progress still waits for (Async.obj: 2^16 + mask); the last one ends it. -/
def State.endSwapOf (s : State) (st : Nat) (src code sev scope : Nat) (detail : List Nat) : State :=
  let waits (a : Async) : Bool := a.opcode == 0x0201 && a.ended.isNone && bit a.obj 16 && bit a.obj st
  let f (a : Async) : Async := if waits a then { a with obj := setBit a.obj st false } else a
  let hit (a : Async) : Bool := a.opcode == 0x0201 && a.ended.isNone && a.obj == 2 ^ 16
  ({ s with cmd := { s.cmd with asyncs := s.cmd.asyncs.map f } }).raiseEnd hit src code sev scope detail

/-- IMAGE_SWAPPED: every engine has changed over or failed; the buffers exchange roles. -/
def execImageSwapped (st : Stn) (s : State) : Res :=
  .next (
    let b := s.bstn st
    if b.swap = 0 ∨ (engsOf st).any (fun e => !(s.eng e).newImage) then s
    else
      let img := b.staging
      let s := ((s.putB (F.STN_BB_STATUS_SWAPPING st) false).putB (F.STN_BB_STATUS_ROLLING st) false).putB (F.STN_BB_STATUS_IMG_VALID st) true
      let s := (s.put (F.STN_BB_IMAGE_IMAGE_ID st) (imgId img)).put (F.STN_BB_IMAGE_IMAGE_VER st) (imgVer img)
      let s := s.modBstn st fun b => { b with active := b.staging, staging := b.active, swap := 0 }
      let s := (engsOf st).foldl (fun s e => s.modEng e fun x => { x with newImage := false }) s
      (s.endSwapOf st (srcStn st) 0x4002 0 (scStn st) [st.val, imgId img, imgVer img, b.swap - 1, s.clk.now - b.swapAt, b.failed]).checkEngines st)

/-! ### Opcodes of group 0x06 (Table 14.12) -/

/-- IMAGE_TRANSFER: pieces go in order from OFFSET 0, which begins a transfer anew (log entry 23). -/
def execImageTransfer (h : Hdr) (off : B32) (piece : Bytes) (s : State) : Res :=
  .next (s.serve (.imageTransfer h off piece) { code := 0x0600, kind := .I, who := [.fm], forms := [.dev], len := decide (piece.length ≤ 4076) } h
    (.u32 off.toNat :: piece.map fun b => .u8 b.toNat) fun x s =>
      let o := off.toNat
      let old := if o = 0 then [] else s.cmd.xfer
      if !s.cmd.xfer.isEmpty && s.cmd.xferCred != x.key && (s.cred s.cmd.xferCred).isSome then .fail .busy s
      else if old.length ≠ o ∨ 65920 < o + piece.length ∨ (o ≠ 0 ∧ s.cmd.xferCred ≠ x.key) then .fail .badParam s
      else .ok { s with cmd := { s.cmd with xfer := old ++ piece, xferCred := x.key } })

/-- IMAGE_INSTALL. A rejection's event names, as the station of its scope, the lowest station of the mask, or 0 for an empty mask (log
entry 23). -/
def execImageInstall (h : Hdr) (len : B32) (mask : B16) (mode : B8) (s : State) : Res :=
  .next (s.serve (.imageInstall h len mask mode) { code := 0x0601, kind := .S, who := [.fm], forms := [.dev] } h
    [.u32 len.toNat, .u16 mask.toNat, .u8 mode.toNat] fun x s =>
      let img := if s.cmd.xferCred = x.key then s.cmd.xfer.take len.toNat else []
      if 1 < mode.toNat ∨ img.length ≠ len.toNat then .fail .badParam s
      else if (maskStations mask.toNat).any s.swapBusy then .fail .busy s
      else match s.checkImage img with
        | some (reason, i, meet) =>
          .fail (if meet then .stagedConflict else .badParam) (s.raise 0x01 0x4001 3 (scStn ((maskStations mask.toNat).headD 0)) [imgId img, imgVer img, reason, i])
        | none => s.stage_ x [.image mask.toNat (mode.toNat == 1) img] 8 fun _ => none)

/-- STAGE_REGIONS. -/
def execStageRegions (h : Hdr) (mask : B16) (nreg : B8) (recs : List (List B32)) (s : State) : Res :=
  .next (s.serve (.stageRegions h mask nreg recs)
    { code := 0x0602, kind := .S, who := [.fm], forms := [.dev], len := recs.length == nreg.toNat && recs.all fun r => r.length == 4 } h
    ([.u16 mask.toNat, .u8 nreg.toNat, .u8 0] ++ recDats recs) fun x s =>
      if 16 < nreg.toNat ∨ recs.all (regionFmt (2 ^ 20) 3) = false then .fail .badParam s
      else if (maskStations mask.toNat).any s.rulesBusy then .fail .busy s
      else s.stage_ x [.regions mask.toNat recs] (4 + 16 * recs.length) fun _ =>
        if regionsOverlap recs then some (.stagedConflict, 0) else none)

/-- The Bobbin memories of a station are powered. -/
def State.bobOn (s : State) (st : Nat) : Bool := s.pdOn (32 + st)

/-- TABLE_WRITE: words in ascending order, live. -/
def execTableWrite (h : Hdr) (mask : B16) (off : B32) (words : List B64) (s : State) : Res :=
  .next (s.serve (.tableWrite h mask off words)
    { code := 0x0603, kind := .I, who := [.fm], forms := [.dev], len := decide (words.length ≤ 509) } h
    ([.u16 mask.toNat, .u16 0, .u32 off.toNat] ++ words.map fun w => .u64 w.toNat) fun _ s =>
      let o := off.toNat
      if o % 8 ≠ 0 ∨ 0x100000 < o + 8 * words.length then .fail .badParam s
      else match (maskStations mask.toNat).find? fun st => !s.bobOn st with
        | some st => .fail .hwFault s st
        | none => .ok ((maskStations mask.toNat).foldl (fun s st =>
            (words.zip (List.range words.length)).foldl (fun s x => s.setShared st (o + 8 * x.2) x.1) s) s))

/-- TABLE_READ: an uncorrectable word answers HW_FAULT with its offset. -/
def execTableRead (h : Hdr) (off count : B32) (s : State) : Res :=
  .next (s.serve (.tableRead h off count) { code := 0x0604, kind := .R, who := [.fm, .obs], forms := [.stn] } h
    [.u32 off.toNat, .u32 count.toNat] fun x s =>
      let o := off.toNat
      let n := count.toNat
      let st := x.n
      if o % 8 ≠ 0 ∨ n = 0 ∨ 510 < n ∨ 0x100000 < o + 8 * n then .fail .badParam s
      else if !s.bobOn st then .fail .hwFault s o
      else match (List.range n).find? fun i => s.bob.bad.contains (sharedKey st (o + 8 * i)) with
        | some i => .fail .hwFault s (o + 8 * i)
        | none => .read s ((List.range n).map fun i => .u64 (s.shared st (o + 8 * i)).toNat))

/-- BOBBIN_STATUS. -/
def execBobbinStatus (h : Hdr) (s : State) : Res :=
  .next (s.serve (.bobbinStatus h) { code := 0x0605, kind := .R, who := [.fm, .obs], forms := [.stn] } h [] fun x s =>
    let w (f : Fld) : Dat := .u32 (s.reg f.addr).toNat
    .read s ([w (F.STN_BB_STATUS_IN_SERVICE x.n), w (F.STN_BB_IMAGE_IMAGE_ID x.n), w (F.STN_BB_EPOCH_EPOCH x.n)]
      ++ (List.range 16).map fun k => w (F.STN_BE_STATE_STATE x.n k)))

end Sys2Proof.Machine
end

