-- ==== Sys2Proof/Machine/Cfg.lean ====
section
/-!
DEFINITION. Machine/Cfg.lean: configuration requests as the station logic answers them (R68, R74 to R77, R80): the ports' own functions,
the endpoint functions (Table 12.1), virtual downstream ports (R141, R295) and lent functions (Table 5.9), requests forwarded below a
downstream port with the owner actions of Table 5.11, and a Secondary Bus Reset of an upstream port (R83).
-/

namespace Sys2Proof.Machine

/-! ### The context of a TLP (stage 2) -/

/-- Stage 2 at a station: the requester entry of (Requester ID, `key`), else the defaults of the ingress port `dp`. DEF_PROG counts beside
the entry's own PROG (R124). The host endpoint channel has no port defaults: a requester absent from the table takes RCLASS 0 and PROG 0
there, which the spec does not state (log entry 53). -/
def State.context (s : State) (src stn : Nat) (org : Origin) (vs ing node vc key dp : Nat) (t : Tlp) : Except Stop Cx :=
  let isPort : Bool := decide (dp < 144)
  let defProg := if isPort && s.flag (F.STN_CLS_PORT_DEF_DEF_PROG (stnOf dp) (kOf dp)) then 4 else 0
  let cx : Cx := { src := src, stn := stn, org := org, vs := vs, ing := ing, node := node, cls := tlpClass t, vc := vc, prog := defProg,
                   rid0 := t.rid, tag0 := t.tag }
  match s.requester stn t.rid.toNat key with
    | .error i => .error (.bad tReq i)
    | .ok none => .ok { cx with rclass := if isPort then s.get (F.STN_CLS_PORT_DEF_DEF_RCLASS (stnOf dp) (kOf dp)) else 0 }
    | .ok (some i) =>
      let e := s.tw64 tReq stn i 0
      .ok { cx with rclass := reqClass e, req := i, prog := defProg + (if reqProg e then 2 else 0),
                    lend := if reqLent e then reqLend e else 0xFFFF }

/-- A context that has met no entry: what a refusal of stage 2 is reported with. -/
def bareCx (src stn : Nat) (org : Origin) (vs ing node vc : Nat) (t : Tlp) : Cx :=
  { src := src, stn := stn, org := org, vs := vs, ing := ing, node := node, cls := tlpClass t, vc := vc, rid0 := t.rid, tag0 := t.tag }

/-! ### Configuration requests as TLPs -/

/-- The TLP of a configuration request. -/
def cfgTlp (flit : Bool) (r : CfgReq) : Tlp :=
  let t : Tlp := { (default : Tlp) with kind := if r.write then .cfgWr else .cfgRd, flitFmt := flit, rid := r.rid, tag := r.tag,
                                        target := r.target, nbytes := 4, len := if r.write then 16 else 12, reg := r.reg, be := r.be,
                                        type1 := r.type1, data := if r.write then leBytes 4 r.data.toNat else [] }
  { t with hdr := Config.hdrBytes t }

def isWrite (t : Tlp) : Bool := t.kind == .cfgWr
/-- The doubleword a configuration TLP names, its data and its byte enables as a mask. -/
def cfgOff (t : Tlp) : Nat := t.reg.toNat / 4 * 4
def cfgData (t : Tlp) : Nat := leAt t.data 0 4
def beMask (be : B8) : Nat :=
  (List.range 4).foldl (fun m i => if bit be.toNat i then m + 255 * 256 ^ i else m) 0

/-- A doubleword after a write under masks: bits that take the data, and bits that a written 1 clears. -/
def merge (old data be rw w1c : Nat) : Nat :=
  let a := rw &&& be
  let b := (old ^^^ (old &&& a)) ||| (data &&& a)
  b ^^^ (b &&& (w1c &&& be &&& data))

/-! ### Owner actions on a port with lendings (R145, Table 5.11) -/

/-- An active lending on port p whose OWNER_RESET is 0. -/
def State.guard (s : State) (p : Nat) : Option Nat :=
  (s.lendsOn p).find? fun i => s.lendState (stnOf p) i == 1 && !s.lendReset (stnOf p) i
/-- An active lending on port p. -/
def State.lentOn (s : State) (p : Nat) : Option Nat := (s.lendsOn p).find? fun i => s.lendState (stnOf p) i == 1

/-- LEND_OWNER_BLOCKED for a suppressed write. -/
def State.ownerBlocked (s : State) (p i reg val : Nat) : State :=
  s.raise (srcStn (stnOf p)) 0x3012 1 (scVs (s.lendOwner (stnOf p) i)) [i, reg, val]

/-- An action that resets or powers off what is below port p: suppressed, with the answer false, while a lending with OWNER_RESET 0 is
active; otherwise active lendings are suspended first. -/
def State.ownerAct (s : State) (p reg val : Nat) : State × Bool :=
  match s.guard p with
  | some i => (s.ownerBlocked p i reg val, false)
  | none => (if (s.lentOn p).isSome then s.suspendPort p lsOwner else s, true)

/-- Secondary Bus Reset (held while it is set) or Link Disable of a DSP acts on its link alone (R83). -/
def State.dspHold (s : State) (p : Nat) (disable set : Bool) : State :=
  if disable then
    let s := s.modPort p fun x => { x with dis := { x.dis with link := set } }
    if set then s.goOff p ldDisable lsLink else s.kick p
  else
    let s := s.modPort p fun x => { x with dis := { x.dis with sbr := set } }
    if set then s.goOff p ldHot lsOwner else s.kick p

/-- DSP_LINK_RESET: a Secondary Bus Reset or a Link Disable that a host writes to a DSP, under Table 5.11. -/
def execDspLinkReset (p : Port) (disable set : Bool) (s : State) : Res :=
  .next (
    if s.pciRole p ≠ 2 then s
    else if set then
      match s.ownerAct p (if disable then ofLNKCTL else ofBCTL) (if disable then 0x10 else 0x400000) with
      | (s, true) => s.dspHold p disable true
      | (s, false) => s
    else s.dspHold p disable false)

/-- A write of Slot Control of a DSP, with Power Controller Control under Table 5.11. -/
def State.slotCtlOp (s : State) (p val : Nat) : State :=
  if bit val 10 && !s.flag (F.STN_PORT_HP_STATUS_PCC (stnOf p) (kOf p)) && s.hasSlot p then
    match s.ownerAct p ofSLTCTL val with
    | (s, true) => s.slotCtl p val
    | (s, false) => s.slotCtl p (setBit val 10 false)
  else s.slotCtl p val

/-- SLOT_CONTROL_WRITE: a DSP with a slot has the register. -/
def execSlotControlWrite (p : Port) (val : B16) (s : State) : Res :=
  .next (if s.pciRole p = 2 then s.slotCtlOp p val.toNat else s)

/-! ### Lent functions: resets and BARs (R139, R142) -/

/-- A Function Level Reset of a lent function: its completion return entries are released. -/
def State.lentFlr (s : State) (st i : Nat) : State := s.crtReleaseLend st i

/-- The reset itself: Initiate Function Level Reset in the Device Control of REAL_RID, sent as the port forwards a configuration request. -/
def State.sendFlr (s : State) (st i : Nat) : State :=
  let r : CfgReq := { write := true, type1 := false, target := BitVec.ofNat 16 (s.lendRid st i), reg := (s.probe st i).vfPcie + 8, be := 2,
                      data := 0x8000, rid := (s.proxyId (s.lendOwner st i) 7).getD 0, tag := 0 }
  (s.emit (.tlp (s.lendPort st i) (cfgTlp false r))).lentFlr st i

/-- LENT_FLR. -/
def execLentFlr (st : Stn) (idx : Fin 256) (s : State) : Res :=
  .next (if s.lendValid st idx then s.lentFlr st idx else s)

/-- M64 and PREF of BAR k of a lending. -/
def State.lendM64 (s : State) (st i k : Nat) : Bool := bit (s.lw st i 4) (6 + k)
def State.lendPref (s : State) (st i k : Nat) : Bool := bit (s.lw st i 4) (12 + k)

/-- The window entry of a lent BAR at station x: the one that holds it, or the highest free one (log entry 20). -/
def State.hwSlot (s : State) (x v port real : Nat) : Option Nat :=
  match (s.wins x).find? fun w => w.hw && w.vs == v && w.dest == port && (w.base + w.offset) % 2 ^ 64 == real with
  | some w => some w.idx
  | none => (List.range 4096).reverse.find? fun j => !(s.win x j).valid

/-- Write, or with base 0 clear, the window entry of BAR k of a lending at station x. While BORROW_BASE is 0 the BAR counts as not yet
programmed and has no entry, and it gets none where the station has no free one: the spec states neither (log entry 20). -/
def State.hwPut (s : State) (x st i k : Nat) : State :=
  let v := s.lendVs st i
  let port := s.lendPort st i
  let real := s.lendReal st i k
  let base := s.lendBorrow st i k
  match s.hwSlot x v port real with
  | none => s
  | some j =>
    if base = 0 ∨ s.lendOrd st i k = 0 then
      (if (s.win x j).valid then s.setEntry tWin x j 0 (List.replicate 8 0) else s)
    else s.setEntry tWin x j 0 (hwWindow v port base (base + 2 ^ s.lendOrd st i k - 1) ((real + 2 ^ 64 - base) % 2 ^ 64))

/-- A BAR's entry in every station that holds a port of the borrower, quiesced or not. -/
def State.hwRefresh (s : State) (st i k : Nat) : State :=
  ((List.range 16).filter fun x => (s.stnPorts x).any fun p => s.portIn p (s.lendVs st i)).foldl (fun s x => s.hwPut x st i k) s

/-- Every BAR of a lending. -/
def State.hwAll (s : State) (st i : Nat) : State :=
  ((List.range 6).filter fun k => s.lendOrd st i k != 0).foldl (fun s k => s.hwRefresh st i k) s

/-- B writes BAR k of the lent function: BORROW_BASE and its window entries follow at once. -/
def State.lentBarWrite (s : State) (st i k v : Nat) : State :=
  let o := s.lendOrd st i k
  if o != 0 then
    let low := if 32 ≤ o then 0 else v / 2 ^ o * 2 ^ o
    (s.setTw tLend st i (18 + 2 * k) low).hwRefresh st i k
  else if k != 0 && s.lendM64 st i (k - 1) && s.lendOrd st i (k - 1) != 0 then
    let o := s.lendOrd st i (k - 1)
    let high := if o ≤ 32 then v else v / 2 ^ (o - 32) * 2 ^ (o - 32)
    (s.setTw tLend st i (18 + 2 * (k - 1) + 1) high).hwRefresh st i (k - 1)
  else s

/-- LENT_BAR_WRITE. -/
def execLentBarWrite (st : Stn) (idx : Fin 256) (bar : Fin 6) (val : B32) (s : State) : Res :=
  .next (if s.lendValid st idx then s.lentBarWrite st idx bar val.toNat else s)

/-- BAR k as B reads it. -/
def State.lentBarRead (s : State) (st i k : Nat) : Nat :=
  if s.lendOrd st i k != 0 then
    s.lendBorrow st i k % 2 ^ 32 + (if s.lendM64 st i k then 4 else 0) + (if s.lendPref st i k then 8 else 0)
  else if k != 0 && s.lendM64 st i (k - 1) && s.lendOrd st i (k - 1) != 0 then s.lendBorrow st i (k - 1) / 2 ^ 32
  else 0

/-! ### The end of a lending (R146) -/

/-- The entry enters STATE releasing: reset of the function, its return entries released. -/
def State.lendRelease (s : State) (st i mode : Nat) : State :=
  let s := (s.setLendState st i 3).sendFlr st i
  let s := if mode = 1 then s.vdpChanged st i else s
  { s with tbl := { s.tbl with reclaim := SMap.set (fun _ => 0) s.tbl.reclaim (256 * st + i) (mode + 1) } }

/-- The mode of the reclaim under way plus 1. -/
def State.reclaiming (s : State) (st i : Nat) : Nat := SMap.get (fun _ => 0) s.tbl.reclaim (256 * st + i)

/-- An orderly reclaim waits no longer once B has cleared Memory Space Enable and Bus Master Enable. -/
def State.reclaimGoOn (s : State) (st i : Nat) : State :=
  if s.reclaiming st i = 1 && s.lendState st i != 3 && !s.lendMse st i && !bit (s.vdp st i 1 ofCMD) 2 then s.lendRelease st i 0 else s

/-! ### Virtual downstream ports (R141, R295) -/

/-- Bytes of the capabilities a virtual downstream port lacks: Physical Layer, Lane Margining, Flit Logging, Multicast, L1 PM Substates, and on
a lending Downstream Port Containment. -/
def vdpLacks (lent : Bool) (off : Nat) : Bool :=
  let within (lo hi : Nat) : Bool := decide (lo ≤ off) && decide (off < hi)
  within 0x1E0 0x2D0 || within 0x2E0 0x330 || within 0x340 0x350 || (lent && within 0x180 0x1A0)

/-- Bits of a virtual downstream port's doublewords that a write changes: those of a DSP without the capabilities it lacks; a lending's has
no Downstream Port Containment either. -/
def vdpMasks (lent : Bool) (off : Nat) : Nat × Nat := if vdpLacks lent off then (0, 0) else cfgMasks true off

/-- What a virtual downstream port (of lending (st, i), or of home binding i for st 16) reads as its host sees it: the port number is VPORT,
Link Status is that of PD_PORT, Hot-Plug Surprise 1, no power controller; presence and link follow the lending or binding. The words of the
Tvedmir capability name VPORT, the station that keeps the lending (for a home binding that of the upstream port), role, virtual switch and
device number, and slot and stage of PD_PORT (31 and ACTIVE for a far port that is up); Table 3.4 states them for a real port only (log
entry 53). -/
def State.vdpRead (s : State) (st i off : Nat) : Nat :=
  let lent : Bool := decide (st < 16)
  let port := if lent then s.lendPort st i else s.bindFarPort i
  let vport := if lent then s.lendVport st i else s.bindVport i
  let up : Bool := if lent then s.lendState st i == 1 else s.bindState i == 1
  let head := capHeader (fun c => !vdpLacks lent c.1) off
  let ro :=
    if vdpLacks lent off then 0
    else if off = 0x60 then head + (2 + 6 * 16 + 256) * 65536
    else if off = 0x6C then
      (if lent then s.cfgRo port off % 2 ^ 24 else 2 * 2 ^ 15 + 2 ^ 19 + 2 ^ 20 + 2 ^ 21) + vport * 2 ^ 24
    else if off = 0x74 then (if lent then s.cfgRo port off / 2 ^ 7 * 2 ^ 7 else 0) + 1 + 8 + 2 ^ 5 + 2 ^ 6
    else if off = 0x384 ∨ off = 0x388 then s.cfgRo port off
    else if off = 0x8C then (if lent then s.cfgRo port off else 0)
    else if off = 0x38C then
      (if lent then vport + st * 2 ^ 8 + 2 * 2 ^ 12 + s.lendVs st i * 2 ^ 14 + s.lendVdev st i * 2 ^ 19
       else vport + (s.usp (s.bindVs i)).elim 0 stnOf * 2 ^ 8 + 2 * 2 ^ 12 + s.bindVs i * 2 ^ 14 + s.bindVdev i * 2 ^ 19)
    else if off = 0x390 then (if lent then s.cfgRo port off else 31 + (if up then stACTIVE else 0) * 2 ^ 8)
    else if off < 0x40 ∨ off = 0x64 then s.cfgRo port off
    else head + capWord true off
  let base := ro ||| s.vdp st i 0 off
  if off = ofLNKCTL then
    base ||| ((if lent then s.linkStatus port % 2 ^ 13 else 0) + (if up then 2 ^ 13 else 0)) * 65536
  else if off = ofSLTCTL then base ||| (if up then 2 ^ 22 else 0)
  else base

/-- Secondary Bus Reset (0), Link Disable (1) or a DPC trigger (2) on home binding i acts on its far port (R295): here where this node holds the
port, else by a request to the far node (log entry 36). -/
def State.farAct (s : State) (i what : Nat) (set : Bool) : State :=
  let p := s.bindFarPort i
  if s.bindFarNode i = s.nodeId then
    (if what = 2 then (if set then s.openPort p 0x03 lsDpc else s.uncontain p) else s.dspHold p (what == 1) set)
  else s.emit (.farAct (s.bindFarNode i) p what set)

/-- A write to a virtual downstream port: a Secondary Bus Reset or Link Disable resets the lent function, and on a home binding acts on the far
port, as the DPC software trigger and the release of DPC do. -/
def State.vdpWrite (s : State) (st i off data be : Nat) : State :=
  let old := s.vdp st i 0 off
  let m := vdpMasks (decide (st < 16)) off
  let new := merge old data be m.1 m.2
  let s := s.setVdp st i 0 off new
  let rises (b : Nat) : Bool := !bit old b && bit new b
  if st = 16 then
    if off = ofBCTL ∧ bit old 22 ≠ bit new 22 then s.farAct i 0 (bit new 22)
    else if off = ofLNKCTL ∧ bit old 4 ≠ bit new 4 then s.farAct i 1 (bit new 4)
    else if off = ofDPC ∧ bit (data &&& be) 22 = true ∧ bits old 16 2 ≠ 0 ∧ bit (s.vdp 16 i 0 ofDPCS) 0 = false then
      (s.setVdp 16 i 0 ofDPCS (1 + 3 * 2 + 8 + 32)).farAct i 2 true
    else if off = ofDPCS ∧ bit old 0 = true ∧ bit new 0 = false then s.farAct i 2 false
    else s
  else if st < 16 ∧ ((off = ofBCTL ∧ rises 22 = true) ∨ (off = ofLNKCTL ∧ rises 4 = true)) then s.sendFlr st i else s

/-! ### Ports -/

/-- A Secondary Bus Reset of the upstream port (R83) is set. -/
def State.uspSbrSet (s : State) (v : Nat) : State :=
  if (s.vs v).sbr then s
  else
    let s := s.modVs v fun w => { w with sbr := true }
    let ds := s.dsps v
    let s := ds.foldl State.cfgReset s
    let s := ds.foldl (fun s p => (s.modPort p fun x => { x with dis := { x.dis with sbr := true, link := false } }).goOff p ldHot lsOwner) s
    let s := (s.epReset0 v).epReset1 v pcVsReset
    let s := (s.borrowed v).foldl (fun s x => if s.lendState x.1 x.2 = 1 then s.sendFlr x.1 x.2 else s) s
    let s := (s.homes v).foldl (fun s i => s.farAct i 0 true) s
    s.raise (srcStn ((s.usp v).elim 0 stnOf)) 0x1033 1 (scVs v) [v, vrSbr]

/-- It is cleared: the DSPs train from OFF, and the endpoint functions complete their reset (R334). -/
def State.uspSbrClear (s : State) (v : Nat) : State :=
  if !(s.vs v).sbr then s
  else
    let s := s.modVs v fun w => { w with sbr := false }
    let s := (s.dsps v).foldl (fun s p => (s.modPort p fun x => { x with dis := { x.dis with sbr := false } }).kick p) s
    let s := (s.homes v).foldl (fun s i => if bit (s.homeDw i ofBCTL) 22 then s else s.farAct i 0 false) s
    s.shtResetDone v

/-- USP_SECONDARY_BUS_RESET_SET and _CLEAR. -/
def execUspSecondaryBusResetSet (v : VsId) (s : State) : Res := .next (if (s.usp v).isSome then s.uspSbrSet v else s)
def execUspSecondaryBusResetClear (v : VsId) (s : State) : Res := .next (if (s.usp v).isSome then s.uspSbrClear v else s)

/-! ### Lane margining by a host (R91) -/

/-- What a margining command is answered with, as PCI Express Base Specification 7.0 codes it (log entry 11): in a stage other than ACTIVE
NAK (11b in payload bits 7:6); for the reports of Table 3.4 its values (timing steps and offset, voltage steps, independent up/down and
left/right, and the largest voltage offset, 126 mV, in units of 10 mV as 13); else a free value (log entry 8). No command (type 7) is answered as such. -/
def State.marginReply (s : State) (p ctl : Nat) : Nat :=
  let free := (Config.marginReply s.clk.free).toNat
  let pay := ctl / 256
  let kind := bits ctl 3 3
  if kind = 7 then pay
  else if s.stage p != stACTIVE then 0xC0
  else if kind = 1 ∧ pay = 0x88 then free ||| 7
  else if kind = 1 ∧ pay = 0x89 then 63
  else if kind = 1 ∧ pay = 0x8A then 32
  else if kind = 1 ∧ pay = 0x8B then 50
  else if kind = 1 ∧ pay = 0x8C then 13
  else free

/-- A host writes Margining Lane Control of a lane: its status answers at once. -/
def State.marginCmd (s : State) (p off : Nat) : State :=
  let ctl := s.cw p off % 65536
  s.nextFree.setCw p off (ctl + (ctl % 128 + s.marginReply p ctl * 256) * 65536)

/-- What a host's write of a port's doubleword does beside changing it (R74). -/
def State.portWriteActs (s : State) (p off old new data be : Nat) : State :=
  let dsp := s.pciRole p == 2
  let turns (b : Nat) : Bool := bit old b != bit new b
  if off = ofBCTL ∧ turns 22 = true then
    if dsp then
      (if bit new 22 then
        match s.ownerAct p ofBCTL data with
        | (s, true) => s.dspHold p false true
        | (s, false) => s.setCw p ofBCTL (new - 2 ^ 22)
       else s.dspHold p false false)
    else if bit new 22 then s.uspSbrSet (s.vsOf p) else s.uspSbrClear (s.vsOf p)
  else if off = ofLNKCTL ∧ dsp = true ∧ turns 4 = true then
    if bit new 4 then
      match s.ownerAct p ofLNKCTL data with
      | (s, true) => s.dspHold p true true
      | (s, false) => s.setCw p ofLNKCTL (new - 2 ^ 4)
    else s.dspHold p true false
  else if off = ofDPC ∧ dsp = true ∧ bit (data &&& be) 22 = true then
    -- DPC Software Trigger, while Trigger Enable is set and DPC is not triggered
    if s.dpcEnable p != 0 && !s.flag (F.STN_PORT_STATUS_DPC_TRIG (stnOf p) (kOf p)) then s.dpcTrigger p 3 1 0x03 else s
  else if off = ofDPCS ∧ dsp = true ∧ bit (data &&& be) 0 = true then s.dpcReleaseOp p
  else if off = ofDEVCTL3 ∧ bit old 3 = true ∧ bit new 3 = false then s.l0pFull p
  else if off = ofVC1 ∧ bit old 31 = false ∧ bit new 31 = true ∧ s.stage p = stACTIVE then s.advertise p 1
  else if 0x288 ≤ off ∧ off < 0x288 + 4 * s.width p ∧ be % 65536 ≠ 0 then s.marginCmd p off
  else s

/-- A host's write of a doubleword of a port's configuration space. Slot Control goes the way of R77; bus numbers of a DSP with an active
lending keep their values (Table 5.11). -/
def State.portCfgWrite (s : State) (p off data be : Nat) : State :=
  let dsp := s.pciRole p == 2
  let old := s.cw p off
  let m := cfgMasks dsp off
  if off = ofSLTCTL then
    if !dsp then s
    else
      let s := s.setCw p off (merge old data be 0 m.2)
      if be % 65536 = 0 then s else s.slotCtlOp p (merge (s.cw p off) data be 0x1FFF 0 % 65536)
  else
    let new := merge old data be (if off = ofDPC then m.1 - (m.1 &&& 2 ^ 22) else m.1) m.2
    match (if dsp && off == ofBUS && bits be 8 16 != 0 then s.lentOn p else none) with
    | some i => (s.setCw p off (new % 256 + old / 256 * 256)).ownerBlocked p i off data
    | none =>
      let s := if off = ofDPCS then s.setCw p off (merge old data be 0 8) else s.setCw p off new
      s.portWriteActs p off old new data be

/-! ### Endpoint functions (Table 12.1) -/

/-- Read-only values of an endpoint function's doublewords, at the offsets of PCI Express Base Specification 7.0 (log entry 11). -/
def State.epRo (s : State) (v : Nat) (fn : Bool) (off : Nat) : Nat :=
  if off = 0x00 then 0x1F4E + (if fn then 0x7274 else 0x7273) * 65536
  else if off = 0x08 then (if fn then 0x080100A1 else 0x088000A1)
  else if off = 0x0C then 0x00800000
  else if off = 0x10 ∨ off = 0x18 then 4
  else if off = 0x20 then (if fn then 0 else 4)
  else if off = 0x34 then 0x40
  else if off = 0x40 then 0x5001
  else if off = 0x50 then 0x7011 + (if fn then 2047 else 255) * 65536
  else if off = 0x54 then (if fn then 0 else 2)
  else if off = 0x58 then 0x8000 + (if fn then 0 else 2)
  else if off = 0x70 then 0x10 + 2 * 65536
  else if off = 0x74 then 3 + 2 ^ 15 + 2 ^ 28
  else if off = 0x94 then 2 ^ 16 + (if fn then 2 ^ 17 else 0)
  else if off = 0x100 then 1 + 2 ^ 16 + (if fn then 0x150 else 0x180) * 2 ^ 20
  else if off = 0x150 ∧ fn = true then 0x1B + 2 ^ 16 + 0x160 * 2 ^ 20
  else if off = 0x154 ∧ fn = true then 20 * 256
  else if off = 0x160 ∧ fn = true then 0x0F + 2 ^ 16 + 0x180 * 2 ^ 20
  else if off = 0x164 ∧ fn = true then 2 ^ 5
  else if off = 0x180 then 0x23 + 2 ^ 16
  else if off = 0x184 then 0x1F4E + 0x10 * 2 ^ 20
  else if off = 0x188 then 2
  else if off = 0x18C then v + s.nodeId * 256
  else 0

/-- Bits of an endpoint function's doublewords that a write changes, and bits it clears by writing 1. -/
def epMasks (fn : Bool) (off : Nat) : Nat × Nat :=
  let bar (size : Nat) : Nat := 2 ^ 32 - size
  if off = 0x04 then (0x0546, 0xF9000000)
  else if off = 0x0C then (0xFF, 0)
  else if off = 0x10 then (bar (if fn then 2 ^ 16 else 2 ^ 24), 0)
  else if off = 0x18 then (bar (if fn then 2 ^ 24 else 2 ^ 16), 0)
  else if off = 0x20 then (if fn then (0, 0) else (bar (2 ^ 20), 0))
  else if off = 0x14 || off = 0x1C then (0xFFFFFFFF, 0)
  else if off = 0x24 then (if fn then (0, 0) else (0xFFFFFFFF, 0))
  else if off = 0x3C then (0xFF, 0)
  else if off = 0x44 then (0x0103, 0x8000)
  else if off = 0x50 then (0xC0000000, 0)
  else if off = 0x78 then (0x7FFF, 0x000F0000)
  else if off = 0x98 then (if fn then 0x1F7F else 0x0F7F, 0)
  else if off = 0x104 then (0, 0xFFFFFFFF)
  else if off = 0x108 || off = 0x10C || off = 0x114 then (0xFFFFFFFF, 0)
  else if off = 0x110 then (0, 0xFFFFFFFF)
  else if off = 0x154 then (if fn then (0x00010000, 0) else (0, 0))
  else if off = 0x164 then (if fn then (0x801F0000, 0) else (0, 0))
  else (0, 0)

def State.epCfgRead (s : State) (v : Nat) (fn : Bool) (off : Nat) : Nat := s.epRo v fn off ||| ((s.vs v).fn fn).dw off

/-- A host's write to an endpoint function: Initiate Function Level Reset resets it; leaving D3hot returns its configuration space and
vectors to their reset values (No_Soft_Reset 0); vectors that may now send do. -/
def State.epCfgWrite (s : State) (v : Nat) (fn : Bool) (off data be : Nat) : State :=
  let f := (s.vs v).fn fn
  let m := epMasks fn off
  let g := f.setDw off (merge (f.dw off) data be m.1 m.2)
  if off = 0x78 ∧ bit (data &&& be) 15 = true then (if fn then s.flr1 v else s.flr0 v)
  else
    let g := if f.d3 && !g.d3 then { inReset := f.inReset } else g
    let s := s.modVs v fun w => w.modFn fn fun _ => g
    let s := s.sendPending v fn
    if fn then (s.boundPanels v).foldl (fun s n => s.goOn n) s else s

/-! ### Answers -/

/-- Status codes of completions: Successful, Unsupported Request, Request Retry Status. -/
def csSC : Nat := 0
def csUR : Nat := 1
def csRRS : Nat := 2

/-- The device answers a configuration request itself. -/
def State.cfgAnswer (s : State) (cx : Cx) (t : Tlp) (status data : Nat) : State :=
  (s.emit (.cfgReply cx.ing t.tag status (BitVec.ofNat 32 data))).creditBack cx t

/-- An access to one of the device's own functions. -/
def State.cfgOwn (s : State) (cx : Cx) (t : Tlp) (rd : Nat → Nat) (wr : State → Nat → Nat → Nat → State) : State :=
  if isWrite t then (wr s (cfgOff t) (cfgData t) (beMask t.be)).cfgAnswer cx t csSC 0
  else s.cfgAnswer cx t csSC (rd (cfgOff t))

/-- Refused: Unsupported Request as "no route", or as a row of Table 5.6 says. -/
def State.cfgRefuse (s : State) (cx : Cx) (t : Tlp) (x : Stop) : State := (s.refuse cx t 0 x).creditBack cx t

/-! ### Requests forwarded below a port -/

/-- What an owner's write to a physical function with an active lending is (Table 5.11): 1 a write that is always suppressed, 2 one that
OWNER_RESET decides. -/
def State.pfAct (s : State) (st i : Nat) (t : Tlp) : Nat :=
  let pr := s.probe st i
  let off := cfgOff t
  let be := beMask t.be
  let at_ (base : B16) (d : Nat) : Bool := off == base.toNat + d
  if t.target != pr.pf || !isWrite t then 0
  else if ((at_ pr.cap 8 || at_ pr.cap 0x10) && be % 65536 != 0) || (at_ pr.cap 0x20 && be != 0)
      || (decide (pr.cap.toNat + 0x24 ≤ off) && decide (off < pr.cap.toNat + 0x3C)) then 1
  else if (at_ pr.pcie 8 && bit (cfgData t &&& be) 15) || (at_ pr.pm 4 && bits (cfgData t &&& be) 0 2 == 3) then 2
  else 0

/-- A request to a function below DSP p: without ARI Forwarding Enable only device 0 stands on its secondary bus (Table 3.1). It is refused to a lent function of the owner, suppressed under Table 5.11, or sent on, as Type 0 to the
secondary bus itself. -/
def State.cfgBelow (s : State) (cx : Cx) (t : Tlp) (btag : B32) (p : Nat) : State :=
  let st := stnOf p
  let lent := (s.lendsOn p).filter fun i => s.lendState st i == 1
  let held := (s.lendsOn p).filter fun i => s.lendState st i == 1 || s.lendState st i == 3
  if t.target.toNat / 256 = s.secBus p ∧ bits t.target.toNat 3 5 ≠ 0 ∧ bit (s.cw p ofDEVCTL2) 5 = false then s.cfgRefuse cx t (.row 1)
  else match held.find? fun i => s.lendRid st i == t.target.toNat with
  | some i => s.cfgRefuse cx t (.owner i)
  | none =>
    let go (s : State) : State :=
      s.launch cx t btag (Way.one (.port p) { t with type1 := t.target.toNat / 256 != s.secBus p })
    match lent.find? fun i => s.pfAct st i t == 1 || (s.pfAct st i t == 2 && !s.lendReset st i) with
    | some i => (s.ownerBlocked p i (cfgOff t) (cfgData t)).cfgAnswer cx t csSC 0
    | none => if lent.any fun i => s.pfAct st i t == 2 then go (s.suspendPort p lsOwner) else go s

/-! ### Lent functions (Table 5.9) -/

/-- A forwarded access `t` (received as `t0`): to REAL_RID under the proxy ID of the owner. `patch` says what its completion is to bring back changed. -/
def State.lentForward (s : State) (cx : Cx) (t0 t : Tlp) (btag : B32) (st i patch : Nat) : State :=
  let p := s.lendPort st i
  let rid := s.lendRid st i
  let u := { t with target := BitVec.ofNat 16 rid, type1 := rid / 256 != s.secBus p }
  match s.proxied cx (s.lendOwner st i) 7 true i u with
  | .error x => s.cfgRefuse cx t0 x
  | .ok (u, need) =>
    s.launch cx t0 btag { Way.one (.port p) u with crt := need.map fun n => { n with patch := patch } }

/-- The bytes of a write that go on to a lent function: Header Type and the ARI Next Function Number ignore B's writes (Table 5.9). -/
def lentMask (pr : SrIov) (off : Nat) (be : B8) : B8 :=
  if off = 0x0C then be &&& 0xFB#8 else if pr.vfAri != 0 && off == pr.vfAri.toNat + 4 then be &&& 0xFD#8 else be

/-- A configuration request of B to its lent function. -/
def State.cfgLent (s : State) (cx : Cx) (t : Tlp) (btag : B32) (st i : Nat) : State :=
  let off := cfgOff t
  let be := beMask t.be
  let pr := s.probe st i
  let bar : Bool := decide (0x10 ≤ off) && decide (off < 0x28)
  if s.entryBad tLend st i 32 then s.cfgRefuse cx t (.bad tLend i)
  else if s.lendState st i != 1 then s.cfgRefuse cx t (.row 1)
  else if isWrite t then
    if off = 0x00 ∨ off = 0x30 then s.cfgAnswer cx t csSC 0
    else if bar then (s.lentBarWrite st i ((off - 0x10) / 4) (merge (s.lentBarRead st i ((off - 0x10) / 4)) (cfgData t) be 0xFFFFFFFF 0)).cfgAnswer
      cx t csSC 0
    else if off = ofCMD then
      let s := s.setVdp st i 1 ofCMD (merge (s.vdp st i 1 ofCMD) (cfgData t) be 0xFFFF 0)
      (s.lentForward cx t { t with data := leBytes 4 (setBit (cfgData t) 1 false) } btag st i 0).reclaimGoOn st i
    else if (lentMask pr off t.be) = 0 then s.cfgAnswer cx t csSC 0
    else
      let s := s.lentForward cx t { t with be := lentMask pr off t.be } btag st i 0
      if off = pr.vfPcie.toNat + 8 ∧ bit (cfgData t &&& be) 15 = true then s.lentFlr st i else s
  else if off = 0x00 then s.cfgAnswer cx t csSC (s.lw st i 2)
  else if off = 0x30 then s.cfgAnswer cx t csSC 0
  else if bar then s.cfgAnswer cx t csSC (s.lentBarRead st i ((off - 0x10) / 4))
  else s.lentForward cx t t btag st i
    (if off = ofCMD then 1 else if off = 0x0C then 2 else if pr.vfAri != 0 && off == pr.vfAri.toNat + 4 then 3 else 0)

/-! ### Configuration requests at an upstream port (R68, R80) -/

/-- A Type 1 request for the internal bus: device 0 holds the endpoint functions, the others are DSPs and virtual downstream ports. A Slot
Control write to a port that has left is accepted without effect (R73). -/
def State.cfgInternal (s : State) (cx : Cx) (t : Tlp) : State :=
  let id := t.target.toNat
  let dev := bits id 3 5
  let fn := id % 8
  let v := cx.vs
  if dev = 0 then
    if 2 ≤ fn then s.cfgRefuse cx t (.row 1)
    else if ((s.vs v).fn (fn == 1)).inReset then s.cfgAnswer cx t csRRS 1
    else s.cfgOwn cx t (s.epCfgRead v (fn == 1)) fun s off d be => s.epCfgWrite v (fn == 1) off d be
  else if fn != 0 then s.cfgRefuse cx t (.row 1)
  else match (s.dsps v).find? fun p => s.devnum p == dev with
    | some p => s.cfgOwn cx t (s.cfgRead p) fun s off d be => s.portCfgWrite p off d be
    | none => match (s.borrowed v).find? fun x => s.lendVdev x.1 x.2 == dev with
      | some x => s.cfgOwn cx t (s.vdpRead x.1 x.2) fun s off d be => s.vdpWrite x.1 x.2 off d be
      | none => match (s.homes v).find? fun i => s.bindVdev i == dev with
        | some i => s.cfgOwn cx t (s.vdpRead 16 i) fun s off d be => s.vdpWrite 16 i off d be
        | none => if isWrite t && cfgOff t == ofSLTCTL && (s.vs v).left.contains dev then s.cfgAnswer cx t csSC 0 else s.cfgRefuse cx t (.row 1)

/-- A Type 1 request beyond the internal bus. -/
def State.cfgDown (s : State) (cx : Cx) (t : Tlp) (btag : B32) : State :=
  let id := t.target.toNat
  let bus := id / 256
  let v := cx.vs
  match (s.dsps v).find? fun p => inBuses (s.secBus p) (s.subBus p) bus with
  | some p => s.cfgBelow cx t btag p
  | none => match (s.borrowed v).find? fun x => s.lendBus x.1 x.2 != 0 && s.lendBus x.1 x.2 == bus with
    | some x => if id = s.borrowerId x.1 x.2 then s.cfgLent cx t btag x.1 x.2 else s.cfgRefuse cx t (.row 1)
    | none => match (s.homes v).find? fun i => inBuses (bits (s.homeDw i ofBUS) 8 8) (bits (s.homeDw i ofBUS) 16 8) bus with
      | some i =>
        if s.bindState i != 1 || (bus == bits (s.homeDw i ofBUS) 8 8 && bits id 3 5 != 0 && !bit (s.homeDw i ofDEVCTL2) 5) then s.cfgRefuse cx t (.row 1)
        else s.launch cx t btag (Way.one (.node (s.bindFarNode i) (s.bindFarPort i) 0)
          { t with type1 := bus != bits (s.homeDw i ofBUS) 8 8 })
      | none => s.cfgRefuse cx t (.row 1)

/-- A configuration request received on upstream port u: Request Retry Status until its virtual switch is published and after a reset; Type 0
names the port's own function. -/
def State.cfgOp (s : State) (u : Nat) (t : Tlp) (btag : B32) : State :=
  let v := s.vsOf u
  let st := stnOf u
  let bare := bareCx u st (.usp u) v u s.nodeId (s.vcOf u t.tc.val) t
  if !(s.vs v).published || (s.vs v).rrs then s.cfgAnswer bare t csRRS 1
  else match s.context u st (.usp u) v u s.nodeId (s.vcOf u t.tc.val) u u t with
    | .error x => s.cfgRefuse bare t x
    | .ok cx =>
      let bus := t.target.toNat / 256
      if !t.type1 then
        if t.target.toNat % 8 != 0 then s.cfgRefuse cx t (.row 1)
        else
          let s := if isWrite t then s.setCw u ofBUS (s.cw u ofBUS / 256 * 256 + bus) else s
          s.cfgOwn cx t (s.cfgRead u) fun s off d be => s.portCfgWrite u off d be
      else if !inBuses (s.secBus u) (s.subBus u) bus then s.cfgRefuse cx t (.row 1)
      else if bus = s.secBus u then s.cfgInternal cx t
      else s.cfgDown cx t btag

/-- CONFIG_REQUEST: upstream ports take configuration requests; one that arrives at another port is an Unsupported Request. -/
def execConfigRequest (p : Port) (r : CfgReq) (s : State) : Res :=
  .next (
    let t := cfgTlp (s.flag (F.STN_PORT_STATUS_FLIT (stnOf p) (kOf p))) r
    let s := s.pmWake p
    if s.pciRole p = 1 then s.cfgOp p t (crc32c (tlpBytes t))
    else if s.pciRole p = 2 then
      s.cfgRefuse (bareCx p (stnOf p) (.dsp p) (s.vsOf p) p s.nodeId (s.vcOf p t.tc.val) t) t (.row 1)
    else if s.pciRole p = 3 then (s.emit (.cfgReply p r.tag csUR 0)).emit (.credit p 0 1 t.len)
    else s)

end Sys2Proof.Machine
end

