-- ==== Sys2Proof/Machine/Classify.lean ====
section
/-!
DEFINITION. Machine/Classify.lean: the classifier (R121 to R137, R143, R144): TLPs that enter at a port or at the host endpoint channel,
completions through the return tables, records that arrive from another node with a classification still to be done (Table 10.2), and
the table commands TABLE_REWRITE and PROXY_TMO.
-/

namespace Sys2Proof.Machine

/-! ### Stages 3 to 6 -/

/-- Stage 3 by kind of TLP (Table 5.2), with what it checks of a window. -/
def State.resolve (s : State) (cx : Cx) (t : Tlp) : Except Stop Way :=
  match t.kind with
  | .mwr | .mrd | .atomic => if isLocal cx t then s.localRoute cx t else s.memRoute cx t
  | .msg => s.msgRoute cx t
  | .cpl | .cpld =>
    s.idRoute cx t.rid.toNat t (fun t id => { t with rid := id })
  | .cfgRd | .cfgWr | .other => .error (.row 1)

/-- A refusal of stage 3, after which a header goes no further (R121): no route, DKIND 3, an uncorrectable window entry. -/
def Stop.ofRoute : Stop → Bool
  | .row 1 | .dkind | .unexpected | .gone => true
  | .bad t _ => t == tWin
  | _ => false

/-- Stages 3 and 4: a route, or why not; what stage 3 refuses is refused as such, and stage 4 checks ACS of the ingress port before the
window's permission. -/
def State.classify (s : State) (cx : Cx) (t : Tlp) : Except Stop Way :=
  let x := s.resolve cx t
  let early : Bool := match x with
    | .error e => e.ofRoute
    | .ok _ => false
  if early then x
  else match cx.org with
    | .dsp p => (match s.acsSource p t with
      | some c => .error (.acs c)
      | none => (match x with
        | .ok w => s.acsPeer cx w
        | .error e => .error e))
    | _ => x

/-- The access group of the window that an address hits. -/
def State.hitGroup (s : State) (cx : Cx) (t : Tlp) : Nat :=
  match s.winLook cx.stn cx.vs t.addr.toNat with
  | .hit w => w.agroup
  | _ => 0

/-- A completion that nothing claims is an Unexpected Completion of the port where it entered (Table 8.3). -/
def State.unexpected (s : State) (cx : Cx) : State :=
  match cx.org with
  | .usp p | .dsp p => s.aerAdv p aeUC
  | _ => s

/-- A TLP whose context is known goes through the rest of the classifier: `t0` as received, `t` as stage 3 sees it. -/
def State.finish (s : State) (cx : Cx) (t0 t : Tlp) (btag : B32) : State :=
  match s.classify cx t with
  | .ok w => s.launch cx t0 btag w
  | .error .gone => s.creditBack cx t0
  | .error .unexpected => (s.unexpected cx).creditBack cx t0
  | .error x => (s.refuse cx t0 (s.hitGroup cx t) x).creditBack cx t0

/-! ### Completions (R136, R297) -/

/-- The completion that ends its request: without data, or with a byte count that its own data completes. Its Lower Address (the low bits
of `addr`) says where in the first doubleword the data begins. -/
def isFinal (t : Tlp) : Bool :=
  t.kind == .cpl || decide ((if t.byteCount = 0 then 4096 else t.byteCount) ≤ t.data.length - t.addr.toNat % 4)

/-- What Table 5.9 changes in a forwarded read's data: Memory Space Enable as B wrote it, Header Type 0, Next Function Number 0. -/
def State.patched (s : State) (st i patch : Nat) (t : Tlp) : Tlp :=
  let d := leAt t.data 0 4
  let d' := if patch = 1 then setBit d 1 (s.lendMse st i) else if patch = 2 then d - bits d 16 8 * 2 ^ 16
    else if patch = 3 then d - bits d 8 8 * 2 ^ 8 else d
  if patch = 0 then t else { t with data := leBytes 4 d' ++ t.data.drop 4 }

/-- A completion that matches the completion return entry at its tag: restored and sent to where its request entered. That of a lending takes
the lending's PROG (R124). -/
def State.restore (s : State) (cx : Cx) (p : Nat) (t : Tlp) (btag : B32) : State :=
  let st := stnOf p
  let tag := t.tag.toNat
  let e := s.crt p tag
  if s.entryBad tCrt st (crtIdx p tag) 2 then (s.refuse cx t 0 (.bad tCrt (crtIdx p tag))).creditBack cx t
  else
    let i := crtLend e
    let u := { t with rid := BitVec.ofNat 16 (crtRid e), tag := BitVec.ofNat 16 (crtTag e),
                      completer := if crtLent e then BitVec.ofNat 16 (s.borrowerId st i) else t.completer }
    let u := s.patched st i (s.patch p tag % 8) u
    let x := s.crtHome p tag
    let cx := if crtLent e && s.lendProg st i && cx.prog / 2 % 2 == 0 then { cx with prog := cx.prog + 2 } else cx
    let s := if isFinal t then s.crtRelease p tag else s
    s.launch cx t btag (Way.one x u)

/-- The entry of a station's fabric return table at a tag. -/
def State.fret (s : State) (st tag : Nat) : Option Fret := SMap.get (fun _ => none) s.fab.fret (1024 * st + tag)
def State.setFret (s : State) (st tag : Nat) (x : Option Fret) : State :=
  { s with fab := { s.fab with fret := SMap.set (fun _ => none) s.fab.fret (1024 * st + tag) x } }

/-- A completion that matches a fabric return entry leaves for the node its request came from (R297). -/
def State.restoreFar (s : State) (cx : Cx) (st : Nat) (f : Fret) (t : Tlp) (btag : B32) : State :=
  let u := { t with rid := f.origRid, tag := f.origTag }
  let s := if isFinal t then s.setFret st t.tag.toNat none else s
  s.launch { cx with vs := f.origVs } t btag (Way.one (.node f.origNode 0xFB 0) u)

/-- A Requester ID is proxy function fn of a virtual switch: R131 gives a request the proxy ID of the one that holds the port it leaves by. -/
def State.isProxy (s : State) (v rid fn : Nat) : Bool := s.proxyId v fn == some (BitVec.ofNat 16 rid)

/-- No return entry matches: a proxy's completion is discarded and reported, another goes on by its ID. -/
def State.stray (s : State) (cx : Cx) (p : Nat) (t : Tlp) (btag : B32) : State :=
  let rid := t.rid.toNat
  if s.isProxy (s.vsOf p) rid 7 then (s.raiseLim ms100 p (srcStn (stnOf p)) 0x3015 1 (scPort p) 0 [p, rid, t.tag.toNat]).creditBack cx t
  else if s.isProxy (s.vsOf p) rid 6 then (s.raiseLim ms100 p 0x06 0x5133 1 (scPort p) 0 [p, rid, t.tag.toNat]).creditBack cx t
  else s.finish cx t t btag

/-- A completion that arrives at port p. -/
def State.completion (s : State) (cx : Cx) (p : Nat) (t : Tlp) (btag : B32) : State :=
  let st := stnOf p
  let rid := t.rid.toNat
  let tag := t.tag.toNat
  let e := s.crt p (tag % 256)
  if tag < 256 ∧ crtValid e = true ∧ crtProxy e = rid then s.restore cx p t btag
  else match (if tag < 1024 then s.fret st tag else none) with
    | some f =>
      if f.proxy = t.rid then s.restoreFar cx st f t btag
      else s.stray cx p t btag
    | none => s.stray cx p t btag

/-! ### Lent functions (Table 5.10) -/

/-- Cause of a lending suspended by ERR_FATAL of its function (log entry 12). -/
def lsFatal : Nat := 4

/-- ERR messages of a lent function: the owner's partition manager hears of them, and ERR_FATAL opens an entry (R144, Table 8.4). -/
def State.lentErr (s : State) (st i : Nat) (t : Tlp) : State :=
  let c := t.msgCode.toNat
  if t.kind = .msg ∧ (c = msErrCor ∨ c = msErrNonfatal ∨ c = msErrFatal) then
    let s := s.raise (srcStn st) 0x3014 1 (scVs (s.lendOwner st i)) [i, c]
    if c = msErrFatal then
      match s.cqOpen st 1 i 0x10 with
      | (s, some _) => (s.suspendLend st i lsFatal).crtReleaseLend st i
      | (s, none) => s
    else s
  else s

/-- A request or message of a lent function, in the borrower's virtual switch under the borrower ID. -/
def State.fromLent (s : State) (cx : Cx) (t : Tlp) (btag : B32) (i : Nat) : State :=
  let st := cx.stn
  if s.entryBad tLend st i 32 then (s.refuse cx t 0 (.bad tLend i)).creditBack cx t
  else if !s.lendValid st i || s.lendState st i != 1 then
    let k := 256 * st + i
    let f (x : Tbl) : Tbl := { x with discards := SMap.set (fun _ => 0) x.discards k (SMap.get (fun _ => 0) x.discards k + 1) }
    let s := if t.kind = .msg ∧ t.msgCode.toNat = msErrFatal then s.cqNest st 1 i 0x10 else s
    (if s.lendState st i = 3 then { s with tbl := f s.tbl } else s).creditBack cx t
  else
    let cx := { cx with org := .vdp st i, vs := s.lendVs st i,
                        prog := if s.lendProg st i && cx.prog / 2 % 2 == 0 then cx.prog + 2 else cx.prog }
    let u := { t with rid := BitVec.ofNat 16 (s.borrowerId st i) }
    (s.finish cx t u btag).lentErr st i t

/-! ### Messages at a downstream port -/

/-- An error message from below DSP p of a severity for which the host has enabled DPC: cause of Table 8.5 and trigger reason (1
ERR_NONFATAL, 2 ERR_FATAL). -/
def State.errDpc (s : State) (p : Nat) (t : Tlp) : Option (Nat × Nat) :=
  let en := s.dpcEnable p
  let c := t.msgCode.toNat
  if t.kind != .msg then none
  else if c = msErrFatal ∧ en != 0 then some (0x01, 2)
  else if c = msErrNonfatal ∧ en = 2 then some (0x02, 1)
  else none

/-- An error message that triggers DPC is consumed; its Requester ID is kept as the DPC Error Source ID. While DPC is triggered already, the
error is nested (R220). -/
def State.dpcMsg (s : State) (p : Nat) (t : Tlp) (cause reason : Nat) : State :=
  if s.flag (F.STN_PORT_STATUS_DPC_TRIG (stnOf p) (kOf p)) then s.cqNest (stnOf p) 0 p cause
  else
  let s := s.dpcTrigger p reason 0 cause
  s.setCw p ofDPCS (s.cw p ofDPCS % 65536 + t.rid.toNat * 65536)

/-- PME_TO_Ack from DSP p: one fewer is owed. -/
def State.noteAck (s : State) (p : Nat) (t : Tlp) : State :=
  if t.kind = .msg ∧ t.msgCode.toNat = msgPmeToAck then s.pmeAcked p else s

/-! ### Entry at a port -/

/-- Max_Payload_Size that the host has programmed for a port. -/
def State.mps (s : State) (p : Nat) : Nat := 128 * 2 ^ bits (s.cw p ofDEVCTL) 5 3

/-- R134: words corrected on the way (by table and index) are counted and raise 0x3005, and uncorrectable ones are known from now on. -/
def State.tableEcc (s : State) (st scope : Nat) (fixed : List (Fin 5 × Nat)) (bad : List (Fin 5 × Nat × Nat)) : State :=
  let s := fixed.foldl (fun s x => (s.bump (F.STN_CLS_ECC_CORR st)).raise (srcStn st) 0x3005 1 scope [st, x.1.val, x.2]) s
  let ks := (bad.map fun b => tkey b.1.val st b.2.1 b.2.2).filter fun k => !s.tbl.bad.contains k
  { s with tbl := { s.tbl with bad := s.tbl.bad ++ ks } }

/-- A malformed TLP is discarded and reported; a malformed request is not completed (Table 8.3). -/
def State.malformed (s : State) (cx : Cx) (p : Nat) (t : Tlp) : State :=
  let s := if s.pciRole p = 3 then s else ((s.aer p aeMalf).headerLog p t.hdr).dpcError p aeMalf 0x08
  s.creditBack cx t

/-- A TLP from below a pool port: to the home node of a remote binding, else refused and counted without a trace on a host (R71, R170, R294). -/
def State.fromPool (s : State) (cx : Cx) (t : Tlp) (btag : B32) (p : Nat) : State :=
  match s.farOf p with
  | some i =>
    if s.bindState i = 1 then s.launch cx t btag (Way.one (.node (s.bindHomeNode i) 0xFD (s.bindHomeIdx i)) t)
    else (s.refuse cx t 0 (.row 1)).creditBack cx t
  | none => (s.refuse cx t 0 (.row 1)).creditBack cx t

/-- A poisoned TLP received is logged at its ingress port (Table 8.3), and that of an active lending in the AER of its virtual downstream port
(R144). -/
def State.notePoison (s : State) (cx : Cx) (p : Nat) (t : Tlp) : State :=
  if !t.ep then s
  else if cx.cls != 2 && cx.lend != 0xFFFF && s.lendState cx.stn cx.lend == 1 then s.vdpAer cx.stn cx.lend aePoison
  else s.aerAdv p aePoison

/-- A TLP at an upstream or downstream port. -/
def State.fromPort (s : State) (p : Nat) (t : Tlp) (btag : B32) : State :=
  let st := stnOf p
  let v := s.vsOf p
  let up : Bool := s.pciRole p == 1
  let org : Origin := if up then .usp p else .dsp p
  let vc := s.vcOf p t.tc.val
  let bare := bareCx p st org v p s.nodeId vc t
  if up && (t.kind == .cfgRd || t.kind == .cfgWr) then s.cfgOp p t btag
  else if up && !(s.vs v).published && tlpClass t != 2 then (s.refuse bare t 0 (.row 1)).creditBack bare t
  else match s.context p st org v p s.nodeId vc p p t with
    | .error x => ((s.notePoison bare p t).refuse bare t 0 x).creditBack bare t
    | .ok cx =>
      let s := s.notePoison cx p t
      if cx.cls = 2 then s.completion cx p t btag
      else if cx.lend != 0xFFFF then s.fromLent cx t btag cx.lend
      else if up then s.finish cx t t btag
      else match s.errDpc p t with
        | some (cause, reason) => (s.dpcMsg p t cause reason).creditBack cx t
        | none => (s.noteAck p t).finish cx t t btag

/-- The TLP's own form is one that the port cannot take (R64). -/
def State.misshapen (s : State) (p : Nat) (t : Tlp) : Bool := t.malformed || decide (4 < t.prefixes) || decide (s.mps p < t.data.length)

/-- A credit unit is 16 bytes of data (R78). -/
def dataUnits (t : Tlp) : Nat := (t.data.length + 15) / 16

/-- The TLP exceeds the credits that the port has advertised for its VC and class (R78): one header and its data beside what the TLPs that
still wait in the port's ingress buffer hold, since the link last came up. -/
def State.overflows (s : State) (p vc : Nat) (t : Tlp) : Bool :=
  let c := tlpClass t
  let a := (advertised (s.width p) vc (s.flag (F.STN_PORT_STATUS_SCALED_FC (stnOf p) (kOf p)))).2
  let mine := s.core.flights.filter fun f => f.src == p && f.vc == vc && f.cls == c && decide ((s.port p).rxFrom ≤ f.id)
  decide (a.getD (2 * c) 0 ≤ mine.length) || decide (a.getD (2 * c + 1) 0 < mine.foldl (fun n f => n + dataUnits f.tlp0) (dataUnits t))

/-- Receiver Overflow (Table 8.3): the TLP is discarded; it holds no credit to return. -/
def State.overflow (s : State) (p : Nat) (t : Tlp) : State :=
  if s.pciRole p = 3 then s else ((s.aer p aeRO).headerLog p t.hdr).dpcError p aeRO 0x07

/-- A TLP that a contained port still receives before its link disable has taken effect, while its entry is OPEN (R220): it goes nowhere, and
an error of it that would trigger DPC is nested. -/
def State.lateArrival (s : State) (p : Nat) (t : Tlp) : State :=
  let opened := match s.cqFind (stnOf p) 0 p with
    | some i => s.cqState (stnOf p) i == 1
    | none => false
  if !opened || !(s.pciRole p == 1 || s.pciRole p == 2) then s
  else if s.misshapen p t then ((s.aer p aeMalf).headerLog p t.hdr).dpcError p aeMalf 0x08
  else if s.pciRole p = 2 then
    match s.errDpc p t with
    | some (cause, _) => s.cqNest (stnOf p) 0 p cause
    | none => s
  else s

/-- A TLP received on a PCIe port that is up: counted, checked for its own form, and classified. -/
def State.tlpAt (s : State) (p : Nat) (fixed : List (Fin 5 × Nat)) (bad : List (Fin 5 × Nat × Nat)) (t : Tlp) : State :=
  let st := stnOf p
  let vc := s.vcOf p t.tc.val
  let s := s.tableEcc st (scPort p) fixed bad
  let s := (s.count st 0x01 (kOf p) (tlpClass t) vc 1).count st 0x02 (kOf p) (tlpClass t) vc t.len
  let s := s.pmWake p
  let bare := bareCx p st (.exp 0) (s.vsOf p) p s.nodeId vc t
  if s.overflows p vc t then s.overflow p t
  else if s.misshapen p t then s.malformed bare p t
  else if s.pciRole p = 3 then s.fromPool bare t (crc32c (tlpBytes t)) p
  else s.fromPort p t (crc32c (tlpBytes t))

/-- A TLP that an endpoint function issues, classified in the station of its upstream port (R122). A requester absent from the table has
RCLASS 0 and PROG 0 there, since that channel has no port default register (log entry 53). -/
def State.tlpFromEp (s : State) (u v : Nat) (fn : Bool) (t : Tlp) : State :=
  let st := stnOf u
  let vc := s.vcOf u t.tc.val
  match s.context (256 + v) st (.ep fn) v 0xFE s.nodeId vc 0xFF 0xFF t with
  | .error x =>
    let bare := bareCx (256 + v) st (.ep fn) v 0xFE s.nodeId vc t
    (s.refuse bare t 0 x).creditBack bare t
  | .ok cx => s.finish cx t t (crc32c (tlpBytes t))

/-- TLP_RECEIVE. -/
def execTlpReceive (src : TSrc) (fixed : List (Fin 5 × Nat)) (bad : List (Fin 5 × Nat × Nat)) (t : Tlp) (s : State) : Res :=
  .next (match src with
    | .port p => if s.stage p = stACTIVE ∧ s.pciRole p ≠ 0 then s.tlpAt p fixed bad t else s.lateArrival p t
    | .ep v fn =>
      match s.usp v with
      | some u => (s.tableEcc (stnOf u) (scStn (stnOf u)) fixed bad).tlpFromEp u v fn t
      | none => s)

/-! ### Records from another node (Table 10.2) -/

/-- A record discarded under R280 or R285: counted, and a late error of cause 6 when it is posted. -/
def State.routeErr (s : State) (st : Nat) (c : Carriage) (t : Tlp) : State :=
  let s := s.bump F.FAB_ROUTE_ERR_ROUTE_ERR
  if c.cls = 0 then s.lateError (seamRec c t) 6 (9 * st) else s

/-- The context of a record that arrived on the Seam link of station st. -/
def seamCx (st : Nat) (c : Carriage) (t : Tlp) (org : Origin) (vs units : Nat) : Cx :=
  { src := 9 * st, stn := st, org := org, vs := vs, ing := c.ingPort.toNat, node := c.ingNode.toNat, cls := c.cls.val, vc := c.vc.val,
    rid0 := t.rid, tag0 := t.tag, svs := bits c.route.toNat 8 5, units := units, scls := c.cls.val }

/-- Words of an export entry (Table 10.8). -/
def State.expWord (s : State) (g w : Nat) : Nat := (s.reg (exportAddr g w)).toNat
/-- Export g admits source node n. -/
def State.expFrom (s : State) (g n : Nat) : Bool := bit (s.expWord g 0) 0 && decide (n < 48) && bit (s.expWord g (1 + n / 32)) (n % 32)

/-- A request under an export entry (R296), whose requester class is the default of the Seam port it came by (R129, R130): refused as the permission row of Table 5.6, with 0x5132, or classified in virtual switch b. -/
def State.fromExport (s : State) (cx : Cx) (t : Tlp) (btag : B32) (g : Nat) : State :=
  let need := permNeed t
  if s.expFrom g cx.node && (bits (s.expWord g 0) 6 2 &&& need) == need then
    let k := F.STN_CLS_PORT_DEF_DEF_RCLASS cx.stn 0
    s.finish { cx with org := .exp g, vs := bits (s.expWord g 0) 1 5, rclass := s.get k } t t btag
  else
    let s := s.raiseLim ms100 g 0x06 0x5132 2 (scNode s.nodeId) 0 [g, cx.node, cx.svs]
    (s.refuse { cx with org := .exp g } t 0 .expDenied).creditBack cx t

/-- A record whose DEST_NODE is this device. -/
def State.deliverHere (s : State) (st : Nat) (c : Carriage) (t : Tlp) (units : Nat) : State :=
  let dp := c.destPort.toNat
  let arg := c.route.toNat % 256
  let cx := seamCx st c t (.exp 0) (bits c.route.toNat 8 5) units
  if dp < 144 then
    if s.pciRole dp = 0 then (s.routeErr st c t).creditBack cx t
    else s.launch cx t c.btag (Way.one (.port dp) t)
  else if dp = 0xFB then
    let cx := { cx with org := .ep false }
    match s.idRoute cx t.rid.toNat t (fun t id => { t with rid := id }) with
    | .ok w => s.launch cx t c.btag w
    | .error (.bad a i) => (s.refuse cx t 0 (.bad a i)).creditBack cx t
    | .error _ => (s.routeErr st c t).creditBack cx t
  else if dp = 0xFD then
    if arg < 64 ∧ s.bindValid arg = true ∧ s.bindFar arg = false ∧ s.bindState arg = 1 then
      s.finish { cx with org := .home arg, vs := s.bindVs arg } t t c.btag
    else (s.routeErr st c t).creditBack cx t
  else if dp = 0xFE then s.fromExport cx t c.btag arg
  else (s.routeErr st c t).creditBack cx t

/-- A data record received on a Seam link: classified here, or carried on by the path its route word fixes (R280, R284, R285). -/
def State.arriveSeam (s : State) (st : Nat) (c : Carriage) (t : Tlp) (units : Nat) : State :=
  let n := c.destNode.toNat
  let bare := seamCx st c t (.exp 0) (bits c.route.toNat 8 5) units
  if n = s.nodeId then s.deliverHere st c t units
  else if 48 ≤ n then (s.routeErr st c t).creditBack bare t
  else match s.nextHop n (b2n (bit c.route.toNat 13)) (c.route.toNat / 2 ^ 14) with
    | none => (s.routeErr st c t).creditBack bare t
    | some sp =>
      let r := { seamRec c t with fid := s.core.nextId }
      let d : Dest := { bank := stnOf sp, qid := 58 + c.cls.val, r := r }
      let f : Flight := { id := s.core.nextId, src := 9 * st, cls := c.cls.val, vc := c.vc.val, tlp0 := t, dests := [d], units := units,
                          scls := c.cls.val, stn := st, t6 := s.clk.fab }
      { s with core := { s.core with nextId := s.core.nextId + 1, flights := s.core.flights ++ [f] } }

/-! ### Table commands -/

/-- TABLE_REWRITE: Aclia rewrites an entry from its staged copy (R134); an entry of the completion return table, which has one copy, is
released. -/
def execTableRewrite (st : Stn) (table : Fin 5) (idx : Nat) (s : State) : Res :=
  .next (
    if !s.acl.up || !s.entryBad table.val st idx 32 then s
    else
      let s := if table.val = tCrt then s.crtRelease (9 * st.val + idx / 256) (idx % 256) else s
      { s with tbl := { s.tbl with bad := s.tbl.bad.filter fun k => k / 32 != tkey table.val st idx 0 / 32 } })

/-- PROXY_TMO (R135, R297): CRT_TMO has expired for an entry of a port, or of the station's fabric return table. -/
def execProxyTmo (st : Stn) (fret : Bool) (port : Port) (tag : Nat) (s : State) : Res :=
  .next (
    let tell (s : State) (rid what : Nat) : State := s.raise (srcStn st) 0x3016 1 (scPort port) [port, tag, rid, what]
    if fret then
      match s.fret st tag with
      | some f => tell (s.setFret st tag none) f.origRid.toNat f.origVs
      | none => s
    else if tag < 256 ∧ stnOf port = st.val ∧ crtValid (s.crt port tag) = true then
      let e := s.crt port tag
      let s := (s.crtRelease port tag).bump (F.STN_CLS_CRT_USE_TIMEOUTS st (kOf port))
      tell s (crtRid e) (crtLend e)
    else s)

end Sys2Proof.Machine
end

