-- ==== Sys2Proof/Machine/Pace.lean ====
section
/-!
DEFINITION. Machine/Pace.lean: the pace monitors (R21, R22, Table 1.4): filtering, substitution, thresholds, and the readings of
the CORE registers (Table 4.7).
-/

namespace Sys2Proof.Machine

/-- Worst-corner bounds of the handshake and Bobbin readings, and the ranges of their valid samples (R21). -/
def hsBound : Nat := 1250
def beBound : Nat := 550

/-- Keys of a monitor's handshake and Bobbin readings. -/
def rdHs (m : Nat) : Nat := 2 * m
def rdBe (m : Nat) : Nat := 2 * m + 1

def State.reading (s : State) (k : Nat) : Reading := SMap.get (fun _ => {}) s.core.pace k
def State.setReading (s : State) (k : Nat) (r : Reading) : State :=
  { s with core := { s.core with pace := SMap.set (fun _ => {}) s.core.pace k r } }

/-- Insert into a rising list. -/
def insSorted (v : Nat) : List Nat → List Nat
  | [] => [v]
  | x :: xs => if v ≤ x then v :: x :: xs else x :: insSorted v xs

/-- The median of the last five valid samples. -/
def median5 (w : List Nat) : Nat := (w.foldl (fun a v => insSorted v a) []).getD 2 0

/-- The value a reading stands for: its filtered value, or its bound while it is substituted. -/
def Reading.value (r : Reading) (bound : Nat) : Nat := if r.subst then bound else median5 r.win

/-- A reading's bound and validity of a sample. -/
def rdBound (k : Nat) : Nat := if k % 2 = 0 then hsBound else beBound
def rdValid (k v : Nat) : Bool :=
  if k % 2 = 0 then decide (300 ≤ v ∧ v ≤ 3000) else decide (130 ≤ v ∧ v ≤ 1320)

def State.rdWarn (s : State) (k : Nat) : Nat :=
  if k % 2 = 0 then s.get F.CORE_PACE_THR_WARN_HS else s.get F.CORE_PACE_THR_WARN_BE

/-- Scope of a monitor's events, which no table gives: its station, or the device for a quadrant's (log entry 12). -/
def paceScope (k : Nat) : Nat := if k / 2 < 16 then scStn (k / 2) else scDev

/-- Raise a threshold crossing: the first in each direction, repeats within 100 ms counted (R22). The detail names the monitor and the
reading; the numbers 0 handshake and 1 Bobbin are the model's (log entry 12). -/
def State.paceEvent (s : State) (k code sev v : Nat) : State :=
  s.raiseLim ms100 k 0x04 code sev (paceScope k) 0 [k / 2, k % 2, v]

/-- A reading becomes faulty: substituted, with 0x2104 that names it; a faulty one starts its five consecutive valid samples again. -/
def State.paceFault (s : State) (k : Nat) : State :=
  let r := s.reading k
  if r.faulty then s.setReading k { r with run := 0 }
  else (s.setReading k { r with faulty := true, subst := true, run := 0, low := false, lvl := 0 }).raise 0x04 0x2104 3
    (paceScope k) [k / 2, k % 2]

/-- Judge a filtered value against the thresholds of Table 1.4. -/
def State.paceJudge (s : State) (k : Nat) : State :=
  let r := s.reading k
  if r.subst then s
  else
    let v := median5 r.win
    let w := s.rdWarn k
    let lvl := if rdBound k < v then 2 else if w < v then 1 else 0
    let back := r.low && decide (v + 25 ≤ w)
    let s := s.setReading k { r with lvl := lvl, low := (r.low || decide (0 < lvl)) && !back }
    let s := if r.lvl < 1 ∧ 1 ≤ lvl then s.paceEvent k 0x2101 2 v else s
    let s := if r.lvl < 2 ∧ lvl = 2 then s.paceEvent k 0x2102 3 v else s
    if back then s.paceEvent k 0x2103 0 v else s

/-- One sample of one reading. A faulty reading returns after five consecutive valid samples, one substituted since power-on after its
first five (R21). -/
def State.paceTake (s : State) (k v : Nat) : State :=
  let r := s.reading k
  if rdValid k v then
    let run := if r.subst then r.run + 1 else 0
    let sub := r.subst && decide (run < 5)
    (s.setReading k { r with win := (v :: r.win).take 5, miss := 0, run := if sub then run else 0, subst := sub,
                             faulty := r.faulty && sub }).paceJudge k
  else
    let miss := min 5 (r.miss + 1)
    let s := s.setReading k { r with miss := miss, run := if r.faulty then 0 else r.run }
    if miss = 5 then s.paceFault k else s

/-- The registers of a monitor, and T_EFF and SPEEDUP over the twenty (R22, Table 4.7). -/
def State.paceRegs (s : State) (m : Nat) : State :=
  let h := s.reading (rdHs m)
  let b := s.reading (rdBe m)
  let st := decide (m < 16)
  let s := s.put (F.CORE_PACE_M_HS m) (h.value hsBound)
  let s := s.put (F.CORE_PACE_M_BE m) (if st then b.value beBound else 0)
  let s := s.putB (F.CORE_PACE_M_FAULTY m) (h.faulty || (st && b.faulty))
  let s := s.putB (F.CORE_PACE_M_ABOVE_WARN m) (decide (0 < h.lvl) || (st && decide (0 < b.lvl)))
  let s := s.putB (F.CORE_PACE_M_ABOVE_FLOOR m) (decide (1 < h.lvl) || (st && decide (1 < b.lvl)))
  let t := (List.range 20).foldl (fun t i => max t ((s.reading (rdHs i)).value hsBound)) 0
  (s.put F.CORE_PACE_EFF_T_EFF t).put F.CORE_PACE_EFF_SPEEDUP (4000 * 256 / t)

/-- PACE_SAMPLE: one sample of monitor m; a quadrant monitor has no Bobbin reading. -/
def execPaceSample (m : Mon) (hs be : Nat) (s : State) : Res :=
  .next (
    let s := s.paceTake (rdHs m) hs
    let s := if m.val < 16 then s.paceTake (rdBe m) be else s
    s.paceRegs m)

/-- PACE_MONITOR_SILENT: no sample for 10 µs. -/
def execPaceMonitorSilent (m : Mon) (s : State) : Res :=
  .next (
    let s := s.paceFault (rdHs m)
    let s := if m.val < 16 then s.paceFault (rdBe m) else s
    s.paceRegs m)

end Sys2Proof.Machine
end

