-- ==== Sys2Proof/Machine/Power.lean ====
section
/-!
DEFINITION. Machine/Power.lean: chapter 15: reset kinds and their causes (R402 to R410), the strap (R405, R406), the power
domains (R411 to R413), block reset (R415), the reference clocks and the core PLL (R416 to R418), station clocks (R419) and the
opcodes of group 0x0Dxx.
-/

namespace Sys2Proof.Machine

/-! ### Subsoil time, causes and the last-gasp log (R409, R410) -/

/-- Subsoil time as fabric time would start at it: base pair and ticks; without a valid pair the ticks alone. -/
def State.ssTime (s : State) : Nat :=
  if s.flag F.GLB_RESET_CAUSE_TIME_VALID then
    (s.pow.baseNs.toNat + (s.ssTicks + 2 ^ 48 - s.pow.baseTicks) % 2 ^ 48 * 1000000000 / 32768) % 2 ^ 64
  else s.ssTicks * 1000000000 / 32768

/-- The counter of a cause from 2 to 10. -/
def causeCnt (c : Nat) : Fld := if c % 2 = 0 then F.GLB_RESET_CNT_CNT_A ((c - 2) / 2) else F.GLB_RESET_CNT_CNT_B ((c - 2) / 2)

/-- A record of the last-gasp log: the newest overwrites the oldest. -/
def State.gaspPut (s : State) (code sev : Nat) (detail : List Nat) : State :=
  let i := s.get F.GLB_LG_STATUS_NEXT
  let e : Ev := { id := s.evs.next, time := BitVec.ofNat 64 s.ssTime, code := code, sev := sev, src := 0, scope := scDev,
                  flags := 8, gap := 0, detail := detail }
  let s := { s with evs := { s.evs with next := s.evs.next + 1, gasp := s.evs.gasp.filter (fun (x : Nat × Ev) => x.1 != i) ++ [(i, e)] } }
  (s.put F.GLB_LG_STATUS_NEXT (i + 1)).bump F.GLB_LG_STATUS_WRITTEN

/-- A reset trigger of a cause of Table 15.5: last causes, its counter, and for causes 3 to 7 a last-gasp record. -/
def State.trigger (s : State) (cause : Nat) : State :=
  let s := s.put F.GLB_RESET_CAUSE_LAST_CAUSE cause
  let s := if cause ≤ 7 then s.put F.GLB_RESET_CAUSE_LAST_DEV_CAUSE cause else s
  let s := if 2 ≤ cause then s.bump (causeCnt cause) else s
  if 3 ≤ cause ∧ cause ≤ 6 then s.gaspPut 0x8001 1 [cause, s.get (causeCnt cause), s.ssTime] else s

/-! ### What resets clear (Table 15.1) -/

/-- Registers that a reset of PD0 to PD62 leaves: those of the slot power controllers in PD63, subsoil state, the strap as
latched, which references are present; on a warm reset the late-error log's sequence. -/
def keptReg (warm : Bool) (a : Nat) : Bool :=
  decide (0x02400000 ≤ a ∧ a < 0x02500000) || decide (0x20 ≤ a ∧ a < 0x38) || a == 0x50 || a == 0x14 || a == 0x1FC
    || (warm && a == 0x02600000)

/-- Rate limits of the slot power controllers' events. -/
def keptRate (k : Nat) : Bool := decide (0x9000 ≤ k / 2 ^ 32 ∧ k / 2 ^ 32 < 0x9100)

/-- Flash and fuses, which no reset changes, and on a warm reset the thermal-trip latch's output. -/
def Aclia.survive (a : Aclia) (warm : Bool) : Aclia :=
  { boot0 := a.boot0, boot1 := a.boot1, bankA := a.bankA, bankB := a.bankB, cfgA := a.cfgA, cfgB := a.cfgB, uid := a.uid,
    rollback := a.rollback, debugLocked := a.debugLocked, keys := a.keys, thermtripN := if warm then a.thermtripN else true }

/-- Event state that survives: the slot power controllers' RAM, the persistent log and the last-gasp log. -/
def Evs.survive (e : Evs) : Evs :=
  { ram := e.ram.filter fun x => x.1 == 3, plog := e.plog, copies := e.copies, gasp := e.gasp, gaspSeen := e.gaspSeen, next := e.next,
    rate := e.rate.filter fun x => keptRate x.1 }

/-- PD0 to PD62 are reset. HRST_N is driven low, and fabric time starts at subsoil time. -/
def State.resetMain (s : State) (warm : Bool) : State :=
  let t := s.ssTime
  let ctl : SMap SpcSt := s.spc.ctl.map fun x => (x.1, { x.2 with perst := false })
  let z : State := {
    pending := s.pending, out := s.out,
    clk := { s.clk with fab := if s.flag F.GLB_RESET_CAUSE_TIME_VALID then BitVec.ofNat 64 t else 0 },
    regs := s.regs.filter fun x => keptReg warm x.1,
    evs := s.evs.survive, acl := s.acl.survive warm, late := if warm then { log := s.late.log } else {},
    spc := { s.spc with ctl := ctl.filter fun x => decide (x.2 ≠ ({} : SpcSt)) },
    pow := { samples := s.pow.samples, supplyLow := s.pow.supplyLow, stby := s.pow.stby, baseNs := s.pow.baseNs,
             baseTicks := s.pow.baseTicks } }
  let z := z.put F.GLB_CLK_STATUS_REFCLK_OK (s.get F.GLB_CLK_STATUS_REFCLK_OK)
  if warm then z.putB F.GLB_STATUS_THERMTRIP (s.flag F.GLB_STATUS_THERMTRIP) else z

/-! ### The strap (R405, R406) -/

/-- The windows of Table 15.3, by code. -/
def strapWin : List (Nat × Nat) :=
  [(0, 14), (78, 108), (126, 156), (183, 213), (239, 269), (293, 323), (353, 383), (424, 454), (497, 527), (564, 594), (643, 673),
   (708, 738), (771, 801), (829, 859), (889, 919), (1009, 1023)]

/-- The fourth smallest of the samples. -/
def strapMedian (xs : List Nat) : Nat := (xs.mergeSort (· ≤ ·)).getD 3 0

/-- The code of the window a count lies in. -/
def strapCode (m : Nat) : Option Nat := (List.range 16).find? fun c =>
  let w := strapWin.getD c (0, 0)
  decide (w.1 ≤ m ∧ m ≤ w.2)

/-- The code of the nearer window, the lower code on a tie. -/
def strapNear (m : Nat) : Nat :=
  let dist (c : Nat) : Nat :=
    let w := strapWin.getD c (0, 0)
    if m < w.1 then w.1 - m else if w.2 < m then m - w.2 else 0
  (List.range 16).foldl (fun b c => if dist c < dist b then c else b) 0

/-- A strap reading: median, samples in the median's window, code taken, and whether there is a fault. -/
def strapEval (xs : List Nat) : Nat × Nat × Nat × Bool :=
  let xs := xs.map fun x => x % 1024
  let m := strapMedian xs
  let safe (c : Nat) : Nat := c / 2 % 4 * 2
  match strapCode m with
  | some c =>
    let n := (xs.filter fun x => strapCode x == some c).length
    if 6 ≤ n then (m, n, c, false) else (m, n, safe c, true)
  | none => (m, 0, safe (strapNear m), true)

/-- The reading is latched in GLB_STRAP; a fault raises 0x8002. -/
def State.strapLatch (s : State) (xs : List Nat) : State :=
  let (m, n, c, bad) := strapEval xs
  let s := ((s.put F.GLB_STRAP_CODE c).put F.GLB_STRAP_COUNT m).putB F.GLB_STRAP_FAULT bad
  if bad then (s.putB F.GLB_STATUS_STRAP_FAULT true).raise 0x00 0x8002 3 scDev [m, n, c] else s

/-- Reset values that the strap selects: HOLD and ROLE of its upstream station (R66, Table 2.8). -/
def State.strapDefaults (s : State) : State :=
  let u := s.strapStn
  let s := (s.putB (F.STN_LANE_MODE_HOLD 0) true).put (F.STN_PORT_CFG_ROLE 0 0) 0
  (s.putB (F.STN_LANE_MODE_HOLD u) false).put (F.STN_PORT_CFG_ROLE u 0) 1

/-! ### Reset triggers (R402 to R404) -/

/-- The slot power controllers lose their supply or take their defaults: every gate off, every PERST_N low; latch-offs stay in the
subsoil domain (R428). -/
def State.spcReset (s : State) : State :=
  { s with regs := s.regs.filter fun x => !decide (0x02400000 ≤ x.1 ∧ x.1 < 0x02500000),
           spc := { latched := s.spc.latched },
           evs := { s.evs with ram := s.evs.ram.filter (fun x => x.1 != 3), rate := s.evs.rate.filter fun x => !keptRate x.1 } }

/-- SUBSOIL_POWER_ON. A standby power-on follows as a command of its own. -/
def execSubsoilPowerOn (s : State) : Res :=
  .next (
    let s := { s with regs := s.regs.filter (fun x => !(decide (0x20 ≤ x.1 ∧ x.1 < 0x38) || x.1 == 0x50)),
                      evs := { s.evs with gasp := [], gaspSeen := 0 }, spc := { s.spc with latched := [] },
                      pow := { s.pow with baseNs := 0, baseTicks := 0 }, clk := { s.clk with ssZero := s.clk.now } }
    s.trigger 1)

/-- STANDBY_POWER_ON: the controllers take their defaults, the strap is sampled, and main logic is in reset. -/
def execStandbyPowerOn (samples : List Nat) (s : State) : Res :=
  .next (
    let lit := (List.range 17).filter s.gateOn
    let s := (s.trigger 2).spcReset
    let s := ((({ s with pow := { s.pow with stby := true } }).resetMain false).strapLatch samples)
    let s := s.put F.GLB_STRAP_STBY_CODE (s.get F.GLB_STRAP_CODE)
    let s := s.spc.latched.foldl (fun s n => s.setSp n spLATCHED) s
    let s := lit.foldl (fun s n => s.raiseSlot n 0x9011 1 [0]) s
    (s.put (F.GLB_PD_STATE_STATE 63) 2).putB (F.GLB_PD_STATE_ISO 63) false)

/-- MAIN_POWER_ON_RESET: every main supply is above its rise threshold again. After a brown-out the cause is the brown-out's. -/
def execMainPowerOnReset (samples : List Nat) (s : State) : Res :=
  .next (
    let after := s.pow.supplyLow
    let s := { s with pow := { s.pow with supplyLow := false, samples := samples } }
    if !s.pow.stby || after then s else (s.trigger 3).resetMain false)

/-- BROWN_OUT: a main supply has fallen; main logic is held in reset until MAIN_POWER_ON_RESET. -/
def execBrownOut (_supply : Fin 8) (s : State) : Res :=
  .next (
    let s := (s.trigger 4).resetMain false
    { s with pow := { s.pow with supplyLow := true } })

/-- WARM_RESET: another device holds HRST_N low. The pin is no trigger while this device drives it or has not been released. -/
def execWarmReset (samples : List Nat) (s : State) : Res :=
  .next (
    if s.pow.driving || !s.pow.running then s
    else
      let s := ((s.disarmFor 2).trigger 5).resetMain true
      { s with pow := { s.pow with samples := samples } })

/-- STANDBY_POWER_LOSS: every gate turns off, and main logic is held in reset while VAUX3 is absent. -/
def execStandbyPowerLoss (s : State) : Res :=
  .next (
    let s := s.spcReset.resetMain false
    { s with pow := { s.pow with stby := false } })

/-- HRST_DRIVE_END: the strap as sampled in the last 0.8 ms is latched, and the pin is released. -/
def execHrstDriveEnd (s : State) : Res :=
  .next (
    if !s.pow.driving || s.pow.running || s.pow.supplyLow || !s.pow.stby then s
    else
      let s := if s.pow.samples.isEmpty then s else s.strapLatch s.pow.samples
      { s with pow := { s.pow with driving := s.flag F.GLB_STATUS_THERMTRIP, samples := [] } })

/-- RESET_RELEASE: PD62 and the fuses are up, the core PLL locks to the lowest input present, and the boot ROM runs. With the
thermal-trip latch set the pin stays driven, and main logic boots all the same (Table 15.2). -/
def execResetRelease (s : State) : Res :=
  .next (
    if s.pow.running || s.pow.supplyLow || !s.pow.stby || (s.pow.driving && !s.flag F.GLB_STATUS_THERMTRIP) then s
    else
      let pd (s : State) (d : Nat) : State := (s.put (F.GLB_PD_STATE_STATE d) 2).putB (F.GLB_PD_STATE_ISO d) false
      let s := { s with pow := { s.pow with running := true, releasedAt := s.clk.now } }
      let s := (pd (pd s 62) 63).putB (F.GLB_PD_STATE_REQ 62) true
      let s := s.strapDefaults.putB F.GLB_FUSE_STATUS_LOADED true
      let s := (s.putB F.GLB_FUSE_STATUS_CORRECTED (Config.fuseCorrected s.clk.free)).nextFree
      let s := if s.flag F.GLB_STRAP_FAULT then s.putB F.GLB_STATUS_STRAP_FAULT true else s
      let s := (s.put F.FAB_UID_LO_UID_LO (s.acl.uid.toNat % 2 ^ 32)).put F.FAB_UID_HI_UID_HI (s.acl.uid.toNat / 2 ^ 32)
      let s := (s.put F.ACW_SEC_STATUS_ROLLBACK s.acl.rollback).putB F.ACW_SEC_STATUS_DEBUG_LOCKED s.acl.debugLocked
      let s := s.putB F.ACW_THERM_STATUS_TRIP (!s.acl.thermtripN)
      let s := match (List.range 4).find? fun q => bit (s.get F.GLB_CLK_STATUS_REFCLK_OK) q with
        | some q => (s.put F.GLB_CLK_STATUS_CORE_REF q).putB F.GLB_CLK_STATUS_CORE_LOCK true
        | none => s
      { s with acl := { s.acl with romWaits := bit (s.get F.GLB_STRAP_CODE) 0 } })

/-- The cores stop: Aclia is unavailable, an armed debug lock is disarmed, and a PD_SET in progress loses its status (R404). -/
def State.coresDown (s : State) : State :=
  let s := (s.disarmFor 2).put F.ACW_FW_STATUS_CORES_UP 0
  { s with acl := { s.acl with up := false },
           cmd := { s.cmd with asyncs := s.cmd.asyncs.filter fun a => !(a.opcode == 0x0D01 && a.ended.isNone) } }

/-- RESET_AFTER_REPLY: DEVICE_RESET takes effect. -/
def execResetAfterReply (kind : Fin 2) (s : State) : Res :=
  .next (
    if s.pow.pendingReset != some kind.val then s
    else
      let s := { s with pow := { s.pow with pendingReset := none } }
      if kind.val = 0 then ((s.disarmFor 2).trigger 6).resetMain true
      else (s.coresDown.discardAll 3).trigger 9)

/-- THERMTRIP (R370): the latch is set, THERMTRIP_N falls, and PD0 to PD61 are to switch off. -/
def execThermtrip (die : Fin 5) (raw : Int) (s : State) : Res :=
  .next (
    let v := (raw % 65536).toNat
    let s := s.trigger 7
    let s := s.gaspPut 0x8113 5 [die.val, v]
    let s := (s.putB F.GLB_STATUS_THERMTRIP true).putB F.ACW_THERM_STATUS_TRIP true
    let s := { s with acl := { s.acl with thermtripN := false }, pow := { s.pow with driving := true } }
    let s := s.raise 0x02 0x8113 5 scDev [die.val, v]
    (List.range 62).foldl (fun s d => s.pdAsk d false) s)

/-! ### Power domains (R411 to R413) -/

/-- The domains a domain needs (Table 15.6). -/
def pdNeeds (d : Nat) : List Nat :=
  if d < 16 then [d + 16] else if d < 32 then [48 + (d - 16) / 2] else if d < 48 then [d - 16]
  else if d < 56 then [56 + (d - 48) / 2] else if d < 62 then [62] else []

/-- The table entries of a station, and those of its maps kept by station and entry. -/
def stnKey (st k : Nat) : Bool := k / 32 / 65536 % 16 == st

/-- A station's tables are zeroed and its containment queue is empty. -/
def State.zeroTables (s : State) (st : Nat) : State :=
  let t := s.tbl
  let s := { s with tbl := { t with words := t.words.filter (fun x => !stnKey st x.1), shadow := t.shadow.filter (fun x => !stnKey st x.1),
                                    bad := t.bad.filter fun k => !stnKey st k } }
  (List.range 32).foldl (fun s i => s.cqDrop st i) s

/-- The engines of a station are loaded from its active image buffer, if an image is installed; failed engines return to service. -/
def State.loadEngines (s : State) (st : Nat) : State :=
  let img := (s.bstn st).active
  if img.isEmpty then s
  else
    let s := (engsOf st).foldl (fun s e => ((s.modEng e fun _ => { data := imgData img }).setEngState e 0).modThm e
      fun _ => { regions := imgRegions img, epoch := s.get (F.STN_BB_EPOCH_EPOCH st) }) s
    let s := s.putB (F.STN_BB_STATUS_IMG_VALID st) true
    ((s.put (F.STN_BB_IMAGE_IMAGE_ID st) (imgId img)).put (F.STN_BB_IMAGE_IMAGE_VER st) (imgVer img)).checkEngines st

/-- A failed quadrant comes back (R117): steps 3 to 5 of Table 4.6, FAILED cleared, and its ports' links are enabled again; their entries end
as the ports reach ACTIVE (Table 8.4). -/
def State.quadBack (s : State) (q : Nat) : State :=
  if bit (s.get F.CORE_STALL_STATUS_FAILED) q then
    let s := s.put F.CORE_STALL_STATUS_FAILED (setBit (s.get F.CORE_STALL_STATUS_FAILED) q false)
    let s := (quadBanks q).foldl (fun s b => ((s.toggleEpoch b).sieveEnd b).putB (F.STN_OB_SIEVE_STAT_PAUSED b) false) s
    let ports := (quadBanks q).flatMap s.stnPorts
    ports.foldl (fun s p => match s.cqFind (stnOf p) 0 p with
      | some i => if s.get (F.STN_CQ_ENTRY1_CAUSE (stnOf p) i) = 0x0B
          then s.uncontain p else s
      | none => s) s
  else s

/-- What is initialised when a domain comes on (Table 15.6). -/
def State.pdInit (s : State) (d : Nat) : State :=
  if d < 16 then s.stationUp d
  else if d < 32 then (List.range 17).foldl (fun s n => s.hpSync n) (s.zeroTables (d - 16))
  else if d < 48 then (s.loadEngines (d - 32)).kickStn (d - 32)
  else if d < 56 then
    [2 * (d - 48), 2 * (d - 48) + 1].foldl (fun s b => (s.modBank b fun _ => {}).put (F.STN_OB_FREE_FREE_CNT b) 40960) s
  else if d < 60 then s.quadBack (d - 56)
  else if d = 60 then
    let s : State := { s with sht := {}, regs := s.regs.filter fun x => !decide (0x02340000 ≤ x.1 ∧ x.1 < 0x02380000) }
    s.closeCreds fun c => c.cls == .tenant
  else if d = 61 then
    let clean (f : EpFn) : EpFn := { f with vecs := [] }
    { s with vss := (s.vss.map fun x => (x.1, { x.2 with f0 := clean x.2.f0, f1 := clean x.2.f1 })).filter
               (fun x => decide (x.2 ≠ ({} : VsSt))),
             ep := { s.ep with proxy := [] } }
  else s

/-- A domain may come on: every domain it needs is on, and PD(s), whose coming on starts its station, has its turn (R45),
after PD(32 + s) when both are asked for (R411). -/
def State.pdReady (s : State) (d : Nat) : Bool :=
  (pdNeeds d).all s.pdIsOn && (decide (16 ≤ d) || ((!s.flag (F.GLB_PD_STATE_REQ (32 + d)) || s.pdIsOn (32 + d)) && s.startTurn d))

/-- PD_ON: raises 0x8010, which completes a PD_SET on this domain. -/
def execPdOn (d : Pd) (s : State) : Res :=
  .next (
    if d.val ≥ 62 || !s.pow.running || s.flag F.GLB_STATUS_THERMTRIP || !s.flag (F.GLB_PD_STATE_REQ d)
        || s.pdState d == 2 || s.pdState d == 3 || !s.pdReady d then s
    else
      let s := ((s.put (F.GLB_PD_STATE_STATE d) 2).putB (F.GLB_PD_STATE_ISO d) false).pdInit d
      s.raiseEnd (fun a => a.opcode == 0x0D01 && a.obj == d.val && a.mode == 1) 0x00 0x8010 0 scDev
        [d.val, s.clk.now - SMap.get (fun _ => 0) s.pow.reqAt d])

/-- What is left of a register when its status goes: its RWC, QO and RWS fields keep their values, the others return to reset values. -/
def State.statusGone (s : State) (a : Nat) : State :=
  let keep := regMask (fun c => c == .rwc || c == .qo || c == .rws) a
  s.setReg a ((s.reg a &&& keep) ||| (regDflt a &&& ~~~keep))

/-- Fields of the registers in [lo, hi) return to reset values, but for RWC, QO and RWS fields, and registers that p keeps. -/
def State.clearBlock (s : State) (lo hi : Nat) (p : Nat → Bool) : State :=
  ((s.regs.map Prod.fst).filter fun a => decide (lo ≤ a ∧ a < hi) && !p a).foldl State.statusGone s

/-- The registers of a domain that goes off: control fields keep their committed values (R14). -/
def State.forget (s : State) (d : Nat) : State :=
  ((s.regs.map Prod.fst).filter fun a => domainOf a == d).foldl State.statusGone s

/-- The status of a station's lanes, which its lane registers report while PD(s) is off (R14); HELD and BIFURC_ERR report on its
configuration. -/
def State.lanesGone (s : State) (st : Nat) : State :=
  let b := 0x01000000 + 0x100000 * st
  let held := s.flag (F.STN_LANE_STATUS_HELD st)
  let bad := s.flag (F.STN_LANE_STATUS_BIFURC_ERR st)
  ((s.clearBlock b (b + 0x20000) fun _ => false).putB (F.STN_LANE_STATUS_HELD st) held).putB (F.STN_LANE_STATUS_BIFURC_ERR st) bad

/-- Station logic loses its state beside its registers and tables; the emulated configuration spaces of its ports stay. -/
def State.logicGone (s : State) (st : Nat) : State :=
  let s := (s.stnPorts st).foldl (fun s p => s.modPort p fun x => { cfg := x.cfg, dis := x.dis }) s
  { s with seams := SMap.set (fun _ => {}) s.seams st {}, fab := { s.fab with fret := s.fab.fret.filter fun x => x.1 / 1024 != st } }

/-- A Bobbin cluster loses its state but for its image buffers. -/
def State.clusterGone (s : State) (st : Nat) : State :=
  let b := 0x01000000 + 0x100000 * st
  (s.clearBlock (b + 0x80000) (b + 0xC0000) fun _ => false).modBstn st fun x => { active := x.active, staging := x.staging }

/-- Readings of pace monitor m whose domain is off stand at reset: their bounds, in T_EFF too (R14, R21). -/
def State.monitorGone (s : State) (ks : List Nat) (m : Nat) : State := (ks.foldl (fun s k => s.setReading k {}) s).paceRegs m

/-- The fence and the containment of a station's ports are lost with its logic. -/
def State.fenceGone (s : State) (st : Nat) : State :=
  let s := s.put F.ERR_FENCED_STATIONS (setBit (s.get F.ERR_FENCED_STATIONS) st false)
  (s.stnPorts st).foldl (fun s p => s.modPort p fun x => { x with dis := { x.dis with fence := false, contain := false }, surprise := false }) s

/-- What goes with a domain that is switched off. -/
def State.pdGone (s : State) (d : Nat) : State :=
  if d < 16 ∨ (32 ≤ d ∧ d < 48) then
    let st := d % 16
    let up := (s.stnPorts st).filter fun p => s.pciRole p == 1 && s.stage p == stACTIVE
    let s := ((s.stnPorts st).foldl (fun s p => s.goOff p ldRemoved lsLink) s).perstStn st
    let s := up.foldl (fun s p => s.vsResetOp (s.vsOf p) vrDown) s
    if d < 16 then
      let s := (s.lanesGone st).modStn st fun _ => {}
      s.put F.GLB_CLK_STATUS_STN_CLK_RUN (setBit (s.get F.GLB_CLK_STATUS_STN_CLK_RUN) st false)
    else (s.clusterGone st).monitorGone [rdBe st] st
  else if d < 32 then ((((s.zeroTables (d - 16)).logicGone (d - 16)).forget d).fenceGone (d - 16)).monitorGone [rdHs (d - 16), rdBe (d - 16)] (d - 16)
  else if d < 56 then [2 * (d - 48), 2 * (d - 48) + 1].foldl (fun s b => s.modBank b fun _ => {}) (s.forget d)
  else if d < 60 then (s.forget d).monitorGone [rdHs (d - 40)] (d - 40)
  else if d = 60 then ({ s with sht := {} }).forget d
  else s.forget d

/-- PD_OFF: raises 0x8011; causes 1 PD_SET, 2 HOLD, 4 thermal trip (3, a reset, leaves no record; log entry 12). -/
def execPdOff (d : Pd) (s : State) : Res :=
  .next (
    if d.val ≥ 62 || s.flag (F.GLB_PD_STATE_REQ d) || s.pdState d == 0 || s.pdState d == 3 then s
    else
      let cause := if s.flag F.GLB_STATUS_THERMTRIP then 4 else if s.pow.offBySet.contains d.val then 1 else 2
      let s := ((s.pdGone d).put (F.GLB_PD_STATE_STATE d) 0).putB (F.GLB_PD_STATE_ISO d) true
      s.raiseEnd (fun a => a.opcode == 0x0D01 && a.obj == d.val && a.mode == 0) 0x00 0x8011 0 scDev [d.val, cause])

/-- PD_FAULT: the domain is left off; a faulted station domain leaves its station held. A PD_SET on it ends with HW_FAULT. -/
def execPdFault (d : Pd) (overcurrent : Bool) (s : State) : Res :=
  .next (
    if d.val ≥ 62 || !s.flag (F.GLB_PD_STATE_REQ d) || s.pdState d == 2 || s.pdState d == 3 then s
    else
      let s := ((s.put (F.GLB_PD_STATE_STATE d) 3).putB (F.GLB_PD_STATE_ISO d) true).bump (F.GLB_PD_STATE_FAULTS d)
      let s := s.putB (F.GLB_PD_STATE_REQ d) false
      let s := if d.val < 48 then s.leaveHeld (d.val % 16) else s
      let id := s.evs.next
      (s.raise 0x00 0x8012 4 scDev [d.val, if overcurrent then 2 else 1]).endAsync
        (fun a => a.opcode == 0x0D01 && a.obj == d.val) .hwFault (some id))

/-- Every domain that needs d is off. -/
def State.noneNeeds (s : State) (d : Nat) : Bool :=
  (List.range 62).all fun x => !(pdNeeds x).contains d || s.pdState x == 0 || s.pdState x == 3

/-- The condition of Table 15.7 for switching domain d off. -/
def State.pdMayOff (s : State) (d : Nat) : Bool :=
  let idle (st : Nat) : Bool := (s.stnPorts st).all fun p => s.stage p == stOFF
  if d < 16 then idle d
  else if d < 32 then s.flag (F.STN_LANE_STATUS_HELD (d - 16))
  else if d < 48 then idle (d - 32)
  else if d < 60 then true
  else if d = 60 then
    (s.regs.all fun x => !(decide (0x02340000 ≤ x.1 ∧ x.1 < 0x02380000) && x.1 % 0x40 == 0x18)
      || decide (x.2.toNat % 8 ≤ pStopped)) && s.get F.SHT_BUSY_BUSY == 0
  else s.vss.all fun x => !x.2.published

/-- PD_SET. -/
def execPdSet (h : Hdr) (dom on : B8) (s : State) : Res :=
  .next (s.serve (.pdSet h dom on) { code := 0x0D01, kind := .A, who := [.fm], forms := [.dev] } h [.u8 dom.toNat, .u8 on.toNat] fun _ s =>
    let d := dom.toNat
    if 61 < d || 1 < on.toNat then .fail .badParam s
    else if s.flag F.GLB_STATUS_THERMTRIP then .fail .notIdle s
    else if (d < 16 || (32 ≤ d && d < 48)) && s.hold (d % 16) then .fail .notIdle s
    else if s.flag (F.GLB_PD_STATE_REQ d) != (s.pdState d == 2) then .fail .busy s
    else
      let ask (s : State) : State :=
        let off := s.pow.offBySet.filter (· != d)
        let s := if s.pdState d = 3 then s.put (F.GLB_PD_STATE_STATE d) 0 else s
        let s := s.pdAsk d (on.toNat == 1)
        { s with pow := { s.pow with offBySet := if on.toNat = 1 then off else d :: off } }
      if on.toNat = 1 then
        (if s.pdState d = 2 then { st := .accepted, s := (s.asyncObj d 1).raiseEnd (fun a => a.opcode == 0x0D01 && a.obj == d) 0x00 0x8010 0 scDev [d, 0] }
         else { st := .accepted, s := (ask s).asyncObj d 1 })
      else
        let failedQuad := decide (56 ≤ d ∧ d < 60) && bit (s.get F.CORE_STALL_STATUS_FAILED) (d - 56)
        if !(failedQuad || (s.noneNeeds d && s.pdMayOff d)) then .fail .notIdle s
        else if s.pdState d = 2 then { st := .accepted, s := (ask s).asyncObj d 0 }
        else { st := .accepted, s := ((ask s).asyncObj d 0).raiseEnd (fun a => a.opcode == 0x0D01 && a.obj == d) 0x00 0x8011 0 scDev [d, 1] })

/-- PD_STATUS: GLB_PD_STATE of PD0 to PD63 (log entry 24). -/
def execPdStatus (h : Hdr) (s : State) : Res :=
  .next (s.serve (.pdStatus h) { code := 0x0D00, kind := .R, who := [.fm, .obs], forms := [.dev] } h [] fun _ s =>
    .read s ((List.range 64).map fun d => .u32 (s.reg (F.GLB_PD_STATE_STATE d).addr).toNat))

/-- RESET_HISTORY: the counters of causes 2 to 10, then GLB_RESET_CAUSE (log entry 24). -/
def execResetHistory (h : Hdr) (s : State) : Res :=
  .next (s.serve (.resetHistory h) { code := 0x0D04, kind := .R, who := [.fm, .obs], forms := [.dev] } h [] fun _ s =>
    .read s (((List.range 9).map fun i => Dat.u16 (s.get (causeCnt (i + 2)))) ++
      [.u32 (s.reg F.GLB_RESET_CAUSE_LAST_CAUSE.addr).toNat]))

/-- DEVICE_RESET: the reply is sent, and the reset follows 10 ms later. -/
def execDeviceReset (h : Hdr) (kind : B8) (s : State) : Res :=
  .next (s.serve (.deviceReset h kind) { code := 0x0D03, kind := .I, who := [.fm], forms := [.dev] } h [.u8 kind.toNat] fun _ s =>
    if 1 < kind.toNat then .fail .badParam s
    else .ok { s with pow := { s.pow with pendingReset := some kind.toNat } })

/-! ### Block reset (R415) -/

/-- The first condition of Table 15.9 that block `code` of station `st` does not meet, numbered in the order the table names them. -/
def State.blockBusy (s : State) (code st : Nat) : Option Nat :=
  let off (more : Bool) : Bool := (s.stnPorts st).all fun p => s.stage p == stOFF || (more && s.stage p == stFAILED)
  if code = 0x01 then (if !off false then some 1 else if (List.range 32).any (s.cqValid st) then some 2 else none)
  else if code = 0x02 then (if !off false then some 1 else if s.rulesBusy st then some 2 else none)
  else if code = 0x03 then (if !off true then some 1 else none)
  else if code = 0x10 then (if s.pdMayOff 60 then none else if s.get F.SHT_BUSY_BUSY = 0 then some 1 else some 2)
  else if code = 0x12 then (if s.flag F.PMC_CTL_READER_EN then some 1 else none)
  else none

/-- The power domain of a block, by code and station. -/
def blockDomain (code st : Nat) : Nat := if code = 0x10 then 60 else if code < 0x10 then 16 + st else 62

/-- What a block reset clears. A fenced station stays fenced: only the fence release opcode ends a fence (R223). -/
def State.blockClear (s : State) (code st : Nat) : State :=
  let b := 0x01000000 + 0x100000 * st
  if code = 0x01 then
    let fenced := s.fenced st
    let errs := s.get (F.STN_CQ_STATUS_FENCE_ERRS st)
    let s := (s.stnPorts st).foldl (fun s p => s.crtReleaseIf p fun _ => true) s
    let s := (s.clearBlock (b + 0x20000) (b + 0x80000) fun _ => false).logicGone st
    let s := (s.putB (F.STN_CQ_STATUS_FENCED st) fenced).put (F.STN_CQ_STATUS_FENCE_ERRS st) errs
    (List.range 17).foldl (fun s n => s.hpSync n) s
  else if code = 0x02 then (s.clusterGone st).loadEngines st
  else if code = 0x03 then
    let locked := s.flag (F.STN_LANE_STATUS_PLL_LOCK st)
    let held := s.flag (F.STN_LANE_STATUS_HELD st)
    let s := s.clearBlock b (b + 0x20000) fun _ => false
    (s.putB (F.STN_LANE_STATUS_PLL_LOCK st) locked).putB (F.STN_LANE_STATUS_HELD st) held
  else if code = 0x10 then
    let s := s.clearBlock 0x02300000 0x02340000 fun _ => false
    { s with sht := { s.sht with movers := [], atc := [], inv := [] } }
  else if code = 0x11 then
    let s := s.clearBlock 0x140100 0x140180 fun _ => false
    let s := (s.putB F.ACW_THERM_STATUS_WARN false).putB F.ACW_THERM_STATUS_ABOVE_OP false
    let s := (s.put F.ACW_THERM_STATUS_HOT_SENSOR 0).put F.ACW_THERM_STATUS_MAX_T 0
    { s with acl := { s.acl with sensors := [], aboveOp := [] } }
  else
    let s := s.clearBlock 0x02500000 0x02600000 fun a => decide (0x02501000 ≤ a ∧ a < 0x02508000)
    { s with ep := { s.ep with samples := [], lastSample := none, sweepTime := 0, sweepSeq := 0, lost := 0 } }

/-- BLOCK_RESET. -/
def execBlockReset (h : Hdr) (code : B8) (s : State) : Res :=
  .next (s.serve (.blockReset h code) { code := 0x0D02, kind := .I, who := [.fm], forms := [.dev, .stn] } h [.u8 code.toNat] fun x s =>
    let c := code.toNat
    let stnCode := decide (1 ≤ c ∧ c ≤ 3)
    let d := blockDomain c x.n
    if !stnCode && !decide (0x10 ≤ c ∧ c ≤ 0x12) then .fail .badParam s
    else if stnCode != (x.form == .stn) then .fail .badScope s
    else if s.pow.block.isSome || (s.flag (F.GLB_PD_STATE_REQ d) != s.pdIsOn d) then .fail .busy s
    else match s.blockBusy c x.n with
      | some k => .fail .notIdle (s.raise 0x00 0x8003 2 scDev [c, if stnCode then x.n else 0xFF, k])
      | none => .ok ({ (s.blockClear c x.n) with pow := { s.pow with block := some (c, x.n) } }))

/-- BLOCK_RESET_DONE: the block answers again. -/
def execBlockResetDone (s : State) : Res :=
  .next (match s.pow.block with
    | none => s
    | some (c, st) =>
      let s := { s with pow := { s.pow with block := none } }
      if c < 0x10 then s.kickStn st else s)

/-! ### Reference clocks (R416 to R418) -/

/-- The stations of lane die q, as a mask. -/
def dieMask (q : Nat) : Nat := 15 * 2 ^ (4 * q)

/-- REFCLK_LOST: the stations of the lane die lose PLL lock. The core PLL's action: 0 it follows another input, 1 it holds its
frequency until it changes over. -/
def execRefclkLost (q : Quad) (s : State) : Res :=
  .next (
    if !bit (s.get F.GLB_CLK_STATUS_REFCLK_OK) q then s
    else
      let s := s.put F.GLB_CLK_STATUS_REFCLK_OK (setBit (s.get F.GLB_CLK_STATUS_REFCLK_OK) q false)
      let s := s.bump F.GLB_XING_CNT_REFCLK_LOSSES
      let s := { s with pow := { s.pow with lostAt := SMap.set (fun _ => 0) s.pow.lostAt q (s.clk.now + 1) } }
      let mine := !s.flag F.GLB_STATUS_CORE_REF_INT && s.get F.GLB_CLK_STATUS_CORE_REF == q.val
      let s := s.raise 0x00 0x8020 3 scDev [q.val, dieMask q, if mine then 1 else 0]
      (quadBanks q).foldl (fun s st => s.pllLost st) s)

/-- REFCLK_RESTORED: 0x8021 where the input had been lost, and its stations lock again. -/
def execRefclkRestored (q : Quad) (s : State) : Res :=
  .next (
    if bit (s.get F.GLB_CLK_STATUS_REFCLK_OK) q then s
    else
      let s := s.put F.GLB_CLK_STATUS_REFCLK_OK (setBit (s.get F.GLB_CLK_STATUS_REFCLK_OK) q true)
      let was := SMap.get (fun _ => 0) s.pow.lostAt q
      let s := { s with pow := { s.pow with lostAt := SMap.set (fun _ => 0) s.pow.lostAt q 0 } }
      let s := if was = 0 then s else s.raise 0x00 0x8021 1 scDev [q.val, s.clk.now + 1 - was, dieMask q]
      (quadBanks q).foldl (fun s st => if s.started st && !s.pllLocked st then (s.beginSeries st).kickStn st else s) s)

/-- The input that the core PLL changes to when its own is lost: the next one present in the order 0, 1, 2, 3, from the lost one on and round
to 0 again: DEDUCED (log entry 12). -/
def State.nextRef (s : State) : Option Nat :=
  let cur := s.get F.GLB_CLK_STATUS_CORE_REF
  ((List.range 4).map fun k => (cur + 1 + k) % 4).find? fun q => bit (s.get F.GLB_CLK_STATUS_REFCLK_OK) q

/-- CORE_PLL_SWITCH (R418): from a lost input to the next one that is present, to the standby oscillator while none is, and from it back to
an input that is present, when CORE_REF_INT clears. -/
def execCorePllSwitch (target : Option Quad) (s : State) : Res :=
  .next (
    let ok := s.get F.GLB_CLK_STATUS_REFCLK_OK
    if !s.pow.running then s
    else match target with
      | some q =>
          let int := s.flag F.GLB_STATUS_CORE_REF_INT
          if bit ok q && (int || (!bit ok (s.get F.GLB_CLK_STATUS_CORE_REF) && s.nextRef == some q.val)) then
            ((s.put F.GLB_CLK_STATUS_CORE_REF q).putB F.GLB_CLK_STATUS_CORE_LOCK true).putB F.GLB_STATUS_CORE_REF_INT false
          else s
      | none => if ok = 0 then s.putB F.GLB_STATUS_CORE_REF_INT true else s)

/-! ### Station clocks (R419) -/

/-- STATION_WAKE: a wake request is counted, and the station clock runs again. -/
def execStationWake (st : Stn) (s : State) : Res :=
  .next (
    let run := s.get F.GLB_CLK_STATUS_STN_CLK_RUN
    if bit run st || !s.pdIsOn st then s
    else (s.bumpWrap F.GLB_XING_CNT_WAKES 1).put F.GLB_CLK_STATUS_STN_CLK_RUN (setBit run st true))

/-- STATION_CLOCK_STOP: every port of the station is in OFF, L1.2 or L2/L3 Ready, and its queues and hand-off queues are empty. -/
def execStationClockStop (st : Stn) (s : State) : Res :=
  .next (
    let quiet (p : Nat) : Bool := s.stage p == stOFF || decide (3 ≤ s.get (F.STN_PORT_STATUS_PM st (kOf p)))
    let empty := (s.bank st).qs.all fun x => x.2.recs.isEmpty
    let handed := (s.bstn st).queues.all fun x => x.2.isEmpty
    if (s.stnPorts st).all quiet && empty && handed then
      s.put F.GLB_CLK_STATUS_STN_CLK_RUN (setBit (s.get F.GLB_CLK_STATUS_STN_CLK_RUN) st false)
    else s)

/-! ### The subsoil domain (R408, R409) -/

/-- SUBSOIL_BASE_UPDATE: once per second while the main domain runs. -/
def execSubsoilBaseUpdate (s : State) : Res :=
  .next (
    if !s.pow.running then s
    else
      let s := { s with pow := { s.pow with baseNs := s.clk.fab, baseTicks := s.ssTicks } }
      s.putB F.GLB_RESET_CAUSE_TIME_VALID true)

/-- SUBSOIL_SUPPLY_CHANGE. -/
def execSubsoilSupplyChange (toVbak : Bool) (s : State) : Res := .next (s.put F.GLB_RESET_CAUSE_SOURCE (b2n toVbak))

/-- VBAK_LOW: a measurement of VBAK in mV while the domain runs from VAUX3; below 2.2 V it is reported at most once per hour, and once
after each boot. -/
def execVbakLow (mv : Nat) (s : State) : Res :=
  .next (
    if s.get F.GLB_RESET_CAUSE_SOURCE ≠ 0 then s
    else
      let s := s.putB F.GLB_RESET_CAUSE_VBAK_LOW (decide (mv < 2200))
      if mv < 2200 then s.raiseQuiet 3600000000000 0 0x00 0x8030 2 scDev [mv, 0] else s)

end Sys2Proof.Machine
end

