-- ==== Sys2Proof/Machine/Firmware.lean ====
section
/-!
DEFINITION. Machine/Firmware.lean: boot of Aclia, its watchdog, update and hitless activation (R353 to R361), UART recovery (R357),
the writing of configuration image copies (R366), and the opcodes of group 0x0Exx (Table 14.20). The event log's own parts that a
boot needs (R371 to R373) stand here too.
-/

namespace Sys2Proof.Machine

/-! ### The event log (R371 to R373) -/

/-- The sectors of the persistent log hold 128 records each; record number n sits in slot n mod 2,176, and the sector that a new record
enters first is erased. -/
def plogKeep (n : Nat) (l : List (Nat × Nat × Ev)) : List (Nat × Nat × Ev) := l.filter fun x => decide (128 * (n / 128) ≤ x.1 + 2048)

/-- Put a record into the persistent log. -/
def State.plogPut (s : State) (seq : Nat) (e : Ev) : State :=
  let n := (s.evs.plog.getLast?.map fun x => x.1 + 1).getD 0
  { s with evs := { s.evs with plog := plogKeep n s.evs.plog ++ [(n, seq, e)] } }

/-- The copy budget: a burst of 128 and one record per 2 s, counted as copies made in the last 256 s. -/
def State.plogRoom (s : State) : Bool :=
  decide ((s.evs.copies.filter fun t => decide (s.clk.now < t + 256000000000)).length < 128)

/-- Copy a record to the persistent log if its severity and the budget allow. -/
def State.persist (s : State) (seq : Nat) (e : Ev) : State :=
  if e.sev < s.get F.ACW_LOG_CTL_PERSIST_MINSEV then s
  else if s.plogRoom then
    ({ s with evs := { s.evs with copies := (s.clk.now :: s.evs.copies).take 128 } }).plogPut seq e
  else s.bump F.ACW_LOG_LOST_PERSIST_SKIPPED

/-- The virtual switch whose partition a scope lies in: itself, one of its ports or one of its panels (R342, R374). -/
def State.scopeVs (s : State) (scope : Nat) : Option Nat :=
  let n := scope % 4096
  match scope / 4096 with
  | 3 => some n
  | 2 => if decide (n < 144) && s.exists n && (s.pciRole n == 1 || s.pciRole n == 2) then some (s.vsOf n) else none
  | 4 => s.panelVs n
  | _ => none

/-- Log a record: the next SEQ, the RAM log of 8,192 records, the persistent log, the kind-A commands it completes, and the event
vector of the virtual switch its scope lies in. -/
def State.logPut (s : State) (e : Ev) : State :=
  let seq := s.get F.ACW_LOG_STATUS_NEXT_SEQ
  let l := s.evs.log ++ [(seq, e)]
  let f (a : Async) : Async := if a.evId = some e.id then { a with seq := seq } else a
  let s := { s with evs := { s.evs with log := l.drop (l.length - 8192) }, cmd := { s.cmd with asyncs := s.cmd.asyncs.map f } }
  let s := (s.put F.ACW_LOG_STATUS_NEXT_SEQ (seq + 1)).persist seq e
  match s.scopeVs e.scope with
  | some v =>
    if s.flag (F.ACW_EP_VS_VEC_EVT_EN v) && decide (s.get (F.ACW_EP_VS_VEC_EVT_MINSEV v) ≤ e.sev) then
      s.fire v false (s.get (F.ACW_EP_VS_VEC_EVT_VEC v))
    else s
  | none => s

/-- 0x7020 for a gap, logged by Aclia directly. -/
def State.logGap (s : State) (src n : Nat) : State :=
  let e : Ev := { id := s.evs.next, time := s.clk.fab, code := 0x7020, sev := 2, src := 0x01, scope := scDev,
                  flags := if s.timeFree then 4 else 0, gap := 0, detail := [src, n] }
  (({ s with evs := { s.evs with next := s.evs.next + 1 } }).bumpN F.ACW_LOG_LOST_BLOCK_DROPPED n).logPut e

/-- EVENT_RECORD_DELIVERY: the bridge accepts the oldest record of a block, while Aclia runs (R16). -/
def execEventRecordDelivery (src : Fin 32) (s : State) : Res :=
  .next (
    let r := s.ram src
    match r.held with
    | [] => s
    | e :: rest =>
      if !s.acl.up then s
      else
        let left := if rest.isEmpty then r.dropped else 0
        let r' : EvRam := { held := rest, dropped := if rest.isEmpty then 0 else r.dropped }
        let s := ({ s with evs := { s.evs with ram := SMap.set (fun _ => {}) s.evs.ram src r' } }).logPut e
        let s := if e.gap = 0 then s else s.logGap src e.gap
        if left = 0 then s else s.logGap src left)

/-- Last-gasp entries newer than the last copy go to both logs (R373). -/
def State.copyGasp (s : State) : State :=
  let w := s.get F.GLB_LG_STATUS_WRITTEN
  let n := min 16 (w - s.evs.gaspSeen)
  let next := s.get F.GLB_LG_STATUS_NEXT
  let s := (List.range n).foldl (fun s k =>
    match s.evs.gasp.find? fun x => x.1 == (next + 16 - n + k) % 16 with
    | some (_, e) =>
      let seq := s.get F.ACW_LOG_STATUS_NEXT_SEQ
      let l := s.evs.log ++ [(seq, e)]
      (({ s with evs := { s.evs with log := l.drop (l.length - 8192) } }).put F.ACW_LOG_STATUS_NEXT_SEQ (seq + 1)).plogPut seq e
    | none => s) s
  { s with evs := { s.evs with gaspSeen := w } }

/-! ### Firmware images (R355, R356) -/

/-- A flash bank as it reads: erased bytes are 0xFF. -/
def flashTake (b : Bytes) (n : Nat) : Bytes := b.take n ++ List.replicate (n - b.length) 0xFF#8

def State.bankOf (s : State) (b : Nat) : Bytes := if b = 0 then s.acl.bankA else s.acl.bankB
def State.setBankOf (s : State) (b : Nat) (x : Bytes) : State :=
  if b = 0 then { s with acl := { s.acl with bankA := x } } else { s with acl := { s.acl with bankB := x } }

def fwVersion (img : Bytes) : Nat := leAt img 8 4
def fwSvn (img : Bytes) : Nat := leAt img 12 2
/-- 64 + CODE_LEN + 96. -/
def fwLen (img : Bytes) : Nat := 160 + leAt img 16 4

/-- The first test of R356 that an image fails: 1 MAGIC or FORMAT, 2 length, 3 ENTRY, 4 SVN, 5 signature. -/
def State.fwTest (s : State) (img : Bytes) : Option Nat :=
  let n := fwLen img
  if leAt img 0 4 != 0x57465648 || leAt img 4 2 != 1 then some 1
  else if 2097152 < n then some 2
  else if leAt img 16 4 ≤ leAt img 20 4 then some 3
  else if fwSvn img < s.acl.rollback then some 4
  else
    let x := flashTake img n
    if decide (leAt img 6 2 ≤ 1) && Config.sigValid (Config.romKey (leAt img 6 2)) (x.take (n - 96)) (x.drop (n - 96)) then none else some 5

/-- Signed comparison of 32-bit SEQ values: a is newer than b. -/
def seqNewer (a b : B32) : Bool := 0 < (a - b).toInt

/-- The boot record in force; with neither copy valid, bank A (log entry 25). -/
def State.bootRec (s : State) : BootRec :=
  let a := s.acl.boot0
  let b := s.acl.boot1
  if a.valid && b.valid then (if seqNewer b.seq a.seq then b else a)
  else if a.valid then a else if b.valid then b else {}

/-- A new record, one SEQ on, in the copy that is not in force. -/
def State.writeBootRec (s : State) (active trial tried : Bool) : State :=
  let r := s.bootRec
  let x : BootRec := { valid := true, seq := r.seq + 1, active := active, trial := trial, tried := tried }
  if s.acl.boot0.valid && decide (r = s.acl.boot0) then { s with acl := { s.acl with boot1 := x } }
  else { s with acl := { s.acl with boot0 := x } }

/-! ### Boot (R357, Table 13.4) -/

/-- The firmware of an image is entered: status registers, command service, last-gasp copies, 0x7001. ALERT_N held by a halt is
released (R368), and VBAK_LOW may be raised again (R408). -/
def State.fwUp (s : State) (bank : Nat) (trial uart : Bool) (img : Bytes) : State :=
  let s := (s.put F.ACW_FW_STATUS_RUN_BANK bank).putB F.ACW_FW_STATUS_TRIAL trial
  let s := (s.putB F.ACW_FW_STATUS_CONFIRMED (!trial && !uart)).putB F.ACW_FW_STATUS_UART_BOOT uart
  let s := (s.put F.ACW_FW_STATUS_CORES_UP 0xF).put F.ACW_FW_VERSION_FW_VERSION (fwVersion img)
  let s := s.put F.ACW_SEC_STATUS_RUN_SVN (fwSvn img)
  let s := if s.acl.alertHalt then
      ({ s with acl := { s.acl with alertHalt := false, alertN := true } }).putB F.ACW_THERM_STATUS_ALERT false else s
  let s := { s with acl := { s.acl with up := true, romWaits := false, fallback := false, sram := [] },
                    evs := { s.evs with rate := s.evs.rate.filter fun x => x.1 / 2 ^ 32 != 0x8030 } }
  let s := if s.get F.FAB_ID_NODE_ID = 0xFF then s.put F.FAB_TIME_STAT_SYNC 3 else s
  (s.stepUp 4).copyGasp

/-- The preserved region's CRC-32C fails after a reset of the cores: the firmware discards the management state it saved there (R354), and
with it every credential (R391). Credentials, transport channel state and election state are what the spec names; kept replies, kind-A
records and panel allotments go with them: DEDUCED (log entry 25). -/
def State.dropSaved (s : State) : State :=
  let s := (List.range 67).foldl (fun s c => s.modChan c fun x => { x with kept := [], eid := 0, dynAddr := 0 }) (s.closeCreds fun _ => true)
  { s with cmd := { s.cmd with asyncs := [], allot := [] }, fab := { s.fab with cand := 0xFF, ownRounds := 0, silent := 0 } }

/-- 0x7001. -/
def State.booted (s : State) (bank : Nat) (img : Bytes) : State :=
  s.raise 0x01 0x7001 0 scDev [bank, fwVersion img, fwSvn img, (s.clk.now - s.pow.releasedAt) / 1000000]

/-- FW_BOOTED: steps 2 to 6 of Table 13.4 have run; `saved` says that the preserved region's CRC holds. -/
def execFwBooted (s : State) (saved : Bool := false) : Res :=
  .next (
    if !s.pow.running || s.acl.up || s.acl.halted || s.acl.romWaits || s.acl.activating.isSome then s
    else
      let s := if saved then s else s.dropSaved
      let r := s.bootRec
      let act := b2n r.active
      let again := r.trial && r.tried && !s.acl.fallback
      let first := if s.acl.fallback then 1 - s.get F.ACW_FW_STATUS_RUN_BANK else if again then 1 - act else act
      let s := if again then (s.writeBootRec (!r.active) false false).raise 0x01 0x7008 3 scDev [2]
               else if r.trial && !s.acl.fallback then s.writeBootRec r.active true true else s
      let up (s : State) (b : Nat) : State :=
        let trial := r.trial && !again && b == act
        let st := s.get F.ACW_FW_STATUS_UPD_STATE
        let s := s.put F.ACW_FW_STATUS_UPD_STATE (if trial then 4 else if 3 ≤ st then 0 else st)
        (s.fwUp b trial false (s.bankOf b)).booted b (s.bankOf b)
      match s.fwTest (s.bankOf first) with
      | none => up s first
      | some t =>
        let s := s.raise 0x01 0x7003 3 scDev [first, t]
        match s.fwTest (s.bankOf (1 - first)) with
        | none => up s (1 - first)
        | some t =>
          let s := s.raise 0x01 0x7003 3 scDev [1 - first, t]
          { s with acl := { s.acl with romWaits := true } })

/-- ACLIA_WATCHDOG (R354). The third reset within 10 minutes has the ROM boot the other bank, or halts the cores with ALERT_N. -/
def execAcliaWatchdog (core : Fin 4) (s : State) : Res :=
  .next (
    if !s.pow.running || s.acl.halted || s.acl.romWaits then s
    else
      let recent := (s.acl.wdt.filter fun t => decide (s.clk.now < t + 600000000000)) ++ [s.clk.now]
      let s := (s.bump F.ACW_WDT_WDT_RESETS).coresDown.discardAll 3
      let s := ({ s with acl := { s.acl with wdt := recent, activating := none } }).trigger 8
      let s := s.raise 0x01 0x7004 3 scDev [core.val, recent.length]
      if recent.length < 3 then s
      else
        let b := s.get F.ACW_FW_STATUS_RUN_BANK
        if s.fwTest (s.bankOf (1 - b)) = none then
          ({ s with acl := { s.acl with fallback := true } }).raise 0x01 0x7002 3 scDev [b, 1]
        else
          ({ s with acl := { s.acl with halted := true, alertHalt := true, alertN := false } }).putB F.ACW_THERM_STATUS_ALERT true)

/-! ### Hitless activation (R359, R360, Table 13.5) -/

/-- Steps 1 to 3: transactions are discarded, the boot record is written, and Aclia becomes unavailable. -/
def State.beginActivation (s : State) (revert : Bool) : State :=
  let nb := 1 - s.get F.ACW_FW_STATUS_RUN_BANK
  let s := (s.discardAll 2).writeBootRec (nb == 1) (!revert) false
  let s := (s.put F.ACW_FW_STATUS_UPD_STATE 3).coresDown
  { s with acl := { s.acl with activating := some (s.get F.ACW_FW_VERSION_FW_VERSION, s.clk.now, revert) } }

/-- FW_ACTIVATED: steps 4 to 6; `ok` says that the new bank did not fail in step 4, `saved` that the preserved region's
CRC holds. Commands still in progress end with TIMEOUT; a bank
that fails ends FW_ACTIVATE with HW_FAULT (log entry 25). -/
def execFwActivated (ok : Bool) (s : State) (saved : Bool := false) : Res :=
  .next (
    match s.acl.activating with
    | none => s
    | some (old, t0, revert) =>
      let ob := s.get F.ACW_FW_STATUS_RUN_BANK
      let nb := 1 - ob
      let s := if saved then s else s.dropSaved
      let s := ({ s with acl := { s.acl with activating := none } }).bump F.ACW_WDT_ACTIVATIONS
      let s := (s.endAsync (fun a => a.opcode != 0x0E02) .timeout none).trigger 10
      let mine (a : Async) : Bool := a.opcode == 0x0E02
      if revert then (s.fwUp nb false false (s.bankOf nb)).put F.ACW_FW_STATUS_UPD_STATE 0
      else if ok && decide (s.fwTest (s.bankOf nb) = none) then
        let s := (s.fwUp nb true false (s.bankOf nb)).put F.ACW_FW_STATUS_UPD_STATE 4
        s.raiseEnd mine 0x01 0x7006 1 scDev [old, fwVersion (s.bankOf nb), s.clk.now - t0]
      else
        let s := (s.writeBootRec (ob == 1) false false).fwUp ob false false (s.bankOf ob)
        let id := s.evs.next
        ((s.put F.ACW_FW_STATUS_UPD_STATE 0).raise 0x01 0x7008 3 scDev [3]).endAsync mine .hwFault (some id))

/-- CONFIRM_TIMEOUT: firmware on trial reverts by a second hitless activation. -/
def execConfirmTimeout (s : State) : Res :=
  .next (
    if s.acl.up && s.flag F.ACW_FW_STATUS_TRIAL then (s.raise 0x01 0x7008 3 scDev [1]).beginActivation true else s)

/-! ### Opcodes (Table 14.20) -/

/-- Bytes after a piece has been written at `off` into a bank: its sectors are erased on first write. -/
def flashWrite (old : Bytes) (off : Nat) (piece : Bytes) : Bytes :=
  let e := off + piece.length
  let se := (e + 4095) / 4096 * 4096
  flashTake old off ++ piece ++ List.replicate (se - e) 0xFF#8 ++ old.drop se

/-- FW_WRITE. -/
def execFwWrite (h : Hdr) (off : B32) (piece : Bytes) (s : State) : Res :=
  .next (s.serve (.fwWrite h off piece) { code := 0x0E00, kind := .I, who := [.fm], forms := [.dev], len := decide (piece.length ≤ 4076) } h
    (.u32 off.toNat :: piece.map fun b => .u8 b.toNat) fun x s =>
    let o := off.toNat
    let st := s.get F.ACW_FW_STATUS_UPD_STATE
    let nb := 1 - s.get F.ACW_FW_STATUS_RUN_BANK
    let got := if st = 1 then s.acl.fwBytes else 0
    if (o != 0 && o != got) || decide (8388608 < o + piece.length) then .fail .badParam s
    else if st ≠ 0 ∧ (st ≠ 1 ∨ s.acl.fwCred ≠ x.key) then .fail .busy s
    else
      let s := s.setBankOf nb (flashWrite (s.bankOf nb) o piece)
      .ok (({ s with acl := { s.acl with fwBytes := o + piece.length, fwCred := x.key } }).put F.ACW_FW_STATUS_UPD_STATE 1))

/-- FW_CHECK. -/
def execFwCheck (h : Hdr) (len : B32) (s : State) : Res :=
  .next (s.serve (.fwCheck h len) { code := 0x0E01, kind := .I, who := [.fm], forms := [.dev] } h [.u32 len.toNat] fun _ s =>
    let st := s.get F.ACW_FW_STATUS_UPD_STATE
    let nb := 1 - s.get F.ACW_FW_STATUS_RUN_BANK
    let img := s.bankOf nb
    if 3 ≤ st then .fail .busy s
    else if st = 0 then .fail .notIdle s
    else
      let idle := s.put F.ACW_FW_STATUS_UPD_STATE 0
      let bad := if len.toNat ≠ s.acl.fwBytes ∨ len.toNat < fwLen img then some 2 else s.fwTest img
      match bad with
      | none => .ok ((s.put F.ACW_FW_STATUS_UPD_STATE 2).raise 0x01 0x7005 1 scDev [fwVersion img, fwSvn img])
      | some 4 => .fail .badParam (idle.raise 0x01 0x7009 2 scDev [fwSvn img, s.acl.rollback])
      | some t => .fail .badParam (idle.raise 0x01 0x7003 3 scDev [nb, t]))

/-- FW_ACTIVATE. -/
def execFwActivate (h : Hdr) (s : State) : Res :=
  .next (s.serve (.fwActivate h) { code := 0x0E02, kind := .A, who := [.fm], forms := [.dev] } h [] fun _ s =>
    let st := s.get F.ACW_FW_STATUS_UPD_STATE
    if 3 ≤ st then .fail .busy s
    else if st ≠ 2 then .fail .notIdle s
    else { st := .accepted, s := s.beginActivation false })

/-- FW_CONFIRM. -/
def execFwConfirm (h : Hdr) (s : State) : Res :=
  .next (s.serve (.fwConfirm h) { code := 0x0E03, kind := .I, who := [.fm], forms := [.dev] } h [] fun _ s =>
    if !s.flag F.ACW_FW_STATUS_TRIAL then .fail .notIdle s
    else
      let s := s.writeBootRec (s.get F.ACW_FW_STATUS_RUN_BANK == 1) false false
      let s := ((s.putB F.ACW_FW_STATUS_TRIAL false).putB F.ACW_FW_STATUS_CONFIRMED true).put F.ACW_FW_STATUS_UPD_STATE 0
      .ok (s.raise 0x01 0x7007 0 scDev [s.get F.ACW_FW_VERSION_FW_VERSION]))

/-- UPD_STATUS. -/
def execUpdStatus (h : Hdr) (s : State) : Res :=
  .next (s.serve (.updStatus h) { code := 0x0E06, kind := .R, who := [.fm, .obs], forms := [.dev] } h [] fun _ s =>
    .read s [.u8 (s.get F.ACW_FW_STATUS_UPD_STATE), .u32 s.acl.fwBytes, .u32 s.acl.cfgBytes])

/-- UART_LOAD: the boot ROM takes an image over the UART while it waits for one. The last piece is verified and run. -/
def execUartLoad (h : Hdr) (off total : B32) (piece : Bytes) (s : State) : Res :=
  let rom := s.acl.romWaits && h.chan.val == 0
  .next (s.serve (.uartLoad h off total piece)
    { code := 0x0E07, kind := .I, who := [.fm], forms := [.dev], cred0 := rom, len := decide (piece.length ≤ 4072) } h
    (.u32 off.toNat :: .u32 total.toNat :: piece.map fun b => .u8 b.toNat) fun _ s =>
    let o := off.toNat
    let got := (if o = 0 then [] else s.acl.sram) ++ piece
    if !s.acl.romWaits then .fail .notIdle s
    else if (o != 0 && o != s.acl.sram.length) || decide (2097152 < total.toNat) || decide (total.toNat < o + piece.length) then
      .fail .badParam s
    else if o + piece.length < total.toNat then .ok { s with acl := { s.acl with sram := got } }
    else if fwLen got ≤ got.length ∧ s.fwTest got = none then .ok ((s.fwUp 0 false true got).booted 2 got)
    else .fail .badParam { s with acl := { s.acl with sram := [] } })

/-! ### Configuration image copies (R362, R366) -/

def State.cfgOf (s : State) (c : Nat) : Bytes := if c = 0 then s.acl.cfgA else s.acl.cfgB
def State.setCfgOf (s : State) (c : Nat) (x : Bytes) : State :=
  if c = 0 then { s with acl := { s.acl with cfgA := x } } else { s with acl := { s.acl with cfgB := x } }
/-- The copy that is not in force; A while none is. -/
def State.cfgSpare (s : State) : Nat := if s.get F.ACW_CFG_STATUS_COPY = 0 then 1 else 0

/-- Directory entries of a copy: TYPE, OFFSET, SIZE. -/
def cfgDir (img : Bytes) : List (Nat × Nat × Nat) :=
  (List.range (leAt img 6 2)).map fun i => (leAt img (32 + 12 * i) 2, leAt img (36 + 12 * i) 4, leAt img (40 + 12 * i) 4)

/-- No two directory entries overlap. -/
def dirClear : List (Nat × Nat × Nat) → Bool
  | [] => true
  | (_, o, n) :: rest => rest.all (fun (x : Nat × Nat × Nat) => decide (o + n ≤ x.2.1) || decide (x.2.1 + x.2.2 ≤ o)) && dirClear rest

/-- The first check of R362 that a copy fails: 1 MAGIC or FORMAT, 2 LENGTH or NSECT, 3 check word, 4 directory. -/
def cfgTest (img : Bytes) : Option Nat :=
  let n := leAt img 8 4
  let k := leAt img 6 2
  if leAt img 0 4 != 0x46435648 || leAt img 4 2 != 1 then some 1
  else if n % 4 != 0 || decide (1048576 < n) || decide (img.length < n) || decide (n < 36 + 12 * k) || decide (k < 1) || decide (16 < k) then some 2
  else if leAt img (n - 4) 4 != (crc32c (img.take (n - 4))).toNat then some 3
  else if !(cfgDir img).all (fun x => decide (x.2.1 % 4 = 0) && decide (x.2.1 + x.2.2 ≤ n)) || !dirClear (cfgDir img) then some 4
  else none

/-- CFG_WRITE. -/
def execCfgWrite (h : Hdr) (off : B32) (piece : Bytes) (s : State) : Res :=
  .next (s.serve (.cfgWrite h off piece) { code := 0x0E04, kind := .I, who := [.fm], forms := [.dev], len := decide (piece.length ≤ 4076) } h
    (.u32 off.toNat :: piece.map fun b => .u8 b.toNat) fun x s =>
    let o := off.toNat
    let got := if s.acl.cfgBusy then s.acl.cfgBytes else 0
    let seqOk := decide (16 ≤ piece.length) && leAt piece 12 4 == (s.get F.ACW_CFG_SEQ_SEQ + 1) % 2 ^ 32
    if (o != 0 && o != got) || decide (1048576 < o + piece.length) || (o == 0 && !seqOk) then .fail .badParam s
    else if s.acl.cfgBusy ∧ s.acl.cfgCred ≠ x.key then .fail .busy s
    else
      let c := s.cfgSpare
      let s := s.setCfgOf c (flashWrite (s.cfgOf c) o piece)
      .ok { s with acl := { s.acl with cfgBytes := o + piece.length, cfgBusy := true, cfgCred := x.key } })

/-- CFG_FINISH: the copy is read back and checked. -/
def execCfgFinish (h : Hdr) (len : B32) (s : State) : Res :=
  .next (s.serve (.cfgFinish h len) { code := 0x0E05, kind := .I, who := [.fm], forms := [.dev] } h [.u32 len.toNat] fun x s =>
    let c := s.cfgSpare
    let img := s.cfgOf c
    if s.acl.cfgBusy && len.toNat != s.acl.cfgBytes then .fail .badParam s
    else if !s.acl.cfgBusy then .fail .notIdle s
    else if s.acl.cfgCred ≠ x.key then .fail .busy s
    else
      let s := { s with acl := { s.acl with cfgBusy := false } }
      if leAt img 8 4 = len.toNat ∧ cfgTest img = none then
        .ok (s.raise 0x01 0x7014 0 scDev [c, leAt img 12 4])
      else .fail .hwFault s)

end Sys2Proof.Machine
end

