-- ==== Sys2Proof/Machine/Package.lean ====
section
/-!
DEFINITION. Machine/Package.lean: what chapter 17 fixes of the package as data: the ball grid and what each ball carries (R449 to R452),
the supply limits and thresholds (R454), the digital pin classes (R458) and the receiver profiles (R464).
-/

namespace Sys2Proof.Machine

/-! ### The grid (R449) -/

/-- The nineteen row letters, in order. -/
def rowLetters : List String := ["A", "B", "C", "D", "E", "F", "G", "H", "J", "K", "L", "M", "N", "P", "T", "U", "V", "W", "Y"]

/-- The name of row r, 1 to 76: single letters, then those after A, B and C. -/
def rowName (r : Nat) : String :=
  (if r ≤ 19 then "" else rowLetters.getD ((r - 1) / 19 - 1) "") ++ rowLetters.getD ((r - 1) % 19) ""

/-- The name of the ball at row r and column c. -/
def ballName (r c : Nat) : String := rowName r ++ toString c

/-- Where position (r, c) of the frame of quarter q lies (Table 17.1). -/
def ofFrame (q r c : Nat) : Nat × Nat :=
  if q = 0 then (r, c) else if q = 1 then (c, 77 - r) else if q = 2 then (77 - r, 77 - c) else (77 - c, r)

/-- The position in the frame of quarter q of the ball at (r, c). -/
def toFrame (q r c : Nat) : Nat × Nat :=
  if q = 0 then (r, c) else if q = 1 then (77 - c, r) else if q = 2 then (77 - r, 77 - c) else (c, 77 - r)

/-! ### What a ball carries -/

/-- Supply rails. -/
inductive Rail where
  | vcore | vlane | vlaneh | vio18 | vio33 | vaux3 | vbak
  deriving DecidableEq, Repr

/-- A ball: a lane signal of a station, a pin of slot nn, another named pin, a rail, ground, or no connection. -/
inductive Ball where
  | lane (st ln : Nat) (rx neg : Bool)
  | slot (n : Nat) (pin : String)
  | pin (name : String)
  | rail (r : Rail)
  | gnd
  | nc
  deriving DecidableEq, Repr

/-- Lane l of station s: frame position of its positive or negative transmitter or receiver ball (R450). -/
def laneSpot (st ln : Nat) (rx neg : Bool) : Nat × Nat :=
  ((if rx then 6 else 1) + ln / 5, 10 + 14 * (st % 4) + 3 * (ln % 5) + (if neg then 1 else 0))

/-- Rows 1 to 10 and columns 10 to 65 of frame q: lane balls among ground (R450). -/
def bandBall (q r c : Nat) : Ball :=
  let rx := decide (6 ≤ r)
  let row := if rx then r - 6 else r - 1
  let x := (c - 10) % 14
  let ln := 5 * row + x / 3
  if row < 4 ∧ x / 3 < 5 ∧ x % 3 < 2 ∧ ln < 17 then .lane (4 * q + (c - 10) / 14) ln rx (x % 3 == 1) else .gnd

/-- Table 17.2, row by row. -/
def slotPins : List (List String) :=
  [["GATE", "SNS_P", "SNS_N", "VOUT_SNS"], ["PGOOD", "PWRWARN_N", "PERST_N", "CLKREQ_N"], ["PRSNT_N", "SEATED_N", "PWRBTN_N", "ATTN_N"]]

/-- Row 4 of every corner (Table 17.3). -/
def rowFour : List Ball :=
  [.rail .vaux3, .gnd, .rail .vio33, .gnd, .rail .vaux3, .gnd, .rail .vio18, .gnd, .rail .vaux3]

/-- Rows 8 and 9 of corner q (Table 17.3). -/
def rowEight (q : Nat) : List Ball :=
  [[.pin "REFCLK0_P", .pin "REFCLK0_N", .gnd, .pin "HRST_N", .pin "THERMTRIP_N", .pin "ALERT_N", .pin "CFG_STRAP", .pin "XTAL32_IN", .pin "XTAL32_OUT"],
   [.pin "REFCLK1_P", .pin "REFCLK1_N", .gnd, .pin "SMB0_SCL", .pin "SMB0_SDA", .pin "SMB1_SCL", .pin "SMB1_SDA", .pin "TCK", .pin "TMS"],
   [.pin "REFCLK2_P", .pin "REFCLK2_N", .gnd, .pin "GPIO6", .pin "GPIO7", .slot 16 "GATE", .slot 16 "SNS_P", .slot 16 "SNS_N", .slot 16 "VOUT_SNS"],
   [.pin "REFCLK3_P", .pin "REFCLK3_N", .gnd, .pin "VCORE_RS_P", .pin "VCORE_RS_N", .pin "VLANE_RS_P", .pin "VLANE_RS_N", .nc, .nc]].getD q []

def rowNine (q : Nat) : List Ball :=
  [[.pin "SPI_CLK", .pin "SPI_CS_N", .pin "SPI_IO0", .pin "SPI_IO1", .pin "SPI_IO2", .pin "SPI_IO3", .pin "UART_TX", .pin "UART_RX", .rail .vbak],
   [.pin "TDI", .pin "TDO", .pin "TRST_N", .pin "GPIO0", .pin "GPIO1", .pin "GPIO2", .pin "GPIO3", .pin "GPIO4", .pin "GPIO5"],
   [.slot 16 "PGOOD", .slot 16 "PWRWARN_N", .slot 16 "PRSNT_N", .slot 16 "SEATED_N", .slot 16 "PWRBTN_N", .nc, .nc, .nc, .nc],
   List.replicate 9 .nc].getD q []

/-- Rows and columns 1 to 9 of frame q: the slot blocks of SPC(4q) to SPC(4q + 3) and the rows of Table 17.3 (R451). -/
def cornerBall (q r c : Nat) : Ball :=
  if r = 4 then rowFour.getD (c - 1) .gnd
  else if r = 8 then (rowEight q).getD (c - 1) .gnd
  else if r = 9 then (rowNine q).getD (c - 1) .gnd
  else if c = 5 then .gnd
  else .slot (4 * q + 2 * ((r - 1) / 4) + (c - 1) / 5) ((slotPins.getD ((r - 1) % 4) []).getD ((c - 1) % 5) "")

/-- The supply balls, by absolute position; every other position is ground (R452). -/
def supplyBall (r c : Nat) : Ball :=
  if 13 ≤ r ∧ r ≤ 64 ∧ 13 ≤ c ∧ c ≤ 64 then (if (r + c) % 2 = 0 then .rail .vcore else .gnd)
  else if 11 ≤ r ∧ r ≤ 66 ∧ 11 ≤ c ∧ c ≤ 66 then
    (if (r + c) % 3 = 0 then .rail .vlane else if (r + c) % 3 = 1 then .rail .vlaneh else .gnd)
  else .gnd

/-- What frame q assigns to the ball at (r, c), if anything. -/
def quarterBall (q r c : Nat) : Option Ball :=
  let (fr, fc) := toFrame q r c
  if fr ≤ 10 ∧ 10 ≤ fc ∧ fc ≤ 65 then some (bandBall q fr fc)
  else if fr ≤ 9 ∧ fc ≤ 9 then some (cornerBall q fr fc)
  else none

/-- The ball at row r and column c, each 1 to 76. -/
def ballAt (r c : Nat) : Ball := ((List.range 4).findSome? fun q => quarterBall q r c).getD (supplyBall r c)

/-! ### Supplies (Table 17.5), in mV -/

/-- Recommended minimum and maximum of a rail. -/
def Rail.limits : Rail → Nat × Nat
  | .vcore => (720, 780)
  | .vlane => (820, 880)
  | .vlaneh => (1160, 1240)
  | .vio18 => (1710, 1890)
  | .vio33 => (3135, 3465)
  | .vaux3 => (3135, 3465)
  | .vbak => (2000, 3600)

/-- Rise and fall thresholds of the resets (Table 15.1); VBAK has none. -/
def Rail.thresholds : Rail → Option (Nat × Nat)
  | .vcore => some (680, 650)
  | .vlane => some (770, 740)
  | .vlaneh => some (1080, 1040)
  | .vio18 => some (1600, 1550)
  | .vio33 => some (2950, 2850)
  | .vaux3 => some (3000, 2900)
  | .vbak => none

/-- The rail that a supply sensor measures (Table 13.8): sensors 21 to 25 VCORE, then the others in order. -/
def sensorRail (i : Nat) : Rail :=
  if i ≤ 25 then .vcore else if i = 26 then .vlane else if i = 27 then .vlaneh else if i = 28 then .vio18 else if i = 29 then .vio33
  else if i = 30 then .vaux3 else .vbak

/-! ### Digital pin classes (Table 17.7) -/

inductive PinClass where
  | A | B | C | D | E | F
  deriving DecidableEq, Repr

/-- The class of a digital pin; analogue and supply balls have none. -/
def pinClass : Ball → Option PinClass
  | .pin n =>
    if ["SPI_CLK", "SPI_CS_N", "SPI_IO0", "SPI_IO1", "SPI_IO2", "SPI_IO3", "UART_TX", "UART_RX", "TCK", "TMS", "TDI", "TDO", "TRST_N"].contains n then some .A
    else if ["HRST_N", "THERMTRIP_N", "ALERT_N"].contains n then some .C
    else if ["SMB0_SCL", "SMB0_SDA", "SMB1_SCL", "SMB1_SDA"].contains n then some .E
    else if ["GPIO0", "GPIO1", "GPIO2", "GPIO3", "GPIO4", "GPIO5", "GPIO6", "GPIO7"].contains n then some .F
    else none
  | .slot _ n =>
    if n = "PERST_N" then some .B
    else if ["PGOOD", "PWRWARN_N", "CLKREQ_N", "ATTN_N"].contains n then some .C
    else if ["PRSNT_N", "SEATED_N", "PWRBTN_N"].contains n then some .D
    else none
  | _ => none

/-- The rail that supplies the pins of a class. -/
def PinClass.supply : PinClass → Rail
  | .A => .vio18
  | .B | .C | .D => .vaux3
  | .E | .F => .vio33

/-- A failsafe pin withstands 3.6 V while it is unpowered (R453, R457): classes B to E. -/
def PinClass.failsafe (c : PinClass) : Bool := c != .A && c != .F

/-! ### Receiver profiles (R464) -/

/-- Peaking of profile k in dB at the Nyquist frequency of the rate, and its decision-feedback taps h1 and h2 in hundredths of the main
cursor; every other tap is 0. -/
def rxProfile (k : Nat) : Nat × Nat × Nat := (3 + k, 5 * (k / 2), 2 * (k / 4))

end Sys2Proof.Machine
end

