-- ==== Sys2Proof/Machine/Sensors.lean ====
section
/-!
DEFINITION. Machine/Sensors.lean: the sensor hub with its thermal and supply decisions (R367 to R369), ALERT_N (R368), and the opcodes of
group 0x0Bxx (Table 14.17).
-/

namespace Sys2Proof.Machine

/-! ### The hub (R367) -/

/-- Plausible range of a sensor (Table 13.8), in its unit. -/
def sensRange (i : Nat) : Int × Int :=
  if i ≤ 20 then (-800, 2400) else if i ≤ 25 then (0, 1500) else if i = 26 then (0, 1700) else if i = 27 then (0, 2400)
  else if i = 28 then (0, 3600) else (0, 6600)

/-- 2 °C in 1/16 °C, or 25 mV. -/
def sensStep (i : Nat) : Int := if i ≤ 20 then 32 else 25

def State.sensVal (s : State) (i : Nat) : Int := (BitVec.ofNat 16 (s.get (F.ACW_SENS_VALUE i))).toInt
def State.setSensVal (s : State) (i : Nat) (v : Int) : State := s.put (F.ACW_SENS_VALUE i) (v % 65536).toNat
def State.sensStale (s : State) (i : Nat) : Bool := s.flag (F.ACW_SENS_STALE i)

def State.sens (s : State) (i : Nat) : Sensor := SMap.get (fun _ => {}) s.acl.sensors i
def State.setSens (s : State) (i : Nat) (x : Sensor) : State :=
  { s with acl := { s.acl with sensors := SMap.set (fun _ => {}) s.acl.sensors i x } }

/-- The median of five samples. -/
def medianInt (xs : List Int) : Int := (xs.mergeSort (· ≤ ·)).getD 2 0

/-- A sample held within the step of the reported value. -/
def clampStep (v r d : Int) : Int := if v < r - d then r - d else if r + d < v then r + d else v

/-! ### Decisions (R368, R369) -/

/-- Recommended limits of a supply sensor in mV (Table 17.5). -/
def supplyLimits (i : Nat) : Nat × Nat := (sensorRail i).limits

/-- Temperature sensors that take part. -/
def State.temps (s : State) : List Nat := (List.range 21).filter fun i => !s.sensStale i

def State.warnT (s : State) : Int := 16 * (s.get F.ACW_THERM_CFG_WARN_C : Int)

/-- A condition that drives ALERT_N low (R368). -/
def State.alertCond (s : State) : Bool :=
  let m := s.get F.ACW_ALERT_MASK_MASK
  (bit m 0 && s.temps.any fun i => decide (s.warnT ≤ s.sensVal i))
    || (bit m 1 && (List.range 10).any fun i => !s.sensStale (21 + i) && s.flag (F.ACW_SENS_LIMIT (21 + i)))
    || (bit m 2 && (List.range 32).any s.sensStale)

/-- ALERT_N falls while a condition holds, once Aclia has configured it (Table 15.4). -/
def State.alertEval (s : State) : State :=
  if s.pow.loaded && s.alertCond then
    ({ s with acl := { s.acl with alertN := false } }).putB F.ACW_THERM_STATUS_ALERT true
  else s

/-- The hottest sensor that takes part: the lowest index of those with the highest VALUE. -/
def State.hottest (s : State) : Option Nat :=
  s.temps.foldl (fun b i => match b with
    | some j => if s.sensVal j < s.sensVal i then some i else b
    | none => some i) none

/-- MAX_T and HOT_SENSOR. -/
def State.showHot (s : State) : State :=
  match s.hottest with
  | some i => (s.put F.ACW_THERM_STATUS_HOT_SENSOR i).put F.ACW_THERM_STATUS_MAX_T (s.get (F.ACW_SENS_VALUE i))
  | none => s

/-- Thermal decisions after the VALUE of temperature sensor i has changed. -/
def State.thermal (s : State) (i : Nat) : State :=
  let v := s.sensVal i
  let s := (s.putB (F.ACW_SENS_LIMIT i) (decide (s.warnT ≤ v))).showHot
  let s := if decide (s.warnT ≤ v) && !s.flag F.ACW_THERM_STATUS_WARN then
      (s.putB F.ACW_THERM_STATUS_WARN true).raise 0x02 0x8110 2 scDev [i, s.get (F.ACW_SENS_VALUE i)] else s
  let low := s.warnT - 16 * (s.get F.ACW_THERM_CFG_HYST_C : Int)
  let s := if s.flag F.ACW_THERM_STATUS_WARN && s.temps.all (fun j => decide (s.sensVal j ≤ low)) then
      (s.putB F.ACW_THERM_STATUS_WARN false).raise 0x02 0x8112 0 scDev [s.get F.ACW_THERM_STATUS_MAX_T] else s
  let was := s.acl.aboveOp.contains i
  let s := if decide (1680 < v) && !was then
      ({ s with acl := { s.acl with aboveOp := i :: s.acl.aboveOp } }).raise 0x02 0x8111 4 scDev [i, s.get (F.ACW_SENS_VALUE i)]
    else if decide (v ≤ 1680) && was then { s with acl := { s.acl with aboveOp := s.acl.aboveOp.filter (· != i) } }
    else s
  s.putB F.ACW_THERM_STATUS_ABOVE_OP (!s.acl.aboveOp.isEmpty)

/-- Supply decisions after the VALUE of sensor i has changed: it is back inside once it lies 1 % within the limits. -/
def State.supply (s : State) (i : Nat) : State :=
  let v := s.get (F.ACW_SENS_VALUE i)
  let (lo, hi) := supplyLimits i
  let out := s.flag (F.ACW_SENS_LIMIT i)
  if !out && (decide (v < lo) || decide (hi < v)) then
    (s.putB (F.ACW_SENS_LIMIT i) true).raise 0x02 0x8120 3 scDev [i, v]
  else if out && decide (lo * 101 ≤ v * 100) && decide (v * 100 ≤ hi * 99) then
    (s.putB (F.ACW_SENS_LIMIT i) false).raise 0x02 0x8121 0 scDev [i, v]
  else s

/-- What a new VALUE of sensor i decides. Sensor 31 is judged against 2.2 V only (R455, R408). -/
def State.judge (s : State) (i : Nat) : State :=
  if i ≤ 20 then (s.thermal i).alertEval
  else if i ≤ 30 then (s.supply i).alertEval
  else (s.putB F.GLB_RESET_CAUSE_VBAK_LOW (decide (s.get (F.ACW_SENS_VALUE 31) < 2200))).alertEval

/-- SENSOR_SAMPLE: once per millisecond and sensor. A stale sensor reports no value, so its samples are not limited (log entry 26). -/
def execSensorSample (i : Fin 32) (raw : Int) (s : State) : Res :=
  .next (
    if !s.pdIsOn 62 || (decide (s.pow.block = some (0x11, 0xFFFF))) || (i.val == 31 && s.get F.GLB_RESET_CAUSE_SOURCE != 0) then s
    else
      let x := s.sens i
      let (lo, hi) := sensRange i
      if raw < lo ∨ hi < raw then
        let s := (s.putB (F.ACW_SENS_RANGE i) true).setSens i { x with miss := x.miss + 1, run := 0, win := if s.sensStale i then [] else x.win }
        s.raiseLim 1000000000 i 0x02 0x8102 2 scDev 0 [i.val, (raw % 4294967296).toNat]
      else
        let s := s.putB (F.ACW_SENS_RANGE i) false
        if s.sensStale i then
          let win := (raw :: x.win).take 5
          if x.run + 1 < 5 then s.setSens i { win := win, miss := 0, run := x.run + 1 }
          else
            let s := ((s.setSens i { win := win }).putB (F.ACW_SENS_STALE i) false).setSensVal i (medianInt win)
            (s.raise 0x02 0x8103 0 scDev [i.val, s.get (F.ACW_SENS_VALUE i)]).judge i
        else
          let win := (clampStep raw (s.sensVal i) (sensStep i) :: x.win).take 5
          ((s.setSens i { win := win }).setSensVal i (medianInt win)).judge i)

/-- SENSOR_STALE: 10 ms without a valid sample. -/
def execSensorStale (i : Fin 32) (s : State) : Res :=
  .next (
    if s.sensStale i || !s.pdIsOn 62 then s
    else
      let s := ((s.setSens i {}).putB (F.ACW_SENS_STALE i) true).showHot
      (s.raise 0x02 0x8101 2 scDev [i.val]).alertEval)

/-- ALERT_RELEASE: 100 ms after the last condition ended. -/
def execAlertRelease (s : State) : Res :=
  .next (
    if s.alertCond || s.acl.alertHalt then s
    else ({ s with acl := { s.acl with alertN := true } }).putB F.ACW_THERM_STATUS_ALERT false)

/-! ### Opcodes (Table 14.17) -/

/-- SENSOR_READ. -/
def execSensorRead (h : Hdr) (s : State) : Res :=
  .next (s.serve (.sensorRead h) { code := 0x0B00, kind := .R, who := [.fm, .obs, .pm], forms := [.dev] } h [] fun _ s =>
    .read s (((List.range 32).map fun i => Dat.u32 (s.reg (F.ACW_SENS_VALUE i).addr).toNat)
      ++ [.u32 (s.reg F.ACW_THERM_STATUS_WARN.addr).toNat]))

/-- Bytes as reply data. -/
def bytesDat (bs : Bytes) : List Dat := bs.map fun b => .u8 b.toNat

/-- LOG_READ: records from FIRST_SEQ on that the reader may see (R374); with none, the next SEQ (log entry 24). -/
def execLogRead (h : Hdr) (first : B32) (count : B16) (minsev : B8) (s : State) : Res :=
  .next (s.serve (.logRead h first count minsev) { code := 0x0B01, kind := .R, who := [.fm, .obs, .pm], forms := [.dev] } h
    [.u32 first.toNat, .u16 count.toNat, .u8 minsev.toNat] fun x s =>
    if count.toNat < 1 || 127 < count.toNat || 5 < minsev.toNat then .fail .badParam s
    else
      let see (r : Nat × Ev) : Bool := decide (first.toNat ≤ r.1) && decide (minsev.toNat ≤ r.2.sev)
        && (!x.isP || s.scopeVs r.2.scope == some x.vs)
      let l := (s.evs.log.filter see).take count.toNat
      let from_ := (l.head?.map Prod.fst).getD (s.get F.ACW_LOG_STATUS_NEXT_SEQ)
      .read s (.u32 from_ :: bytesDat (l.flatMap fun r => evBytes r.1 r.2)))

/-- PLOG_READ: INDEX is a slot of the ring of 2,176 (log entry 24); slots without a record are skipped. -/
def execPlogRead (h : Hdr) (idx : B32) (count : B16) (s : State) : Res :=
  .next (s.serve (.plogRead h idx count) { code := 0x0B02, kind := .R, who := [.fm, .obs], forms := [.dev] } h
    [.u32 idx.toNat, .u16 count.toNat] fun _ s =>
    if count.toNat < 1 || 127 < count.toNat || 2176 ≤ idx.toNat then .fail .badParam s
    else
      let l := (List.range count.toNat).filterMap fun k => s.evs.plog.find? fun r => r.1 % 2176 == idx.toNat + k
      .read s (bytesDat (l.flatMap fun r => evBytes r.2.1 r.2.2)))

/-- LASTGASP_READ. -/
def execLastgaspRead (h : Hdr) (s : State) : Res :=
  .next (s.serve (.lastgaspRead h) { code := 0x0B03, kind := .R, who := [.fm, .obs], forms := [.dev] } h [] fun _ s =>
    .read s ((List.range 128).map fun k => .u32 (s.gaspWord (k / 8) (k % 8)).toNat))

end Sys2Proof.Machine
end

