-- ==== Sys2Proof/Machine/LinkUp.lean ====
section
/-!
DEFINITION. Machine/LinkUp.lean: a port reaches ACTIVE (R44, R47, R49, R52, R54, R79, R80).
-/

namespace Sys2Proof.Machine

/-- The preset a lane transmits after the partner's requests: each legal one is honoured in its turn (R52); coefficients stand beside the
preset, which then reads as a free value (log entry 8). -/
def afterAsks (start free : Nat) (asks : List EqAsk) : Nat × Option (Nat × Nat × Nat) :=
  asks.foldl (fun x a => match a with
    | .preset q => if q.val ≤ 10 then (q.val, none) else x
    | .coeff legal a b c => if legal then (free, some (a, b, c)) else x) (start, none)

/-- Equalization of one lane of a PCI Express port at the rate reached: its one request at each rate from 8 GT/s up, its hint as a downstream
port, the partner's requests honoured, and the presets that result. -/
def State.laneEq (s : State) (p rate l : Nat) (y : Option LaneEq) : State :=
  let st := stnOf p
  let e := eqEntry (s.port p) l
  let s := ((List.range 7).filter fun r => decide (2 ≤ r) && decide (r ≤ rate)).foldl (fun s r => s.emit (.eqReq p l r (eqReqp e r))) s
  let s := if s.pciRole p != 1 && decide (2 ≤ rate) then s.emit (.eqHint p l (bits e 40 3)) else s
  let t := afterAsks (eqTxp e rate false) (Config.eqTxp s.clk.free).toNat ((y.map LaneEq.asks).getD [])
  let s := s.nextFree.put (F.STN_LN_STATUS_ACTIVE_TXP st l) t.1
  let s := s.put (F.STN_LN_STATUS_PARTNER_TXP st l) (((y.bind LaneEq.kept).map Fin.val).getD (eqReqp e rate))
  match t.2 with
  | some c => s.modPort p fun x => { x with coefs := x.coefs ++ [(l, c)] }
  | none => s

/-- The fields in force for the current rate on the lanes of a port. On a Seam link no request passes (R53), and what the partner transmits is a
free value. -/
def State.lanesUp (s : State) (p rate : Nat) (eq : List LaneEq) : State :=
  let st := stnOf p
  let s := s.lanesAt p rate
  if s.seamMode st then
    (s.measLanes p).foldl (fun s l => s.nextFree.put (F.STN_LN_STATUS_PARTNER_TXP st l) (Config.partnerTxp s.clk.free).toNat) s
  else if rate < 2 then s
  else (s.lanesOf p).foldl (fun s l => s.laneEq p rate l (eq.find? fun y => y.lane.val == l)) s

/-- A port enters ACTIVE: attempts cleared, timer stopped, link fields, lanes, station clock, LINK_UP and
LINK_DEGRADED; a lane that the equalization table excludes does not count as failed (R49). -/
def State.portUp (s : State) (p rate width failed : Nat) (eq : List LaneEq) (flit scaled : Bool) : State :=
  let st := stnOf p
  let k := kOf p
  let failed := maskOf (s.trained p failed)
  let tgt := (s.port p).target
  let s := (s.setStage p stACTIVE).modPort p fun x => { x with attempts := 0, timer := false, failed := failed }
  let s := ((s.putB (F.STN_PORT_STATUS_DL_UP st k) true).put (F.STN_PORT_STATUS_RATE st k) rate).put (F.STN_PORT_STATUS_WIDTH st k) width
  let s := ((s.putB (F.STN_PORT_STATUS_FLIT st k) flit).put (F.STN_PORT_STATUS_L0P_WIDTH st k) width).put (F.STN_PORT_STATUS_PM st k) 0
  let s := (s.putB (F.STN_PORT_STATUS_SCALED_FC st k) scaled).lanesUp p rate eq
  let s := if 5 ≤ rate then s.putB (F.STN_LANE_STATUS_CLK_2G st) true else s
  let s := if bit (s.get (F.STN_OB_FLUSH_FLUSHING st)) k then s else s.modPort p fun x => { x with closed := false }
  let s := s.raise (srcStn st) 0x1005 0 (scPort p) [p, width, rate, b2n flit]
  if width < tgt.1 ∨ rate < tgt.2 then s.raise (srcStn st) 0x1004 2 (scPort p) [p, tgt.1, tgt.2, width, rate, failed] else s

/-- The partner's initial credits, by 3·VC + class. -/
def creditMaps (l : List (Bool × Nat × Nat)) : SMap Bool × SMap Nat × SMap Nat :=
  (((List.range 6).zip l).filterMap fun x => if x.2.1 then some (x.1, true) else none,
   ((List.range 6).zip l).filterMap fun x => if x.2.2.1 = 0 then none else some (x.1, x.2.2.1),
   ((List.range 6).zip l).filterMap fun x => if x.2.2.2 = 0 then none else some (x.1, x.2.2.2))

/-- What a link may come up with (R40, R63): a permitted width no wider than LOCK agreed, no rate above the target taken at PATTERN, FLIT mode at 64 and 128 GT/s, and below them only with
FLIT_EN. -/
def State.upFits (s : State) (p : Nat) (up : LinkUp) : Bool :=
  pcieWidth up.width.val && decide (up.width.val ≤ s.get (F.STN_PORT_STATUS_WIDTH (stnOf p) (kOf p)))
    && decide (up.rate.val ≤ (s.port p).target.2) && (if 5 ≤ up.rate.val then up.flit else !up.flit || (s.port p).flitEn)

/-- Set_Slot_Power_Limit (PCI Express Base Specification 7.0, log entry 11). -/
def msgSlotPower : Nat := 0x50

/-- LINK_UP on a PCI Express port in EXCHANGE; a Seam link becomes ACTIVE by its TRAIN flits (R269). A DSP reports Data Link Layer State
Changed, sends ERR_COR where the host has enabled it for DL_Active (R217; bit 7 of DPC Control, PCI Express Base Specification 7.0), and sends Set_Slot_Power_Limit for its slot's class (R424); a USP answers with Request Retry Status until its virtual switch is published. -/
def execLinkUp (p : Port) (up : LinkUp) (s : State) : Res :=
  .next (
    let st := stnOf p
    if s.seamMode st || s.stage p != stEXCHANGE || !s.upFits p up then s
    else
      let s := s.portUp p up.rate up.width up.failed up.eq up.flit up.scaledFc
      let c := creditMaps up.credits
      let s := s.modPort p fun x => { x with txInf := c.1, txHdr := c.2.1, txData := c.2.2, rxFrom := s.core.nextId }
      let s := s.advertise p 0
      let s := if bit (s.cw p ofVC1) 31 then s.advertise p 1 else s
      if s.pciRole p = 2 then
        let s := s.orCw p ofSLTCTL slDllsc
        let s := if bit (s.cw p ofDPC) 23 then s.emit (.errMsg (s.vsOf p) (BitVec.ofNat 16 (s.portRid p)) 0) else s
        if s.hasSlot p then s.emit (.msg p msgSlotPower (s.slotLimitOf p)) else s
      else if s.pciRole p = 1 then
        let v := s.vsOf p
        let s := if (s.vs v).sbr then s else s.modVs v fun w => { w with rrs := false }
        s.putB (F.STN_PORT_STATUS_RRS st (kOf p)) (!(s.vs v).published)
      else s)

end Sys2Proof.Machine
end

