-- ==== Sys2Proof/Machine/Seam.lean ====
section
/-!
DEFINITION. Machine/Seam.lean: Seam links (chapter 9): headers, sequence and replay (R249 to R254), records received (R245, R248, R255),
on/off fallback (R260 to R263), the bypass channel (R264, R265), spare lanes (R266 to R268), training (R269 to R271), loss (R272), and
the time exchange (R299, R300).
-/

namespace Sys2Proof.Machine

/-- The link of station s is ACTIVE. -/
def State.seamLive (s : State) (st : Nat) : Bool := s.seamMode st && s.stage (9 * st) == stACTIVE

/-- Microseconds, in ns. -/
def usec : Nat := 1000

/-- Kinds of 0x5011, numbered by the model: 1 sequence, 2 ACK, 3 credit, 4 bypass (log entry 12). -/
def State.seqErr (s : State) (st kind value : Nat) : State :=
  (s.bump (F.STN_SEAM_CNT_SEQ_SEQ_ERR st)).raiseLim ms100 st (srcStn st) 0x5011 2 (scPort (9 * st)) 0 [kind, value]

/-! ### Bypass messages (R264, R265) -/

/-- MTYPE and parameters of a message (Table 9.9). -/
def bmsgFields : BMsg → Nat × List Nat
  | .spareReq l => (0x01, [l.val])
  | .spareDone l => (0x02, [l.val])
  | .spareAbort l r => (0x03, [l.val, r])
  | .creditAudit q c => (0x10, q.val :: c)
  | .resync r rx fr => (0x11, r.val :: rx ++ fr)
  | .resyncAck r => (0x12, [r.val])
  | .rttProbe t => (0x20, [t])
  | .rttEcho t h => (0x21, [t, h])
  | .linkDownNotice c => (0x30, [c.val])
  | .timeReq t1 => (0x60, [t1])
  | .timeResp t1 t2 t3 t4 => (0x61, [t1, t2, t3, t4])
  | .unknown => (0, [])

/-- Send one message under the next BSEQ. -/
def State.bypOut (s : State) (st : Nat) (m : BMsg) : State :=
  let b := s.get (F.STN_SEAM_RXSEQ_BNEXT st)
  let s := (s.modSeam st fun x => { x with msgs := x.msgs ++ [{ bseq := b, msg := m, sends := 1 }] }).put (F.STN_SEAM_RXSEQ_BNEXT st)
    ((b + 1) % 256)
  s.emit (.seam st (bmsgFields m).1 (b :: (bmsgFields m).2))

/-- Send a message, or let it wait while 64 are unacknowledged. -/
def State.bypSend (s : State) (st : Nat) (m : BMsg) : State :=
  if !s.seamLive st then s
  else if (s.seam st).msgs.length < 64 then s.bypOut st m
  else s.modSeam st fun x => { x with bwait := x.bwait ++ [m] }

/-- Messages after the one that BACK names, where it names one. -/
def afterBseq (b : Nat) : List SentMsg → Option (List SentMsg)
  | [] => none
  | m :: ms => if m.bseq = b then some ms else afterBseq b ms

/-- BACK of a header that passes: cumulative; places that fall free are taken by messages that wait. -/
def State.takeBack (s : State) (st back : Nat) : State :=
  match afterBseq back (s.seam st).msgs with
  | none => s
  | some ms =>
    let x := s.seam st
    let room := 64 - ms.length
    let s := s.modSeam st fun y => { y with msgs := ms, bwait := x.bwait.drop room }
    (x.bwait.take room).foldl (fun s m => s.bypOut st m) s

/-- BYPASS_RESEND: every unacknowledged message is sent again in order; after 8 sends the link is lost with cause BYPASS. -/
def execBypassResend (st : Stn) (s : State) : Res :=
  .next (
    let ms := (s.seam st).msgs
    if !s.seamLive st || ms.isEmpty then s
    else if ms.any fun m => decide (8 ≤ m.sends) then s.seamDown st slBypass
    else
      let s := s.bumpN (F.STN_SEAM_CNT_MISC_BYP_RETX st) ms.length
      let s := s.modSeam st fun x => { x with msgs := x.msgs.map fun m => { m with sends := m.sends + 1 } }
      ms.foldl (fun s m => s.emit (.seam st (bmsgFields m.msg).1 (m.bseq :: (bmsgFields m.msg).2))) s)

/-! ### Replay (R252 to R254) -/

/-- A replay from a sequence number: 0 on a NAK, 1 on the timer. -/
def State.replay (s : State) (st from_ why : Nat) : State :=
  let n := ((s.seam st).store.filter fun f => decide ((f.seq + 4096 - from_) % 4096 < 2048)).length
  let s := (s.modSeam st fun x => { x with replayFrom := some from_, lastNak := if why = 0 then x.lastNak else none }).putB (F.STN_SEAM_STATUS_REPLAYING st) true
  let s := (s.bump (if why = 0 then F.STN_SEAM_CNT_REPLAY_NAK_REPLAYS st else F.STN_SEAM_CNT_REPLAY_TMO_REPLAYS st)).count st 0x0C 16 0 0 n
  s.raiseLim ms100 st (srcStn st) 0x5010 1 (scPort (9 * st)) 0 [why]

/-- Sequence number after ACKED. -/
def State.ackNext (s : State) (st : Nat) : Nat := (s.get (F.STN_SEAM_TXSEQ_ACKED st) + 1) % 4096

/-- The replay timer expires: REPLAY_CNT advances, but not while the partner substitutes a lane, and at 4 the link is lost. -/
def State.timerExpiry (s : State) (st : Nat) : State :=
  let n := s.get (F.STN_SEAM_TXSEQ_REPLAY_CNT st) + (if (s.seam st).subTx.isSome then 0 else 1)
  let s := s.put (F.STN_SEAM_TXSEQ_REPLAY_CNT st) n
  if 4 ≤ n then s.seamDown st slReplay else s.replay st (s.ackNext st) 1

/-- REPLAY_TIMER_EXPIRY. -/
def execReplayTimerExpiry (st : Stn) (s : State) : Res :=
  .next (
    if !s.seamLive st || (s.seam st).store.isEmpty then s
    else if (s.seam st).replayFrom.isSome then s.modSeam st fun x => { x with expiryWaits := true, ackedSince := false }
    else s.timerExpiry st)

/-- REPLAY_END: every flit outstanding from the replay's start on has been resent, and an expiry that waited is carried out unless ACKED has advanced; a word of
the store that cannot be read (`storeOk` false) loses the link. -/
def execReplayEnd (st : Stn) (storeOk : Bool) (s : State) : Res :=
  .next (
    let x := s.seam st
    if !s.seamLive st || x.replayFrom.isNone then s
    else if !storeOk then s.seamDown st slStore
    else
      let again := x.store.filter fun f => decide ((f.seq + 4096 - x.replayFrom.getD 0) % 4096 < 2048)
      let s := again.foldl (fun s f => s.flitOut st f) s
      let s := (s.modSeam st fun y => { y with replayFrom := none, expiryWaits := false }).putB (F.STN_SEAM_STATUS_REPLAYING st) false
      if x.expiryWaits && !x.ackedSince && !x.store.isEmpty then s.timerExpiry st else s)

/-- ACK of a header that passes (R251). -/
def State.takeAck (s : State) (st a : Nat) : State × Bool :=
  let x := s.seam st
  let adv := (a + 4096 - s.get (F.STN_SEAM_TXSEQ_ACKED st)) % 4096
  if x.store.length < adv then (s.seqErr st 2 a, false)
  else if adv = 0 then (s, true)
  else
    let rel := (x.store[adv - 1]?.map SentFlit.cons).getD x.relCons
    let s := s.modSeam st fun y => { y with store := y.store.drop adv, relCons := rel, ackedSince := true }
    (((s.put (F.STN_SEAM_TXSEQ_ACKED st) a).put (F.STN_SEAM_TXSEQ_REPLAY_CNT st) 0).putB (F.STN_SEAM_STATUS_STALLED st) false, true)

/-- NAK with ACK value a (R253): the copies of one NAK start one replay. -/
def State.takeNak (s : State) (st a : Nat) : State :=
  let x := s.seam st
  let again : Bool := match x.lastNak with
    | some (b, t) => b == a && decide (s.clk.now < t + s.get (F.STN_SEAM_RTT_RTT_TRAIN st))
    | none => false
  if again || x.store.isEmpty then s
  else (s.modSeam st fun y => { y with lastNak := some (a, s.clk.now) }).replay st ((a + 1) % 4096) 0

/-! ### On/off mode (R260, R261, R263) -/

/-- A trigger of R260 at the receive side, with a class: entry to on/off mode, or the 1 ms begins again. -/
def State.fcFall (s : State) (st trigger cls : Nat) : State :=
  let s := s.modSeam st fun x => { x with trigAt := s.clk.now }
  if s.get (F.STN_SEAM_STATUS_FC st) ≠ 0 then (s.put (F.STN_SEAM_STATUS_FC st) 2).xoffUpdate st
  else
    let falls := ((s.seam st).falls.filter fun t => decide (s.clk.now < t + 1000000000)) ++ [s.clk.now]
    let s := s.modSeam st fun x => { x with falls := falls, onSince := s.clk.now }
    let s := (((s.put (F.STN_SEAM_STATUS_FC st) 2).xoffUpdate st).bump (F.STN_SEAM_CNT_MISC_FALLBACKS st)).raise (srcStn st) 0x5030 2
      (scPort (9 * st)) [trigger, cls]
    if 4 ≤ falls.length then (s.putB (F.STN_SEAM_STATUS_FC_HELD st) true).raise (srcStn st) 0x5032 2 (scPort (9 * st)) [falls.length] else s

/-- Back to credit mode. -/
def State.fcRestore (s : State) (st : Nat) : State :=
  let s := (s.put (F.STN_SEAM_STATUS_FC st) 0).xoffUpdate st
  s.raise (srcStn st) 0x5031 1 (scPort (9 * st)) [s.clk.now - (s.seam st).onSince]

/-- CR_CLASS and CR_COUNT of a header that passes (R258). -/
def State.takeCredit (s : State) (st c n : Nat) : State :=
  let x := s.seam st
  let d := (s.seamCons st c + 65536 - n % 65536) % 65536
  if 32768 ≤ d ∨ x.pRes.getD c 0 + x.pShared < d then (s.seqErr st 3 n).fcFall st 3 c
  else s.modSeam st fun y => { y with freed := SMap.set (fun _ => 0) y.freed c (n % 65536) }

/-- Every field but SEQ of a header that passes. -/
def State.takeHdr (s : State) (st : Nat) (h : FlitHdr) : State :=
  let (s, ok) := s.takeAck st h.ack
  let s := if h.nak && ok then s.takeNak st h.ack else s
  let s := (s.takeCredit st h.crClass h.crCount).takeBack st h.back
  (s.modSeam st fun x => { x with pOnoff := h.onoff }).put (F.STN_SEAM_STATUS_XOFF_SEEN st) h.xoff

/-- A lost DATA flit has been seen: NAK in the next four headers. -/
def State.sendNak (s : State) (st : Nat) : State :=
  if s.flag (F.STN_SEAM_RXSEQ_NAK_SENT st) then s
  else (s.putB (F.STN_SEAM_RXSEQ_NAK_SENT st) true).emit (.seam st 0x100 [(s.get (F.STN_SEAM_RXSEQ_EXPECTED st) + 4095) % 4096])

/-- Corrections of FEC in a flit: counted, and kept by logical lane for 4 µs (R266). -/
def State.takeFixes (s : State) (st : Nat) (fixed : List Nat) : State :=
  if fixed.isEmpty then s
  else
    let new := fixed.map fun b => (s.clk.now, flitLane b)
    (s.bumpN (F.STN_SEAM_CNT_RX_FEC_CORR st) fixed.length).modSeam st fun x =>
      { x with corrs := (x.corrs.filter fun y => decide (s.clk.now ≤ y.1 + 4 * usec)) ++ new }

/-- A bad flit is treated as a lost DATA flit; no field of it is used (R241, R250). -/
def State.badFlit (s : State) (st : Nat) : State := ((s.bump (F.STN_SEAM_CNT_RX_BAD_FLITS st)).count st 0x0D 16 0 0 1).sendNak st

/-- A flit arrives on an ACTIVE link with this damage: one that passes is taken (R241). -/
def State.rxFlit (s : State) (st : Nat) (flips : List (Fin 256 × B8)) (take : State → State) : State :=
  if !s.seamLive st then s
  else
    let x := flitRead flips
    let s := s.takeFixes st x.fixed
    if x.ok then take s else s.badFlit st

/-! ### Records received -/

/-- The carriage word is one that R245 accepts. -/
def carOk (r : RecStart) : Bool :=
  let n := r.car.rlen
  let c := r.car.cls.val
  !r.car.resv && n % 4 == 0 && (if c = 3 then decide (16 ≤ n) && decide (n ≤ 1024)
    else decide (12 ≤ n) && decide (n ≤ 2047) && tlpClass r.tlp == c)

/-- The units of class c are free again. -/
def State.rxDone (s : State) (st : Nat) (r : RxRec) : State := s.seamFree st r.cls r.units

/-- The virtual switch on this device that a record received over a Seam link is for. -/
def State.forVs (s : State) (c : Carriage) : Option Nat :=
  let dp := c.destPort.toNat
  let arg := c.route.toNat % 256
  if c.destNode.toNat ≠ s.nodeId then none
  else if dp < 144 then (if s.pciRole dp = 1 ∨ s.pciRole dp = 2 then some (s.vsOf dp) else none)
  else if dp = 0xFB then some (bits c.route.toNat 8 5)
  else if dp = 0xFD ∧ arg < 64 ∧ s.bindValid arg = true then some (s.bindVs arg)
  else none

/-- A marked record is discarded (R210, R213): an integrity discard of this device, reported as Uncorrectable Internal Error in the upstream
port of the virtual switch it is for, where that is on this device. -/
def State.markedLost (s : State) (st : Nat) (c : Carriage) : State :=
  let s := (s.storm st).count st 0x0B 0 0 0 1
  match (s.forVs c).bind s.usp with
  | some u => (s.aer u aeUIE).headerLog u (List.replicate 16 0)
  | none => s

/-- A record is complete: marked ones are discarded, screened ones carry an inverted tag on a mismatch, seals and control messages are
consumed, the others go on (R248, R210, R280, R288). -/
def State.recDone (s : State) (st : Nat) (r : RxRec) (e : RecEnd) : State :=
  let c := r.car
  let p := 9 * st
  let here := c.destNode.toNat == s.nodeId
  if e.mark then
    let s := s.bump (F.STN_SEAM_CNT_MARK_MARKED_RX st)
    let s := if r.cls = 3 then s else s.markedLost st c
    (if r.cls = 0 then s.lateError (seamRec c r.tlp) 1 p else s).rxDone st r
  else
    let fits := e.screenOk && (r.cls == 3 || tagFits c.btag r.tlp)
    let s := if fits then s
      else (s.bump (F.STN_BASTE_SCREEN_ING st)).raiseLim ms100 (2 * st + 1) (srcStn st) 0x2602 3 (scPort p) 0 [p, 0]
    let c := if fits then c else { c with btag := ~~~c.btag }
    if r.cls = 3 then
      (if (here || c.destNode = 0xFF#8) && c.destPort = 0xFC#8 then s.rxDone st r
       else if here then (s.bump F.FAB_ROUTE_ERR_ROUTE_ERR).rxDone st r
       else s.arriveSeam st c r.tlp r.units)
    else if here && c.destPort = 0xFA#8 then
      s.modSeam st fun x => { x with seals := x.seals ++ [(r.cls, c.route.toNat % 256, s.core.nextId)] }
    else
      let s := (s.count st 0x01 0 r.cls c.vc.val 1).count st 0x02 0 r.cls c.vc.val r.tlp.len
      s.arriveSeam st c r.tlp r.units

/-- The oldest unfinished record ends. -/
def State.recEnd (s : State) (st : Nat) (e : RecEnd) : State :=
  match (s.seam st).rx with
  | [] => s
  | r :: rest => (s.modSeam st fun x => { x with rx := rest }).recDone st r e

/-- A record starts: it takes its units; beyond the buffer the link is lost with OVERRUN, beyond its share on/off mode begins. -/
def State.recStart (s : State) (st : Nat) (r : RecStart) : State :=
  if !s.seamLive st then s
  else if !carOk r then s.seamDown st slFraming
  else
    let u := seamUnits r.car.rlen
    let c := r.car.cls.val
    let s := s.modSeam st fun x =>
      { x with rxUnits := SMap.set (fun _ => 0) x.rxUnits c ((SMap.get (fun _ => 0) x.rxUnits c + u) % 65536),
               rx := x.rx ++ [{ cls := c, units := u, car := r.car, tlp := r.tlp, done := false, mark := false }] }
    let total := [0, 1, 2, 3].foldl (fun n d => n + (s.seam st).occ d) 0
    if 32768 < total then s.seamDown st slOverrun
    else
      let o := (s.seam st).occ c
      let others := s.seamPool st - (o - s.seamRes st c)
      let s := s.xoffUpdate st
      if s.seamRes st c + (s.get (F.STN_SEAM_FC_SHARED st) - others) < o then s.fcFall st 1 c else s

/-- Received units by class. -/
def State.rxList (s : State) (st : Nat) : List Nat := [0, 1, 2, 3].map fun c => SMap.get (fun _ => 0) (s.seam st).rxUnits c

/-- The first class on which two lists of counts differ. -/
def auditClass (a b : List Nat) : Option Nat := (List.range 4).find? fun c => a.getD c 0 != b.getD c 0

/-- Compare an audit with the units received through its SEQ. -/
def State.auditCheck (s : State) (st : Nat) (cons have_ : List Nat) : State :=
  match auditClass cons have_ with
  | some c => s.fcFall st 2 c
  | none => s

/-- A DATA flit is accepted. -/
def State.acceptFlit (s : State) (st : Nat) (starts : List RecStart) (ends : List RecEnd) : State :=
  let e := s.get (F.STN_SEAM_RXSEQ_EXPECTED st)
  let s := (s.put (F.STN_SEAM_RXSEQ_EXPECTED st) ((e + 1) % 4096)).putB (F.STN_SEAM_RXSEQ_NAK_SENT st) false
  let s := starts.foldl (fun s r => s.recStart st r) s
  let s := ends.foldl (fun s x => if s.seamLive st then s.recEnd st x else s) s
  if !s.seamLive st then s
  else
    let l := s.rxList st
    let s := s.modSeam st fun x => { x with rxHist := ((e, l) :: x.rxHist).take 2048 }
    match (s.seam st).audit with
    | some (q, cons) => if q = e then (s.modSeam st fun x => { x with audit := none }).auditCheck st cons l else s
    | none => s

/-- Table 9.6 for a DATA flit with d, or a lost tail. -/
def State.dataFlit (s : State) (st seq : Nat) (starts : List RecStart) (ends : List RecEnd) : State :=
  let d := (seq + 4096 - s.get (F.STN_SEAM_RXSEQ_EXPECTED st)) % 4096
  if d = 0 then s.acceptFlit st starts ends
  else if 1536 ≤ d ∧ d < 2560 then s.seqErr st 1 seq
  else if s.flag (F.STN_SEAM_RXSEQ_NAK_SENT st) then s
  else if 2560 ≤ d then s.bump (F.STN_SEAM_CNT_SEQ_DUP st)
  else s.sendNak st

/-- An IDLE or BYPASS flit whose SEQ shows a lost tail. -/
def State.lostTail (s : State) (st seq : Nat) : State :=
  let d := (seq + 4096 - s.get (F.STN_SEAM_RXSEQ_EXPECTED st)) % 4096
  if 1 ≤ d ∧ d < 1536 then s.sendNak st else s

/-- SEAM_DATA_FLIT: records that start in the flit and that end in it. -/
def execSeamDataFlit (st : Stn) (h : FlitHdr) (starts : List RecStart) (ends : List RecEnd) (s : State) : Res :=
  .next (s.rxFlit st h.flips fun s => (s.takeHdr st h).dataFlit st h.seq starts ends)

/-- SEAM_IDLE_FLIT. -/
def execSeamIdleFlit (st : Stn) (h : FlitHdr) (s : State) : Res :=
  .next (s.rxFlit st h.flips fun s => (s.takeHdr st h).lostTail st h.seq)

/-- SEAM_BAD_FLIT. -/
def execSeamBadFlit (st : Stn) (s : State) : Res :=
  .next (if s.seamLive st then s.badFlit st else s)

/-! ### Credit messages (R262, R263) -/

/-- CREDIT_AUDIT_TIMER: every 100 µs in credit mode. -/
def execCreditAuditTimer (st : Stn) (s : State) : Res :=
  .next (
    if (s.seam st).pOnoff then s
    else s.bypSend st (.creditAudit (Fin.ofNat 4096 (s.get (F.STN_SEAM_TXSEQ_NEXT_SEQ st) + 4095)) (s.consList st)))

/-- CREDIT_AUDIT: compared once EXPECTED has passed its SEQ. -/
def State.takeAudit (s : State) (st seq : Nat) (cons : List Nat) : State :=
  let last := (s.get (F.STN_SEAM_RXSEQ_EXPECTED st) + 4095) % 4096
  let d := (seq + 4096 - last) % 4096
  if d = 0 then s.auditCheck st cons (s.rxList st)
  else if d < 1536 then s.modSeam st fun x => { x with audit := some (seq, cons) }
  else match (s.seam st).rxHist.find? fun x => x.1 == seq with
    | some x => s.auditCheck st cons x.2
    | none => s

/-- ONOFF_RESYNC_TIMER: 1 ms of on/off mode without a trigger. -/
def execOnoffResyncTimer (st : Stn) (s : State) : Res :=
  .next (
    if !s.seamLive st || s.get (F.STN_SEAM_STATUS_FC st) != 2 || s.flag (F.STN_SEAM_STATUS_FC_HELD st) || s.flag (F.STN_SEAM_CFG_FC_MODE st) then s
    else
      let r := Fin.ofNat 4096 (s.get (F.STN_SEAM_RXSEQ_EXPECTED st) + 4095)
      let freed := [0, 1, 2, 3].map fun c => SMap.get (fun _ => 0) (s.seam st).rxFreed c
      (s.put (F.STN_SEAM_STATUS_FC st) 3).bypSend st (.resync r (s.rxList st) freed))

/-- RESYNC: CONS becomes the receiver's count through flit r and what was started after it. -/
def State.takeResync (s : State) (st : Nat) (r : Fin 4096) (rx freed : List Nat) : State :=
  let x := s.seam st
  let at_ := ((x.store.find? fun f => f.seq == r.val).map SentFlit.cons).getD x.relCons
  let new (c : Nat) : Nat := (rx.getD c 0 + s.seamCons st c + 65536 - at_.getD c 0) % 65536
  let s' := s.modSeam st fun y => { y with cons := [0, 1, 2, 3].foldl (fun m c => SMap.set (fun _ => 0) m c (new c)) y.cons,
                                           freed := [0, 1, 2, 3].foldl (fun m c => SMap.set (fun _ => 0) m c (freed.getD c 0 % 65536)) y.freed }
  s'.bypSend st (.resyncAck r)

/-- RESYNC_ACK. -/
def State.takeResyncAck (s : State) (st : Nat) : State := if s.get (F.STN_SEAM_STATUS_FC st) = 3 then s.fcRestore st else s

/-- RESYNC_ACK_TIMEOUT. -/
def execResyncAckTimeout (st : Stn) (s : State) : Res :=
  .next (if s.get (F.STN_SEAM_STATUS_FC st) = 3 then
    (s.put (F.STN_SEAM_STATUS_FC st) 2).modSeam st fun x => { x with trigAt := s.clk.now } else s)

/-! ### Spare lane (R266 to R268) -/

/-- A substitution is in force or under way in a direction (0 receive, 1 transmit). -/
def State.subst (s : State) (st dir : Nat) : Bool :=
  if dir = 0 then s.flag (F.STN_SEAM_STATUS_RX_SUB st) || (s.seam st).subRx.isSome else s.flag (F.STN_SEAM_STATUS_TX_SUB st)

/-- Substitution fails: 0x5022, the link is lost with cause LANE. Reasons, numbered by the model: 1 not complete in 40 µs, 2 second
lane, 3 L16 itself, 4 spare unfit (log entry 12). -/
def State.spareFailed (s : State) (st dir lane reason : Nat) : State :=
  (s.raise (srcStn st) 0x5022 3 (scPort (9 * st)) [dir, lane, reason]).seamDown st slLane

/-- At least LANE_CORR_LIMIT corrections have fallen on a logical lane within 4 µs (R266). -/
def State.manyFixes (s : State) (st lane : Nat) : Bool :=
  decide (s.get (F.STN_SEAM_CFG_LANE_CORR_LIMIT st) ≤
    ((s.seam st).corrs.filter fun y => y.2 == lane && decide (s.clk.now ≤ y.1 + 4 * usec)).length)

/-- SEAM_LANE_FAULT: lane f in use loses lock (`lock`) or has too many corrections; L16 is in use while it substitutes, for the logical lane
it replaces. -/
def execSeamLaneFault (st : Stn) (lane : Lane) (lock : Bool) (s : State) : Res :=
  .next (
    let cur : Option Nat := match (s.seam st).subRx with
      | some (f, _) => some f
      | none => if s.flag (F.STN_SEAM_STATUS_RX_SUB st) then some (s.get (F.STN_SEAM_STATUS_RX_SUB_LANE st)) else none
    let many := s.manyFixes st (if lane.val = 16 then cur.getD 16 else lane.val)
    if !s.seamLive st || cur == some lane.val || (lane.val == 16 && cur.isNone) || !(lock || many) then s
    else
      let s := s.raise (srcStn st) 0x5020 2 (scPort (9 * st)) [0, lane.val, b2n (!lock)]
      if lane.val = 16 then s.spareFailed st 0 16 3
      else if cur.isSome then s.spareFailed st 0 lane.val 2
      else if s.get (F.STN_LN_STATUS_SPARE_ROLE st 16) ≠ 1 then s.spareFailed st 0 lane.val 4
      else
        let s := (s.prbsStop st 16 true).put (F.STN_LN_STATUS_SPARE_ROLE st 16) 2
        (s.modSeam st fun x => { x with subRx := some (lane.val, s.clk.now) }).bypSend st (.spareReq (Fin.ofNat 16 lane.val)))

/-- SEAM_SPARE_SUBST: 64 good flits and the replay are through. -/
def execSeamSpareSubst (st : Stn) (s : State) : Res :=
  .next (
    match (s.seam st).subRx with
    | some (f, t) =>
      if !s.seamLive st then s
      else
        let s := (s.putB (F.STN_SEAM_STATUS_RX_SUB st) true).put (F.STN_SEAM_STATUS_RX_SUB_LANE st) f
        let s := (s.bump (F.STN_SEAM_CNT_MISC_SUBST st)).modSeam st fun x => { x with subRx := none }
        (s.bypSend st (.spareDone (Fin.ofNat 16 f))).raise (srcStn st) 0x5021 1 (scPort (9 * st)) [0, f, s.clk.now - t]
    | none => s)

/-- SEAM_SPARE_FAILED: 40 µs have passed since detection. -/
def execSeamSpareFailed (st : Stn) (s : State) : Res :=
  .next (
    match (s.seam st).subRx with
    | some (f, _) => if s.seamLive st then s.spareFailed st 0 f 1 else s
    | none => s)

/-- The spare lane's check runs (R59): PRBS31Q sent and checked at the link's rate. -/
def State.spareStart (s : State) (st rate : Nat) : State :=
  let s := ((s.putB (F.STN_LN_PRBS_CTL_EN st 16) true).put (F.STN_LN_PRBS_CTL_PATTERN st 16) 5).putB (F.STN_LN_PRBS_CTL_GEN st 16) true
  let s := ((s.putB (F.STN_LN_PRBS_CTL_CHK st 16) true).putB (F.STN_LN_PRBS_CTL_LOOP st 16) false).put (F.STN_LN_PRBS_CTL_MEAS_RATE st 16) rate
  s.putB (F.STN_LN_PRBS_STAT_ABORTED st 16) false

/-- SPARE_REQ: this end drives lane f's bytes on f and on L16, and the spare check stops (R59); a second lane fails. -/
def State.takeSpareReq (s : State) (st lane : Nat) : State :=
  if s.flag (F.STN_SEAM_STATUS_TX_SUB st) then
    (if s.get (F.STN_SEAM_STATUS_TX_SUB_LANE st) = lane then s else s.spareFailed st 1 lane 2)
  else
    let s := ((s.putB (F.STN_SEAM_STATUS_TX_SUB st) true).put (F.STN_SEAM_STATUS_TX_SUB_LANE st) lane).bump (F.STN_SEAM_CNT_MISC_SUBST st)
    (s.prbsStop st 16 true).modSeam st fun x => { x with subTx := some lane }

/-- SPARE_DONE: the double drive ends. -/
def State.takeSpareDone (s : State) (st lane : Nat) : State :=
  if (s.seam st).subTx = some lane then s.modSeam st fun x => { x with subTx := none } else s

/-- SPARE_ABORT: the substitution is given up, and with none in force the spare check runs again. -/
def State.takeSpareAbort (s : State) (st lane : Nat) : State :=
  if (s.seam st).subTx = some lane then
    let s := (s.modSeam st fun x => { x with subTx := none }).putB (F.STN_SEAM_STATUS_TX_SUB st) false
    if s.subst st 0 then s else s.spareStart st (if (s.seam st).rate128 then 6 else 5)
  else s

/-- SEAM_LANE_LOCK_LOST and DEAD_TIMEOUT; a substitution under way suspends the dead-link count. -/
def execSeamLaneLockLost (st : Stn) (s : State) : Res := .next (if s.seamMode st then s.seamDown st slLock else s)
def execDeadTimeout (st : Stn) (s : State) : Res :=
  .next (if s.seamMode st && (s.seam st).subRx.isNone then s.seamDown st slDead else s)

/-! ### Round trips (R271) -/

/-- Station time in ns as stamps carry it. -/
def State.stamp (s : State) : Nat := s.clk.now % 2 ^ 32

/-- RTT_PROBE_TIMER: every 1 ms in ACTIVE. -/
def execRttProbeTimer (st : Stn) (s : State) : Res := .next (s.bypSend st (.rttProbe s.stamp))

def State.takeProbe (s : State) (st stamp hold : Nat) : State := s.bypSend st (.rttEcho stamp hold)

/-- RTT_ECHO: a measurement more than 20 % above the trained RTT_L is reported at most once per second. -/
def State.takeEcho (s : State) (st stamp hold : Nat) : State :=
  if !s.seamLive st then s
  else
    let rtt := (s.stamp + 2 ^ 32 - stamp % 2 ^ 32) % 2 ^ 32 - hold
    let s := s.put (F.STN_SEAM_RTT_RTT_LAST st) (min 2047 rtt)
    let tr := s.get (F.STN_SEAM_RTT_RTT_TRAIN st)
    if 12 * tr < 10 * rtt then s.raiseQuiet 1000000000 st (srcStn st) 0x5041 2 (scPort (9 * st)) [tr, min 2047 rtt] else s

/-! ### Fabric time (R299, R300) -/

/-- The scope of fabric events (R302). -/
def State.fabScope (s : State) : Nat := if s.nodeId = 0xFF then scDev else scNode s.nodeId

/-- Exchanges pause while a substitution is in force on the link, and for 10 ms after it. -/
def State.timePaused (s : State) (st : Nat) : Bool :=
  s.subst st 0 || s.subst st 1 || (s.seam st).subTx.isSome || (match (s.seam st).pauseTime with
    | some t => decide (s.clk.now < t + 10000000)
    | none => false)

/-- TIME_EXCHANGE_TIMER: a node sends TIME_REQ to its parent, stamped t1. -/
def execTimeExchangeTimer (t1 : Nat) (s : State) : Res :=
  .next (
    let p := s.get F.FAB_TIME_STAT_PARENT
    if 16 ≤ p ∨ s.timePaused p = true then s else s.bypSend p (.timeReq t1))

/-- TIME_REQ: the parent answers with its stamps. -/
def State.takeTimeReq (s : State) (st t1 t2 t3 : Nat) : State := s.bypSend st (.timeResp t1 t2 t3 0)

/-- The node leaves LOCKED; causes numbered by the model: 1 three large offsets, 2 no exchange for 5 ms, 3 the reference moved (log
entry 12). -/
def State.timeUnlock (s : State) (cause : Nat) : State :=
  let s := { s with fab := { s.fab with small := 0, large := 0 } }
  if s.get F.FAB_TIME_STAT_SYNC = 2 then
    (s.put F.FAB_TIME_STAT_SYNC 1).raise 0x06 0x5121 2 s.fabScope [cause, s.get F.FAB_TIME_STAT_OFFSET]
  else s

/-- TIME_RESP at the child: stamps in quarter ns. It slews, and steps forward only in ACQUIRE and more than 1 µs behind. -/
def State.takeTimeResp (s : State) (st t1 t2 t3 t4 : Nat) : State :=
  if s.get F.FAB_TIME_STAT_PARENT ≠ st ∨ s.get F.FAB_TIME_STAT_SYNC = 3 then s
  else
    let off : Int := (((t2 : Int) - t1) - ((t4 : Int) - t3)) / 2
    let sync := if s.get F.FAB_TIME_STAT_SYNC = 0 then 1 else s.get F.FAB_TIME_STAT_SYNC
    let step := sync == 1 && decide (4000 < off)
    let s := (s.put F.FAB_TIME_STAT_SYNC sync).put F.FAB_TIME_STAT_OFFSET (off % 65536).toNat
    let s := if step then { s with clk := { s.clk with fab := s.clk.fab + BitVec.ofNat 64 (off / 4).toNat }, fab := { s.fab with slew := 0 } }
      else { s with fab := { s.fab with slew := off } }
    let a := off.natAbs
    let small := if a ≤ 20 then s.fab.small + 1 else 0
    let large := if 40 < a then s.fab.large + 1 else 0
    let s := { s with fab := { s.fab with small := small, large := large } }
    if sync = 1 ∧ 8 ≤ small then
      (s.put F.FAB_TIME_STAT_SYNC 2).raise 0x06 0x5120 0 s.fabScope [st, (off % 65536).toNat]
    else if sync = 2 ∧ 3 ≤ large then s.timeUnlock 1
    else s

/-- TIME_EXCHANGE_LOSS. -/
def execTimeExchangeLoss (s : State) : Res := .next (s.timeUnlock 2)

/-! ### Messages -/

/-- The effect of one bypass message. -/
def State.takeMsg (s : State) (st : Nat) (m : BMsg) : State :=
  if !s.seamLive st then s
  else match m with
  | .spareReq l => s.takeSpareReq st l
  | .spareDone l => s.takeSpareDone st l
  | .spareAbort l _ => s.takeSpareAbort st l
  | .creditAudit q c => s.takeAudit st q c
  | .resync r rx fr => s.takeResync st r rx fr
  | .resyncAck _ => s.takeResyncAck st
  | .rttProbe t => s.takeProbe st t 0
  | .rttEcho t h => s.takeEcho st t h
  | .linkDownNotice _ => s.seamDown st slPartner
  | .timeReq t1 => s.takeTimeReq st t1 (s.fabNow * 4) (s.fabNow * 4)
  | .timeResp a b c d => s.takeTimeResp st a b c d
  | .unknown => s.seqErr st 4 0

/-- SEAM_BYPASS_FLIT: the messages in order; one whose BSEQ is BEXP is accepted. -/
def execSeamBypassFlit (st : Stn) (h : FlitHdr) (msgs : List (Fin 256 × BMsg)) (s : State) : Res :=
  .next (s.rxFlit st h.flips fun s =>
    (msgs.take 14).foldl (fun s m =>
      if s.seamLive st && s.get (F.STN_SEAM_RXSEQ_BEXP st) == m.1.val then
        (s.put (F.STN_SEAM_RXSEQ_BEXP st) ((m.1.val + 1) % 256)).takeMsg st m.2
      else s) ((s.takeHdr st h).lostTail st h.seq))

/-! Each message as a command of its own: its effect once it has been accepted. -/
def execSpareReq (st : Stn) (lane : Fin 16) (s : State) : Res := .next (s.takeMsg st (.spareReq lane))
def execSpareDone (st : Stn) (lane : Fin 16) (s : State) : Res := .next (s.takeMsg st (.spareDone lane))
def execSpareAbort (st : Stn) (lane : Fin 16) (reason : Nat) (s : State) : Res := .next (s.takeMsg st (.spareAbort lane reason))
def execCreditAudit (st : Stn) (seq : Fin 4096) (cons : List Nat) (s : State) : Res := .next (s.takeMsg st (.creditAudit seq cons))
def execResync (st : Stn) (r : Fin 4096) (rx freed : List Nat) (s : State) : Res := .next (s.takeMsg st (.resync r rx freed))
def execResyncAck (st : Stn) (r : Fin 4096) (s : State) : Res := .next (s.takeMsg st (.resyncAck r))
def execRttProbe (st : Stn) (stamp hold : Nat) (s : State) : Res := .next (s.takeProbe st stamp hold)
def execRttEcho (st : Stn) (stamp hold : Nat) (s : State) : Res := .next (s.takeMsg st (.rttEcho stamp hold))
def execLinkDownNotice (st : Stn) (cause : Fin 16) (s : State) : Res := .next (s.takeMsg st (.linkDownNotice cause))
def execTimeReq (st : Stn) (t1 t2 t3 : Nat) (s : State) : Res := .next (s.takeTimeReq st t1 t2 t3)
def execTimeResp (st : Stn) (t1 t2 t3 t4 : Nat) (s : State) : Res := .next (s.takeMsg st (.timeResp t1 t2 t3 t4))

/-! ### Training (R269 to R271) -/

/-- H of R255 for a round trip at a rate. -/
def headroom (rtt : Nat) (fast : Bool) : Nat := (if fast then rtt * 19 else (rtt * 19 + 1) / 2) + 256

/-- The reservations a block advertises keep R256. -/
def resOk (b : TrainBlk) : Bool :=
  let r (i : Nat) : Nat := b.res.getD i 0
  let adv := 32768 - b.headroom
  decide (160 ≤ r 0) && decide (160 ≤ r 1) && decide (160 ≤ r 2) && decide (64 ≤ r 3) && decide (2 * (r 0 + r 1 + r 2 + r 3) ≤ adv)

/-- The largest of the measurements, and whether there are eight. -/
def rttL (l : List Nat) : Nat := l.foldl max 0

/-- Why a training block is refused (R271), in the rule's order, with the value found. -/
def State.trainRefused (s : State) (st : Nat) (b : TrainBlk) (rtts : List Nat) : Option (Nat × Nat) :=
  if b.fabricId ≠ s.reg F.FAB_FABRIC_ID_FABRIC_ID.addr then some (1, b.fabricId.toNat)
  else if 47 < b.node.toNat then some (2, b.node.toNat)
  else if b.units ≠ 32768 then some (3, b.units)
  else if !resOk b then some (4, b.res.foldl (· + ·) 0)
  else if b.fcMode ≠ s.flag (F.STN_SEAM_CFG_FC_MODE st) then some (5, b2n b.fcMode)
  else if 8 ≤ rtts.length ∧ 1250 < rttL rtts then some (6, rttL rtts)
  else none

/-- The Seam links of this device as a TOPO body gives them (Table 10.5). -/
def State.ownLinks (s : State) : List TopoLink :=
  ((List.range 16).filter s.seamMode).map fun st =>
    { port := BitVec.ofNat 8 (9 * st), partnerNode := BitVec.ofNat 8 (s.get (F.STN_SEAM_PARTNER_NODE st)),
      partnerPort := BitVec.ofNat 8 (s.get (F.STN_SEAM_PARTNER_PORT st)), rate := s.get (F.STN_PORT_STATUS_RATE st 0),
      active := s.seamLive st }

def topoFields (l : TopoLink) : List Nat := [l.port.toNat, l.partnerNode.toNat, l.partnerPort.toNat, l.rate, b2n l.active]

/-- A control message to the link partner on every ACTIVE Seam link but one. -/
def State.tellLinks (s : State) (but kind : Nat) (fields : List Nat) : State :=
  ((List.range 16).filter fun st => s.seamLive st && st != but).foldl (fun s st => s.tellCtl (0x100 + st) kind fields) s

/-- This device's TOPO on its links. -/
def State.sendTopo (s : State) : State :=
  if s.nodeId = 0xFF then s
  else s.tellLinks 16 0x02 ([s.nodeId, s.get F.FAB_UID_LO_UID_LO + s.get F.FAB_UID_HI_UID_HI * 2 ^ 32] ++ s.ownLinks.flatMap topoFields)

/-- The spare lane's role once the link is up: in a main lane's place, unfit without lock or until it has been fit for long enough, else fit. -/
def State.spareRole (s : State) (st : Nat) (missing : Bool) : Nat :=
  if missing then 2
  else if !s.flag (F.STN_LN_STATUS_BIT_LOCK st 16) || s.get (F.STN_LN_STATUS_SPARE_ROLE st 16) == 3 then 3 else 1

/-- The link becomes ACTIVE: sequence, credit and bypass state begin anew (R249, R255), with L16 in place of a main lane that failed lock. -/
def State.seamUp (s : State) (st : Nat) (b : TrainBlk) : State :=
  let p := 9 * st
  let x := s.seam st
  let fast := x.rate128
  let rtt := rttL x.rtts
  let h := headroom rtt fast
  let res := [0, 1, 2, 3].foldl (fun n c => n + s.seamRes st c) 0
  let failed := (s.port p).failed
  let missing := (List.range 16).find? fun l => bit failed l
  let was := s.flag (F.STN_SEAM_STATUS_RX_SUB st) || s.flag (F.STN_SEAM_STATUS_TX_SUB st)
  let s := s.portUp p (if fast then 6 else 5) 16 failed [] true false
  let s := s.modSeam st fun y => { falls := [], pRes := b.res, pShared := 32768 - b.headroom - b.res.foldl (· + ·) 0, rtts := x.rtts,
                                   rate128 := fast, pauseTime := if was then some s.clk.now else y.pauseTime }
  let s := { s with core := { s.core with flights := s.core.flights.map fun (f : Flight) => if f.src = p then { f with units := 0 } else f } }
  let s := (s.put (F.STN_SEAM_RTT_RTT_TRAIN st) rtt).put (F.STN_SEAM_FC_HEADROOM st) h
  let s := (s.put (F.STN_SEAM_FC_SHARED st) (32768 - h - res)).put (F.STN_SEAM_PARTNER_NODE st) b.node.toNat
  let s := (s.put (F.STN_SEAM_PARTNER_PORT st) b.port.toNat).setReg (F.STN_SEAM_TXSEQ_NEXT_SEQ st).addr (4095#32 <<< 12)
  let s := (s.setReg (F.STN_SEAM_RXSEQ_EXPECTED st).addr 0).setReg (F.STN_SEAM_STATUS_FC st).addr 0
  let s := s.put (F.STN_LN_STATUS_SPARE_ROLE st 16) (s.spareRole st missing.isSome)
  let s := if missing.isSome then s.prbsStop st 16 true else s.spareStart st (if fast then 6 else 5)
  let s := match missing with
    | some l => ((s.putB (F.STN_SEAM_STATUS_RX_SUB st) true).put (F.STN_SEAM_STATUS_RX_SUB_LANE st) l).raise (srcStn st) 0x5021 1 (scPort p) [0, l, 0]
    | none => s
  let mode := s.flag (F.STN_SEAM_CFG_FC_MODE st)
  let s := s.raise (srcStn st) 0x5001 0 (scPort p) [b.node.toNat, b.port.toNat, if fast then 6 else 5, rtt, h, b2n mode]
  let s := if mode then s.fcFall st 4 0 else s
  let s := if (List.range 16).all (fun x => !s.seamMode x || s.seamLive x) then s.stepUp 9 else s
  ({ s with fab := { s.fab with lastTopo := s.clk.now } }).sendTopo

/-- The training block this end sends (Table 9.12) in answer to a stamp. -/
def State.ownBlock (s : State) (st step : Nat) (seen : Bool) (echo : Nat) : TrainBlk :=
  let x := s.seam st
  { tstep := Fin.ofNat 4 step, seen := seen, allow128 := s.flag (F.STN_SEAM_CFG_RATE128 st),
    spareFit := s.get (F.STN_LN_STATUS_SPARE_ROLE st 16) == 1, fcMode := s.flag (F.STN_SEAM_CFG_FC_MODE st),
    node := BitVec.ofNat 8 s.nodeId, port := BitVec.ofNat 8 (9 * st), fabricId := s.reg F.FAB_FABRIC_ID_FABRIC_ID.addr, units := 32768,
    headroom := headroom (rttL x.rtts) x.rate128, res := [0, 1, 2, 3].map (s.seamRes st), stamp := s.stamp, echo := echo, hold := 0 }

/-- SEAM_TRAIN_FLIT: in ACTIVE the partner has restarted; in EXCHANGE its block is checked, a round trip measured, and the step advances:
1 CAPS, 2 RATE where both sides allow 128 GT/s, 3 READY, and ACTIVE once both sides have seen READY and eight measurements stand. -/
def execSeamTrainFlit (st : Stn) (b : TrainBlk) (s : State) : Res :=
  .next (
    let p := 9 * st.val
    if !s.seamMode st then s
    else if s.stage p = stACTIVE then s.seamDown st slPartner
    else if s.stage p ≠ stEXCHANGE then s
    else
      let x := s.seam st
      let m := (s.stamp + 2 ^ 32 - b.echo % 2 ^ 32) % 2 ^ 32 - b.hold
      let rtts := if b.echo = 0 then x.rtts else x.rtts ++ [m]
      match s.trainRefused st b rtts with
      | some (why, v) => (s.raise (srcStn st) 0x5003 2 (scPort p) [why, v]).attemptOver p
      | none =>
        let both := b.allow128 && s.flag (F.STN_SEAM_CFG_RATE128 st)
        let own := x.step
        let next := if own ≤ 1 ∧ b.seen = true ∧ 1 ≤ b.tstep.val then (if both then 2 else 3)
          else if own = 2 ∧ b.seen = true ∧ 2 ≤ b.tstep.val then 3 else own
        let fast := x.rate128 || (own == 2 && next == 3)
        let rtts := if own = 2 ∧ next = 3 then [] else rtts
        let ready := b.tstep.val = 3 ∧ own = 3
        let s := s.modSeam st fun y => { y with step := next, rate128 := fast, rtts := rtts, seenReady := y.seenReady || decide ready }
        let s := s.emit (.flit st (trainFlitBytes (s.ownBlock st next (decide (next ≤ b.tstep.val)) b.stamp)))
        if ready ∧ b.seen = true ∧ 8 ≤ rtts.length then s.seamUp st b else s)

/-! ### Seals (R288) -/

/-- SEAL: the seal of a class and round on a link is consumed once every earlier record of its class from that link has been committed. -/
def State.sealTake (s : State) (st c round : Nat) : Option State :=
  match (s.seam st).seals.find? fun x => x.1 == c && x.2.1 == round with
  | none => none
  | some x =>
    if s.core.flights.any fun f => f.src == 9 * st && f.cls == c && decide (f.id < x.2.2) then none
    else some ((s.modSeam st fun y => { y with seals := y.seals.filter (· != x) }).seamFree st c 2)

end Sys2Proof.Machine
end

