-- ==== Sys2Proof/Machine/Fabric.lean ====
section
/-!
DEFINITION. Machine/Fabric.lean: election and topology (R279, R291, R292), routes under the up*/down* rule (R281 to R286), publication
(R298), route changes through hold, seals and GO (R287 to R290), remote bindings at a switch of tables (R294, R295), and late notices
(R228). Kinds of table pieces, which Table 10.5 gives no numbers, are numbered by the model: 0 routes, 1 pins, 2 exports, 3 bindings,
4 directions of Seam links (log entry 12).
-/

namespace Sys2Proof.Machine

/-! ### Who is heard (R279, R292) -/

def State.ownUid (s : State) : Nat := s.get F.FAB_UID_LO_UID_LO + s.get F.FAB_UID_HI_UID_HI * 2 ^ 32

/-- This node's NODE_ID is in doubt: its upstream ports answer Request Retry Status again. -/
def State.unpublish (s : State) : State :=
  (List.range 32).foldl (fun s v => match s.usp v with
    | some u => (s.modVs v fun w => { w with published := false }).putB (F.STN_PORT_STATUS_RRS (stnOf u) (kOf u)) true
    | none => s) s

/-- An identifier is learned for a NODE_ID; a second one raises 0x5102. -/
def State.learn (s : State) (n : Nat) (uid : B64) : State :=
  let x := s.node n
  let have_ := if n = s.nodeId then some s.ownUid else if x.known then some x.uid.toNat else none
  match have_ with
  | none => s.modNode n fun y => { y with uid := uid, known := true }
  | some u =>
    if u = uid.toNat ∨ x.dup = true then s
    else
      let s := (s.modNode n fun y => { y with dup := true }).raise 0x06 0x5102 4 s.fabScope [n, u, uid.toNat]
      if n = s.nodeId then s.unpublish else s

/-- A manager-capable node heard within the last three rounds. -/
def State.capHeard (s : State) (n : Nat) : Bool :=
  if n = s.nodeId then s.flag F.FAB_ID_MGR_CAP && !(s.node n).dup
  else
    let x := s.node n
    x.known && x.mgrCap && !x.dup && decide (s.fab.round < x.heard + 3) && n != s.fab.dropped

/-- CAND: the lowest manager-capable node heard, or 0xFF. -/
def State.candidate (s : State) : Nat := ((List.range 48).find? s.capHeard).getD 0xFF

/-- The deputy: the second-lowest of the manager-capable nodes (R290). -/
def State.deputy (s : State) : Nat := (((List.range 48).filter s.capHeard)[1]?).getD 0xFF

/-- HELLO on every ACTIVE Seam link but one: a member repeats the manager node it has accepted. -/
def State.sendHello (s : State) (but : Nat) : State :=
  let cand := s.fab.cand
  let mgr := s.get F.FAB_STATE_MGR_NODE
  s.tellLinks but 0x01 [s.nodeId, s.ownUid, b2n (s.flag F.FAB_ID_MGR_CAP), cand,
    (if cand = s.nodeId then s.ownUid else if cand < 48 then (s.node cand).uid.toNat else 0),
    b2n (mgr != 0xFF && mgr == cand), s.get F.FAB_STATE_EPOCH, s.get F.FAB_STATE_STEP]

/-- The time reference is node m (R300). -/
def State.setRef (s : State) (m : Nat) : State :=
  let old := s.fab.lastRef
  let s := { s with fab := { s.fab with lastRef := m } }
  let s := if m = s.nodeId then s.put F.FAB_TIME_STAT_SYNC 3
           else if s.get F.FAB_TIME_STAT_SYNC = 3 then s.put F.FAB_TIME_STAT_SYNC 1 else s
  if old ≠ 0xFF ∧ old ≠ m then s.raise 0x06 0x5122 1 s.fabScope [old, m] else s

/-- The manager node is m: roles and deputy follow. -/
def State.setMgr (s : State) (m : Nat) : State :=
  let d := s.deputy
  let role := if m = s.nodeId then 1 else if d = s.nodeId then 2 else 0
  let s := ((s.put F.FAB_STATE_MGR_NODE m).put F.FAB_STATE_DEPUTY d).put F.FAB_STATE_ROLE role
  (({ s with fab := { s.fab with silent := 0 } }).stepUp 11).setRef m

/-- HELLO. -/
def State.takeHello (s : State) (c : CtlHdr) (m : HelloMsg) : State :=
  let n := m.node.toNat
  if 48 ≤ n then s
  else
    let s := s.learn n m.uid
    let s := s.modNode n fun x => { x with mgrCap := m.mgrCap, heard := s.fab.round, startStep := m.startStep.val }
    let s := if s.fab.dropped = n then { s with fab := { s.fab with dropped := 0xFF } } else s
    let cn := m.cand.toNat
    let s := if cn < 48 ∧ cn ≠ n ∧ cn ≠ s.nodeId ∧ cn ≠ s.fab.dropped then
        (s.learn cn m.candUid).modNode cn fun x => { x with mgrCap := true, heard := s.fab.round }
      else if cn = s.nodeId ∧ cn ≠ n then s.learn cn m.candUid else s
    let cand := s.candidate
    let lower := decide (cand < s.fab.cand)
    let s := { s with fab := { s.fab with cand := cand, ownRounds := if cand = s.nodeId then s.fab.ownRounds else 0 } }
    let s := if m.mgr ∧ cn = cand ∧ cand < 48 ∧ cand ≠ s.nodeId then
        (if s.get F.FAB_STATE_MGR_NODE = cand then { s with fab := { s.fab with silent := 0 } } else s.setMgr cand)
      else s
    if lower then s.sendHello c.stn else s

/-- The manager node has been silent for three rounds: it is no candidate any more. -/
def State.dropMgr (s : State) : State :=
  let m := s.get F.FAB_STATE_MGR_NODE
  let s := ((s.put F.FAB_STATE_MGR_NODE 0xFF).put F.FAB_STATE_DEPUTY 0xFF).put F.FAB_STATE_ROLE 0
  { s with fab := { s.fab with dropped := m, silent := 0, ownRounds := 0 } }

/-- HELLO_ROUND: the election is judged, and HELLO goes out on every ACTIVE Seam link. -/
def State.helloRound (s : State) : State :=
  if s.nodeId = 0xFF then s
  else
    let s := { s with fab := { s.fab with round := s.fab.round + 1 } }
    let mgr := s.get F.FAB_STATE_MGR_NODE
    let s := if mgr = 0xFF ∨ mgr = s.nodeId then s else { s with fab := { s.fab with silent := s.fab.silent + 1 } }
    let s := if 3 ≤ s.fab.silent then s.dropMgr else s
    let cand := s.candidate
    let own := if cand = s.nodeId then s.fab.ownRounds + 1 else 0
    let s := { s with fab := { s.fab with cand := cand, ownRounds := own } }
    let s := if own < 3 ∨ s.get F.FAB_STATE_MGR_NODE = s.nodeId then s
      else
        let s := s.setMgr s.nodeId
        s.raise 0x06 0x5103 1 s.fabScope [s.nodeId, s.get F.FAB_STATE_DEPUTY, own]
    s.sendHello 16

/-- NO_MANAGER: no manager-capable node has been heard by FORM_TMO; the device publishes its own virtual switches with local routes. -/
def State.noManager (s : State) : State :=
  if s.nodeId = 0xFF ∨ s.get F.FAB_STATE_MGR_NODE ≠ 0xFF ∨ s.candidate ≠ 0xFF ∨ 12 ≤ s.get F.FAB_STATE_STEP then s
  else
    let n := s.nodeId
    let s := [0, 1].foldl (fun s d => (s.put (F.FAB_ROUTE_LO_PORTS n d) 0).put (F.FAB_ROUTE_HI_ATTR n d) 0x10) s
    let heard := ((List.range 48).filter fun i => (s.node i).known).length
    (s.stepUp 12).raise 0x06 0x5104 3 s.fabScope [heard]

/-! ### Topology (R291) -/

/-- Every node that a known node names as a partner has sent its own TOPO. -/
def State.topoWhole (s : State) : Bool :=
  let named (l : List TopoLink) : Bool := l.all fun x => !x.active || x.partnerNode.toNat == s.nodeId || !(s.node x.partnerNode.toNat).links.isEmpty
  named s.ownLinks && (List.range 48).all fun n => named (s.node n).links

/-- TOPO: what is new is relayed on the other links. -/
def State.takeTopo (s : State) (c : CtlHdr) (node : B8) (uid : B64) (links : List TopoLink) (usps : B32) : State :=
  let n := node.toNat
  if 48 ≤ n ∨ n = s.nodeId then s
  else
    let s := (s.learn n uid).modNode n fun x => { x with usps := usps.toNat }
    if (s.node n).links = links then s
    else
      let s := s.modNode n fun x => { x with links := links }
      let s := { s with fab := { s.fab with lastTopo := s.clk.now } }
      let s := s.tellLinks c.stn 0x02 ([n, uid.toNat] ++ links.flatMap topoFields)
      if 9 ≤ s.get F.FAB_STATE_STEP ∧ s.topoWhole = true then s.stepUp 10 else s

/-! ### Routes (R281, R282) -/

/-- The links of each node by port and partner that routes may use: both ends ACTIVE, neither identity in doubt, none of those lost. -/
def State.adj (s : State) (lost : List (Nat × Nat)) (n : Nat) : List (Nat × Nat) :=
  if (s.node n).dup then []
  else
    ((if n = s.nodeId then s.ownLinks else (s.node n).links).filter fun l =>
      l.active && decide (l.partnerNode.toNat < 48) && !(s.node l.partnerNode.toNat).dup && !lost.contains (n, l.port.toNat)
        && !lost.contains (l.partnerNode.toNat, l.partnerPort.toNat)).map fun l => (l.port.toNat, l.partnerNode.toNat)

/-- Hop distances from a node, layer by layer. -/
def layers (adj : Nat → List (Nat × Nat)) : Nat → Nat → List (Nat × Nat) → List (Nat × Nat)
  | 0, _, seen => seen
  | fuel + 1, k, seen =>
    let next := (((seen.filter fun x => x.2 == k).flatMap fun x => (adj x.1).map Prod.snd).eraseDups).filter fun n =>
      !seen.any fun x => x.1 == n
    layers adj fuel (k + 1) (seen ++ next.map fun n => (n, k + 1))

/-- The rank of a node: hop distance from the manager node, then NODE_ID. -/
def rankOf (ranks : List (Nat × Nat)) (n : Nat) : Nat := ((ranks.find? fun x => x.1 == n).map fun x => x.2 * 64 + n).getD (64 * 64 + n)

/-- The fewest links, at most `fuel`, of a legal route from x to n for a record with DOWN d. -/
def hops (adj : Nat → List (Nat × Nat)) (up : Nat → Nat → Bool) : Nat → Nat → Nat → Nat → Option Nat
  | fuel, x, n, d =>
    if x = n then some 0
    else match fuel with
      | 0 => none
      | f + 1 =>
        ((adj x).filterMap fun l =>
          if d = 1 ∧ up x l.2 = true then none
          else (hops adj up f l.2 n (if up x l.2 then d else 1)).map (· + 1)).foldl
            (fun (b : Option Nat) h => match b with
              | some m => some (min m h)
              | none => some h) none

/-- A route entry (Table 10.3): the shortest legal routes, over the four lowest-numbered links that begin one. -/
def routeEntry (adj : Nat → List (Nat × Nat)) (up : Nat → Nat → Bool) (x n d : Nat) : List B32 :=
  if x = n then [0, 0x10]
  else match hops adj up 4 x n d with
    | none => [0, 0]
    | some h =>
      let ports := ((adj x).filter fun l => !(d == 1 && up x l.2)
        && hops adj up 3 l.2 n (if up x l.2 then d else 1) == some (h - 1)).map Prod.fst |>.take 4
      let lo := (ports.zip (List.range 4)).foldl (fun a p => a + p.1 * 2 ^ (8 * p.2)) 0
      [BitVec.ofNat 32 lo, BitVec.ofNat 32 (2 ^ ports.length - 1 + h * 32)]

/-- The route words of node x, in the order of the FAB_ROUTE registers, and its FAB_SEAM_DIR. -/
def routeWords (adj : Nat → List (Nat × Nat)) (up : Nat → Nat → Bool) (x : Nat) : List B32 :=
  (List.range 48).flatMap fun n => routeEntry adj up x n 0 ++ routeEntry adj up x n 1
def seamDir (adj : Nat → List (Nat × Nat)) (up : Nat → Nat → Bool) (x : Nat) : B32 :=
  BitVec.ofNat 32 ((adj x).foldl (fun m l => if up x l.2 then m else setBit m (l.1 / 9) true) 0)

/-- Everything the manager node's tables rest on: adjacency and direction of links, and the nodes it can reach. -/
structure Net where
  adj : Nat → List (Nat × Nat)
  up : Nat → Nat → Bool
  nodes : List Nat
  ranks : List (Nat × Nat)

/-- The net over given links under given distances from the manager node. -/
def netOf (adj : Nat → List (Nat × Nat)) (ranks : List (Nat × Nat)) : Net :=
  { adj := adj, up := fun x y => decide (rankOf ranks y < rankOf ranks x), nodes := ranks.map Prod.fst, ranks := ranks }

def State.net (s : State) (lost : List (Nat × Nat)) : Net := netOf (s.adj lost) (layers (s.adj lost) 48 0 [(s.nodeId, 0)])

/-! ### Table pieces -/

/-- The register a piece's word belongs to. -/
def pieceBase (kind : Nat) : Option Nat :=
  match kind with
  | 0 => some 0x02201000
  | 1 => some 0x02202000
  | 2 => some 0x02204000
  | 3 => some 0x02205000
  | 4 => some 0x02200018
  | _ => none

/-- How many words each kind has. -/
def pieceWords (kind : Nat) : Nat :=
  match kind with
  | 0 => 192
  | 1 => 960
  | 2 => 1024
  | 3 => 256
  | _ => 1

/-- A word of a fabric table as the staged pieces leave it. -/
def State.staged (s : State) (a : Nat) : Nat :=
  ((s.fab.pieces.reverse.find? fun x => x.1 == a).map fun x => x.2.toNat).getD (s.reg a).toNat

/-- What R281 and R282 ask of this device's own entry for node n and DOWN d. -/
def State.entryOk (s : State) (n d : Nat) : Bool :=
  let lo := s.staged (F.FAB_ROUTE_LO_PORTS n d).addr
  let hi := s.staged (F.FAB_ROUTE_HI_ATTR n d).addr
  let dir := s.staged F.FAB_SEAM_DIR_DOWN.addr
  let ports := ((List.range 4).filter fun p => bit hi p).map fun p => bits lo (8 * p) 8
  let h := bits hi 5 3
  decide (hi < 256) && (bit hi 4 == (n == s.nodeId)) && (ports.isEmpty || (decide (1 ≤ h ∧ h ≤ 4) && n != s.nodeId))
    && ports.all fun p => decide (p < 144) && p % 9 == 0 && s.seamMode (p / 9) && (d == 0 || bit dir (p / 9))

/-- The digest of staged pieces (R291; the spec names none: CRC-32C of their words). -/
def digest (ws : List B32) : Nat := (crc32c (ws.flatMap fun w => leBytes 4 w.toNat)).toNat

/-- PUBLISH: a piece is staged; a publication that breaks R281 or R282 is refused with the failing entry, and the pieces go. -/
def State.takePublish (s : State) (c : CtlHdr) (kind : B8) (first : Nat) (words : List B32) : State :=
  match pieceBase kind.toNat with
  | none => s.tellCtl c.src.toNat 0x10 [kind.toNat, first]
  | some base =>
    if pieceWords kind.toNat < first + words.length then s.tellCtl c.src.toNat 0x10 [kind.toNat, first]
    else
      let ps := (words.zip (List.range words.length)).map fun x => (base + 4 * (first + x.2), x.1)
      let s' := { s with fab := { s.fab with pieces := s.fab.pieces ++ ps } }
      let bad := if kind.toNat ≠ 0 then none
        else ((List.range ((first + words.length) / 2)).filter fun e => decide (first ≤ 2 * e)).find? fun e => !s'.entryOk (e / 2) (e % 2)
      match bad with
      | some e => ({ s with fab := { s.fab with pieces := [] } }).tellCtl c.src.toNat 0x10 [0, 2 * e]
      | none => s'

/-- The manager node's own pieces and those it sends to each other node of a net: directions, routes, then what COMMIT left for it. -/
def State.piecesFor (s : State) (nt : Net) (x : Nat) : List (Nat × Nat × List B32) :=
  [(4, 0, [seamDir nt.adj nt.up x]), (0, 0, routeWords nt.adj nt.up x)]
    ++ (s.fab.far.filter fun y => y.1 == x).map fun y => (3, (y.2.1 - 0x02205000) / 4, [y.2.2])

/-- Send a node its pieces. -/
def State.publishTo (s : State) (nt : Net) (x : Nat) : State :=
  (s.piecesFor nt x).foldl (fun s p => s.tellCtl x 0x10 ([p.1, p.2.1] ++ p.2.2.map BitVec.toNat)) s

/-- Pieces as words of this node's own tables. -/
def pieceRegs (l : List (Nat × Nat × List B32)) : List (Nat × B32) :=
  l.flatMap fun p => (p.2.2.zip (List.range p.2.2.length)).map fun x => ((pieceBase p.1).getD 0 + 4 * (p.2.1 + x.2), x.1)

/-- The route words other than 0 of every node of a net, by 192·node + word. -/
def netTables (nt : Net) : SMap Nat :=
  ((List.range 48).filter nt.nodes.contains).flatMap fun x =>
    ((List.range 192).zip (routeWords nt.adj nt.up x)).filterMap fun w => if w.2 = 0 then none else some (192 * x + w.1, w.2.toNat)

/-- The manager node stages its own pieces, and remembers what it publishes. -/
def State.publishOwn (s : State) (nt : Net) : State :=
  { s with fab := { s.fab with pieces := pieceRegs (s.piecesFor nt s.nodeId) ++ s.fab.pieces, tables := netTables nt, ranks := nt.ranks } }

/-- 0x5113 for every pair of nodes without a legal route; reasons numbered by the model: 1 no legal route of at most 4 links, 2 refused by
the node (log entry 12), and for a virtual switch that stays unpublished 3. -/
def State.unreachable (s : State) (nt : Net) : State :=
  (nt.nodes.flatMap fun x => nt.nodes.map fun n => (x, n)).foldl (fun s p =>
    if (hops nt.adj nt.up 4 p.1 p.2 0).isNone then s.raise 0x06 0x5113 3 s.fabScope [p.1, p.2, 1] else s) s

/-- The virtual switches of the fabric that hold an upstream port, by node and number, in rising order. -/
def State.fabricVss (s : State) : List (Nat × Nat) :=
  (List.range 48).flatMap fun n => ((List.range 32).filter fun v =>
    if n = s.nodeId then (s.usp v).isSome else (s.node n).known && bit (s.node n).usps v).map fun v => (n, v)

/-- The manager node publishes at most 512 virtual switches; 0x5113 names each further one, and this node's own stay unpublished (R281). -/
def State.limitVss (s : State) : State :=
  let extra := s.fabricVss.drop 512
  let s := extra.foldl (fun s x => s.raise 0x06 0x5113 3 s.fabScope [x.1, x.2, 3]) s
  { s with fab := { s.fab with unpub := (extra.filter fun x => x.1 == s.nodeId).map Prod.snd } }

/-- The next route epoch. -/
def State.nextEpoch (s : State) : Nat := (s.get F.FAB_STATE_EPOCH + 1) % 256

/-! ### GO (R287) -/

/-- GO to every other node of the fabric, at least 20 µs ahead; the manager node switches at the same time. -/
def State.sendGo (s : State) (others : List Nat) : State :=
  let t := s.fabNow + 20 * usec
  let e := s.nextEpoch
  let s := others.foldl (fun s n => s.sendCtl n 0x12 [e, t] none) s
  { s with fab := { s.fab with goAt := some (e, BitVec.ofNat 64 t), publishing := false } }

/-- The other nodes the manager node's tables go to. -/
def State.others (s : State) (nt : Net) : List Nat := nt.nodes.filter (· != s.nodeId)

/-- A control message to a node needs no answer any more. -/
def State.gotReply (s : State) (n kind : Nat) : State :=
  { s with fab := { s.fab with out := s.fab.out.filter fun o => !(o.dest == n && o.kind == kind) } }

/-! ### Links and devices that join (R286) -/

/-- A published route word of node x. -/
def State.routeWord (s : State) (x w : Nat) : Nat := SMap.get (fun _ => 0) s.fab.tables (192 * x + w)

/-- Links as they are now, under the ranks as published; nodes that were not are ranked after their own distance. -/
def State.joinNet (s : State) : Net :=
  let now := layers (s.adj []) 48 0 [(s.nodeId, 0)]
  netOf (s.adj []) (s.fab.ranks ++ now.filter fun x => !s.fab.ranks.any fun y => y.1 == x.1)

/-- The links of a route from x to n for a record with DOWN d, by the published entry where there is one, else the fewest over the net. -/
def State.joinHops (s : State) (nt : Net) : Nat → Nat → Nat → Nat → Option Nat
  | fuel, x, n, d =>
    let h := bits (s.routeWord x (4 * n + 2 * d + 1)) 5 3
    if x = n then some 0
    else if h ≠ 0 then (if h ≤ fuel then some h else none)
    else match fuel with
      | 0 => none
      | f + 1 =>
        ((nt.adj x).filterMap fun l =>
          if d = 1 ∧ nt.up x l.2 = true then none
          else (s.joinHops nt f l.2 n (if nt.up x l.2 then d else 1)).map (· + 1)).foldl
            (fun (b : Option Nat) h => match b with
              | some m => some (min m h)
              | none => some h) none

/-- The route entry that a join gives node x for node n and DOWN d, where none was published. -/
def State.joinEntry (s : State) (nt : Net) (x n d : Nat) : Option (List B32) :=
  if s.routeWord x (4 * n + 2 * d + 1) ≠ 0 then none
  else if x = n then some [0, 0x10]
  else (s.joinHops nt 4 x n d).map fun h =>
    let ports := ((nt.adj x).filter fun l => !(d == 1 && nt.up x l.2)
      && s.joinHops nt 3 l.2 n (if nt.up x l.2 then d else 1) == some (h - 1)).map Prod.fst |>.take 4
    let lo := (ports.zip (List.range 4)).foldl (fun a p => a + p.1 * 2 ^ (8 * p.2)) 0
    [BitVec.ofNat 32 lo, BitVec.ofNat 32 (2 ^ ports.length - 1 + h * 32)]

/-- The entries that a join adds at node x, by the index of their first word. -/
def State.joinAdds (s : State) (nt : Net) (x : Nat) : List (Nat × List B32) :=
  (nt.nodes.flatMap fun n => [(n, 0), (n, 1)]).filterMap fun p => (s.joinEntry nt x p.1 p.2).map fun e => (4 * p.1 + 2 * p.2, e)

/-- Routes to nodes that were unreachable until then are published without a route change; every route in use stays. -/
def State.joinRoutes (s : State) : State :=
  let nt := s.joinNet
  let adds := (nt.nodes.map fun x => (x, s.joinAdds nt x)).filter fun p => !p.2.isEmpty
  if adds.isEmpty then s
  else
    let pieces (p : Nat × List (Nat × List B32)) : List (Nat × Nat × List B32) :=
      (4, 0, [seamDir nt.adj nt.up p.1]) :: p.2.map fun e => (0, e.1, e.2)
    let note (m : SMap Nat) (p : Nat × List (Nat × List B32)) : SMap Nat :=
      (p.2.flatMap fun e => (e.2.zip [e.1, e.1 + 1])).foldl (fun m w => SMap.set (fun _ => 0) m (192 * p.1 + w.2) w.1.toNat) m
    let mine := ((adds.filter fun p => p.1 == s.nodeId).map pieces).flatten
    let f (x : Fab) : Fab :=
      { x with tables := adds.foldl note x.tables, ranks := nt.ranks, pieces := pieceRegs mine ++ x.pieces,
               publishing := true, ready := [], expect := [] }
    let os := adds.filter fun p => p.1 != s.nodeId
    let s := os.foldl (fun s p =>
      let d := digest ((pieces p).flatMap fun q => q.2.2)
      let s := { s with fab := { s.fab with expect := SMap.set (fun _ => 0) s.fab.expect p.1 d } }
      let s := (pieces p).foldl (fun s q => s.tellCtl p.1 0x10 ([q.1, q.2.1] ++ q.2.2.map BitVec.toNat)) s
      s.sendCtl p.1 0x11 [0, s.nextEpoch, d] none) { s with fab := f s.fab }
    if os.isEmpty then s.sendGo [] else s

/-- PUBLISH_START: at the manager node, once the topology has been stable for 20 ms and every known node reports step 9, or at FORM_TMO; in a
published fabric it adds what R286 lets it add. -/
def State.publishStart (s : State) : State :=
  let known := (List.range 48).filter fun n => (s.node n).known && n != s.nodeId
  let stable := decide (s.fab.lastTopo + 20 * msec ≤ s.clk.now) && known.all fun n => decide (9 ≤ (s.node n).startStep)
  let late := decide (s.pow.releasedAt + s.get F.FAB_CTL_FORM_TMO * msec ≤ s.clk.now)
  if s.nodeId = 0xFF ∨ s.get F.FAB_STATE_MGR_NODE ≠ s.nodeId ∨ s.fab.publishing = true ∨ s.fab.goAt.isSome = true ∨ (stable || late) = false
    then s
  else if 12 ≤ s.get F.FAB_STATE_STEP then (if s.fab.hold.isSome || s.fab.ranks.isEmpty then s else s.joinRoutes)
  else
    let nt := s.net []
    let s := ((s.unreachable nt).publishOwn nt).limitVss
    let os := s.others nt
    let s := { s with fab := { s.fab with publishing := true, ready := [], expect := [] } }
    let s := os.foldl (fun s n =>
      let d := digest ((s.piecesFor nt n).flatMap fun p => p.2.2)
      let s := { s with fab := { s.fab with expect := SMap.set (fun _ => 0) s.fab.expect n d } }
      (s.publishTo nt n).sendCtl n 0x11 [0, s.nextEpoch, d] none) s
    let s := { s with fab := { s.fab with far := [] } }
    if os.isEmpty then s.sendGo [] else s

/-- PREPARE at a node: READY with the digest of what it has staged. READY at the manager node: the last one releases GO; another digest
is a refusal, and nothing is published. -/
def State.takePrepare (s : State) (c : CtlHdr) (ready : Bool) (epoch : Nat) (dg : B32) : State :=
  let n := c.src.toNat
  if !ready then
    let mine := digest (s.fab.pieces.map Prod.snd)
    let s := if mine = dg.toNat then s else { s with fab := { s.fab with pieces := [] } }
    s.tellCtl n 0x11 [1, epoch, mine]
  else if s.fab.publishing = false ∨ epoch ≠ s.nextEpoch then s
  else
    let s := s.gotReply n 0x11
    if dg.toNat ≠ SMap.get (fun _ => 0) s.fab.expect n then
      let s := { s with fab := { s.fab with publishing := false, pieces := [], ready := [], expect := [] } }
      (s.raise 0x06 0x5113 3 s.fabScope [s.nodeId, n, 2]).endAsync (fun a => a.opcode == 0x0201 && a.obj == 2 ^ 17) .stagedConflict none
    else
      let s := { s with fab := { s.fab with ready := n :: s.fab.ready.filter (· != n) } }
      let os := s.fab.expect.map Prod.fst
      if os.all s.fab.ready.contains then s.sendGo os else s

/-- GO. -/
def State.takeGo (s : State) (epoch : Nat) (time : B64) : State := { s with fab := { s.fab with goAt := some (epoch % 256, time) } }

/-! ### Seals (R288, R289) -/

def State.liveSeams (s : State) : List Nat := (List.range 16).filter s.seamLive

/-- The seals of a round in classes 0 to 2 on every Seam egress. -/
def State.sendSeals (s : State) (round : Nat) : State :=
  s.liveSeams.foldl (fun s st => [0, 1, 2].foldl (fun s c => s.sendSeal st round c) s) { s with fab := { s.fab with sealTx := round } }

/-- The round under way has arrived on an ingress, or failed there. -/
def State.sealHere (s : State) (st : Nat) : Bool :=
  bit s.fab.failed st || [0, 1, 2].all fun c => decide (s.fab.sealTx ≤ SMap.get (fun _ => 0) s.fab.sealRx (4 * st + c))

/-- Node n has sent SEALED; when every node has, the manager node sends GO. -/
def State.sealedBy (s : State) (n : Nat) : State :=
  let s := { s with fab := { s.fab with sealedBy := n :: s.fab.sealedBy.filter (· != n) } }
  let os := s.others (s.net [])
  if s.fab.running && s.fab.goAt.isNone && (s.nodeId :: os).all s.fab.sealedBy.contains then s.sendGo os else s

/-- Rounds advance while every ACTIVE Seam ingress has the one under way; after round 4 the device reports SEALED. -/
def State.advance (s : State) : Nat → State
  | 0 => s
  | fuel + 1 =>
    if s.fab.sealTx = 0 ∨ 4 < s.fab.sealTx ∨ s.liveSeams.all s.sealHere = false then s
    else if s.fab.sealTx < 4 then (s.sendSeals (s.fab.sealTx + 1)).advance fuel
    else
      let s := { s with fab := { s.fab with sealTx := 5 } }
      let e := (s.fab.hold.map Prod.snd).getD 0
      if s.fab.running then s.sealedBy s.nodeId else s.sendCtl (s.get F.FAB_STATE_MGR_NODE) 0x22 [e, s.fab.failed] none

/-- The hold of a route change begins (R287): seals of round 1 go out. -/
def State.beginHold (s : State) (mask epoch : Nat) : State :=
  let s := { s with fab := { s.fab with hold := some (mask, epoch % 256), sealRx := [], failed := 0, rerouteAt := s.clk.now } }
  (s.sendSeals 1).advance 6

/-- REROUTE_HOLD. -/
def State.takeHold (s : State) (epoch : Nat) (mask : BitVec 48) : State := if s.fab.hold.isSome then s else s.beginHold mask.toNat epoch

/-- SEAL. -/
def execSeal (st : Stn) (c : Fin 3) (round : Fin 256) (s : State) : Res :=
  .next (
    match s.sealTake st c round with
    | none => s
    | some s =>
      let s := { s with fab := { s.fab with sealRx := SMap.set (fun _ => 0) s.fab.sealRx (4 * st.val + c.val) round } }
      s.advance 6)

/-- SEAL_ROUND_TIMEOUT: the round under way has failed on an ingress. -/
def execSealRoundTimeout (st : Stn) (s : State) : Res :=
  .next (
    if s.fab.hold.isNone || s.sealHere st || decide (4 < s.fab.sealTx) then s
    else ({ s with fab := { s.fab with failed := setBit s.fab.failed st true } }).advance 6)

/-- SEALED at the manager node. -/
def State.takeSealed (s : State) (c : CtlHdr) (epoch : Nat) (mask : B16) : State :=
  if s.fab.running && (s.fab.hold.map Prod.snd) == some (epoch % 256) && decide (mask.toNat < 65536) then
    (s.gotReply c.src.toNat 0x21).sealedBy c.src.toNat
  else s

/-- GO_DEADLINE: 120 µs after the hold GO goes out whatever the rounds. -/
def State.goDeadline (s : State) : State :=
  if s.fab.running && s.fab.goAt.isNone then s.sendGo (s.others (s.net [])) else s

/-! ### Starting a route change (R286, R287, R290) -/

/-- The manager node, or the deputy in its place, starts a route change toward the nodes of a mask. -/
def State.startChange (s : State) (lost : List (Nat × Nat)) (mask cause : Nat) : State :=
  let nt := s.net lost
  let e := s.nextEpoch
  let s := (s.unreachable nt).raise 0x06 0x5110 2 s.fabScope [e, mask, cause]
  let s := (s.others nt).foldl (fun s n =>
    (s.sendCtl n 0x21 [e, mask, (s.piecesFor nt n).length] none).publishTo nt n) s
  let s := s.publishOwn nt
  let s := { s with fab := { s.fab with running := true, sealedBy := [], far := [] } }
  s.beginHold mask e

/-- The nodes whose routes differ between two nets. -/
def changed (a b : Net) : Nat :=
  (List.range 48).foldl (fun m n =>
    if (a.nodes ++ b.nodes).any fun x => routeEntry a.adj a.up x n 0 != routeEntry b.adj b.up x n 0
        || routeEntry a.adj a.up x n 1 != routeEntry b.adj b.up x n 1 then setBit m n true else m) 0

/-- Links reported lost are down in the topology. -/
def State.markLost (s : State) (lost : List (Nat × Nat)) : State :=
  (List.range 48).foldl (fun s n => s.modNode n fun x =>
    let g (l : TopoLink) : TopoLink :=
      if lost.contains (n, l.port.toNat) || lost.contains (l.partnerNode.toNat, l.partnerPort.toNat) then { l with active := false } else l
    { x with links := x.links.map g }) s

/-- The lost links are all the links of a node. -/
def State.allLost (s : State) (n : Nat) (lost : List (Nat × Nat)) : Bool :=
  let ls := (s.node n).links
  !ls.isEmpty && ls.all fun l => !l.active || lost.contains (n, l.port.toNat) || lost.contains (l.partnerNode.toNat, l.partnerPort.toNat)

/-- LINK_EVENT at the manager node or the deputy. -/
def State.takeLinkEvent (s : State) (node port : B8) (cause : Fin 16) : State :=
  let ev := (node.toNat, port.toNat, cause.val)
  if (s.get F.FAB_STATE_ROLE = 1 ∨ s.get F.FAB_STATE_ROLE = 2) ∧ s.fab.events.contains ev = false then
    { s with fab := { s.fab with events := s.fab.events ++ [ev] } }
  else s

/-- REROUTE_START: the events gathered become one route change, run by the manager node, or by the deputy when they are all the links of
the manager node. -/
def State.rerouteStart (s : State) : State :=
  let lost := s.fab.events.map fun e => (e.1, e.2.1)
  let role := s.get F.FAB_STATE_ROLE
  if s.fab.events.isEmpty || s.fab.hold.isSome || s.fab.publishing || decide (s.get F.FAB_STATE_STEP < 12) then s
  else if role = 1 ∨ (role = 2 ∧ s.allLost (s.get F.FAB_STATE_MGR_NODE) lost = true) then
    let cause := ((s.fab.events.head?).map fun e => e.2.2).getD 0
    let mask := changed (s.net []) (s.net lost)
    let s := s.startChange lost mask cause
    ({ s with fab := { s.fab with events := [] } }).markLost lost
  else s

/-! ### The switch of tables (R287, R289, R294, R295) -/

/-- The queues toward a silent partner are flushed at GO. -/
def State.sealFlush (s : State) (st : Nat) : State :=
  let n := [58, 59, 60, 61].foldl (fun n q => n + ((s.bank st).q q).recs.length) 0
  let s := [58, 59, 60, 61].foldl (fun s q => s.flushAs st q (s.flag (F.STN_OB_CTL_FLUSH_MODE st)) 6) s
  (s.bumpN F.FAB_CNT_SEAL_FLUSHES 4).raise 0x06 0x5112 3 (scPort (9 * st)) [9 * st, n]

/-- The ingresses that have a failed round at GO: those that failed, and, on a device that has not reported SEALED, those still behind. -/
def State.behind (s : State) : List Nat :=
  s.liveSeams.filter fun st => bit s.fab.failed st
    || (decide (s.fab.sealTx < 5) && [0, 1, 2].any fun c => decide (SMap.get (fun _ => 0) s.fab.sealRx (4 * st + c) < 4))

/-- A node has a route entry with a path, or is this node. -/
def State.reachable (s : State) (n : Nat) : Bool := n == s.nodeId || decide (0 < bits (s.get (F.FAB_ROUTE_HI_ATTR n 0)) 0 4)

/-- The presence and link of home binding i's virtual downstream port change; a loss is a Surprise Down in its AER. -/
def State.homeChanged (s : State) (i : Nat) (lost : Bool) : State :=
  let s := s.setVdp 16 i 0 ofSLTCTL (s.vdp 16 i 0 ofSLTCTL ||| slPdc ||| slDllsc)
  if !lost then s
  else
    let s' := s.setVdp 16 i 0 ofAERU (s.vdp 16 i 0 ofAERU ||| 2 ^ aeSD)
    let v := s.bindVs i
    let bus := match s.usp v with
      | some u => s.secBus u
      | none => 0
    if bit (s.vdp 16 i 0 0x108) aeSD then s'
    else s'.emit (.errMsg v (BitVec.ofNat 16 (bus * 256 + s.bindVdev i * 8)) (if bit (s.vdp 16 i 0 0x10C) aeSD then 2 else 1))

/-- One binding after a switch of tables. -/
def State.bindStep (s : State) (i : Nat) : State :=
  let other := if s.bindFar i then s.bindHomeNode i else s.bindFarNode i
  let put (s : State) (x : Nat) : State := s.put { addr := 0x02205000 + 0x10 * i, lo := 2, w := 2 } x
  if !s.bindValid i then s
  else if s.reachable other ∧ s.bindState i ≠ 1 then
    let s := put s 1
    if s.bindFar i then s
    else (s.homeChanged i false).raise 0x06 0x5130 0 s.fabScope [s.nodeId, s.bindVs i, s.bindVport i, s.bindFarNode i, s.bindFarPort i]
  else if !s.reachable other ∧ s.bindState i = 1 then
    let s := put s 2
    if s.bindFar i then s else (s.homeChanged i true).raise 0x06 0x5131 2 s.fabScope [i, 1]
  else s

/-- The station of the parent link: the first path toward the manager node, one hop nearer (R299). -/
def State.parentOf (s : State) : Nat :=
  let m := s.get F.FAB_STATE_MGR_NODE
  if m = 0xFF ∨ m = s.nodeId then 0xFF
  else match s.nextHop m 0 0 with
    | some p => stnOf p
    | none => 0xFF

/-- The staged pieces, and after them what COMMITs have left, become the tables; a binding keeps its read-only STATE. -/
def State.takePieces (s : State) : State :=
  let s := (s.fab.pieces ++ s.fab.own).foldl (fun s x => s.maskReg x.1 (stagedMask x.1) x.2) s
  { s with fab := { s.fab with pieces := [], own := [] } }

/-- Upstream ports with a virtual switch on this device. -/
def State.uspCount (s : State) : Nat := ((List.range 32).filter fun v => (s.usp v).isSome).length

/-- GO_TIME. -/
def State.goTime (s : State) : State :=
  match s.fab.goAt with
  | none => s
  | some (e, _) =>
    let hold := s.fab.hold.isSome
    let bad := if hold then s.behind else []
    let since := s.clk.now - s.fab.rerouteAt
    let s := bad.foldl State.sealFlush s
    let s := s.takePieces.put F.FAB_STATE_EPOCH e
    let s := { s with fab := { s.fab with goAt := none, hold := none, sealTx := 0, sealRx := [], failed := 0, running := false, sealedBy := [],
                                          ready := [], expect := [] } }
    let s := s.put F.FAB_TIME_STAT_PARENT s.parentOf
    let s := (List.range 64).foldl State.bindStep s
    let mine (a : Async) : Bool := a.opcode == 0x0705 || (a.opcode == 0x0201 && a.obj == 2 ^ 17)
    if hold then
      (s.bump F.FAB_CNT_REROUTES).raiseEnd mine 0x06 0x5111 1 s.fabScope [e, since, bad.length]
    else
      let first := decide (s.get F.FAB_STATE_STEP < 13)
      let s := s.stepUp 13
      let ns := 1 + ((List.range 48).filter fun n => s.reachable n && n != s.nodeId).length
      if first then s.raiseEnd mine 0x06 0x5105 0 s.fabScope [e, ns, s.uspCount, (s.clk.now - s.pow.releasedAt) / msec]
      else s

/-! ### Control messages as they arrive (R16, R291) -/

/-- The effect of a message that Aclia takes. -/
def State.takeCtl (s : State) (i : CtlMsg) : State :=
  match i with
  | .hello c m => s.takeHello c m
  | .topo c node uid links usps => s.takeTopo c node uid links usps
  | .publish c kind first words => s.takePublish c kind first words
  | .prepareReady c ready epoch dg => s.takePrepare c ready epoch dg
  | .go epoch time => s.takeGo epoch time
  | .rerouteHold epoch mask => s.takeHold epoch mask
  | .sealed c epoch mask => s.takeSealed c epoch mask
  | .linkEvent node port cause => s.takeLinkEvent node port cause

/-- Messages that waited while Aclia was unavailable are taken in order. -/
def State.drainCtl (s : State) : State := s.fab.held.foldl State.takeCtl { s with fab := { s.fab with held := [] } }

/-- A control message that arrives on a live Seam link: one whose BTAG fails is discarded and counted (R291); while Aclia is unavailable it
waits (R16). -/
def State.ctlIn (s : State) (c : CtlHdr) (i : CtlMsg) : State :=
  if s.nodeId = 0xFF ∨ s.seamLive c.stn = false then s
  else if !c.tagOk then s.bump F.FAB_ROUTE_ERR_ROUTE_ERR
  else if !s.acl.up then { s with fab := { s.fab with held := s.fab.held ++ [i] } }
  else s.drainCtl.takeCtl i

/-- HELLO. -/
def execHello (c : CtlHdr) (m : HelloMsg) (s : State) : Res := .next (s.ctlIn c (.hello c m))

/-- TOPO. -/
def execTopo (c : CtlHdr) (node : B8) (uid : B64) (links : List TopoLink) (s : State) (usps : B32 := 0) : Res := .next (s.ctlIn c (.topo c node uid links usps))

/-- PUBLISH. -/
def execPublish (c : CtlHdr) (kind : B8) (first : Nat) (words : List B32) (s : State) : Res := .next (s.ctlIn c (.publish c kind first words))

/-- PREPARE and READY. -/
def execPrepareReady (c : CtlHdr) (ready : Bool) (epoch : Nat) (dg : B32) (s : State) : Res := .next (s.ctlIn c (.prepareReady c ready epoch dg))

/-- GO. -/
def execGo (c : CtlHdr) (epoch : Nat) (time : B64) (s : State) : Res := .next (s.ctlIn c (.go epoch time))

/-- REROUTE_HOLD. -/
def execRerouteHold (c : CtlHdr) (epoch : Nat) (mask : BitVec 48) (_pieces : Nat) (s : State) : Res := .next (s.ctlIn c (.rerouteHold epoch mask))

/-- SEALED. -/
def execSealed (c : CtlHdr) (epoch : Nat) (mask : B16) (s : State) : Res := .next (s.ctlIn c (.sealed c epoch mask))

/-- LINK_EVENT. -/
def execLinkEvent (c : CtlHdr) (node port : B8) (cause : Fin 16) (s : State) : Res := .next (s.ctlIn c (.linkEvent node port cause))

/-- An action of Aclia that a moment or a condition brings, after the messages that waited for it; while Aclia is unavailable none happens
(R16). -/
def State.aclActs (s : State) (f : State → State) : State := if s.acl.up then f s.drainCtl else s

/-- HELLO_ROUND, once Aclia is available. -/
def execHelloRound (s : State) : Res := .next (s.aclActs State.helloRound)

/-- NO_MANAGER, once Aclia is available. -/
def execNoManager (s : State) : Res := .next (s.aclActs State.noManager)

/-- PUBLISH_START, once Aclia is available. -/
def execPublishStart (s : State) : Res := .next (s.aclActs State.publishStart)

/-- GO_DEADLINE, once Aclia is available. -/
def execGoDeadline (s : State) : Res := .next (s.aclActs State.goDeadline)

/-- REROUTE_START, once Aclia is available. -/
def execRerouteStart (s : State) : Res := .next (s.aclActs State.rerouteStart)

/-- GO_TIME, once Aclia is available. -/
def execGoTime (s : State) : Res := .next (s.aclActs State.goTime)

/-! ### Late notices and repetition (R228, R291) -/

/-- LATE_NOTICE at the ingress device, which its hardware takes. -/
def execLateNotice (c : CtlHdr) (e : LateRec) (s : State) : Res :=
  .next (
    if s.nodeId = 0xFF ∨ s.seamLive c.stn = false then s
    else if !c.tagOk then s.bump F.FAB_ROUTE_ERR_ROUTE_ERR
    else if e.ingNode.toNat = s.nodeId then s.enterLate e
    else s)

/-- A message given up: a late notice is counted, a request carried to another node is answered TIMEOUT. -/
def State.gaveUp (s : State) (o : CtlOut) : State :=
  let s := if o.kind = 0x30 then
      (s.bump F.ERR_LATE_LOST_NOTICES).raiseLim ms100 (256 * o.dest + o.fields.getD 7 0) 0x09 0x2802 2 scDev 0 [o.dest, o.fields.getD 7 0]
    else s
  match o.req with
  | some r => s.settleReq r .timeout 0 []
  | none => s

/-- CONTROL_MESSAGE_RESEND: sent again, up to 4 times in all; a late notice by the hardware, the others by Aclia once it is available. -/
def execControlMessageResend (mseq : B32) (s : State) : Res :=
  .next (
    match s.fab.out.find? fun o => o.mseq == mseq.toNat with
    | none => s
    | some o =>
      if !s.acl.up && o.kind != 0x30 then s
      else if o.sends < 4 then
        let g (x : CtlOut) : CtlOut := if x.mseq = o.mseq then { x with sends := x.sends + 1 } else x
        ({ s with fab := { s.fab with out := s.fab.out.map g } }).emit (.ctl o.dest o.kind o.mseq o.fields)
      else ({ s with fab := { s.fab with out := s.fab.out.filter fun x => x.mseq != o.mseq } }).gaveUp o)

end Sys2Proof.Machine
end

