-- ==== Sys2Proof/Machine/Lend.lean ====
section
/-!
DEFINITION. Machine/Lend.lean: the opcodes of group 0x04xx (Table 14.10): windows, requesters, permissions and port defaults as they are
staged (R128 to R130), and lendings from LEND to their end (R140, R144, R146).
-/

namespace Sys2Proof.Machine

/-! ### Images (R203) -/

/-- A station has an image installed, or one is staged for it in the key's transaction. -/
def State.imageFor (s : State) (key : B32) (st : Nat) : Bool :=
  !(s.bstn st).active.isEmpty || (s.bstn st).swap != 0 || (match s.txn key with
    | some t => t.items.any fun i => match i.what with
      | .image m _ _ => bit m st
      | _ => false
    | none => false)

/-! ### Windows (R128) -/

/-- Two valid entries of one virtual switch share an address. -/
def winMeet (a b : Win) : Bool :=
  a.idx != b.idx && a.valid && b.valid && a.vs == b.vs && decide (a.base ≤ b.limit) && decide (b.base ≤ a.limit)

/-- What a window entry's own words must satisfy. -/
def State.winRange (s : State) (w : Win) (v w0 : Nat) : Bool :=
  !w.valid || (w.vs == v && decide (w.base ≤ w.limit) && w.base % 4096 == 0 && w.limit % 4096 == 4095 && decide (w0 < 2 ^ 28)
    && (w.dkind != 0 || s.exists w.dest) && (w.dkind != 1 || decide (w.dest ≤ 47)))

/-- Cross-checks of a window entry in its stations: overlaps, grants without PROXY, fabric grants (R296). -/
def State.winCross (s : State) (m idx : Nat) (w : Win) : Bool :=
  !w.valid || (!((maskStations m).any fun st => (s.wins st).any fun x => winMeet (s.win st idx) x)
    && !(w.dkind == 0 && !w.proxy && !s.portIn w.dest w.vs) && !(w.dkind == 2 && !w.proxy && s.grpVs w.dest != w.vs)
    && !(w.dkind == 1 && (w.proxy || w.dest == s.nodeId)))

/-- A partition manager's entry stays inside its own virtual switch. -/
def State.winOwn (s : State) (v : Nat) (w : Win) : Bool :=
  !w.proxy && (w.dkind == 3 || (w.dkind == 0 && s.portIn w.dest v) || (w.dkind == 2 && s.grpVs w.dest == v))

/-- STAGE_WINDOW. -/
def execStageWindow (h : Hdr) (idx mask : B16) (entry : List B32) (s : State) : Res :=
  .next (s.serve (.stageWindow h idx mask entry)
    { code := 0x0400, kind := .S, who := [.fm, .pm], forms := [.vs], len := entry.length == 8 } h
    ([.u16 idx.toNat, .u16 mask.toNat] ++ entry.map fun w => .u32 w.toNat) fun x s =>
      let i := idx.toNat
      let m := if mask.toNat = 0 then (s.vsStations x.n).foldl (fun m st => m + 2 ^ st) 0 else mask.toNat
      let g (k : Nat) : Nat := (entry.getD k 0).toNat
      let w := winOf i g
      let sc := s.scratch x.key
      if 4096 ≤ i ∨ g 1 ≠ 0 then .fail .badParam s
      else if w.hw || ((maskStations m).any fun st => (sc.win st i).hw) then .fail .denied s
      else if !sc.winRange w x.n (g 0) then .fail .badParam s
      else if x.isP && ((w.valid && !s.winOwn x.n w) || (maskStations m).any fun st => !(s.vsStations x.n).contains st) then .fail .denied s
      else s.stage_ x [.window m i entry] 36 fun sc =>
        if !sc.winCross m i w then some (.stagedConflict, 0)
        else if w.valid && w.prog && ((maskStations m).any fun st => !s.imageFor x.key st) then some (.stagedConflict, 0)
        else if !(sc.validGrants.all sc.grantOk) then some (.stagedConflict, 0)
        else none)

/-! ### Requesters, permissions, port defaults -/

/-- STAGE_REQUESTER (R129). -/
def execStageRequester (h : Hdr) (add : B8) (entry : B64) (s : State) : Res :=
  .next (s.serve (.stageRequester h add entry) { code := 0x0401, kind := .S, who := [.fm], forms := [.stn] } h
    [.u8 add.toNat, .u8 0, .u8 0, .u8 0, .u32 (entry.toNat % 2 ^ 32), .u32 (entry.toNat / 2 ^ 32)] fun x s =>
      let e := entry.toNat
      let p := reqPort e
      let sc := s.scratch x.key
      let old := sc.reqFind x.n (reqRid e) p
      if 2 ≤ add.toNat ∨ reqLent e = true ∨ 2 ^ 43 ≤ e ∨ (144 ≤ p ∧ p ≠ 0xFF) ∨ (add.toNat = 1 ∧ reqValid e = false) then .fail .badParam s
      else if add.toNat = 1 then
        if old.isSome then .fail .stagedConflict s
        else if (sc.reqFree x.n (reqRid e) p).isNone then .fail .noResource s
        else if reqProg e && !s.imageFor x.key x.n then .fail .stagedConflict s
        else s.stage_ x [.requester x.n true entry] 12 fun _ => none
      else match old with
        | none => .fail .stagedConflict s
        | some i => if reqLent (sc.tw64 tReq x.n i 0) then .fail .stagedConflict s
                    else s.stage_ x [.requester x.n false entry] 12 fun _ => none)

/-- Pairs of the permission matrix as packed four per byte. -/
def permVals (vals : Bytes) (n : Nat) : List Nat := (List.range n).map fun i => bits (vals.getD (i / 4) 0).toNat (2 * (i % 4)) 2

/-- STAGE_PERMISSION (R130). -/
def execStagePermission (h : Hdr) (rclass first : B8) (count : B16) (vals : Bytes) (s : State) : Res :=
  .next (s.serve (.stagePermission h rclass first count vals)
    { code := 0x0402, kind := .S, who := [.fm], forms := [.stn, .dev], len := vals.length == (count.toNat + 3) / 4 } h
    ([.u8 rclass.toNat, .u8 first.toNat, .u16 count.toNat] ++ vals.map fun b => .u8 b.toNat) fun x s =>
      let n := count.toNat
      if n = 0 ∨ 256 < first.toNat + n then .fail .badParam s
      else s.stage_ x [.perm (if x.form == .dev then 0xFFFF else 2 ^ x.n) rclass.toNat first.toNat (permVals vals n)]
        (4 + vals.length) fun _ => none)

/-- STAGE_PORT_DEFAULT (R124, R129). -/
def execStagePortDefault (h : Hdr) (rclass prog : B8) (s : State) : Res :=
  .next (s.serve (.stagePortDefault h rclass prog) { code := 0x0403, kind := .S, who := [.fm], forms := [.port] } h
    [.u8 rclass.toNat, .u8 prog.toNat] fun x s =>
      let st := stnOf x.n
      let k := kOf x.n
      if 2 ≤ prog.toNat then .fail .badParam s
      else s.stage_ x [.regs [fldPart (F.STN_CLS_PORT_DEF_DEF_RCLASS st k) rclass.toNat,
          fldPart (F.STN_CLS_PORT_DEF_DEF_PROG st k) prog.toNat]] 2 fun _ =>
        if prog.toNat = 1 ∧ s.imageFor x.key st = false then some (.stagedConflict, 0) else none)

/-! ### Lendings (R140) -/

/-- Words of a lending as LEND and LEND_RESUME check them. -/
structure LendReq where
  w : Nat → Nat

def LendReq.owner (r : LendReq) : Nat := bits (r.w 0) 3 5
def LendReq.port (r : LendReq) : Nat := bits (r.w 0) 8 8
def LendReq.vs (r : LendReq) : Nat := bits (r.w 0) 16 5
def LendReq.vdev (r : LendReq) : Nat := bits (r.w 0) 21 5
def LendReq.prog (r : LendReq) : Bool := bit (r.w 0) 27
def LendReq.rid (r : LendReq) : Nat := bits (r.w 1) 0 16
def LendReq.vport (r : LendReq) : Nat := bits (r.w 1) 16 8
def LendReq.ord (r : LendReq) (k : Nat) : Nat := ordOf (r.w 3) (r.w 4) k
def LendReq.m64 (r : LendReq) (k : Nat) : Bool := bit (r.w 4) (6 + k)

/-- BAD_PARAM conditions on the words themselves. -/
def LendReq.ok (r : LendReq) : Bool :=
  bits (r.w 0) 1 2 == 0 && decide (r.w 0 < 2 ^ 28) && decide (r.w 1 < 2 ^ 24) && decide (r.w 3 < 2 ^ 30) && decide (r.w 4 < 2 ^ 18)
    && (List.range 6).all (fun k => r.ord k == 0 || (decide (12 ≤ r.ord k) && decide (r.ord k ≤ 48)))
    && (List.range 6).all (fun k => !r.m64 k || (decide (k < 5) && r.ord (k + 1) == 0)) && decide (144 ≤ r.vport) && r.vdev != 0

/-- The index of a virtual function below its physical function, if REAL_RID is one of its enabled ones. -/
def vfIndex (pr : SrIov) (rid : Nat) : Option Nat :=
  if pr.enabled && pr.memEnabled then
    (List.range pr.numVfs).find? fun i => (pr.pf.toNat + pr.first + i * pr.stride) % 65536 == rid
  else none

/-- REAL_BASE of BAR k: the VF BAR base plus the index times 2^ORD. -/
def LendReq.real (r : LendReq) (pr : SrIov) (i k : Nat) : Nat :=
  if r.ord k = 0 then 0 else (pr.bars.getD k 0 + i * 2 ^ r.ord k) % 2 ^ 64

/-- Device numbers and port numbers in use below virtual switch v, apart from those of lending `me`. -/
def State.vdevUsed (s : State) (v d : Nat) (me : Nat × Nat) : Bool :=
  (allPorts.any fun p => s.pciRole p == 2 && s.vsOf p == v && s.devnum p == d)
    || ((s.borrowed v).any fun x => x != me && s.lendVdev x.1 x.2 == d) || (s.homes v).any fun i => s.bindVdev i == d
def State.vportUsed (s : State) (v n : Nat) (me : Nat × Nat) : Bool :=
  ((s.borrowed v).any fun x => x != me && s.lendVport x.1 x.2 == n) || (s.homes v).any fun i => s.bindVport i == n

/-- STAGED_CONFLICT conditions of R140, for lending `me`. -/
def State.lendClash (s : State) (r : LendReq) (pr : SrIov) (me : Nat × Nat) : Bool :=
  let st := stnOf r.port
  r.owner == r.vs || (s.usp r.vs).isNone || !(s.pciRole r.port == 2 && s.vsOf r.port == r.owner && s.stage r.port == stACTIVE)
    || s.vdevUsed r.vs r.vdev me || s.vportUsed r.vs r.vport me || (vfIndex pr r.rid).isNone
    || !(inBuses (s.secBus r.port) (s.subBus r.port) (r.rid / 256))
    || (s.lends st).any fun i => (st, i) != me && s.lendPort st i == r.port && s.lendRid st i == r.rid

/-- Some REAL_BASE is not aligned to its size. -/
def LendReq.misaligned (r : LendReq) (pr : SrIov) (i : Nat) : Bool :=
  (List.range 6).any fun k => r.ord k != 0 && r.real pr i k % 2 ^ r.ord k != 0

/-- Words 0 to 31 of an active lending. -/
def LendReq.words (r : LendReq) (pr : SrIov) (i : Nat) : List B32 :=
  let w (n : Nat) : B32 := BitVec.ofNat 32 n
  [w (r.w 0 / 2 * 2 + 1 + 2), w (r.w 1), w (r.w 2), w (r.w 3), w (r.w 4), 0]
    ++ ((List.range 6).flatMap fun k => [w (r.real pr i k), w (r.real pr i k / 2 ^ 32)]) ++ List.replicate 14 0

/-- LEND (R140): the physical function is read by proxied configuration reads, which find what the command names, or what is free where it
names nothing (log entry 8). -/
def execLend (h : Hdr) (words : List B32) (s : State) (found : Option SrIov := none) : Res :=
  .next (s.serve (.lend h words found) { code := 0x0404, kind := .S, who := [.fm], forms := [.vs], len := words.length == 5 } h
    (words.map fun w => .u32 w.toNat) fun x s =>
      let r : LendReq := { w := fun k => (words.getD k 0).toNat }
      let pr := found.getD (Config.sriov s.clk.free)
      let s := s.nextFree
      let st := stnOf r.port
      let sc := s.scratch x.key
      if !r.ok || r.owner != x.n then .fail .badParam s
      else match (List.range 256).find? fun i => !sc.lendValid st i with
        | none => .fail .noResource s
        | some idx =>
          if sc.lendClash r pr (99, 0) then .fail .stagedConflict s
          else if r.misaligned pr ((vfIndex pr r.rid).getD 0) then .fail .badParam s
          else if r.prog && !s.imageFor x.key st then .fail .stagedConflict s
          else if (sc.reqFree st r.rid r.port).isNone then .fail .noResource s
          else
            let a := s.stage_ x [.lend st idx (r.words pr ((vfIndex pr r.rid).getD 0)) pr] 20 fun _ => none
            { a with data := [.u8 idx] })

/-- Forget what a host left in a virtual downstream port. -/
def State.vdpClear (s : State) (st i : Nat) : State :=
  let lo := vdpKey st i 0 0
  { s with tbl := { s.tbl with vdp := s.tbl.vdp.filter fun x => !(decide (lo ≤ x.1) && decide (x.1 < lo + 2 * 4096)) } }

/-- A lending is active: presence and link appear to B, with 0x3010. -/
def State.lendActive (s : State) (st i : Nat) : State :=
  let s := (s.setLendState st i 1).vdpChanged st i
  (s.hwAll st i).raise (srcStn st) 0x3010 0 (scVs (s.lendOwner st i))
    [i, s.lendRid st i, s.lendVs st i, s.lendVdev st i, s.lendVport st i]

/-- LEND_RESUME (R144): the checks of R140 again. -/
def execLendResume (h : Hdr) (idx : B8) (s : State) (found : Option SrIov := none) : Res :=
  .next (s.serve (.lendResume h idx found) { code := 0x0405, kind := .I, who := [.fm], forms := [.stn] } h [.u8 idx.toNat] fun x s =>
    let st := x.n
    let i := idx.toNat
    if !s.lendValid st i then .fail .badParam s
    else if s.lendState st i != 2 then .fail .notIdle s
    else
      let pr := found.getD (Config.sriov s.clk.free)
      let s := s.nextFree
      let r : LendReq := { w := s.lw st i }
      if s.lendClash r pr (st, i) then .fail .stagedConflict s
      else if r.misaligned pr ((vfIndex pr r.rid).getD 0) then .fail .badParam s
      else .ok (s.lendActive st i))

/-- LEND_RECLAIM (R146). -/
def execLendReclaim (h : Hdr) (idx mode : B8) (limit : B32) (s : State) : Res :=
  .next (s.serve (.lendReclaim h idx mode limit) { code := 0x0406, kind := .A, who := [.fm], forms := [.stn] } h
    [.u8 idx.toNat, .u8 mode.toNat, .u16 0, .u32 limit.toNat] fun x s =>
      let st := x.n
      let i := idx.toNat
      if !s.lendValid st i || decide (2 ≤ mode.toNat) then .fail .badParam s
      else if s.lendState st i = 3 ∨ s.reclaiming st i ≠ 0 then .fail .busy s
      else
        let s := s.asyncObj (256 * st + i) mode.toNat
        if mode.toNat = 1 then { st := .accepted, s := s.lendRelease st i 1 }
        else
          let s := s.setVdp st i 0 ofSLTCTL (s.vdp st i 0 ofSLTCTL ||| slAttn)
          let s := { s with tbl := { s.tbl with reclaim := SMap.set (fun _ => 0) s.tbl.reclaim (256 * st + i) 1 } }
          { st := .accepted, s := s.reclaimGoOn st i })

/-- Clear the window entries of a lending's BARs in every station. -/
def State.hwDrop (s : State) (st i : Nat) : State :=
  let v := s.lendVs st i
  let p := s.lendPort st i
  let reals := ((List.range 6).filter fun k => s.lendOrd st i k != 0).map fun k => s.lendReal st i k
  (List.range 16).foldl (fun s x => ((s.wins x).filter fun w => w.hw && w.vs == v && w.dest == p
    && reals.contains ((w.base + w.offset) % 2 ^ 64)).foldl (fun s w => s.setEntry tWin x w.idx 0 (List.replicate 8 0)) s) s

/-- Requests discarded since a lending began to release. -/
def State.lendDiscards (s : State) (st i : Nat) : Nat := SMap.get (fun _ => 0) s.tbl.discards (256 * st + i)

/-- LEND_RECLAIMED: windows, numbers and the entry are freed (R146). -/
def execLendReclaimed (st : Stn) (idx : Fin 256) (s : State) : Res :=
  .next (
    if !s.lendValid st idx || s.lendState st idx != 3 then s
    else
      let i := idx.val
      let k := 256 * st.val + i
      let owner := s.lendOwner st i
      let mode := s.reclaiming st i - 1
      let n := s.lendDiscards st i
      let s := s.hwDrop st i
      let s := match s.reqFind st (s.lendRid st i) (s.lendPort st i) with
        | some j => s.setTw64 tReq st j 0 0
        | none => s
      let s := (s.setEntry tLend st i 0 (List.replicate 32 0)).vdpClear st i
      let f (t : Tbl) : Tbl := { t with discards := SMap.set (fun _ => 0) t.discards k 0, reclaim := SMap.set (fun _ => 0) t.reclaim k 0,
                                        probes := SMap.set (fun _ => default) t.probes k default }
      ({ s with tbl := f s.tbl }).raiseEnd (fun a => a.opcode == 0x0406 && a.obj == k) (srcStn st) 0x3011 0 (scVs owner) [i, mode, n])

/-- RECLAIM_TIMEOUT: nothing changes but the opcode's final status. -/
def execReclaimTimeout (cred tag : B32) (s : State) : Res :=
  .next (
    let mine (a : Async) : Bool := a.opcode == 0x0406 && a.cred == cred && a.tag == tag && a.ended == none
    match s.cmd.asyncs.find? mine with
    | none => s
    | some a =>
      if s.lendState (a.obj / 256) (a.obj % 256) = 3 then s
      else ({ s with tbl := { s.tbl with reclaim := SMap.set (fun _ => 0) s.tbl.reclaim a.obj 0 } }).endAsync mine .timeout none)

end Sys2Proof.Machine
end

