-- ==== Sys2Proof/Machine/Security.lean ====
section
/-!
DEFINITION. Machine/Security.lean: credentials as opcodes open and close them (R391, R392), customer keys (R204, Table 14.21), the rollback
counter (R361) and the debug-lock fuse (R375).
-/

namespace Sys2Proof.Machine

def anyCls : List Cls := [.fm, .obs, .pm, .tenant]

/-- The highest class a channel admits (R380). -/
def State.maxClass (s : State) (c : Nat) : Nat :=
  if c = 0 then (if s.flag F.ACW_FW_STATUS_UART_BOOT then 3 else s.get (F.ACW_CHAN_CFG_MAX_CLASS 0))
  else s.get (F.ACW_CHAN_CFG_MAX_CLASS c)

/-- CRED_OPEN. -/
def execCredOpen (h : Hdr) (cls vs : B8) (s : State) : Res :=
  .next (s.serve (.credOpen h cls vs) { code := 0x0F00, kind := .I, who := anyCls, forms := [.dev], cred0 := true } h
    [.u8 cls.toNat, .u8 vs.toNat] fun _ s =>
    let c := h.chan.val
    match (if 3 < cls.toNat then none else Cls.ofCode cls.toNat) with
    | none => .fail .badParam s
    | some k =>
      let pm := k == .pm
      if pm && decide (32 ≤ vs.toNat) then .fail .badParam s 1
      else if s.maxClass c < cls.toNat || (pm && decide (3 ≤ c) && chanVs c != some vs.toNat) then .fail .denied s
      else
        let mk (g : Nat) : Cred := { gen := g, cls := k, vs := if pm then vs.toNat else 0xFF, panel := 0, chan := c, eid := bindEid c h.eid.toNat }
        match s.openCred mk with
        | some (id, s) => { st := .ok, data := [.u32 id.toNat], s := s }
        | none => .fail .noResource s)

/-- CRED_CLOSE closes the credential that sends it. -/
def execCredClose (h : Hdr) (s : State) : Res :=
  .next (s.serve (.credClose h) { code := 0x0F01, kind := .I, who := anyCls, forms := [.dev] } h [] fun x s =>
    .ok (s.closeIdx (credIdx x.key)))

/-- CRED_TENANT: bound to the issuer's channel. -/
def execCredTenant (h : Hdr) (s : State) : Res :=
  .next (s.serve (.credTenant h) { code := 0x0F02, kind := .I, who := [.fm, .pm], forms := [.panel] } h [] fun x s =>
    match s.panelVs x.n with
    | none => .fail .notIdle s
    | some v =>
      if x.isP && v != x.vs then .fail .badScope s
      else
        let mk (g : Nat) : Cred := { gen := g, cls := .tenant, vs := v, panel := x.n, chan := h.chan.val, eid := bindEid h.chan.val h.eid.toNat }
        match s.openCred mk with
        | some (id, s) => { st := .ok, data := [.u32 id.toNat], s := s }
        | none => .fail .noResource s)

/-! ### Fuses -/

/-- Fuses as 0xA004 numbers them (log entry 12): 0 rollback, 1 key, 2 revoke, 3 debug lock. -/
def fzRollback : Nat := 0
def fzKey : Nat := 1
def fzRevoke : Nat := 2
def fzDebug : Nat := 3

/-- A failed burn: 0xA004 and HW_FAULT. -/
def State.burnFailed (s : State) (fuse : Nat) : Ans :=
  .fail .hwFault ((s.raise 0x01 0xA004 4 scDev [fuse, Config.burnBit s.clk.free]).nextFree)

/-- A burn, and whether it reads back as written: what the command names, or what is free where it names nothing (log entry 8). The fuse is
burnt at the device's boundary. -/
def State.burn (s : State) (fuse ix : Nat) (burnt : Option Bool) : State × Bool :=
  ((s.nextFree).emit (.fuse fuse ix), burnt.getD (Config.burnOk s.clk.free))

def State.keySlot (s : State) (k : Nat) : KeySlot := SMap.get (fun _ => {}) s.acl.keys k
def State.setKeySlot (s : State) (k : Nat) (x : KeySlot) : State :=
  { s with acl := { s.acl with keys := SMap.set (fun _ => {}) s.acl.keys k x } }

/-- Field prime and constant b of P-384 (the curve the spec names; log entry 9). -/
def p384 : Nat := 2 ^ 384 - 2 ^ 128 - 2 ^ 96 + 2 ^ 32 - 1
def p384b : Nat := 0xb3312fa7e23ee7e4988e056be3f82d19181d9c6efe8141120314088f5013875ac656398d8a2ed19d2a85c8edd3ec2aef

/-- An uncompressed point of the curve with coordinates below the field prime. -/
def keyOk (key : Bytes) : Bool :=
  let x := beNat (slice key 1 48)
  let y := beNat (slice key 49 48)
  leAt key 0 1 == 4 && decide (x < p384) && decide (y < p384) && (y * y) % p384 == (x * x * x + (p384 - 3) * x + p384b) % p384

/-- KEY_ENROLL. -/
def execKeyEnroll (h : Hdr) (slot : B8) (key pad : Bytes) (s : State) (burnt : Option Bool := none) : Res :=
  .next (s.serve (.keyEnroll h slot key pad burnt)
    { code := 0x0F03, kind := .I, who := [.fm], forms := [.dev], len := key.length == 97 && pad.length == 3 } h
    ([.u8 slot.toNat, .u8 0, .u8 0, .u8 0] ++ (key ++ pad).map fun b => .u8 b.toNat) fun _ s =>
    let n := slot.toNat
    let k := s.keySlot n
    if n < 1 || 4 < n || !keyOk key || pad.any (· != 0) then .fail .badParam s
    else if k.enrolled || k.revoked then .fail .stagedConflict s
    else match s.burn fzKey n burnt with
      | (s, true) => .ok ((s.setKeySlot n { k with enrolled := true, key := key }).raise 0x01 0xA006 1 scDev
          [n, leNat ((Config.sha384 key).take 8)])
      | (s, false) => s.burnFailed fzKey)

/-- KEY_REVOKE. -/
def execKeyRevoke (h : Hdr) (slot : B8) (s : State) (burnt : Option Bool := none) : Res :=
  .next (s.serve (.keyRevoke h slot burnt) { code := 0x0F04, kind := .I, who := [.fm], forms := [.dev] } h [.u8 slot.toNat] fun _ s =>
    let n := slot.toNat
    let k := s.keySlot n
    if n < 1 || 4 < n then .fail .badParam s
    else if k.revoked then .fail .stagedConflict s
    else match s.burn fzRevoke n burnt with
      | (s, true) => .ok ((s.setKeySlot n { k with revoked := true }).raise 0x01 0xA007 1 scDev [n])
      | (s, false) => s.burnFailed fzRevoke)

/-- ROLLBACK_ADVANCE (R361): the counter is set to RUN_SVN; after a failed burn it reads whatever the fuses hold. -/
def execRollbackAdvance (h : Hdr) (s : State) (burnt : Option Bool := none) : Res :=
  .next (s.serve (.rollbackAdvance h burnt) { code := 0x0F05, kind := .I, who := [.fm], forms := [.dev] } h [] fun _ s =>
    let svn := s.get F.ACW_SEC_STATUS_RUN_SVN
    let old := s.acl.rollback
    let set (s : State) (n : Nat) : State := ({ s with acl := { s.acl with rollback := n } }).put F.ACW_SEC_STATUS_ROLLBACK n
    if s.flag F.ACW_FW_STATUS_TRIAL || s.flag F.ACW_FW_STATUS_UART_BOOT then .fail .notIdle s
    else match s.burn fzRollback svn burnt with
      | (s, true) => { st := .ok, data := [.u8 svn], s := (set s svn).raise 0x01 0xA005 1 scDev [old, svn] }
      | (s, false) => (set s (min 64 (Config.burnt s.clk.free))).burnFailed fzRollback)

/-! ### The debug lock (R375) -/

/-- DEBUG_ARM. While armed it answers BUSY, and as an opcode of its group it disarms (log entry 27). -/
def execDebugArm (h : Hdr) (s : State) : Res :=
  .next (s.serve (.debugArm h) { code := 0x0F06, kind := .I, who := [.fm], forms := [.dev] } h [] fun x s =>
    if s.acl.debugLocked then .fail .locked s
    else if s.acl.arm.isSome then .fail .busy (s.disarmFor 3)
    else
      let ch := Config.challenge s.clk.free
      let s := { s.nextFree with acl := { s.acl with arm := some { challenge := ch, chan := h.chan.val, cred := x.key } } }
      { st := .ok, data := [.u32 ch.toNat],
        s := (s.putB F.ACW_SEC_STATUS_ARMED true).raise 0x01 0xA001 1 scDev [h.chan.val] })

/-- DEBUG_CONFIRM. -/
def execDebugConfirm (h : Hdr) (chal : B32) (s : State) (burnt : Option Bool := none) : Res :=
  .next (s.serve (.debugConfirm h chal burnt) { code := 0x0F07, kind := .I, who := [.fm], forms := [.dev] } h [.u32 chal.toNat] fun x s =>
    if s.acl.debugLocked then .fail .locked s
    else match s.acl.arm with
      | none => .fail .notIdle s
      | some a =>
        if a.challenge ≠ chal ∨ a.chan ≠ h.chan.val ∨ a.cred ≠ x.key then .fail .denied (s.disarmFor 4)
        else
          let s := ({ s with acl := { s.acl with arm := none } }).putB F.ACW_SEC_STATUS_ARMED false
          match s.burn fzDebug 0 burnt with
          | (s, true) => .ok ((({ s with acl := { s.acl with debugLocked := true } }).putB F.ACW_SEC_STATUS_DEBUG_LOCKED true).raise
              0x01 0xA002 1 scDev [])
          | (s, false) => s.burnFailed fzDebug)

/-- DEBUG_ARM_EXPIRY: 60 s have passed since the lock was armed. -/
def execDebugArmExpiry (s : State) : Res := .next (s.disarmFor 1)

/-! ### Channels and status -/

/-- STAGE_CHANNEL. -/
def execStageChannel (h : Hdr) (ch cls : B8) (s : State) : Res :=
  .next (s.serve (.stageChannel h ch cls) { code := 0x0F09, kind := .S, who := [.fm], forms := [.dev] } h [.u8 ch.toNat, .u8 cls.toNat] fun x s =>
    if 66 < ch.toNat || 3 < cls.toNat then .fail .badParam s
    else s.stage_ x [.regs [fldPart (F.ACW_CHAN_CFG_MAX_CLASS ch.toNat) cls.toNat]] 4 fun _ => none)

/-- SEC_STATUS: ACW_SEC_STATUS and the state of slots 1 to 4 (0 empty, 1 enrolled, 2 revoked; log entry 24). -/
def execSecStatus (h : Hdr) (s : State) : Res :=
  .next (s.serve (.secStatus h) { code := 0x0F0A, kind := .R, who := [.fm, .obs], forms := [.dev] } h [] fun _ s =>
    let st (k : KeySlot) : Nat := if k.revoked then 2 else if k.enrolled then 1 else 0
    .read s (.u32 (s.reg F.ACW_SEC_STATUS_ROLLBACK.addr).toNat :: (List.range 4).map fun i => .u8 (st (s.keySlot (i + 1)))))

end Sys2Proof.Machine
end

