-- ==== Sys2Proof/Machine/StageReg.lean ====
section
/-!
DEFINITION. Machine/StageReg.lean: what staged register values must satisfy: the ranges of each register's table (BAD_PARAM) and the
cross-checks of the chapters (STAGED_CONFLICT), and STAGE_REG (R395, Table 14.8).
-/

namespace Sys2Proof.Machine

/-! ### Cross-checks -/

/-- No entry stands twice in a list. -/
def noRepeat : List Nat → Bool
  | [] => true
  | x :: xs => !xs.contains x && noRepeat xs

/-- R67 without resolution: one upstream port for each virtual switch, every downstream port's virtual switch has one, its device number
is its own (R69), and a slot is named by one port. -/
def State.portMapOk (s : State) : Bool :=
  let ps := allPorts.filter s.exists
  let usps := (ps.filter fun p => s.pciRole p == 1).map s.vsOf
  let ds := ps.filter fun p => s.pciRole p == 2
  let slots := (ps.filter fun p => s.hasSlot p && !s.seamMode (stnOf p)).map s.slotOf
  noRepeat usps && ds.all (fun p => usps.contains (s.vsOf p)) && noRepeat (ds.map fun p => s.vsOf p * 32 + s.devnum p) && noRepeat slots
    && ds.all fun p => !((s.borrowed (s.vsOf p)).any fun x => s.lendVdev x.1 x.2 == s.devnum p)
        && !((s.homes (s.vsOf p)).any fun i => s.bindVdev i == s.devnum p)

/-- Panels bound, by the registers that have been written. -/
def State.boundList (s : State) : List Nat :=
  (s.regs.filterMap fun x =>
    if decide (0x02340000 ≤ x.1 ∧ x.1 < 0x02380000) && x.1 % 0x40 == 0 then some ((x.1 - 0x02340000) / 0x40) else none).filter
      fun n => s.flag (F.SHT_PNL_BIND_VALID n)

/-- Manager groups in use, by the registers that have been written. -/
def State.groupList (s : State) : List Nat :=
  (s.regs.filterMap fun x =>
    if decide (groupAddr 0 5 ≤ x.1 ∧ x.1 ≤ groupAddr 255 5) && (x.1 - groupAddr 0 5) % 0x20 == 0 then some ((x.1 - groupAddr 0 5) / 0x20) else none)

/-- Cross-checks over the whole configuration (R395). The banks' sums have a status of their own at COMMIT (R99). -/
def State.crossAll (s : State) : Option (Status × Nat) :=
  let pn := s.boundList
  if !s.portMapOk || !s.traceOk || !noRepeat (pn.map fun n => s.pVs n * 2 ^ 20 + s.pPasid n) then some (.stagedConflict, 0)
  else if (List.range 16).any (fun st => s.flag (F.STN_OB_CTL_FLUSH_MODE st)) && !s.sieveOn then some (.stagedConflict, 0)
  else if (List.range 16).any fun st => decide (16384 < s.sumQmin st) then some (.stagedConflict, 0)
  else if !(s.validGrants.all s.grantOk) then some (.stagedConflict, 0)
  else if s.groupList.any fun g => (s.groupCheck g).isSome then some (.stagedConflict, 0)
  else if pn.any fun n => (List.range 16).any fun g => !s.slotOk n g then some (.stagedConflict, 0)
  else none

/-- A port default sets PROG in a station that has no image, and none in the transaction of this key (R203). -/
def State.progDefault (s : State) (key : B32) (a : Nat) : Bool :=
  (List.range 16).any fun st => (List.range 9).any fun k =>
    (F.STN_CLS_PORT_DEF_DEF_PROG st k).addr == a && s.flag (F.STN_CLS_PORT_DEF_DEF_PROG st k) && !s.imageFor key st

/-- Cross-checks of the registers that items name: groups (R159), port defaults (R203). -/
def State.crossRegs (s : State) (key : B32) (as : List Nat) : Option (Status × Nat) :=
  match (as.filter fun a => decide (0x02102000 ≤ a ∧ a < 0x02104000)).findSome? fun a => s.groupCheck ((a - 0x02102000) / 0x20) with
  | some x => some x
  | none => if as.any (s.progDefault key) then some (.stagedConflict, 0) else none

/-! ### STAGE_REG -/

/-- A register of the fabric's tables: pins, routes, bindings, exports, link directions (R287). -/
def fabReg (a : Nat) : Bool := decide (0x02200018 = a) || decide (0x02201000 ≤ a ∧ a < 0x02206000)

/-- Whether a partition manager may stage a register (R395, R335): none that it may, else why not. -/
def pmReg (v a : Nat) : Option Status :=
  if 0x00180000 ≤ a ∧ a < 0x00180400 then (if (a - 0x00180000) / 0x20 = v then none else some .badScope)
  else if a = 0x00180400 + 4 * v ∨ a = 0x02600100 + 4 * v then none
  else some .denied

/-- Stage items one at a time on a scratch state; the first refused item and its status. -/
def State.tryItems : State → Nat → List (Nat × B32 × B32) → Except (Status × Nat) (List (Nat × B32 × B32))
  | _, _, [] => .ok []
  | sc, i, (a, m, v) :: rest =>
    let mask := regMask (fun c => c == .rwc || c == .qo) a
    if m &&& ~~~mask ≠ 0 ∨ mask = 0 then .error (.badParam, i)
    else
      let x := sc.normItem a m v
      let sc := sc.maskReg x.1 x.2.1 x.2.2
      if zeroQlim x || !sc.regRange a then .error (.badParam, i)
      else match State.tryItems sc (i + 1) rest with
        | .ok l => .ok (x :: l)
        | .error e => .error e

/-- STAGE_REG. -/
def execStageReg (h : Hdr) (items : List (B32 × B32 × B32)) (s : State) : Res :=
  .next (s.serve (.stageReg h items)
    { code := 0x0200, kind := .S, who := [.fm, .pm], forms := [.dev], len := decide (1 ≤ items.length ∧ items.length ≤ 340) } h
    (items.flatMap fun x => [.u32 x.1.toNat, .u32 x.2.1.toNat, .u32 x.2.2.toNat]) fun x s =>
    let ws := items.map fun y => (y.1.toNat, y.2.1, y.2.2)
    let bad : Option (Status × Nat) := if x.isP then
        (ws.zip (List.range ws.length)).findSome? fun y => (pmReg x.vs y.1.1).map fun st => (st, y.2) else none
    match bad with
    | some (st, d) => .fail st s d
    | none =>
      match (s.scratch x.key).tryItems 0 ws with
      | .error (st, d) => .fail st s d
      | .ok norm =>
        if norm.any (fun y => fabReg y.1) && decide (47 < s.get F.FAB_STATE_MGR_NODE) then .fail .notIdle s
        else
          let a := s.stage_ x [.regs norm] (12 * items.length) fun sc =>
            match sc.crossAll with
            | some e => some e
            | none => sc.crossRegs x.key (norm.map fun y => y.1)
          if a.st = .ok then
            { a with s := (ws.filter fun y => isEqReg y.1).foldl (fun t y => t.eqEvents y.1 (s.scratch x.key |>.reg y.1 |>.and (~~~y.2.1)
              |>.or (y.2.2 &&& y.2.1)).toNat) a.s }
          else a)

end Sys2Proof.Machine
end

