-- ==== Sys2Proof/Machine/Info.lean ====
section
/-!
DEFINITION. Machine/Info.lean: the information opcodes (Table 14.7), and the opcodes of the fabric group (Table 14.13).
-/

namespace Sys2Proof.Machine

/-! ### Information (Table 14.7) -/

/-- GET_INFO (R2). -/
def execGetInfo (h : Hdr) (s : State) : Res :=
  .next (s.serve (.getInfo h) { code := 0x0100, kind := .R, who := anyCls, forms := [.dev], cred0 := true } h [] fun x s =>
    let uid := s.get F.FAB_UID_LO_UID_LO + s.get F.FAB_UID_HI_UID_HI * 2 ^ 32
    .read s [.u16 0x1F4E, .u16 0x7272, .u8 0xA1, .u8 (s.get F.GLB_STRAP_CODE), .u8 (s.get F.FAB_ID_NODE_ID),
      .u8 ((x.cls.map Cls.code).getD 0), .u32 (s.get F.ACW_FW_VERSION_FW_VERSION), .u64 uid, .u8 x.vs])

/-- The words of a READ_REG, read by initiator 0 (log entry 24). -/
def State.readWords (s : State) (a : Nat) : Nat → State × List B32
  | 0 => (s, [])
  | n + 1 =>
    let (s, l) := s.readWords a n
    let (s, w) := s.readBy 0 (a + 4 * n)
    (s, l ++ [w])

/-- READ_REG; the address is that of an aligned word of the device register space. -/
def execReadReg (h : Hdr) (addr count : B32) (s : State) : Res :=
  .next (s.serve (.readReg h addr count) { code := 0x0101, kind := .R, who := [.fm, .obs, .pm], forms := [.dev] } h
    [.u32 addr.toNat, .u32 count.toNat] fun _ s =>
    let a := addr.toNat
    let n := count.toNat
    if a % 4 ≠ 0 ∨ n = 0 ∨ 1020 < n ∨ 0x04000000 < a + 4 * n then .fail .badParam s
    else
      let s := s.prbsAdvanceAll
      match (List.range n).find? fun i => !s.regOn (a + 4 * i) with
      | some i => .fail .hwFault s i
      | none =>
        let (s, l) := s.readWords a n
        .read s (l.map fun w => .u32 w.toNat))

/-- Requester classes that a port default or a requester entry of a virtual switch's ports uses in a station. -/
def State.classesOf (s : State) (st v : Nat) : List Nat :=
  let mine := (s.vsPorts v).filter fun p => stnOf p == st
  (mine.map fun p => s.get (F.STN_CLS_PORT_DEF_DEF_RCLASS st (kOf p)))
    ++ (s.tIdxs tReq st).filterMap fun i =>
      let e := s.tw64 tReq st i 0
      if reqValid e && mine.contains (reqPort e) then some (reqClass e) else none

/-- Whether a partition manager of v sees entry i of a table. -/
def State.seesEntry (s : State) (v st t i : Nat) : Bool :=
  if t = tWin then (s.win st i).vs == v
  else if t = tReq then (s.vsPorts v).contains (reqPort (s.tw64 tReq st i 0))
  else if t = tPerm then (s.classesOf st v).contains (i / 16)
  else if t = tLend then s.lendOwner st i == v || s.lendVs st i == v
  else (s.vsPorts v).contains (9 * st + i / 256)

/-- READ_TABLE. -/
def execReadTable (h : Hdr) (table copy : B8) (first count : B32) (s : State) : Res :=
  .next (s.serve (.readTable h table copy first count) { code := 0x0102, kind := .R, who := [.fm, .obs, .pm], forms := [.stn] } h
    [.u8 table.toNat, .u8 copy.toNat, .u16 0, .u32 first.toNat, .u32 count.toNat] fun x s =>
    let t := table.toNat
    let n := count.toNat
    let (w, total) := tableShape t
    if 4 < t ∨ 1 < copy.toNat ∨ n = 0 ∨ total < first.toNat + n ∨ 4080 < 4 * w * n then .fail .badParam s
    else if !s.pdOn (16 + x.n) then .fail .hwFault s
    else
      let word (i k : Nat) : Nat :=
        if x.isP && !s.seesEntry x.vs x.n t i then 0
        else if copy.toNat = 1 then s.twShadow t x.n i k else s.tw t x.n i k
      .read s ((List.range n).flatMap fun i => (List.range w).map fun k => .u32 (word (first.toNat + i) k)))

/-- GET_ASYNC (R398). -/
def execGetAsync (h : Hdr) (tag : B32) (s : State) : Res :=
  .next (s.serve (.getAsync h tag) { code := 0x0103, kind := .R, who := [.fm, .obs, .pm, .tenant], forms := [.dev, .node] } h [.u32 tag.toNat]
    fun x s =>
    match s.cmd.asyncs.reverse.find? fun a => a.cred == x.key && a.tag == tag with
    | none => .fail .badParam s
    | some a =>
      let (e, st) := match a.ended with
        | some st => (1, statusCode st)
        | none => (0, statusCode .accepted)
      .read s [.u8 e, .u8 0, .u16 st, .u32 a.seq])

/-! ### Fabric opcodes (Table 14.13) -/

/-- FABRIC_STATE. -/
def execFabricState (h : Hdr) (s : State) : Res :=
  .next (s.serve (.fabricState h) { code := 0x0700, kind := .R, who := [.fm, .obs], forms := [.node] } h [] fun _ s =>
    .read s ([F.FAB_STATE_STEP.addr, F.FAB_TIME_STAT_SYNC.addr, F.FAB_CNT_REROUTES.addr].map fun a => .u32 (s.regRead a).toNat))

/-- A TOPO body in a reply: node, number of Seam ports, UID, and for each port its number, partner node and port, rate and whether it is
ACTIVE (field widths of log entry 24). -/
def topoDat (n : Nat) (uid : Nat) (ls : List TopoLink) : List Dat :=
  [.u8 n, .u8 ls.length, .u16 0, .u32 (uid % 2 ^ 32), .u32 (uid / 2 ^ 32)]
    ++ ls.flatMap fun l => [.u8 l.port.toNat, .u8 l.partnerNode.toNat, .u8 l.partnerPort.toNat, .u8 (l.rate + 128 * b2n l.active)]

/-- FABRIC_TOPOLOGY: this node first, then the others it knows. -/
def execFabricTopology (h : Hdr) (s : State) : Res :=
  .next (s.serve (.fabricTopology h) { code := 0x0701, kind := .R, who := [.fm, .obs], forms := [.dev] } h [] fun _ s =>
    if s.nodeId = 0xFF ∨ s.get F.FAB_STATE_STEP < 10 then .fail .notIdle s
    else
      let ns := (List.range 48).filter fun n => (s.node n).known && n != s.nodeId
      .read s (topoDat s.nodeId s.ownUid s.ownLinks ++ ns.flatMap fun n => topoDat n (s.node n).uid.toNat (s.node n).links))

/-- An opcode that changes fabric state needs a manager node (R293). -/
def State.managed (s : State) : Bool := decide (s.get F.FAB_STATE_MGR_NODE < 48)

/-- STAGE_PIN (R284): one pin of this node. -/
def execStagePin (h : Hdr) (ing : B16) (vc node pin : B8) (s : State) : Res :=
  .next (s.serve (.stagePin h ing vc node pin) { code := 0x0702, kind := .S, who := [.fm], forms := [.node] } h
    [.u16 ing.toNat, .u8 vc.toNat, .u8 node.toNat, .u8 pin.toNat] fun x s =>
    if 159 < ing.toNat ∨ 1 < vc.toNat ∨ 47 < node.toNat ∨ 3 < pin.toNat then .fail .badParam s
    else if !s.managed then .fail .notIdle s
    else
      let f := F.FAB_PIN_PINS (3 * (2 * ing.toNat + vc.toNat) + node.toNat / 16)
      s.stage_ x [.regs [fldPart { f with lo := 2 * (node.toNat % 16), w := 2 } pin.toNat]] 8 fun _ => none)

/-- What R294 asks of a staged binding, on the state it makes: VDEV and VPORT of the home entry in range (BAD_PARAM), a device number and a
Port Number of its virtual switch that nothing else uses, and at the far node a port of ROLE 3 that no other binding holds. -/
def State.bindingOk (s : State) (hi fi : Nat) (home far : List B32) : Option (Status × Nat) :=
  let w0 := (home.getD 0 0).toNat
  let fw := (far.getD 0 0).toNat
  let here := s.bindingHere hi fi home far
  let atHome := here.any fun x => x.1 == bindAddr hi 0
  let fp := bits (far.getD 1 0).toNat 8 8
  let v := s.bindVs hi
  if bit w0 0 && (bit w0 1 || bits w0 9 5 == 0 || decide (bits w0 14 8 < 144)) then some (.badParam, 0)
  else if bit fw 0 && (!bit fw 1 || decide (144 ≤ fp)) then some (.badParam, 1)
  else if bit w0 0 && atHome && (!s.portMapOk
      || (s.borrowed v).any (fun x => s.lendVport x.1 x.2 == s.bindVport hi || s.lendVdev x.1 x.2 == s.bindVdev hi)
      || (s.homes v).any fun i => i != hi && (s.bindVport i == s.bindVport hi || s.bindVdev i == s.bindVdev hi)) then some (.stagedConflict, 0)
  else if bit fw 0 && (here.any fun x => x.1 == bindAddr fi 0) && (s.role fp != 3
      || (List.range 64).any fun i => i != fi && s.bindValid i && s.bindFar i && s.bindFarPort i == fp) then some (.stagedConflict, 1)
  else none

/-- STAGE_BINDING: the home and the far entry together (R294). -/
def execStageBinding (h : Hdr) (hi fi : B8) (home far : List B32) (s : State) : Res :=
  .next (s.serve (.stageBinding h hi fi home far)
    { code := 0x0703, kind := .S, who := [.fm], forms := [.dev], len := home.length == 4 && far.length == 4 } h
    ([.u8 hi.toNat, .u8 fi.toNat, .u16 0] ++ (home ++ far).map fun w => .u32 w.toNat) fun x s =>
    if 63 < hi.toNat ∨ 63 < fi.toNat then .fail .badParam s
    else if !s.managed then .fail .notIdle s
    else s.stage_ x [.binding hi.toNat fi.toNat home far] 36 fun sc => sc.bindingOk hi.toNat fi.toNat home far)

/-- STAGE_EXPORT (R296): one export entry of this node. -/
def execStageExport (h : Hdr) (idx : B8) (entry : List B32) (s : State) : Res :=
  .next (s.serve (.stageExport h idx entry)
    { code := 0x0704, kind := .S, who := [.fm], forms := [.node], len := entry.length == 4 } h
    ([.u8 idx.toNat, .u8 0, .u8 0, .u8 0] ++ entry.map fun w => .u32 w.toNat) fun x s =>
    if !s.managed then .fail .notIdle s
    else s.stage_ x [.regs ((entry.zip (List.range 4)).map fun w => regWhole (exportAddr idx.toNat w.2) w.1.toNat)] 20 fun _ => none)

/-- REROUTE (R286, R287): the manager node takes every usable link into its tables and changes the routes that differ. -/
def execReroute (h : Hdr) (s : State) : Res :=
  .next (s.serve (.reroute h) { code := 0x0705, kind := .A, who := [.fm], forms := [.dev] } h [] fun _ s =>
    if s.nodeId = 0xFF ∨ !s.managed then .fail .notIdle s
    else if s.fab.hold.isSome ∨ s.fab.publishing ∨ s.fab.goAt.isSome then .fail .busy s
    else { st := .accepted, s := s.startChange [] (2 ^ 48 - 1) 0 })

end Sys2Proof.Machine
end

