-- ==== Sys2Proof/Machine/Commit.lean ====
section
/-!
DEFINITION. Machine/Commit.lean: COMMIT (R10, R133, R396): its checks, the change of every register and table it carries, what follows from
a changed register, and the flips of the station tables; ABORT, TXN_STATUS and the ends of transactions (R397, R398).
-/

namespace Sys2Proof.Machine

/-! ### Quiesce-only fields -/

/-- The block of a register with QO fields is running (R10, R43, R72, R305, R447). A port counts as quiesced with ROLE 0 (R468). -/
def State.qoBusy (s : State) (a : Nat) : Bool :=
  match regFind a with
  | none => false
  | some (r, ix) =>
    match r.base, ix with
    | 0x01000000, [st] => (s.stnPorts st).any fun p => s.stage p != stOFF
    | 0x01020000, [st, k] => s.exists (9 * st + k) && s.role (9 * st + k) != 0 && !s.quiesced (9 * st + k)
    | 0x01020004, [st, k] => s.exists (9 * st + k) && s.role (9 * st + k) != 0 && !s.quiesced (9 * st + k)
    | 0x02400100, [n] => n != 16 && s.spState n != spOFF && s.spState n != spLATCHED
    | b, i :: _ =>
      if 0x01021000 ≤ b ∧ b < 0x0102100C then s.seamMode i && s.stage (9 * i) != stOFF
      else if 0x02340000 ≤ b ∧ b < 0x02340018 then s.pState i != pUnbound && s.pState i != pStopped
      else false
    | _, [] => false

/-- A register's QO fields change between two states. -/
def qoChange (old new : State) (a : Nat) : Bool := (old.reg a ^^^ new.reg a) &&& regMask (· == .qo) a != 0

/-! ### Cross-checks of one item -/

/-- The cross-checks of an item's own chapter, on the state before it and the state with it. -/
def State.itemCheck (s before after : State) (key : B32) (k : ItemK) : Option Status :=
  let prog (m : Nat) : Bool := (maskStations m).all (s.imageFor key)
  match k with
  | .window m idx e =>
    let w := winOf idx fun i => (e.getD i 0).toNat
    if !after.winRange w w.vs (e.getD 0 0).toNat || !after.winCross m idx w || (w.valid && w.prog && !prog m) then some .stagedConflict else none
  | .requester st add e =>
    let n := e.toNat
    let old := before.reqFind st (reqRid n) (reqPort n)
    if add then
      (if old.isSome || (reqProg n && !s.imageFor key st) then some .stagedConflict
       else if (before.reqFree st (reqRid n) (reqPort n)).isNone then some .noResource else none)
    else if old.isNone then some .stagedConflict else none
  | .lend st idx words pr =>
    let r : LendReq := { w := fun i => (words.getD i 0).toNat }
    if before.lendValid st idx || before.lendClash r pr (st, idx) || (r.prog && !s.imageFor key st) then some .stagedConflict
    else if (before.reqFree st r.rid r.port).isNone then some .noResource else none
  | .image m _ _ => if (maskStations m).any s.swapBusy then some .busy else none
  | .regions m _ => if (maskStations m).any s.rulesBusy then some .busy else none
  | .bind n v _ => if after.pasidTaken n v (after.pPasid n) then some .stagedConflict else none
  | .unbind n => if s.pState n != pStopped then some .busy else none
  | .binding hi fi home far => (after.bindingOk hi fi home far).map fun _ => .stagedConflict
  | .regs _ => none
  | .perm .. => none
  | .proxyRegions _ => none

/-- Every item in its turn: the state with all of them, or the first that fails. -/
def State.tryCommit (s : State) (key : B32) : State → Nat → List ItemK → Except (Status × Nat) State
  | sc, _, [] => .ok sc
  | sc, i, k :: ks =>
    let sc' := sc.applyItem k
    match s.itemCheck sc sc' key k with
    | some st => .error (st, i)
    | none => State.tryCommit s key sc' (i + 1) ks

/-- The registers an item writes. -/
def itemRegs (k : ItemK) : List Nat :=
  match k with
  | .regs ws => ws.map fun x => x.1
  | .bind _ _ ws => ws.map fun x => x.1
  | .unbind _ => itemKeys k
  | _ => []

/-- The stations whose tables an item changes. -/
def itemStations (k : ItemK) : List Nat :=
  match k with
  | .window m _ _ => maskStations m
  | .perm m _ _ _ => maskStations m
  | .requester st _ _ => [st]
  | .lend st _ _ _ => [st]
  | .image m _ _ => maskStations m
  | .regions m _ => maskStations m
  | _ => []

/-- An earlier COMMIT has changed what item i stages since it was staged (R396). -/
def State.overtaken (s : State) (items : List Item) : Option Nat :=
  ((items.zip (List.range items.length)).find? fun x =>
    (itemKeys x.1.what).any fun k => decide (x.1.stamp < SMap.get (fun _ => 0) s.cmd.stamps k)).map Prod.snd

/-! ### Flips (R133) -/

/-- A station makes its shadow copy active. -/
def State.flipStn (s : State) (st : Nat) : State :=
  let mine := s.tbl.shadow.filter fun x => stnKey st x.1
  let here (a : Nat) : Bool := decide (0x01000000 + 0x100000 * st ≤ a) && decide (a < 0x01100000 + 0x100000 * st)
  let regs := s.tbl.flipRegs.filter fun x => here x.1
  let s := mine.foldl (fun s x => s.setKey x.1 x.2) s
  let s := regs.foldl (fun s x => s.setReg x.1 x.2) s
  let keys := mine.map Prod.fst
  let t := s.tbl
  let s := { s with tbl := { t with shadow := t.shadow.filter (fun x => !stnKey st x.1), flipRegs := t.flipRegs.filter (fun x => !here x.1),
                                    bad := t.bad.filter fun k => !keys.contains k } }
  (s.putB (F.STN_CLS_STATUS_FLIP_PENDING st) false).put (F.STN_CLS_STATUS_BANK st) (1 - s.get (F.STN_CLS_STATUS_BANK st))

def State.flipPending (s : State) (st : Nat) : Bool := s.flag (F.STN_CLS_STATUS_FLIP_PENDING st)

/-- The reply of a COMMIT follows when its last block reports. -/
def State.commitReport (s : State) : State :=
  match s.cmd.owed with
  | none => s
  | some r =>
    if (List.range 16).any s.flipPending then s
    else ((({ s with cmd := { s.cmd with owed := none } }).answer r .ok 0 []).keep r .ok 0 [])

/-- TABLE_FLIP. -/
def execTableFlip (st : Stn) (s : State) : Res :=
  .next ((if s.flipPending st then s.flipStn st else s).commitReport)

/-- The COMMIT before has ended: its flips are done (COMMITs are carried out one at a time). -/
def State.flipAll (s : State) : State :=
  (((List.range 16).filter s.flipPending).foldl State.flipStn s).commitReport

/-! ### What follows from a changed register -/

/-- A station's lane mode has changed (R43, R277, R411). -/
def State.modeChanged (old s : State) (st : Nat) : State :=
  let seam := s.seamMode st && !old.seamMode st
  let s := if seam && s.nodeId == 0xFF then s.raise 0x06 0x5101 2 scDev [1, st] else s
  let s := if s.seamMode st != old.seamMode st then s.put (F.STN_LN_STATUS_SPARE_ROLE st 16) (b2n (s.seamMode st)) else s
  let s := if s.hold st && !old.hold st then s.leaveHeld st
    else if !s.hold st && old.hold st && s.pow.sequenced then s.unholdStn st else s
  s.kickStn st

/-- Power Controller Control matches the state of the slot's controller (R89). -/
def State.pccMatch (s : State) (p : Nat) : State :=
  if !s.hasSlot p then s
  else
    let off := !s.cmdOn (s.slotOf p)
    (s.setCw p ofSLTCTL (setBit (s.cw p ofSLTCTL) 10 off)).putB (F.STN_PORT_HP_STATUS_PCC (stnOf p) (kOf p)) off

/-- A port's registers have changed (R72, R89, R469). -/
def State.portChanged (old s : State) (p : Nat) : State :=
  if !s.exists p || s.seamMode (stnOf p) then s
  else
    let own (t : State) : Bool := t.flag (F.STN_PORT_CFG_HP_OWNER (stnOf p) (kOf p))
    let s := if own s != own old then s.pccMatch p else s
    if old.role p = s.role p ∧ old.vsOf p = s.vsOf p ∧ old.devnum p = s.devnum p then s
    else
      let v := old.vsOf p
      let s := if old.role p = 1 ∧ (s.usp v).isNone then s.modVs v fun w => { w with published := false } else s
      (s.cfgReset p).unquiesce p

/-- PERST_N of a slot that no port with ROLE 2 or 3 names any more falls (R436). -/
def State.perstDrop (s : State) (n : Nat) : State :=
  if (s.spcSt n).perst && (s.portOfSlot n).isNone then s.modSpc n fun x => { x with perst := false } else s

/-- A panel's binding has changed (Table 11.2, R327, R392). -/
def State.panelChanged (old s : State) (n : Nat) : State :=
  let was := old.flag (F.SHT_PNL_BIND_VALID n)
  let is := s.flag (F.SHT_PNL_BIND_VALID n)
  if is && !was then
    ((s.setP n pStopped).put (F.SHT_PNL_STATE_SQ_HEAD n) 0).modPnl n fun _ => {}
  else if was && !is then
    let s := ((s.setReg (F.SHT_PNL_STATE_STATE n).addr 0).modPnl n fun _ => {}).clearSlots n
    s.closeCreds fun c => c.cls == .tenant && c.panel == n
  else s

/-- Grant slots of a panel whose grant is not what it was (R317). -/
def State.revokeSlots (old s : State) (n : Nat) : State :=
  let body (t : State) (q : Nat) : List Nat :=
    [F.SHT_GNT_CTL_VALID q, F.SHT_GNT_BASE_LO_BASE_LO q, F.SHT_GNT_BASE_HI_BASE_HI q, F.SHT_GNT_SIZE_SIZE q].map fun f => (t.reg f.addr).toNat
  let see (t : State) (g : Nat) : Option (Nat × List Nat) := (t.slotGrant n g).map fun q => (q, body t q)
  let gs := (List.range 16).filter fun g => (see old g).isSome && see old g != see s g
  if gs.isEmpty then s else s.modPnl n fun x => { x with revoked := x.revoked ++ gs.filterMap (old.grantNow n) }

/-- The highest class a channel admits falls below a credential's class: it closes (R391). A tenant credential closes when the channel
admits none. -/
def State.classFell (s : State) (c : Nat) : State :=
  let m := s.maxClass c
  s.closeCreds fun x => x.chan == c && (if x.cls = .tenant then m == 0 else decide (m < x.cls.code))

/-- What follows from the change of one register. -/
def State.regChanged (old s : State) (a : Nat) : State :=
  if old.reg a = s.reg a then s
  else match regFind a with
    | none => s
    | some (r, ix) =>
      match r.base, ix with
      | 0x01000000, [st] => State.modeChanged old s st
      | 0x01020000, [st, k] => State.portChanged old s (9 * st + k)
      | 0x01020004, [_, _] => (List.range 16).foldl (fun s n => (s.perstDrop n).hpSync n) s
      | 0x02500100, [u] => s.raise 0x08 0x7202 0 scDev [u, s.get (F.PMC_GRANT_CTL_VS u), s.get (F.PMC_GRANT_CTL_EN u),
          s.get (F.PMC_READ_MASK_READ_MASK u)]
      | 0x02500200, [u] =>
        if old.reg (F.PMC_GRANT_CTL_VS u).addr = s.reg (F.PMC_GRANT_CTL_VS u).addr then
          s.raise 0x08 0x7202 0 scDev [u, s.get (F.PMC_GRANT_CTL_VS u), s.get (F.PMC_GRANT_CTL_EN u), s.get (F.PMC_READ_MASK_READ_MASK u)]
        else s
      | 0x02340000, [n] => State.panelChanged old s n
      | 0x02400100, [n] => State.spcHold old s n
      | 0x00101000, [c] => s.classFell c
      | b, [x] =>
        if 0x02101000 ≤ b ∧ b ≤ 0x02101008 then
          (List.range 16).foldl (fun s st => s.setSampler st x { s.sampler st x with left := 0 }) s
        else s
      | _, _ => s

/-- Everything that follows from a COMMIT that has written the registers `as`, and BIFURC of the stations `bifs`. -/
def State.afterCommit (old s : State) (as bifs : List Nat) : State :=
  let s := allPorts.foldl (fun s p => if (s.port p).hpRaised then s.modPort p fun x => { x with hpRaised := false } else s) s
  let s := as.foldl (fun s a => State.regChanged old s a) s
  let s := bifs.foldl (fun s st => if bifurcValid (s.get (F.STN_LANE_MODE_BIFURC st)) then s.putB (F.STN_LANE_STATUS_BIFURC_ERR st) false else s) s
  let grants := as.any fun a => decide (0x02340020 ≤ a ∧ a < 0x02384000)
  let s := if grants then s.boundList.foldl (fun s n => State.revokeSlots old s n) s else s
  let ports := as.any fun a => decide (0x01000000 ≤ a ∧ a < 0x02000000) && decide (a % 0x100000 < 0x21000)
  let s := if ports then (s.allLends.filter fun x => s.lendState x.1 x.2 == 1).foldl (fun s x => s.hwAll x.1 x.2) s else s
  s.alertEval

/-! ### The change itself -/

/-- No register twice. -/
def addrsOf (ks : List ItemK) : List Nat := (ks.flatMap itemRegs).eraseDups

/-- Stations whose BIFURC an item writes. -/
def bifsOf (ks : List ItemK) : List Nat :=
  ks.flatMap fun k => match k with
    | .regs ws => ws.filterMap fun x => match regFind x.1 with
      | some (r, [st]) => if r.base = 0x01000000 ∧ x.2.1.toNat / 256 % 256 ≠ 0 then some st else none
      | _ => none
    | _ => []

def isPortDef (a : Nat) : Bool := decide (0x01000000 ≤ a ∧ a < 0x02000000) && decide (0x40100 ≤ a % 0x100000 ∧ a % 0x100000 < 0x40124)

/-- Table words that differ between two states. -/
def wordsChanged (old new : State) : List (Nat × B32) :=
  let g (m : SMap B32) (k : Nat) : B32 := SMap.get (fun _ => 0) m k
  (((old.tbl.words ++ new.tbl.words).map Prod.fst).eraseDups.filter fun k => g old.tbl.words k != g new.tbl.words k).map
    fun k => (k, g new.tbl.words k)

/-- The words of this node's fabric tables that a set of items writes, by node, address and value: registers of the tables, and bindings. -/
def State.fabWords (s sc : State) (ks : List ItemK) : List (Nat × Nat × B32) :=
  (((addrsOf ks).filter fabReg).map fun a => (s.nodeId, a, sc.reg a))
    ++ ks.flatMap fun k => match k with
      | .binding hi fi home far => bindingWords hi fi home far
      | _ => []

/-- The destination nodes that words of the pin and route tables touch (R284, R287). -/
def State.touched (s : State) (ws : List (Nat × Nat × B32)) : Nat :=
  ws.foldl (fun m w =>
    let a := w.2.1
    if 0x02201000 ≤ a ∧ a < 0x02201300 then setBit m ((a - 0x02201000) / 16) true
    else if 0x02202000 ≤ a ∧ a < 0x02202F00 then
      let i := (a - 0x02202000) / 4
      (List.range 16).foldl (fun m j => if bits w.2.2.toNat (2 * j) 2 = bits (s.reg a).toNat (2 * j) 2 then m
        else setBit m (i % 3 * 16 + j) true) m
    else m) 0

/-- Items that change the data plane beside registers and tables: images, regions, the proxy's regions. -/
def State.applyLive (s : State) (k : ItemK) : State :=
  match k with
  | .image m rolling img => (maskStations m).foldl (fun s st => s.installImage st rolling img) s
  | .regions m recs => (maskStations m).foldl (fun s st => s.installRegions st recs) s
  | .proxyRegions recs =>
    let s := s.modThm 292 fun x => x.install recs
    (s.put F.ACW_EP_PROXY_THM_EPOCH (s.thm 292).epoch).putB F.ACW_EP_PROXY_THM_FENCE_PEND true
  | .regs _ => s
  | .window .. => s
  | .requester .. => s
  | .perm .. => s
  | .lend .. => s
  | .bind .. => s
  | .unbind _ => s
  | .binding .. => s

/-- Every shadow copy is written and one commit starts: registers change, tables wait for the flip of their station, lendings become active
in the stations that carry them. `sc` is the state with every item applied. -/
def State.applyCommit (s sc : State) (ks : List ItemK) : State :=
  let as := (addrsOf ks).filter fun a => !fabReg a
  let words := s.tbl.shadow ++ wordsChanged s sc
  let defs := (as.filter isPortDef).map fun a => (a, sc.reg a)
  let s1 := (as.filter fun a => !isPortDef a).foldl (fun t a => t.setReg a (sc.reg a)) s
  let s1 := { s1 with tbl := { s1.tbl with shadow := words, flipRegs := defs, regShadow := [], probes := sc.tbl.probes } }
  let stns := (List.range 16).filter fun st => words.any (fun x => stnKey st x.1) || defs.any fun x => (x.1 - 0x01000000) / 0x100000 == st
  let s1 := stns.foldl (fun t st => t.putB (F.STN_CLS_STATUS_FLIP_PENDING st) true) s1
  let lends := ks.filterMap fun k => match k with
    | .lend st idx _ _ => some (st, idx)
    | _ => none
  let s1 := lends.foldl (fun t x => ((if t.flipPending x.1 then t.flipStn x.1 else t).vdpClear x.1 x.2).lendActive x.1 x.2) s1
  let s1 := ks.foldl State.applyLive s1
  let n := s.cmd.commits + 1
  let keys := ks.flatMap itemKeys
  let s1 := { s1 with cmd := { s1.cmd with commits := n, stamps := keys.foldl (fun m k => SMap.set (fun _ => 0) m k n) s1.cmd.stamps } }
  State.afterCommit s s1 as (bifsOf ks)

/-- The stations that an image goes to. -/
def imageMask (ks : List ItemK) : Nat :=
  ks.foldl (fun m k => match k with
    | .image x _ _ => m ||| x
    | _ => m) 0

/-- What a COMMIT leaves for the fabric: the words wait for the next GO, and the manager node starts a route change of its own once it has
published (R287). -/
def State.commitFabric (s : State) (ws : List (Nat × Nat × B32)) : State :=
  let own := (ws.filter fun w => w.1 == s.nodeId).map Prod.snd
  let far := ws.filter fun w => w.1 != s.nodeId
  let s : State := { s with fab := { s.fab with own := s.fab.own ++ own, far := s.fab.far ++ far } }
  if s.managed && s.get F.FAB_STATE_MGR_NODE == s.nodeId && decide (12 ≤ s.get F.FAB_STATE_STEP) && s.fab.hold.isNone
      && !s.fab.publishing && s.fab.goAt.isNone then
    s.startChange [] (s.touched ws) 0
  else s

/-- The item changes a block under block reset (Table 15.2). -/
def State.itemBlocked (s : State) (k : ItemK) : Bool :=
  let code := match k with
    | .image .. | .regions .. => 2
    | _ => 1
  (itemRegs k).any s.blocked || (itemStations k).any fun st => s.pow.block == some (code, st)

/-- Whether the configuration that `sc` would bring may be committed: cross-checks, earlier COMMITs, quiesce-only fields, blocks under
reset (R396, R404). -/
def State.commitRefused (s sc : State) (key : B32) (items : List Item) (ks : List ItemK) : Option (Status × Nat) :=
  let as := addrsOf ks
  match sc.crossAll with
  | some e => some e
  | none => match sc.crossRegs key as with
    | some e => some e
    | none => match s.overtaken items with
      | some i => some (.stagedConflict, i)
      | none => if as.any (fun a => qoChange s sc a && s.qoBusy a) || ks.any s.itemBlocked then some (.busy, 0) else none

/-! ### Opcodes -/

def opTxn (code : Nat) (kind : OpKind) : OpInfo := { code := code, kind := kind, who := [.fm, .pm], forms := [.dev, .node] }

/-- COMMIT. -/
def execCommit (h : Hdr) (s : State) : Res :=
  .next (s.serve (.commit h) (opTxn 0x0201 .I) h [] fun x s =>
    match s.txn x.key with
    | none => .fail .notIdle s
    | some t =>
      let s := s.flipAll
      let ks := (if s.tbl.regShadow.isEmpty then [] else [ItemK.regs s.tbl.regShadow]) ++ t.items.map fun i => i.what
      let shift := ks.length - t.items.length
      match s.tryCommit x.key s 0 ks with
      | .error (st, i) => .fail st s (i - shift)
      | .ok sc =>
        match s.commitRefused sc x.key t.items ks with
        | some (st, d) => .fail st s d
        | none =>
          let off := (addrsOf ks).any (fun a => !s.regOn a) || (ks.flatMap itemStations).any fun st => !s.pdOn (16 + st)
          let im := imageMask ks
          let fw := s.fabWords sc ks
          let later := im != 0 || !fw.isEmpty
          if off then .fail .hwFault s
          else if later && decide (16 ≤ s.asyncLive x.key) then .fail .noResource s
          else
            let rec_ (obj : Nat) : Async := { cred := x.key, tag := h.tag, opcode := 0x0201, obj := obj, mode := 0, started := s.clk.now,
                                              ended := none, evId := none, seq := 0, endTime := 0 }
            let s1 := (s.applyCommit sc ks).dropTxn x.key
            let s1 := if im = 0 then s1
              else { s1 with cmd := { s1.cmd with asyncs := s1.cmd.asyncs ++ [rec_ (2 ^ 16 + im)], xfer := [], xferCred := 0 } }
            let s1 := if fw.isEmpty then s1
              else ({ s1 with cmd := { s1.cmd with asyncs := s1.cmd.asyncs ++ [rec_ (2 ^ 17)] } }).commitFabric fw
            if later then { st := .accepted, s := s1 }
            else if (List.range 16).any s1.flipPending then { st := .ok, s := s1, owed := true }
            else .ok s1)

/-- ABORT (R397). -/
def execAbort (h : Hdr) (s : State) : Res :=
  .next (s.serve (.abort h) (opTxn 0x0202 .I) h [] fun x s =>
    if (s.txn x.key).isNone then .fail .notIdle s else .ok (s.dropTxn x.key))

/-- TXN_STATUS. -/
def execTxnStatus (h : Hdr) (s : State) : Res :=
  .next (s.serve (.txnStatus h) (opTxn 0x0203 .R) h [] fun x s =>
    match s.txn x.key with
    | none => .fail .notIdle s
    | some t => .read s [.u32 t.bytes, .u32 t.items.length, .u32 ((s.clk.now - t.opened) / msec)])

/-- TRANSACTION_IDLE_TIMEOUT: no command for 60 s. -/
def execTransactionIdleTimeout (cred : B32) (s : State) : Res :=
  .next (match s.txn cred with
    | some t => s.discardTxn t 1
    | none => s)

/-- ASYNC_STATUS_EXPIRY: the final status of a kind-A command is forgotten. -/
def execAsyncStatusExpiry (cred tag : B32) (s : State) : Res :=
  let gone (a : Async) : Bool := a.cred == cred && a.tag == tag && a.ended.isSome
  .next { s with cmd := { s.cmd with asyncs := s.cmd.asyncs.filter fun (a : Async) => !gone a } }

end Sys2Proof.Machine
end

