-- ==== Sys2Proof/Machine/Depart.lean ====
section
/-!
DEFINITION. Machine/Depart.lean: RECORD_DEPART, the read of a queue head at its egress: permission (R104, R106, R137, R170), the outcome of
the buffer code and of the link entries (R108 to R110), verification of the basting tag (R211 to R213), poisoned egress blocking (R215),
MC_Overlay (R166), substituted requesters (R131, R297), and transmission or delivery (R333, R334).
-/

namespace Sys2Proof.Machine

/-! ### Which head may leave -/

/-- The port a queue of bank st transmits at; the trace queue at the trace port of its head. -/
def depPort (st q : Nat) (r : Rec) : Nat := if q = 57 then r.destPort else qPort st q

/-- The VC whose credit a record uses at its egress port. -/
def State.depVc (s : State) (q p : Nat) (r : Rec) : Nat := if q = 57 then s.vcOf p r.tlp.tc.val else (q / 3) % 2

/-- The link partner's credit for a record: unlimited, or a header and its data (R106). -/
def State.hasCredit (s : State) (q p : Nat) (r : Rec) : Bool :=
  let k := 3 * s.depVc q p r + r.cls
  let x := s.port p
  SMap.get (fun _ => false) x.txInf k
    || (decide (1 ≤ SMap.get (fun _ => 0) x.txHdr k) && decide (dataUnits r.tlp ≤ SMap.get (fun _ => 0) x.txData k))

/-- A record consumes its credit. -/
def State.useCredit (s : State) (q p : Nat) (r : Rec) : State :=
  let k := 3 * s.depVc q p r + r.cls
  if SMap.get (fun _ => false) (s.port p).txInf k then s
  else s.modPort p fun x =>
    { x with txHdr := SMap.set (fun _ => 0) x.txHdr k (SMap.get (fun _ => 0) x.txHdr k - 1)
             txData := SMap.set (fun _ => 0) x.txData k (SMap.get (fun _ => 0) x.txData k - dataUnits r.tlp) }

/-- The free entry of a station's fabric return table with the lowest tag. -/
def State.fretFree (s : State) (st : Nat) : Option Nat := (List.range 1024).find? fun t => (s.fret st t).isNone

/-- The tag that a record with a substituted requester takes, none while its table is full (R137); 0 for a record that needs none. -/
def State.returnTag (s : State) (p : Nat) (r : Rec) : Option Nat :=
  match r.crt with
  | none => some 0
  | some n => if n.fret then s.fretFree (stnOf p) else s.crtFree p

/-- The egress is a PCI Express port in a non-FLIT mode, which forwards cut-through (R30). -/
def State.cutThrough (s : State) (st q : Nat) (r : Rec) : Bool :=
  let p := depPort st q r
  (decide (q < 54) || q == 57) && !s.flag (F.STN_PORT_STATUS_FLIT (stnOf p) (kOf p))

/-- A TLP that port p has begun cut-through is not whole yet. -/
def State.midTlp (s : State) (st p : Nat) : Bool :=
  allQids.any fun q => match ((s.bank st).q q).recs.head? with
    | some r => r.started && depPort st q r == p
    | none => false

/-- The head of queue q may leave: it is committed (a non-FLIT egress begins before, R30), its posted records are ahead no longer, its port
is ACTIVE, not being flushed and not within another TLP, and it has credit and, where it needs one, a return entry. -/
def State.headReady (s : State) (st q : Nat) : Option Rec :=
  match ((s.bank st).q q).recs.head? with
  | none => none
  | some r =>
    let p := depPort st q r
    let portOk := s.stage p == stACTIVE && !bit (s.get (F.STN_OB_FLUSH_FLUSHING (stnOf p))) (kOf p)
      && s.hasCredit q p r && (s.returnTag p r).isSome && !s.midTlp st p
    let ok := (r.committed || s.cutThrough st q r) && (if q < 54 then s.countTest st q r && portOk
      else if q < 57 then s.countTest st q r else q == 57 && portOk)
    if ok then some r else none

def Bank.lastCls (b : Bank) (k v : Nat) : Nat := SMap.get (fun _ => 2) b.rrCls (2 * k + v)
def Bank.lastVc (b : Bank) (k : Nat) : Nat := SMap.get (fun _ => 1) b.rrVc k

/-- The class whose turn it is in VC v of port index k. -/
def State.turnCls (s : State) (st k v : Nat) : Option Nat :=
  ([1, 2, 3].map fun i => ((s.bank st).lastCls k v + i) % 3).find? fun c => (s.headReady st (6 * k + 3 * v + c)).isSome

/-- The VC whose turn it is at port index k. -/
def State.turnVc (s : State) (st k : Nat) : Option Nat :=
  ([1, 2].map fun i => ((s.bank st).lastVc k + i) % 2).find? fun v => (s.turnCls st k v).isSome

/-- R106: it is queue q's turn. The endpoint queues and the trace queue take no turns with others. -/
def State.depTurn (s : State) (st q : Nat) : Bool :=
  if q < 54 then s.turnVc st (q / 6) == some ((q / 3) % 2) && s.turnCls st (q / 6) ((q / 3) % 2) == some (q % 3) else true

/-- The client of the read port that a queue belongs to (R97): its port, 9 the endpoint queues, 10 the trace queue. -/
def readClient (q : Nat) : Nat := if q < 54 then q / 6 else if q < 57 then 9 else if q = 57 then 10 else 0

/-- The lines of the next handshake of the read port (R97): up to three, round-robin among the clients that have a head to deliver. -/
def State.readGrants (s : State) (st : Nat) : List Nat :=
  let want := (List.range 11).map fun k =>
    if allQids.any fun q => readClient q == k && (s.headReady st q).isSome then 3 else 0
  grants 11 3 want 3 (s.bank st).rdLast []

/-- Note a queue's turn as taken: of its port (R106), and of the read port, whose last line went to it (R97). -/
def State.takeTurn (s : State) (st q : Nat) : State :=
  let s := s.modBank st fun b => { b with rdLast := readClient q }
  if q < 54 then s.modBank st fun b =>
    { b with rrCls := SMap.set (fun _ => 2) b.rrCls (2 * (q / 6) + (q / 3) % 2) (q % 3)
             rrVc := SMap.set (fun _ => 1) b.rrVc (q / 6) ((q / 3) % 2) }
  else s

/-! ### Egress -/

/-- The egress port as events name it. -/
def evPort (st q : Nat) (r : Rec) : Nat := if 54 ≤ q ∧ q < 57 then 0xFE else depPort st q r

/-- The tag fails at final egress (R211 to R213): the record is discarded before its first byte, or nullified. -/
def State.tagFailed (s : State) (st q : Nat) (r : Rec) : State :=
  let p := evPort st q r
  let s := (s.bump (F.STN_BASTE_FAIL_FAIL st)).raiseLim ms100 (256 * st + p) (srcStn st) 0x2601 3 (if p = 0xFE then scStn st else scPort p) 0 [p, q]
  let s := if s.cutThrough st q r then s.nullify st p 1 r.tlp else s
  (s.integrityDiscard r st q 1).popRec st q

/-- The read lost the head (R108, R109): it is discarded, and nullified where its transmission has begun. -/
def State.headLost (s : State) (st q : Nat) (r : Rec) : State :=
  (if s.cutThrough st q r then s.nullify st (depPort st q r) 2 r.tlp else s).integrityDiscard r st q 2

/-- Poisoned TLP Egress Blocking (R215): set by the host of a DSP. -/
def State.poisonBlocked (s : State) (q p : Nat) (r : Rec) : Bool := r.tlp.ep && decide (q < 54) && s.pciRole p == 2 && bit (s.cw p ofDPC) 21

def State.blockPoison (s : State) (st q p : Nat) (r : Rec) : State :=
  let s := (s.aer p aePEB).headerLog p r.tlp.hdr
  let s := if r.cls = 0 then s.lateError r 5 p
           else if r.cls = 1 then s.completeRec r (if bit (s.cw p ofDPC) 18 then 1 else 4) else s
  (s.popRec st q).dpcError p aePEB 0x09

/-- MC_Overlay (R166): address bits from MC_Overlay_Size up are those of the port's MC_Overlay_BAR. An address that no longer fits 32 bits
takes the header's 64-bit form, and a digest is updated by the CRC of the change. -/
def State.overlaid (s : State) (p : Nat) (r : Rec) (t : Tlp) : Tlp :=
  let bar := s.cw64 p ofMCOVL
  let size := bits bar 0 6
  if r.mc && decide (6 ≤ size) then
    let a := bar / 2 ^ size * 2 ^ size + t.addr.toNat % 2 ^ size
    let wide := decide (t.addr.toNat < 2 ^ 32 ∧ 2 ^ 32 ≤ a)
    let u := reheader t { t with addr := BitVec.ofNat 64 a, len := if wide then t.len + 4 else t.len }
    { u with digest := u.digest.map fun d => d ^^^ Config.ecrc t ^^^ Config.ecrc u }
  else t

/-- A record with a substituted requester takes its return entry; its TLP leaves with the entry's tag. -/
def State.takeReturn (s : State) (p : Nat) (r : Rec) : State × Tlp :=
  match r.crt, s.returnTag p r with
  | some n, some tag =>
    let t := reheader r.tlp { r.tlp with tag := BitVec.ofNat 16 tag }
    if n.fret then
      (s.setFret (stnOf p) tag (some { origRid := n.rid, origTag := n.tag, origNode := n.node, origVs := n.vs, proxy := r.tlp.rid }), t)
    else (s.crtTake p tag n r.tlp.rid.toNat, t)
  | _, _ => (s, r.tlp)

/-- The TLP in the format of its egress link (R95). -/
def State.inFormat (s : State) (p : Nat) (r : Rec) (t : Tlp) : Tlp :=
  if s.flag (F.STN_PORT_STATUS_FLIT (stnOf p) (kOf p)) == r.hfmt then Config.convert t else t

/-- Transmission at a port: a low-power link state ends first. -/
def State.transmit (s : State) (st q p : Nat) (r : Rec) : State :=
  let pm := F.STN_PORT_STATUS_PM (stnOf p) (kOf p)
  let s := if 1 ≤ s.get pm ∧ s.get pm ≤ 3 then s.put pm 0 else s
  let (s, t) := s.takeReturn p r
  let v := s.depVc q p r
  let s := ((s.useCredit q p r).count (stnOf p) 0x03 (kOf p) r.cls v 1).count (stnOf p) 0x04 (kOf p) r.cls v r.tlp.len
  (s.emit (.tlp p (s.inFormat p r (s.overlaid p r t)))).popRec st q

/-- Delivery to an endpoint function; one that answers to nothing discards a posted request and refuses a non-posted one (R333, R334). -/
def State.deliverRec (s : State) (st q : Nat) (r : Rec) : State :=
  let f := (s.vs (r.ep / 2)).fn (r.ep % 2 == 1)
  let s := if q = 54 && !f.responds then s.bump F.ACW_EP_HOST_CNT_DISCARDED
           else if q = 55 && !f.responds then s.completeRec r 1
           else s.emit (.deliver r.ep r.tlp)
  s.popRec st q

/-- What an egress does with a head whose lines were read: its tag and length pass (R95, R211), or it is discarded. -/
def State.departHead (s : State) (st q : Nat) (r : Rec) (sound : Bool) : State :=
  let p := depPort st q r
  if !(sound && r.passes) then s.tagFailed st q r
  else if s.poisonBlocked q p r then s.blockPoison st q p r
  else if 54 ≤ q ∧ q < 57 then s.deliverRec st q r
  else s.transmit st q p r

/-- The head of queue q as it stands. -/
def State.headOf (s : State) (st q : Nat) (r : Rec) : Rec := (((s.bank st).q q).recs.head?).getD r

/-- A non-FLIT egress begins a head whose last line is still to come; bytes found wrong so far fail its tag at the end. -/
def State.beginHead (s : State) (st q : Nat) (sound : Bool) : State :=
  s.modBank st fun b =>
    let o := b.q q
    b.setQ q { o with recs := match o.recs with
      | [] => []
      | r :: rs => { (if sound then r else r.spoil) with started := true } :: rs }

/-- RECORD_DEPART: the head of queue q of a bank is read out, in its turn, and transmitted, delivered or discarded. A head whose last line is
still to come is begun, and goes out whole as it is committed. -/
def execRecordDepart (bank : Stn) (q : Fin 64) (phys : ReadPhys) (s : State) : Res :=
  .next (
    match s.headReady bank q with
    | none => s
    | some r =>
      if !s.depTurn bank q then s
      else
        let x := (s.takeTurn bank q).readHead bank q phys
        if x.2.lost then x.1.headLost bank q r
        else if r.committed then x.1.departHead bank q (x.1.headOf bank q r) phys.sound
        else x.1.beginHead bank q phys.sound)

/-- Heads that a non-FLIT egress has begun and that are whole now go out. -/
def State.finishHeads (s : State) (st : Nat) : State :=
  allQids.foldl (fun s q => match ((s.bank st).q q).recs.head? with
    | some r => if r.started && r.committed then s.departHead st q r true else s
    | none => s) s

/-- RECORD_COMMIT: the last line of the TLP's records in a bank is written (R101), and an egress that has begun one of them goes on to its
end (R30). -/
def execRecordCommit (bank : Stn) (id : Nat) (s : State) : Res :=
  .next ((((s.commitIn bank id).seamFinish bank).finishHeads bank).retrySeals bank)

/-- The payloads that leave at a record's start: those closed short, or for a record still arriving one flit that leaves its end to come. -/
def startParts (whole : Bool) (cuts : List (Fin 57)) (b : Bytes) : List Bytes :=
  if !whole && cuts.isEmpty then [b.take (min 228 (b.length - 4))] else shortChunks cuts b

/-- A record of which only the first n bytes could be read: zeros follow them. -/
def Rec.cutTo (r : Rec) (n : Nat) : Rec :=
  { r with tlp := { r.tlp with hdr := r.tlp.hdr.take n, data := r.tlp.data.take (n - r.tlp.hdr.length), digest := none } }

/-- SEAM_RECORD_START: class c starts its head record in its turn (R246). A record whose last bytes are still to come stays open. A record
whose first line is lost never starts; one that loses a later line is filled with zeros and marked. `cuts` are the doublewords of record
stream in each flit closed short. -/
def execSeamRecordStart (st : Stn) (c : Fin 4) (phys : ReadPhys) (cuts : List (Fin 57)) (s : State) : Res :=
  .next (
    if s.seamTurn st != some c.val then s
    else match s.seamHead st c with
    | none => s
    | some r0 =>
      let r := r0.onSeam
      let b := recStream (s.carriage st c r) r.tlp
      let parts := startParts r.committed cuts b
      let cut := parts.flatten.length
      if b.length ≤ cut ∨ 1536 < (s.seam st).store.length + parts.length + seamFlits r.rlen then s
      else
        let x := s.readHead st (58 + c.val) phys
        if x.2.early then (x.1.integrityDiscard r0 st (58 + c.val) 2).retrySeals st
        else
          let u := seamUnits r.rlen
          let held := x.1.headOf st (58 + c.val) r0
          let h := held.onSeam
          let mark := !(phys.sound && tagFits h.btag h.tlp)
          let short := (parts.filter fun y => decide (y.length < 228)).length
          let s := (x.1.takeUnits st c u).bumpN (F.STN_SEAM_SHORT_SHORT_FLITS st) short
          if x.2.lost then (s.seamSend st c (r.cutTo x.2.good) u b.length cuts true).retrySeals st
          else if r.committed then (s.seamLeave st c h u b.length cuts mark).retrySeals st
          else
            let s := s.modBank st fun b =>
              let o := b.q (58 + c.val)
              b.setQ (58 + c.val) { o with recs := o.recs.set 0 { held with marked := mark } }
            (s.pushFlits st c u none false parts).modSeam st fun x => { x with txOpen := some { cls := c.val, left := b.length - cut } })

end Sys2Proof.Machine
end

