-- ==== Sys2Proof/Machine/Image.lean ====
section
/-!
DEFINITION. Machine/Image.lean: CONFIG_IMAGE_LOAD (R363 to R365): the choice of a copy, its sections in their order, and what follows the
load: power domains are asked for (R411) and slots take their commands (R432).
-/

namespace Sys2Proof.Machine

/-! ### Sections (R364) -/

/-- Section types (Table 13.7). -/
def secTypes : List Nat := [1, 2, 3, 4, 5, 6, 7]

/-- The body of the first section of a TYPE. -/
def secBody (img : Bytes) (t : Nat) : Option Bytes := ((cfgDir img).find? fun x => x.1 == t).map fun x => slice img x.2.1 x.2.2

/-- 0x7012. Causes are numbered by the model (log entry 12): 1 unknown TYPE, 2 second of its TYPE, 3 missing, 4 size, version or count,
5 preload refused, 16 + byte offset of a field out of range. -/
def State.secErr (s : State) (t cause : Nat) : State :=
  (s.putB F.ACW_CFG_STATUS_SECT_ERR true).raise 0x01 0x7012 2 scDev [t, cause]

/-- What the directory alone shows. -/
def State.dirErrs (s : State) (img : Bytes) : State :=
  let d := (cfgDir img).map fun x => x.1
  let s := ((List.range d.length).filter fun i => !secTypes.contains (d.getD i 0)).foldl (fun s i => s.secErr (d.getD i 0) 1) s
  let s := ((List.range d.length).filter fun i => secTypes.contains (d.getD i 0) && (d.take i).contains (d.getD i 0)).foldl
    (fun s i => s.secErr (d.getD i 0) 2) s
  (secTypes.filter fun t => !d.contains t).foldl (fun s t => s.secErr t 3) s

/-- The strap check's EXPECT and MASK when the section is valid. -/
def strapSection (img : Bytes) : Option (Nat × Nat) :=
  match secBody img 4 with
  | some b => if b.length = 8 ∧ leAt b 0 2 = 1 then some (leAt b 2 1, leAt b 3 1) else none
  | none => none

/-- A section that is present and not of its size or version. -/
def secBad (img : Bytes) (t size : Nat) : Bool :=
  match secBody img t with
  | some b => b.length != size || leAt b 0 2 != 1
  | none => false

/-! ### Fabric identity (R277, R278) -/

/-- Causes of 0x5101, in the table's order (log entry 12). -/
def fdStrap : Nat := 1
def fdSection : Nat := 2
def fdField : Nat := 3

/-- The identity section. -/
def State.loadIdentity (s : State) (img : Bytes) : State :=
  match secBody img 5 with
  | none => s
  | some b =>
    let node := leAt b 2 1
    if b.length ≠ 16 then s.secErr 5 4
    else if leAt b 0 2 ≠ 1 ∨ (48 ≤ node ∧ node ≤ 254) then
      s.raise 0x06 0x5101 2 scDev [fdSection, if leAt b 0 2 ≠ 1 then 0 else 2, if leAt b 0 2 ≠ 1 then leAt b 0 2 else node]
    else
      let tmo := leAt b 8 2
      let s := if 300 ≤ tmo ∧ tmo ≤ 640 then s.put F.FAB_CTL_FORM_TMO tmo
        else (s.put F.FAB_CTL_FORM_TMO 600).raise 0x06 0x5101 2 scDev [fdField, 8, tmo]
      let s := s.put F.FAB_FABRIC_ID_FABRIC_ID (leAt b 4 4)
      if bit (s.get F.GLB_STRAP_CODE) 3 && decide (node < 48) then
        let s := ((s.put F.FAB_ID_NODE_ID node).putB F.FAB_ID_FABRIC_EN true).putB F.FAB_ID_MGR_CAP (bit (leAt b 3 1) 0)
        (s.put F.FAB_STATE_ROLE 0).put F.FAB_TIME_STAT_SYNC 0
      else s

/-! ### Board equalization table (R50, R51) -/

/-- The table's section. -/
def State.loadEq (s : State) (img : Bytes) : State :=
  match secBody img 1 with
  | none => s
  | some b =>
    if b.length ≠ 2192 then s.secErr 1 4
    else if leAt b 0 2 ≠ 1 ∨ leAt b 2 2 ≠ 272 then s.raise 0x01 0x1011 3 scDev [leAt b 0 2, leAt b 2 2]
    else (List.range 272).foldl (fun s l =>
      let v := eqFix (leAt b (16 + 8 * l) 8)
      let s := s.put (F.STN_LN_EQ_CFG_LO_ENTRY_LO (l / 17) (l % 17)) (v.1 % 2 ^ 32)
      (s.put (F.STN_LN_EQ_CFG_HI_ENTRY_HI (l / 17) (l % 17)) (v.1 / 2 ^ 32)).eqRaise l v.2) s

/-! ### Port map (R66, R67) -/

/-- A port loses its role by a rule of R67. -/
def State.mapConflict (s : State) (p rule : Nat) : State :=
  s.raise (srcStn (stnOf p)) 0x1031 2 (scPort p) [p, rule, s.role p, s.vsOf p, s.devnum p, s.slotOf p]

def State.unrole (s : State) (p rule : Nat) : State :=
  (s.mapConflict p rule).put (F.STN_PORT_CFG_ROLE (stnOf p) (kOf p)) 0

/-- A port's slot becomes 31 by rule 4. -/
def State.unslot (s : State) (p : Nat) : State :=
  (s.mapConflict p 4).put (F.STN_PORT_SLOT_SLOT (stnOf p) (kOf p)) 31

/-- The four rules of R67, in order, ports in ascending number. -/
def State.mapRules (s : State) : State :=
  let ps := allPorts.filter s.exists
  let r1 (s : State) (p : Nat) : State :=
    if s.pciRole p = 1 ∧ (ps.any fun q => decide (q < p) && s.pciRole q == 1 && s.vsOf q == s.vsOf p) = true then s.unrole p 1 else s
  let r2 (s : State) (p : Nat) : State := if s.pciRole p = 2 ∧ (s.usp (s.vsOf p)).isNone then s.unrole p 2 else s
  let r3 (s : State) (p : Nat) : State :=
    if s.pciRole p = 2 ∧ (s.devnum p == 0 || ps.any fun q => decide (q < p) && s.pciRole q == 2 && s.vsOf q == s.vsOf p
        && s.devnum q == s.devnum p) = true then s.unrole p 3 else s
  let r4 (s : State) (p : Nat) : State :=
    let n := s.slotOf p
    if n = 31 ∨ s.seamMode (stnOf p) = true then s
    else if 16 ≤ n ∨ (ps.any fun q => decide (q < p) && !s.seamMode (stnOf q) && s.slotOf q == n) = true then s.unslot p else s
  ps.foldl r4 (ps.foldl r3 (ps.foldl r2 (ps.foldl r1 s)))

/-- The entries for the ports of the configuration in force; a MAX_RATE of 7 keeps its default. -/
def State.loadPorts (s : State) (b : Bytes) : State :=
  ((allPorts.filter s.exists).foldl (fun s p =>
    let a := (F.STN_PORT_CFG_ROLE (stnOf p) (kOf p)).addr
    let v := leAt b (16 + 8 * p) 4
    let v := if bits v 12 3 = 7 then v - 0x1000 else v
    let w (s : State) (a v : Nat) : State := s.maskReg a (regMask (fun c => c == .rwc || c == .qo) a) (BitVec.ofNat 32 v)
    w (w s a v) (a + 4) (leAt b (20 + 8 * p) 4)) s).mapRules

/-- The port map's section. -/
def State.loadMap (s : State) (img : Bytes) : State :=
  match secBody img 2 with
  | none => s
  | some b =>
    if b.length ≠ 1168 then s.secErr 2 4
    else if leAt b 0 2 ≠ 1 ∨ leAt b 2 2 ≠ 144 then s.raise 0x01 0x1030 3 scDev [leAt b 0 2, leAt b 2 2]
    else s.loadPorts b

/-! ### Slot power classes (R445) and thermal limits -/

/-- A field of a slot's entry that keeps its default: 1 V_LIM, 2 RSENSE, 3 PERST_DLY (log entry 12), with the value found. -/
def slotFault (n v : Nat) : Option (Nat × Nat) :=
  let r := bits v 4 12
  if r < 20 ∨ 2000 < r then some (2, r)
  else if n ≠ 16 ∧ (bits v 16 10 < 100 ∨ 1000 < bits v 16 10) then some (3, bits v 16 10)
  else if vlimNv (bits v 0 3) r < 5000000 then some (1, vlimNv (bits v 0 3) r)
  else none

/-- One entry: CLASS and RSENSE of a controller that is not OFF or LATCHED keep their values (R447), AUTO_ON and PERST_DLY of SPC16
are ignored. -/
def State.loadSlot (s : State) (n v : Nat) : State :=
  let f := F.SPC_CFG_CLASS n
  match slotFault n v with
  | some (k, x) =>
    s.raise 0x03 0x9031 2 (s.slotScope n) [n, k, x, if k = 1 then vlimNv (s.get f) (s.get (F.SPC_CFG_RSENSE n)) else
      if k = 2 then s.get (F.SPC_CFG_RSENSE n) else s.get (F.SPC_CFG_PERST_DLY n)]
  | none =>
    let m := (if n = 16 then 0 else 0x03FF0008) + (if s.qoBusy f.addr then 0 else 0xFFF7)
    let s := State.spcHold s (s.maskReg f.addr (BitVec.ofNat 32 m) (BitVec.ofNat 32 v)) n
    let x := vlimNv (bits v 0 3) (bits v 4 12)
    if 50000000 < x then s.raise 0x03 0x9031 2 (s.slotScope n) [n, 1, x, 50000000] else s

/-- The slot section. -/
def State.loadSlots (s : State) (img : Bytes) : State :=
  match secBody img 3 with
  | none => s
  | some b =>
    if b.length ≠ 152 ∨ leAt b 0 2 ≠ 1 ∨ leAt b 2 2 ≠ 17 then s.secErr 3 4
    else
      let st := leAt b 6 1
      let s := s.put F.SPC_BUDGET_BUDGET_W (leAt b 4 2)
      let s := if 5 ≤ st ∧ st ≤ 100 then s.put F.SPC_BUDGET_STAGGER_MS st else (s.put F.SPC_BUDGET_STAGGER_MS 20).secErr 3 22
      (List.range 17).foldl (fun s n => s.loadSlot n (leAt b (16 + 8 * n) 4)) s

/-- The thermal section: each field in its range, or its default with 0x7012. -/
def State.loadThermal (s : State) (img : Bytes) : State :=
  if secBad img 6 8 then s.secErr 6 4
  else match secBody img 6 with
  | none => s
  | some b =>
    let w := leAt b 2 1
    let y := leAt b 3 1
    let m := leAt b 4 1
    let s := if 70 ≤ w ∧ w ≤ 100 then s.put F.ACW_THERM_CFG_WARN_C w else s.secErr 6 18
    let s := if 1 ≤ y ∧ y ≤ 10 then s.put F.ACW_THERM_CFG_HYST_C y else s.secErr 6 19
    if m < 8 then s.put F.ACW_ALERT_MASK_MASK m else s.secErr 6 20

/-! ### Register preload (R39, R365) -/

/-- The pairs. -/
def preloadPairs (b : Bytes) : List (Nat × Nat) := (List.range (b.length / 8)).map fun i => (leAt b (8 * i) 4, leAt b (8 * i + 4) 4)

/-- Registers that another section loads. -/
def secReg (a : Nat) : Bool :=
  decide (a = 0x02200014) || a == 0x140020 || a == 0x140028 || match regFind a with
  | some (r, _) => [0x01001000, 0x01001004, 0x01020000, 0x01020004, 0x02400000, 0x02400100].contains r.base
  | none => false

def cfgMask (a : Nat) : B32 := regMask (fun c => c == .rwc || c == .qo) a

/-- The station of a pair for STN_LANE_MODE. -/
def modePair (a : Nat) : Option Nat :=
  match regFind a with
  | some (r, [st]) => if r.base = 0x01000000 then some st else none
  | _ => none

/-- Stations whose last such pair holds an invalid BIFURC, with the value (R39). -/
def badModes (ps : List (Nat × Nat)) : List (Nat × Nat) :=
  (List.range 16).filterMap fun st =>
    match ps.reverse.find? fun x => modePair x.1 == some st with
    | some (_, v) => if bifurcValid (bits v 8 8) then none else some (st, bits v 8 8)
    | none => none

/-- The lane modes a preload sets: an invalid BIFURC is 0x01 with HOLD. -/
def State.loadModes (s : State) (ps : List (Nat × Nat)) : State :=
  ps.foldl (fun s x =>
    match modePair x.1 with
    | some _ =>
      let v := if bifurcValid (bits x.2 8 8) then x.2 else x.2 - bits x.2 8 8 * 256 + 0x100 - b2n (bit x.2 17) * 2 ^ 17 + 2 ^ 17
      s.maskReg x.1 (cfgMask x.1) (BitVec.ofNat 32 v)
    | none => s) s

/-- One pair on the state with the pairs before it: its effect, or why it is skipped (1 no RWC or QO field, 2 another section's register,
3 staging would refuse it; log entry 12). -/
def State.tryPair (sc : State) (x : Nat × Nat) : Except Nat State :=
  let a := x.1
  if cfgMask a = 0 then .error 1
  else if secReg a then .error 2
  else if fabReg a then .error 3
  else
    let y := sc.normItem a (cfgMask a) (BitVec.ofNat 32 x.2)
    let sc' := sc.maskReg y.1 y.2.1 y.2.2
    if zeroQlim y || !sc'.regRange a || (sc.crossAll.isNone && sc'.crossAll.isSome) || (sc'.crossRegs 0 [a]).isSome then .error 3 else .ok sc'

/-- Every pair but those for STN_LANE_MODE, in order: the state they make, and the pairs skipped. -/
def State.tryPairs (sc : State) (ps : List (Nat × Nat)) : State × List (Nat × Nat) :=
  ps.foldl (fun (y : State × List (Nat × Nat)) x =>
    match modePair x.1 with
    | some _ => y
    | none => match y.1.tryPair x with
      | .ok s => (s, y.2)
      | .error c => (y.1, y.2 ++ [(x.1, c)])) (sc, [])

/-- ACW_EP_WIN entry 5 of every virtual switch takes the station of its upstream port (Table 12.5). -/
def State.loadWin5 (s : State) : State :=
  (List.range 32).foldl (fun s v => match s.usp v with
    | some u => s.put (F.ACW_EP_WIN_DBASE v 5) (0x10 + stnOf u / 2 * 2)
    | none => s) s

/-- Port map, slots, thermal limits and preload. A refused preload leaves the port map to the default modes. -/
def State.loadRest (s : State) (img : Bytes) : State :=
  let body := (secBody img 7).getD []
  let sized := decide (body.length % 8 = 0) && decide (body.length ≤ 32768)
  let s := if sized then s else s.secErr 7 4
  let ps := if sized then preloadPairs body else []
  let rest (s : State) : State := (((s.loadMap img).loadSlots img).loadThermal img).loadWin5
  let (sc, skips) := (rest (s.loadModes ps)).tryPairs ps
  let note (s : State) : State := skips.foldl (fun s x =>
    (s.putB F.ACW_CFG_STATUS_SKIPPED true).raise 0x01 0x7013 2 scDev [x.1, x.2]) s
  if sc.crossAll.isSome then (note (rest s)).secErr 7 5
  else
    (badModes ps).foldl (fun s x => (s.putB (F.STN_LANE_STATUS_BIFURC_ERR x.1) true).raise (srcStn x.1) 0x1012 3 (scStn x.1) [x.1, x.2]) (note sc)

/-! ### The load -/

/-- Factory defaults: 1 no valid copy, 2 strap mismatch. -/
def State.loadDefaults (s : State) (cause : Nat) : State :=
  ((s.putB F.GLB_STATUS_CFG_DEFAULTED true).raise 0x01 0x7010 3 scDev [cause]).loadWin5

/-- Apply a valid copy. -/
def State.applyImage (s : State) (img : Bytes) : State :=
  let s := s.dirErrs img
  let s := if secBad img 4 8 then s.secErr 4 4 else s
  let code := s.get F.GLB_STRAP_CODE
  let clash := match strapSection img with
    | some (e, m) => (code ^^^ e) &&& m != 0
    | none => false
  if clash then
    let em := (strapSection img).getD (0, 0)
    (s.raise 0x01 0x7015 3 scDev [em.1, em.2, code]).loadDefaults 2
  else ((s.loadIdentity img).loadEq img).loadRest img

/-- What follows changed registers at a load: a Seam station of a standalone device, counter grants and panels. -/
def State.afterLoad (old s : State) : State :=
  let s := ((List.range 16).filter fun st => s.seamMode st && s.nodeId == 0xFF).foldl (fun s st => s.raise 0x06 0x5101 2 scDev [fdStrap, st]) s
  let as := (s.regs.map Prod.fst).filter fun a => decide (0x02500000 ≤ a ∧ a < 0x02501000) || decide (0x02340000 ≤ a ∧ a < 0x02380000)
    || decide (0x00101000 ≤ a ∧ a < 0x00102000)
  as.foldl (fun s a => State.regChanged old s a) s

/-- The domains of rows 2 to 6 of Table 15.6, in its order. -/
def firstDomains : List Nat := [61, 60, 56, 57, 58, 59] ++ (List.range 8).map (48 + ·) ++ (List.range 16).map (16 + ·)

/-- After the load: domains are asked for unless a thermal trip keeps them off, and slots take their commands (R432). -/
def State.loadDone (s : State) : State :=
  let s := if s.flag F.GLB_STATUS_THERMTRIP then s else firstDomains.foldl (fun s d => s.pdAsk d true) s
  let s := { s with pow := { s.pow with loaded := true, sequenced := !s.flag F.GLB_STATUS_THERMTRIP } }
  let s := (List.range 16).foldl (fun s n => s.hpSync n) s
  let s := (allPorts.filter fun p => s.exists p && (s.role p == 2 || s.role p == 3)).foldl State.pccMatch s
  let s := ((List.range 16).filter fun n => s.flag (F.SPC_CFG_AUTO_ON n)).foldl
    (fun s n => if !s.cmdOn n && s.seated n then s.commandOn n else s) s
  (s.stepUp 5).alertEval

/-- CONFIG_IMAGE_LOAD: once after each reset release, when the firmware runs. The valid copy with the newer SEQ applies, copy A when they
are equal. -/
def execConfigImageLoad (s : State) : Res :=
  .next (
    if !s.acl.up || !s.pow.running || s.pow.loaded then s
    else
      let ta := cfgTest s.acl.cfgA
      let tb := cfgTest s.acl.cfgB
      let note (s : State) (c : Nat) (t : Option Nat) : State := match t with
        | some k => s.raise 0x01 0x7011 2 scDev [c, k]
        | none => s
      let s1 := note (note s 0 ta) 1 tb
      let s1 := (s1.putB F.ACW_CFG_STATUS_A_VALID ta.isNone).putB F.ACW_CFG_STATUS_B_VALID tb.isNone
      let newer := decide (0 < (BitVec.ofNat 32 (leAt s.acl.cfgB 12 4) - BitVec.ofNat 32 (leAt s.acl.cfgA 12 4)).toInt)
      let pick := if ta.isNone && tb.isNone then (if newer then 1 else 0) else if ta.isNone then 0 else if tb.isNone then 1 else 3
      let s1 := s1.put F.ACW_CFG_STATUS_COPY pick
      let s1 := if pick = 3 then s1.loadDefaults 1
        else (s1.put F.ACW_CFG_SEQ_SEQ (leAt (s.cfgOf pick) 12 4)).applyImage (s.cfgOf pick)
      (State.afterLoad s s1).loadDone)

end Sys2Proof.Machine
end

