-- ==== Sys2Proof/Machine/Transport.lean ====
section
/-!
DEFINITION. Machine/Transport.lean: how request packets reach the command service (R380 to R388): UART frames, MCTP messages and control
commands, entries of the mailbox rings, and packets and replies carried between nodes in CMD_FWD (R293, R393).
-/

namespace Sys2Proof.Machine

/-- The status of a packet that names no command. -/
def badStatus : BadReq → Status
  | .badLength => .badLength
  | .badCrc => .badCrc
  | .badOpcode => .badOpcode
  | .badParam => .badParam

/-- UNDECODABLE_REQUEST: the failing status with TAG and SCOPE as received, and 0x7301 for BAD_LENGTH and BAD_CRC (R387). It waits its turn
like any request. -/
def execUndecodableRequest (chan : Chan) (eid : B8) (tag : B32) (scope opcode : B16) (why : BadReq) (s : State) : Res :=
  let c := chan.val
  let via := s.cmd.via
  let h : Hdr := { chan := chan, eid := eid, tag := tag, cred := 0, scope := scope, flags := 0, crc := 0 }
  let st := badStatus why
  let wait : Bool := decide (via = .arrive) && (!(s.acl.up || (s.acl.romWaits && c == 0)) || (s.flag F.ACW_FW_STATUS_UART_BOOT && c != 0)
    || s.chanBusy c eid.toNat || !(s.chan c).held.isEmpty)
  if wait then .next (s.holdPacket c eid.toNat (.undecodableRequest chan eid tag scope opcode why) 20).arrived
  else
    let s := s.arrived
    let s := if why = .badLength ∨ why = .badCrc then s.raiseLim ms100 c 0x01 0x7301 2 scDev 0 [c, eid.toNat, statusCode st] else s
    .next (s.answer { h := h, via := via, opcode := opcode.toNat } st 0 [])

/-- A decoded packet is served; a command that is no packet changes nothing. -/
def servePacket (i : Instr) (s : State) : Res :=
  match i with
  | .getInfo h => execGetInfo h s
  | .readReg h a0 a1 => execReadReg h a0 a1 s
  | .readTable h a0 a1 a2 a3 => execReadTable h a0 a1 a2 a3 s
  | .getAsync h a0 => execGetAsync h a0 s
  | .stageReg h a0 => execStageReg h a0 s
  | .commit h => execCommit h s
  | .abort h => execAbort h s
  | .txnStatus h => execTxnStatus h s
  | .quiesce h a0 a1 => execQuiesce h a0 a1 s
  | .release h => execRelease h s
  | .portStatus h => execPortStatus h s
  | .portQuiesce h a0 a1 => execPortQuiesce h a0 a1 s
  | .portRestart h => execPortRestart h s
  | .portMeasure h a0 => execPortMeasure h a0 s
  | .lanePrbs h a0 a1 a2 a3 => execLanePrbs h a0 a1 a2 a3 s
  | .laneMargin h a0 a1 a2 a3 a4 => execLaneMargin h a0 a1 a2 a3 a4 s
  | .prbsRead h a0 => execPrbsRead h a0 s
  | .proxyCfgRd h a0 a1 a2 => execProxyCfgRd h a0 a1 a2 s
  | .proxyCfgWr h a0 a1 a2 a3 => execProxyCfgWr h a0 a1 a2 a3 s
  | .stageWindow h a0 a1 a2 => execStageWindow h a0 a1 a2 s
  | .stageRequester h a0 a1 => execStageRequester h a0 a1 s
  | .stagePermission h a0 a1 a2 a3 => execStagePermission h a0 a1 a2 a3 s
  | .stagePortDefault h a0 a1 => execStagePortDefault h a0 a1 s
  | .lend h a0 a1 => execLend h a0 s a1
  | .lendResume h a0 a1 => execLendResume h a0 s a1
  | .lendReclaim h a0 a1 a2 => execLendReclaim h a0 a1 a2 s
  | .stageMgroup h a0 a1 => execStageMgroup h a0 a1 s
  | .stageTraceRule h a0 a1 a2 a3 => execStageTraceRule h a0 a1 a2 a3 s
  | .readSamples h a0 a1 => execReadSamples h a0 a1 s
  | .imageTransfer h a0 a1 => execImageTransfer h a0 a1 s
  | .imageInstall h a0 a1 a2 => execImageInstall h a0 a1 a2 s
  | .stageRegions h a0 a1 a2 => execStageRegions h a0 a1 a2 s
  | .tableWrite h a0 a1 a2 => execTableWrite h a0 a1 a2 s
  | .tableRead h a0 a1 => execTableRead h a0 a1 s
  | .bobbinStatus h => execBobbinStatus h s
  | .fabricState h => execFabricState h s
  | .fabricTopology h => execFabricTopology h s
  | .stagePin h a0 a1 a2 a3 => execStagePin h a0 a1 a2 a3 s
  | .stageBinding h a0 a1 a2 a3 => execStageBinding h a0 a1 a2 a3 s
  | .stageExport h a0 a1 => execStageExport h a0 a1 s
  | .reroute h => execReroute h s
  | .panelAllot h a0 a1 => execPanelAllot h a0 a1 s
  | .panelBind h a0 a1 a2 a3 a4 a5 a6 a7 => execPanelBind h a0 a1 a2 a3 a4 a5 a6 a7 s
  | .panelUnbind h => execPanelUnbind h s
  | .panelEnable h => execPanelEnable h s
  | .panelQuiesce h a0 => execPanelQuiesce h a0 s
  | .panelFreeze h => execPanelFreeze h s
  | .panelSave h => execPanelSave h s
  | .panelRestore h a0 a1 a2 a3 => execPanelRestore h a0 a1 a2 a3 s
  | .panelResume h => execPanelResume h s
  | .panelReset h => execPanelReset h s
  | .panelMessage h a0 => execPanelMessage h a0 s
  | .panelStatus h => execPanelStatus h s
  | .stageGrant h a0 a1 a2 a3 a4 => execStageGrant h a0 a1 a2 a3 a4 s
  | .stageSlot h a0 a1 a2 => execStageSlot h a0 a1 a2 s
  | .cqRead h => execCqRead h s
  | .fence h => execFence h s
  | .fenceRelease h => execFenceRelease h s
  | .lateRead h a0 a1 => execLateRead h a0 a1 s
  | .lateClear h => execLateClear h s
  | .slotStatus h a0 => execSlotStatus h a0 s
  | .slotPower h a0 a1 => execSlotPower h a0 a1 s
  | .stageSlotParams h a0 a1 => execStageSlotParams h a0 a1 s
  | .stageSlotBudget h a0 => execStageSlotBudget h a0 s
  | .sensorRead h => execSensorRead h s
  | .logRead h a0 a1 a2 => execLogRead h a0 a1 a2 s
  | .plogRead h a0 a1 => execPlogRead h a0 a1 s
  | .lastgaspRead h => execLastgaspRead h s
  | .counterClear h a0 => execCounterClear h a0 s
  | .pmcGrant h a0 a1 a2 a3 => execPmcGrant h a0 a1 a2 a3 s
  | .pmcRead h a0 => execPmcRead h a0 s
  | .pdStatus h => execPdStatus h s
  | .pdSet h a0 a1 => execPdSet h a0 a1 s
  | .blockReset h a0 => execBlockReset h a0 s
  | .deviceReset h a0 => execDeviceReset h a0 s
  | .resetHistory h => execResetHistory h s
  | .fwWrite h a0 a1 => execFwWrite h a0 a1 s
  | .fwCheck h a0 => execFwCheck h a0 s
  | .fwActivate h => execFwActivate h s
  | .fwConfirm h => execFwConfirm h s
  | .cfgWrite h a0 a1 => execCfgWrite h a0 a1 s
  | .cfgFinish h a0 => execCfgFinish h a0 s
  | .updStatus h => execUpdStatus h s
  | .uartLoad h a0 a1 a2 => execUartLoad h a0 a1 a2 s
  | .credOpen h a0 a1 => execCredOpen h a0 a1 s
  | .credClose h => execCredClose h s
  | .credTenant h => execCredTenant h s
  | .keyEnroll h a0 a1 a2 a3 => execKeyEnroll h a0 a1 a2 s a3
  | .keyRevoke h a0 a1 => execKeyRevoke h a0 s a1
  | .rollbackAdvance h a0 => execRollbackAdvance h s a0
  | .debugArm h => execDebugArm h s
  | .debugConfirm h a0 a1 => execDebugConfirm h a0 s a1
  | .stageProxyRegions h a0 a1 => execStageProxyRegions h a0 a1 s
  | .stageChannel h a0 a1 => execStageChannel h a0 a1 s
  | .secStatus h => execSecStatus h s
  | .undecodableRequest c e t sc o w => execUndecodableRequest c e t sc o w s
  | _ => .next s.arrived

/-- The bytes of a packet, its CRC compared. -/
def packetOf (chan : Chan) (eid : B8) (b : Bytes) : Instr :=
  let n := b.length - 4
  decodePacket (crc32c (b.take n) == r32 b n) chan eid b

/-- A packet is served in the transport context `via`. -/
def State.servePkt (s : State) (via : Via) (chan : Chan) (eid : B8) (b : Bytes) : Res :=
  servePacket (packetOf chan eid b) { s with cmd := { s.cmd with via := via } }

/-! ### UART (R384) -/

/-- UART_FRAME. -/
def execUartFrame (pkt : Bytes) (s : State) : Res := s.servePkt .arrive 0 0 pkt

/-- UART_GAP_TIMEOUT: the bytes of a frame that stopped are no part of the state, so discarding them changes nothing. -/
def execUartGapTimeout (s : State) : Res := .next s

/-! ### MCTP (R381, R382) -/

/-- The channel is an MCTP endpoint: the SMBus/I3C ports, and the management function of each published virtual switch. -/
def State.mctpHere (s : State) (c : Nat) : Bool :=
  c == 1 || c == 2 || (decide (35 ≤ c) && (s.vs (c - 35)).published)

/-- MCTP_MESSAGE: vendor ID 0x1F4E and kind 1 carry a command packet; another message is discarded (log entry 29). -/
def execMctpMessage (chan : Chan) (eid : B8) (vendor : B16) (kind : B8) (pkt : Bytes) (s : State) : Res :=
  if s.mctpHere chan.val = true ∧ vendor.toNat = 0x1F4E ∧ kind.toNat = 1 then s.servePkt .arrive chan eid pkt else .next s

/-- MCTP_ASSEMBLY_TIMEOUT: the packets of an incomplete message are no part of the state. -/
def execMctpAssemblyTimeout (_chan : Chan) (_eid : B8) (s : State) : Res := .next s

/-- MCTP_VDM_MISROUTED: discarded as an unsupported Type 1 message (R382). -/
def execMctpVdmMisrouted (_p : Port) (s : State) : Res := .next s

/-- An MCTP control command: held while Aclia is unavailable (R385), else answered at once. -/
def State.control (s : State) (c : Nat) (self : Instr) (f : State → State) : State :=
  let via := s.cmd.via
  if !s.mctpHere c then s.arrived
  else if decide (via = .arrive) && (!s.acl.up || s.flag F.ACW_FW_STATUS_UART_BOOT || !(s.chan c).held.isEmpty) then
    (s.holdPacket c 0 self 0).arrived
  else f s.arrived

/-- SET_ENDPOINT_ID: EID 0 and 0xFF are no endpoint IDs (log entry 29). -/
def execSetEndpointId (chan : Chan) (eid : B8) (s : State) : Res :=
  .next (s.control chan.val (.setEndpointId chan eid) fun s =>
    if eid.toNat = 0 ∨ eid.toNat = 0xFF then s.emit (.mctp chan.val [2])
    else (s.modChan chan.val fun x => { x with eid := eid.toNat }).emit (.mctp chan.val [0, 0, eid, 0]))

/-- GET_ENDPOINT_ID. -/
def execGetEndpointId (chan : Chan) (s : State) : Res :=
  .next (s.control chan.val (.getEndpointId chan) fun s =>
    s.emit (.mctp chan.val [0, BitVec.ofNat 8 (s.chan chan.val).eid, 0, 0]))

/-- GET_ENDPOINT_UUID: FAB_UID in its low 8 bytes. -/
def execGetEndpointUuid (chan : Chan) (s : State) : Res :=
  .next (s.control chan.val (.getEndpointUuid chan) fun s =>
    s.emit (.mctp chan.val (0 :: (leBytes 8 Config.uuidHigh.toNat).reverse ++ (leBytes 8 s.ownUid).reverse)))

/-- GET_MCTP_VERSION_SUPPORT. -/
def execGetMctpVersionSupport (chan : Chan) (s : State) : Res :=
  .next (s.control chan.val (.getMctpVersionSupport chan) fun s => s.emit (.mctp chan.val (0 :: Config.mctpVersions)))

/-- GET_MESSAGE_TYPE_SUPPORT: message type 0x7E. -/
def execGetMessageTypeSupport (chan : Chan) (s : State) : Res :=
  .next (s.control chan.val (.getMessageTypeSupport chan) fun s => s.emit (.mctp chan.val [0, 1, 0x7E]))

/-- GET_VENDOR_DEFINED_MSG_SUPPORT: PCI vendor ID 0x1F4E. -/
def execGetVendorDefinedMsgSupport (chan : Chan) (s : State) : Res :=
  .next (s.control chan.val (.getVendorDefinedMsgSupport chan) fun s =>
    s.emit (.mctp chan.val (0 :: 0xFF :: 0 :: 0x1F :: 0x4E :: leBytes 2 Config.mctpVdmSet.toNat)))

/-- ENTDAA: the dynamic address of an SMBus/I3C port. -/
def execEntdaa (chan : Chan) (addr : BitVec 7) (s : State) : Res :=
  .next (if chan.val = 1 ∨ chan.val = 2 then s.modChan chan.val fun x => { x with dynAddr := addr.toNat } else s)

/-! ### Mailbox rings (R383) -/

/-- The ring of VSv is served: EN is set, no fault stops it, Aclia is available, entries wait, and no request of the ring is under way. -/
def State.ringReady (s : State) (v : Nat) : Bool :=
  s.acl.up && !s.flag F.ACW_FW_STATUS_UART_BOOT && s.flag (F.ACW_MBX_CFG_EN v) && !s.flag (F.ACW_MBX_STATUS_FAULT v)
    && s.get (F.ACW_MBX_HEAD_HEAD v) != s.get (F.ACW_MBX_TAIL_TAIL v) && (s.vs v).f0.bme && !s.chanBusy (3 + v) 0

/-- MAILBOX_ENTRY: the entry at HEAD and the request that it points to are read, and the request is served (steps 1 to 5 of R383). A TAIL of
2^ORDER or more stops the ring. -/
def execMailboxEntry (v : VsId) (rd : MbxRead) (s : State) : Res :=
  let n := v.val
  if !s.ringReady n then .next s
  else
    let head := s.get (F.ACW_MBX_HEAD_HEAD n)
    if 2 ^ s.get (F.ACW_MBX_CFG_ORDER n) ≤ s.get (F.ACW_MBX_TAIL_TAIL n) then .next (s.ringFault n 2 head)
    else
      let base := s.get (F.ACW_MBX_BASE_HI_BASE_HI n) * 2 ^ 32 + s.get (F.ACW_MBX_BASE_LO_BASE_LO n) * 4096
      let s := s.emit (.hostRead n 0 (BitVec.ofNat 64 (base + 32 * head)) 32)
      match rd with
      | .entryFail => .next (s.ringFault n 1 head)
      | .entry reqAddr rspAddr reqLen req writeOk =>
        let s := s.emit (.hostRead n 0 reqAddr reqLen.toNat)
        match req with
        | none => .next (s.ringDone n 0 1 writeOk)
        | some b =>
          if reqLen.toNat ≠ 20 + rdN b 8 2 ∨ b.length ≠ reqLen.toNat then .next (s.ringDone n 0 2 writeOk)
          else s.servePkt (.mbx rspAddr writeOk) ⟨3 + n, by omega⟩ 0 b

/-! ### Packets between nodes (R293, R393) -/

def allStatus : List Status :=
  [.ok, .accepted, .badOpcode, .badLength, .badParam, .badCrc, .badScope, .busy, .notIdle, .stagedConflict, .denied, .locked,
   .timeout, .hwFault, .noResource]

/-- CMD_FWD: a request applies the class, virtual switch and node it carries; a reply answers the request of its MSEQ. One whose CRC fails
is discarded, so that the sender repeats the request. -/
def execCmdFwd (c : CtlHdr) (isReply : Bool) (cls vs : B8) (pkt : Bytes) (s : State) : Res :=
  if s.nodeId = 0xFF ∨ s.seamLive c.stn = false then .next s
  else if !c.tagOk then .next (s.bump F.FAB_ROUTE_ERR_ROUTE_ERR)
  else if !s.acl.up then .next s
  else if !isReply then s.servePkt (.fwd c.src.toNat c.mseq.toNat cls.toNat vs.toNat) 0 0 pkt
  else
    let n := pkt.length - 4
    let mine (o : CtlOut) : Bool := o.mseq == c.mseq.toNat && o.kind == 0x40 && o.dest == c.src.toNat
    if crc32c (pkt.take n) != r32 pkt n then .next s
    else match s.fab.out.find? mine with
      | none => .next s
      | some o =>
        let s := { s with fab := { s.fab with out := s.fab.out.filter fun x => !mine x } }
        let st := (allStatus.find? fun x => statusCode x == rdN pkt 2 2).getD .hwFault
        .next (match o.req with
          | none => s
          | some r => s.settleReq r st (rdN pkt 12 4) (((pkt.drop 16).take (rdN pkt 8 2)).map fun b => .u8 b.toNat))

end Sys2Proof.Machine
end

