-- ==== Sys2Proof/Machine/Dispatch.lean ====
section
/-! DEFINITION. Machine/Dispatch.lean: one arm per command. -/

namespace Sys2Proof.Machine

open Sys2Proof

/-- The effect of a command on everything but the queue. -/
def exec (i : Instr) (s : State) : Host.Outcome State Fault Refusal :=
  match i with
  | .getInfo h => Sys2Proof.Machine.execGetInfo h s
  | .readReg h addr count => Sys2Proof.Machine.execReadReg h addr count s
  | .readTable h table copy first count => Sys2Proof.Machine.execReadTable h table copy first count s
  | .getAsync h tag => Sys2Proof.Machine.execGetAsync h tag s
  | .stageReg h items => Sys2Proof.Machine.execStageReg h items s
  | .commit h => Sys2Proof.Machine.execCommit h s
  | .abort h => Sys2Proof.Machine.execAbort h s
  | .txnStatus h => Sys2Proof.Machine.execTxnStatus h s
  | .quiesce h mode limit => Sys2Proof.Machine.execQuiesce h mode limit s
  | .release h => Sys2Proof.Machine.execRelease h s
  | .portStatus h => Sys2Proof.Machine.execPortStatus h s
  | .portQuiesce h mode limit => Sys2Proof.Machine.execPortQuiesce h mode limit s
  | .portRestart h => Sys2Proof.Machine.execPortRestart h s
  | .portMeasure h enter => Sys2Proof.Machine.execPortMeasure h enter s
  | .lanePrbs h lane pattern bits rate => Sys2Proof.Machine.execLanePrbs h lane pattern bits rate s
  | .laneMargin h lane tOff vOff eye dwell => Sys2Proof.Machine.execLaneMargin h lane tOff vOff eye dwell s
  | .prbsRead h lane => Sys2Proof.Machine.execPrbsRead h lane s
  | .proxyCfgRd h target off size => Sys2Proof.Machine.execProxyCfgRd h target off size s
  | .proxyCfgWr h target off size data => Sys2Proof.Machine.execProxyCfgWr h target off size data s
  | .stageWindow h idx mask entry => Sys2Proof.Machine.execStageWindow h idx mask entry s
  | .stageRequester h add entry => Sys2Proof.Machine.execStageRequester h add entry s
  | .stagePermission h rclass first count vals => Sys2Proof.Machine.execStagePermission h rclass first count vals s
  | .stagePortDefault h rclass prog => Sys2Proof.Machine.execStagePortDefault h rclass prog s
  | .lend h words found => Sys2Proof.Machine.execLend h words s found
  | .lendResume h idx found => Sys2Proof.Machine.execLendResume h idx s found
  | .lendReclaim h idx mode limit => Sys2Proof.Machine.execLendReclaim h idx mode limit s
  | .stageMgroup h group entry => Sys2Proof.Machine.execStageMgroup h group entry s
  | .stageTraceRule h rule ctl mtch rate => Sys2Proof.Machine.execStageTraceRule h rule ctl mtch rate s
  | .readSamples h first count => Sys2Proof.Machine.execReadSamples h first count s
  | .imageTransfer h off piece => Sys2Proof.Machine.execImageTransfer h off piece s
  | .imageInstall h len mask mode => Sys2Proof.Machine.execImageInstall h len mask mode s
  | .stageRegions h mask nreg recs => Sys2Proof.Machine.execStageRegions h mask nreg recs s
  | .tableWrite h mask off words => Sys2Proof.Machine.execTableWrite h mask off words s
  | .tableRead h off count => Sys2Proof.Machine.execTableRead h off count s
  | .bobbinStatus h => Sys2Proof.Machine.execBobbinStatus h s
  | .fabricState h => Sys2Proof.Machine.execFabricState h s
  | .fabricTopology h => Sys2Proof.Machine.execFabricTopology h s
  | .stagePin h ing vc node pin => Sys2Proof.Machine.execStagePin h ing vc node pin s
  | .stageBinding h hi fi home far => Sys2Proof.Machine.execStageBinding h hi fi home far s
  | .stageExport h idx entry => Sys2Proof.Machine.execStageExport h idx entry s
  | .reroute h => Sys2Proof.Machine.execReroute h s
  | .panelAllot h first count => Sys2Proof.Machine.execPanelAllot h first count s
  | .panelBind h pasid sqb cqb sqo cqo vec weight holdoff => Sys2Proof.Machine.execPanelBind h pasid sqb cqb sqo cqo vec weight holdoff s
  | .panelUnbind h => Sys2Proof.Machine.execPanelUnbind h s
  | .panelEnable h => Sys2Proof.Machine.execPanelEnable h s
  | .panelQuiesce h limit => Sys2Proof.Machine.execPanelQuiesce h limit s
  | .panelFreeze h => Sys2Proof.Machine.execPanelFreeze h s
  | .panelSave h => Sys2Proof.Machine.execPanelSave h s
  | .panelRestore h vs pasid grants rec => Sys2Proof.Machine.execPanelRestore h vs pasid grants rec s
  | .panelResume h => Sys2Proof.Machine.execPanelResume h s
  | .panelReset h => Sys2Proof.Machine.execPanelReset h s
  | .panelMessage h word => Sys2Proof.Machine.execPanelMessage h word s
  | .panelStatus h => Sys2Proof.Machine.execPanelStatus h s
  | .stageGrant h grant ctl lo hi size => Sys2Proof.Machine.execStageGrant h grant ctl lo hi size s
  | .stageSlot h slot valid grant => Sys2Proof.Machine.execStageSlot h slot valid grant s
  | .cqRead h => Sys2Proof.Machine.execCqRead h s
  | .fence h => Sys2Proof.Machine.execFence h s
  | .fenceRelease h => Sys2Proof.Machine.execFenceRelease h s
  | .lateRead h first count => Sys2Proof.Machine.execLateRead h first count s
  | .lateClear h => Sys2Proof.Machine.execLateClear h s
  | .slotStatus h slot => Sys2Proof.Machine.execSlotStatus h slot s
  | .slotPower h slot on => Sys2Proof.Machine.execSlotPower h slot on s
  | .stageSlotParams h slot cfg => Sys2Proof.Machine.execStageSlotParams h slot cfg s
  | .stageSlotBudget h budget => Sys2Proof.Machine.execStageSlotBudget h budget s
  | .sensorRead h => Sys2Proof.Machine.execSensorRead h s
  | .logRead h first count minsev => Sys2Proof.Machine.execLogRead h first count minsev s
  | .plogRead h idx count => Sys2Proof.Machine.execPlogRead h idx count s
  | .lastgaspRead h => Sys2Proof.Machine.execLastgaspRead h s
  | .counterClear h addr => Sys2Proof.Machine.execCounterClear h addr s
  | .pmcGrant h unit vs en mask => Sys2Proof.Machine.execPmcGrant h unit vs en mask s
  | .pmcRead h unit => Sys2Proof.Machine.execPmcRead h unit s
  | .pdStatus h => Sys2Proof.Machine.execPdStatus h s
  | .pdSet h dom on => Sys2Proof.Machine.execPdSet h dom on s
  | .blockReset h code => Sys2Proof.Machine.execBlockReset h code s
  | .deviceReset h kind => Sys2Proof.Machine.execDeviceReset h kind s
  | .resetHistory h => Sys2Proof.Machine.execResetHistory h s
  | .fwWrite h off piece => Sys2Proof.Machine.execFwWrite h off piece s
  | .fwCheck h len => Sys2Proof.Machine.execFwCheck h len s
  | .fwActivate h => Sys2Proof.Machine.execFwActivate h s
  | .fwConfirm h => Sys2Proof.Machine.execFwConfirm h s
  | .cfgWrite h off piece => Sys2Proof.Machine.execCfgWrite h off piece s
  | .cfgFinish h len => Sys2Proof.Machine.execCfgFinish h len s
  | .updStatus h => Sys2Proof.Machine.execUpdStatus h s
  | .uartLoad h off total piece => Sys2Proof.Machine.execUartLoad h off total piece s
  | .credOpen h cls vs => Sys2Proof.Machine.execCredOpen h cls vs s
  | .credClose h => Sys2Proof.Machine.execCredClose h s
  | .credTenant h => Sys2Proof.Machine.execCredTenant h s
  | .keyEnroll h slot key pad burnt => Sys2Proof.Machine.execKeyEnroll h slot key pad s burnt
  | .keyRevoke h slot burnt => Sys2Proof.Machine.execKeyRevoke h slot s burnt
  | .rollbackAdvance h burnt => Sys2Proof.Machine.execRollbackAdvance h s burnt
  | .debugArm h => Sys2Proof.Machine.execDebugArm h s
  | .debugConfirm h chal burnt => Sys2Proof.Machine.execDebugConfirm h chal s burnt
  | .stageProxyRegions h nreg recs => Sys2Proof.Machine.execStageProxyRegions h nreg recs s
  | .stageChannel h ch cls => Sys2Proof.Machine.execStageChannel h ch cls s
  | .secStatus h => Sys2Proof.Machine.execSecStatus h s
  | .undecodableRequest chan eid tag scope opcode why => Sys2Proof.Machine.execUndecodableRequest chan eid tag scope opcode why s
  | .transactionIdleTimeout cred => Sys2Proof.Machine.execTransactionIdleTimeout cred s
  | .asyncStatusExpiry cred tag => Sys2Proof.Machine.execAsyncStatusExpiry cred tag s
  | .mailboxEnable v cfg => Sys2Proof.Machine.execMailboxEnable v cfg s
  | .mailboxTailWrite v tail => Sys2Proof.Machine.execMailboxTailWrite v tail s
  | .mailboxEntry v rd => Sys2Proof.Machine.execMailboxEntry v rd s
  | .mctpMessage chan eid vendor kind pkt => Sys2Proof.Machine.execMctpMessage chan eid vendor kind pkt s
  | .mctpAssemblyTimeout chan eid => Sys2Proof.Machine.execMctpAssemblyTimeout chan eid s
  | .setEndpointId chan eid => Sys2Proof.Machine.execSetEndpointId chan eid s
  | .getEndpointId chan => Sys2Proof.Machine.execGetEndpointId chan s
  | .getEndpointUuid chan => Sys2Proof.Machine.execGetEndpointUuid chan s
  | .getMctpVersionSupport chan => Sys2Proof.Machine.execGetMctpVersionSupport chan s
  | .getMessageTypeSupport chan => Sys2Proof.Machine.execGetMessageTypeSupport chan s
  | .getVendorDefinedMsgSupport chan => Sys2Proof.Machine.execGetVendorDefinedMsgSupport chan s
  | .mctpVdmMisrouted p => Sys2Proof.Machine.execMctpVdmMisrouted p s
  | .uartFrame pkt => Sys2Proof.Machine.execUartFrame pkt s
  | .uartGapTimeout => Sys2Proof.Machine.execUartGapTimeout s
  | .paceSample m hs be => Sys2Proof.Machine.execPaceSample m hs be s
  | .paceMonitorSilent m => Sys2Proof.Machine.execPaceMonitorSilent m s
  | .stationStart st => Sys2Proof.Machine.execStationStart st s
  | .stationClockSlowdown st => Sys2Proof.Machine.execStationClockSlowdown st s
  | .pllLock st => Sys2Proof.Machine.execPllLock st s
  | .pllTryTimeout st => Sys2Proof.Machine.execPllTryTimeout st s
  | .pllRetry st => Sys2Proof.Machine.execPllRetry st s
  | .pllLockLoss st => Sys2Proof.Machine.execPllLockLoss st s
  | .receiverDetected p lanes => Sys2Proof.Machine.execReceiverDetected p lanes s
  | .detectRetry p => Sys2Proof.Machine.execDetectRetry p s
  | .bitLock p lanes => Sys2Proof.Machine.execBitLock p lanes s
  | .lockComplete p width failed inverted reversed => Sys2Proof.Machine.execLockComplete p width failed inverted reversed s
  | .linkUp p up => Sys2Proof.Machine.execLinkUp p up s
  | .trainAttemptTimeout p => Sys2Proof.Machine.execTrainAttemptTimeout p s
  | .ltssmReturnToDetect p => Sys2Proof.Machine.execLtssmReturnToDetect p s
  | .linkDown p => Sys2Proof.Machine.execLinkDown p s
  | .marginGo st lane ctl => Sys2Proof.Machine.execMarginGo st lane ctl s
  | .marginPointDone st lane errs => Sys2Proof.Machine.execMarginPointDone st lane errs s
  | .prbsClr st lane => Sys2Proof.Machine.execPrbsClr st lane s
  | .prbsLockLoss st lane => Sys2Proof.Machine.execPrbsLockLoss st lane s
  | .spareCheck st errs => Sys2Proof.Machine.execSpareCheck st errs s
  | .configRequest p r => Sys2Proof.Machine.execConfigRequest p r s
  | .slotControlWrite p val => Sys2Proof.Machine.execSlotControlWrite p val s
  | .commandCompleted p => Sys2Proof.Machine.execCommandCompleted p s
  | .vsReset v hot => Sys2Proof.Machine.execVsReset v hot s
  | .uspSecondaryBusResetSet v => Sys2Proof.Machine.execUspSecondaryBusResetSet v s
  | .uspSecondaryBusResetClear v => Sys2Proof.Machine.execUspSecondaryBusResetClear v s
  | .dspLinkReset p disable set => Sys2Proof.Machine.execDspLinkReset p disable set s
  | .pmeTurnOff v => Sys2Proof.Machine.execPmeTurnOff v s
  | .pmeToAck v => Sys2Proof.Machine.execPmeToAck v s
  | .pmeToTimeout v => Sys2Proof.Machine.execPmeToTimeout v s
  | .l0pRequest p width => Sys2Proof.Machine.execL0pRequest p width s
  | .l0pWidthRestore p => Sys2Proof.Machine.execL0pWidthRestore p s
  | .aspmL1Entry p sub pciPm clkreq => Sys2Proof.Machine.execAspmL1Entry p sub pciPm s clkreq
  | .ptmExchange v time => Sys2Proof.Machine.execPtmExchange v time s
  | .ptmRequest p => Sys2Proof.Machine.execPtmRequest p s
  | .vsReady v => Sys2Proof.Machine.execVsReady v s
  | .portQuiesced p => Sys2Proof.Machine.execPortQuiesced p s
  | .quiesceTimeout cred tag => Sys2Proof.Machine.execQuiesceTimeout cred tag s
  | .dpcRelease p => Sys2Proof.Machine.execDpcRelease p s
  | .tlpReceive src fixed bad t => Sys2Proof.Machine.execTlpReceive src fixed bad t s
  | .lentBarWrite st idx bar val => Sys2Proof.Machine.execLentBarWrite st idx bar val s
  | .lentFlr st idx => Sys2Proof.Machine.execLentFlr st idx s
  | .lendReclaimed st idx => Sys2Proof.Machine.execLendReclaimed st idx s
  | .proxyTmo st fret port tag => Sys2Proof.Machine.execProxyTmo st fret port tag s
  | .tableFlip st => Sys2Proof.Machine.execTableFlip st s
  | .tableRewrite st table idx => Sys2Proof.Machine.execTableRewrite st table idx s
  | .traceSamplerFire st rule id => Sys2Proof.Machine.execTraceSamplerFire st rule id s
  | .bobbinDispatch e ecc slot => Sys2Proof.Machine.execBobbinDispatch e ecc s slot
  | .nop e => Sys2Proof.Machine.execNop e s
  | .aluAdd e d a b => Sys2Proof.Machine.execAluAdd e d a b s
  | .aluSub e d a b => Sys2Proof.Machine.execAluSub e d a b s
  | .aluAnd e d a b => Sys2Proof.Machine.execAluAnd e d a b s
  | .aluOr e d a b => Sys2Proof.Machine.execAluOr e d a b s
  | .aluXor e d a b => Sys2Proof.Machine.execAluXor e d a b s
  | .aluShl e d a b => Sys2Proof.Machine.execAluShl e d a b s
  | .aluShr e d a b => Sys2Proof.Machine.execAluShr e d a b s
  | .aluMinu e d a b => Sys2Proof.Machine.execAluMinu e d a b s
  | .aluMaxu e d a b => Sys2Proof.Machine.execAluMaxu e d a b s
  | .aluSeq e d a b => Sys2Proof.Machine.execAluSeq e d a b s
  | .aluSltu e d a b => Sys2Proof.Machine.execAluSltu e d a b s
  | .addi e d a imm => Sys2Proof.Machine.execAddi e d a imm s
  | .andi e d a imm => Sys2Proof.Machine.execAndi e d a imm s
  | .ori e d a imm => Sys2Proof.Machine.execOri e d a imm s
  | .xori e d a imm => Sys2Proof.Machine.execXori e d a imm s
  | .shli e d a sh => Sys2Proof.Machine.execShli e d a sh s
  | .shri e d a sh => Sys2Proof.Machine.execShri e d a sh s
  | .li e d imm => Sys2Proof.Machine.execLi e d imm s
  | .movk e d hw imm => Sys2Proof.Machine.execMovk e d hw imm s
  | .hash e d a b => Sys2Proof.Machine.execHash e d a b s
  | .ldh e d sz off => Sys2Proof.Machine.execLdh e d sz off s
  | .sth e a sz off => Sys2Proof.Machine.execSth e a sz off s
  | .ldl e d a sz imm ecc => Sys2Proof.Machine.execLdl e d a sz imm ecc s
  | .stl e d a sz imm ecc => Sys2Proof.Machine.execStl e d a sz imm ecc s
  | .ldt e d a imm ecc => Sys2Proof.Machine.execLdt e d a imm ecc s
  | .stt e d a imm => Sys2Proof.Machine.execStt e d a imm s
  | .addt e d a imm ecc => Sys2Proof.Machine.execAddt e d a imm ecc s
  | .ctx e d sel => Sys2Proof.Machine.execCtx e d sel s
  | .beq e d a off => Sys2Proof.Machine.execBeq e d a off s
  | .bne e d a off => Sys2Proof.Machine.execBne e d a off s
  | .bltu e d a off => Sys2Proof.Machine.execBltu e d a off s
  | .bgeu e d a off => Sys2Proof.Machine.execBgeu e d a off s
  | .beqi e d imm off => Sys2Proof.Machine.execBeqi e d imm off s
  | .bnei e d imm off => Sys2Proof.Machine.execBnei e d imm off s
  | .bbs e d bit off => Sys2Proof.Machine.execBbs e d bit off s
  | .bbc e d bit off => Sys2Proof.Machine.execBbc e d bit off s
  | .jmp e off => Sys2Proof.Machine.execJmp e off s
  | .trace e rule => Sys2Proof.Machine.execTrace e rule s
  | .evt e a sub => Sys2Proof.Machine.execEvt e a sub s
  | .exitForward e => Sys2Proof.Machine.execExitForward e s
  | .exitDrop e => Sys2Proof.Machine.execExitDrop e s
  | .exitAbort e => Sys2Proof.Machine.execExitAbort e s
  | .exitRedirect e a => Sys2Proof.Machine.execExitRedirect e a s
  | .rejoinRelease id => Sys2Proof.Machine.execRejoinRelease id s
  | .runTimeout e => Sys2Proof.Machine.execRunTimeout e s
  | .engineRestored e ok => Sys2Proof.Machine.execEngineRestored e ok s
  | .bobbinSample e => Sys2Proof.Machine.execBobbinSample e s
  | .ruleFenceTimeout st => Sys2Proof.Machine.execRuleFenceTimeout st s
  | .ruleFenceDone st => Sys2Proof.Machine.execRuleFenceDone st s
  | .engineImageCopy e ok => Sys2Proof.Machine.execEngineImageCopy e ok s
  | .imageSwapped st => Sys2Proof.Machine.execImageSwapped st s
  | .crossbarEntry id => Sys2Proof.Machine.execCrossbarEntry id s
  | .recordAdmit bank id => Sys2Proof.Machine.execRecordAdmit bank id s
  | .recordCommit bank id => Sys2Proof.Machine.execRecordCommit bank id s
  | .residueLink bank q ing => Sys2Proof.Machine.execResidueLink bank q ing s
  | .recordDepart bank q phys => Sys2Proof.Machine.execRecordDepart bank q phys s
  | .portFlushed p links => Sys2Proof.Machine.execPortFlushed p s links
  | .sievePassStart bank => Sys2Proof.Machine.execSievePassStart bank s
  | .sievePassEnd bank leaks corrupt loops links => Sys2Proof.Machine.execSievePassEnd bank leaks corrupt loops s links
  | .quadrantStall q => Sys2Proof.Machine.execQuadrantStall q s
  | .quadrantRecovered q finds => Sys2Proof.Machine.execQuadrantRecovered q s finds
  | .recoveryMonitorTimeout q => Sys2Proof.Machine.execRecoveryMonitorTimeout q s
  | .contained st k => Sys2Proof.Machine.execContained st k s
  | .containReleased st k => Sys2Proof.Machine.execContainReleased st k s
  | .surpriseDownHoldoff p => Sys2Proof.Machine.execSurpriseDownHoldoff p s
  | .seamDataFlit st h starts ends => Sys2Proof.Machine.execSeamDataFlit st h starts ends s
  | .seamIdleFlit st h => Sys2Proof.Machine.execSeamIdleFlit st h s
  | .seamBypassFlit st h msgs => Sys2Proof.Machine.execSeamBypassFlit st h msgs s
  | .seamTrainFlit st b => Sys2Proof.Machine.execSeamTrainFlit st b s
  | .seamBadFlit st => Sys2Proof.Machine.execSeamBadFlit st s
  | .seamRecordStart st c phys cuts => Sys2Proof.Machine.execSeamRecordStart st c phys cuts s
  | .seamRecordAbandoned st => Sys2Proof.Machine.execSeamRecordAbandoned st s
  | .replayTimerExpiry st => Sys2Proof.Machine.execReplayTimerExpiry st s
  | .replayEnd st storeOk => Sys2Proof.Machine.execReplayEnd st storeOk s
  | .creditAuditTimer st => Sys2Proof.Machine.execCreditAuditTimer st s
  | .onoffResyncTimer st => Sys2Proof.Machine.execOnoffResyncTimer st s
  | .resyncAckTimeout st => Sys2Proof.Machine.execResyncAckTimeout st s
  | .bypassResend st => Sys2Proof.Machine.execBypassResend st s
  | .spareReq st lane => Sys2Proof.Machine.execSpareReq st lane s
  | .spareDone st lane => Sys2Proof.Machine.execSpareDone st lane s
  | .spareAbort st lane reason => Sys2Proof.Machine.execSpareAbort st lane reason s
  | .creditAudit st seq cons => Sys2Proof.Machine.execCreditAudit st seq cons s
  | .resync st r rx freed => Sys2Proof.Machine.execResync st r rx freed s
  | .resyncAck st r => Sys2Proof.Machine.execResyncAck st r s
  | .rttProbe st stamp hold => Sys2Proof.Machine.execRttProbe st stamp hold s
  | .rttEcho st stamp hold => Sys2Proof.Machine.execRttEcho st stamp hold s
  | .rttProbeTimer st => Sys2Proof.Machine.execRttProbeTimer st s
  | .linkDownNotice st cause => Sys2Proof.Machine.execLinkDownNotice st cause s
  | .timeReq st t1 t2 t3 => Sys2Proof.Machine.execTimeReq st t1 t2 t3 s
  | .timeResp st t1 t2 t3 t4 => Sys2Proof.Machine.execTimeResp st t1 t2 t3 t4 s
  | .timeExchangeTimer t1 => Sys2Proof.Machine.execTimeExchangeTimer t1 s
  | .timeExchangeLoss => Sys2Proof.Machine.execTimeExchangeLoss s
  | .seamLaneFault st lane lock => Sys2Proof.Machine.execSeamLaneFault st lane lock s
  | .seamSpareSubst st => Sys2Proof.Machine.execSeamSpareSubst st s
  | .seamSpareFailed st => Sys2Proof.Machine.execSeamSpareFailed st s
  | .seamLaneLockLost st => Sys2Proof.Machine.execSeamLaneLockLost st s
  | .deadTimeout st => Sys2Proof.Machine.execDeadTimeout st s
  | .hello c m => Sys2Proof.Machine.execHello c m s
  | .helloRound => Sys2Proof.Machine.execHelloRound s
  | .noManager => Sys2Proof.Machine.execNoManager s
  | .topo c node uid links usps => Sys2Proof.Machine.execTopo c node uid links s usps
  | .publishStart => Sys2Proof.Machine.execPublishStart s
  | .publish c kind first words => Sys2Proof.Machine.execPublish c kind first words s
  | .prepareReady c ready epoch digest => Sys2Proof.Machine.execPrepareReady c ready epoch digest s
  | .go c epoch time => Sys2Proof.Machine.execGo c epoch time s
  | .goTime => Sys2Proof.Machine.execGoTime s
  | .linkEvent c node port cause => Sys2Proof.Machine.execLinkEvent c node port cause s
  | .rerouteStart => Sys2Proof.Machine.execRerouteStart s
  | .rerouteHold c epoch mask pieces => Sys2Proof.Machine.execRerouteHold c epoch mask pieces s
  | .seal st c round => Sys2Proof.Machine.execSeal st c round s
  | .sealRoundTimeout st => Sys2Proof.Machine.execSealRoundTimeout st s
  | .sealed c epoch mask => Sys2Proof.Machine.execSealed c epoch mask s
  | .goDeadline => Sys2Proof.Machine.execGoDeadline s
  | .lateNotice c e => Sys2Proof.Machine.execLateNotice c e s
  | .cmdFwd c isReply cls vs pkt => Sys2Proof.Machine.execCmdFwd c isReply cls vs pkt s
  | .controlMessageResend mseq => Sys2Proof.Machine.execControlMessageResend mseq s
  | .shtDbSqTail v n val => Sys2Proof.Machine.execShtDbSqTail v n val s
  | .shtDbCqHead v n val => Sys2Proof.Machine.execShtDbCqHead v n val s
  | .doorbellResume v n => Sys2Proof.Machine.execDoorbellResume v n s
  | .doorbellResumeSkip v n => Sys2Proof.Machine.execDoorbellResumeSkip v n s
  | .tenantMsg v n word => Sys2Proof.Machine.execTenantMsg v n word s
  | .doorbellStrayWrite v n => Sys2Proof.Machine.execDoorbellStrayWrite v n s
  | .moverTake m => Sys2Proof.Machine.execMoverTake m s
  | .moverRelease m => Sys2Proof.Machine.execMoverRelease m s
  | .descriptorFetch n fixed upset data => Sys2Proof.Machine.execDescriptorFetch n fixed upset data s
  | .atsTranslation n page ok read write phys => Sys2Proof.Machine.execAtsTranslation n page ok read write phys s
  | .atsInvalidate v pasid page pages itag => Sys2Proof.Machine.execAtsInvalidate v pasid page pages itag s
  | .atsInvalidateComplete v itag => Sys2Proof.Machine.execAtsInvalidateComplete v itag s
  | .shuttleReadIssue m => Sys2Proof.Machine.execShuttleReadIssue m s
  | .shuttleReadCompletion m tag data => Sys2Proof.Machine.execShuttleReadCompletion m tag data s
  | .flushReadComplete n ok => Sys2Proof.Machine.execFlushReadComplete n ok s
  | .intHoldoffExpiry n => Sys2Proof.Machine.execIntHoldoffExpiry n s
  | .shtCplTimeout m tag => Sys2Proof.Machine.execShtCplTimeout m tag s
  | .panelFrozen n => Sys2Proof.Machine.execPanelFrozen n s
  | .panelStopped n => Sys2Proof.Machine.execPanelStopped n s
  | .shuttleFlr v => Sys2Proof.Machine.execShuttleFlr v s
  | .endpointFlr v => Sys2Proof.Machine.execEndpointFlr v s
  | .hostBar0Read v off len tag => Sys2Proof.Machine.execHostBar0Read v off len tag s
  | .hostBar0Write v off data full => Sys2Proof.Machine.execHostBar0Write v off data full s
  | .proxyAccess v => Sys2Proof.Machine.execProxyAccess v s
  | .registerAccessTimeout v => Sys2Proof.Machine.execRegisterAccessTimeout v s
  | .hostReadAborted v => Sys2Proof.Machine.execHostReadAborted v s
  | .bridgeRetry init => Sys2Proof.Machine.execBridgeRetry init s
  | .registerLowRead init addr => Sys2Proof.Machine.execRegisterLowRead init addr s
  | .registerWrite init addr val => Sys2Proof.Machine.execRegisterWrite init addr val s
  | .bar4Write v => Sys2Proof.Machine.execBar4Write v s
  | .msixMessage v fn vec => Sys2Proof.Machine.execMsixMessage v fn vec s
  | .msixVectorUnmask v fn vec addr data => Sys2Proof.Machine.execMsixVectorUnmask v fn vec addr data s
  | .thimbleRuleFenceDone th bad => Sys2Proof.Machine.execThimbleRuleFenceDone th bad s
  | .thimbleFenceTimeout th => Sys2Proof.Machine.execThimbleFenceTimeout th s
  | .counterWrap u c => Sys2Proof.Machine.execCounterWrap u c s
  | .counterSample u c => Sys2Proof.Machine.execCounterSample u c s
  | .counterSweep => Sys2Proof.Machine.execCounterSweep s
  | .pmuClrAll u => Sys2Proof.Machine.execPmuClrAll u s
  | .pmuCounterClr u c => Sys2Proof.Machine.execPmuCounterClr u c s
  | .resetRelease => Sys2Proof.Machine.execResetRelease s
  | .fwBooted saved => Sys2Proof.Machine.execFwBooted s saved
  | .configImageLoad => Sys2Proof.Machine.execConfigImageLoad s
  | .acliaWatchdog core => Sys2Proof.Machine.execAcliaWatchdog core s
  | .fwActivated ok saved => Sys2Proof.Machine.execFwActivated ok s saved
  | .confirmTimeout => Sys2Proof.Machine.execConfirmTimeout s
  | .debugArmExpiry => Sys2Proof.Machine.execDebugArmExpiry s
  | .sensorSample k raw => Sys2Proof.Machine.execSensorSample k raw s
  | .sensorStale k => Sys2Proof.Machine.execSensorStale k s
  | .alertRelease => Sys2Proof.Machine.execAlertRelease s
  | .thermtrip die raw => Sys2Proof.Machine.execThermtrip die raw s
  | .eventRecordDelivery src => Sys2Proof.Machine.execEventRecordDelivery src s
  | .subsoilPowerOn => Sys2Proof.Machine.execSubsoilPowerOn s
  | .standbyPowerOn samples => Sys2Proof.Machine.execStandbyPowerOn samples s
  | .mainPowerOnReset samples => Sys2Proof.Machine.execMainPowerOnReset samples s
  | .brownOut supply => Sys2Proof.Machine.execBrownOut supply s
  | .warmReset samples => Sys2Proof.Machine.execWarmReset samples s
  | .hrstDriveEnd => Sys2Proof.Machine.execHrstDriveEnd s
  | .pdOn d => Sys2Proof.Machine.execPdOn d s
  | .pdOff d => Sys2Proof.Machine.execPdOff d s
  | .pdFault d overcurrent => Sys2Proof.Machine.execPdFault d overcurrent s
  | .blockResetDone => Sys2Proof.Machine.execBlockResetDone s
  | .refclkLost q => Sys2Proof.Machine.execRefclkLost q s
  | .refclkRestored q => Sys2Proof.Machine.execRefclkRestored q s
  | .corePllSwitch target => Sys2Proof.Machine.execCorePllSwitch target s
  | .stationWake st => Sys2Proof.Machine.execStationWake st s
  | .stationClockStop st => Sys2Proof.Machine.execStationClockStop st s
  | .subsoilBaseUpdate => Sys2Proof.Machine.execSubsoilBaseUpdate s
  | .subsoilSupplyChange toVbak => Sys2Proof.Machine.execSubsoilSupplyChange toVbak s
  | .vbakLow mv => Sys2Proof.Machine.execVbakLow mv s
  | .slotPresent n => Sys2Proof.Machine.execSlotPresent n s
  | .slotRemoved n => Sys2Proof.Machine.execSlotRemoved n s
  | .slotSeated n => Sys2Proof.Machine.execSlotSeated n s
  | .slotSeatLost n fast => Sys2Proof.Machine.execSlotSeatLost n fast s
  | .buttonPress n => Sys2Proof.Machine.execButtonPress n s
  | .buttonRelease n => Sys2Proof.Machine.execButtonRelease n s
  | .slotInputFault n m => Sys2Proof.Machine.execSlotInputFault n m s
  | .slotRampStart n => Sys2Proof.Machine.execSlotRampStart n s
  | .voutGood n m => Sys2Proof.Machine.execVoutGood n m s
  | .rampTimeout n m => Sys2Proof.Machine.execRampTimeout n m s
  | .slotPowerOn n m => Sys2Proof.Machine.execSlotPowerOn n m s
  | .faultConditionStart n volt m => Sys2Proof.Machine.execFaultConditionStart n volt m s
  | .faultConditionEnd n => Sys2Proof.Machine.execFaultConditionEnd n s
  | .slotBreakerTrip n m => Sys2Proof.Machine.execSlotBreakerTrip n m s
  | .fastTrip n m => Sys2Proof.Machine.execFastTrip n m s
  | .slotRetry n => Sys2Proof.Machine.execSlotRetry n s
  | .orderlyOffComplete n => Sys2Proof.Machine.execOrderlyOffComplete n s
  | .perstRelease n => Sys2Proof.Machine.execPerstRelease n s
  | .pwrwarnRelease n => Sys2Proof.Machine.execPwrwarnRelease n s
  | .spc16Admit m => Sys2Proof.Machine.execSpc16Admit m s
  | .vinWarning n m => Sys2Proof.Machine.execVinWarning n m s
  | .panelQuiesceTimeout cred tag => Sys2Proof.Machine.execPanelQuiesceTimeout cred tag s
  | .reclaimTimeout cred tag => Sys2Proof.Machine.execReclaimTimeout cred tag s
  | .checkerLock st lane => Sys2Proof.Machine.execCheckerLock st lane s
  | .linkCreditReturned p vc cls hdr data => Sys2Proof.Machine.execLinkCreditReturned p vc cls hdr data s
  | .receiverError p err => Sys2Proof.Machine.execReceiverError p s err
  | .standbyPowerLoss => Sys2Proof.Machine.execStandbyPowerLoss s
  | .functionResetComplete v => Sys2Proof.Machine.execFunctionResetComplete v s
  | .resetAfterReply kind => Sys2Proof.Machine.execResetAfterReply kind s
  | .entdaa chan addr => Sys2Proof.Machine.execEntdaa chan addr s

end Sys2Proof.Machine
end

