-- ==== Sys2Proof/Safety.lean ====
section
/-!
DEFINITION. Safety.lean: the terms in which statements speak of a safe run: a step that goes on, a request packet that is heard, and what a
command leaves unchanged.
-/

namespace Sys2Proof.Machine

/-- A command runs: it answers a next state. -/
def Runs (i : Instr) (s : State) : Prop := ∃ t, exec i s = .next t

/-- A request packet that has arrived is served at once and passes steps 1 to 9 of Table 14.5 with the sender and the object x (R385, R387 to
R391): Aclia is available and not loaded over the UART, nothing of the channel waits, no kept reply is repeated, CHECK_ONLY is clear, and the
object is one of this device. -/
structure Heard (s : State) (op : OpInfo) (h : Hdr) (x : Sess) : Prop where
  up : s.acl.up = true
  booted : s.flag F.ACW_FW_STATUS_UART_BOOT = false
  arriving : s.cmd.via = .arrive
  quiet : s.owing = []
  empty : (s.chan h.chan.val).held = []
  fresh : s.keptReply .arrive h = none
  flags : h.flags = 0
  len : op.len = true
  who : s.checks op h .arrive = .ok x
  here : x.form ≠ .node ∨ x.n = s.nodeId
  mine : s.get F.FAB_STATE_MGR_NODE = s.nodeId ∨ (op.code ≠ 0x0703 ∧ op.code ≠ 0x0705) ∨ 48 ≤ s.get F.FAB_STATE_MGR_NODE

/-- The state once a request has been answered as `a` says, with its reply kept unless the opcode is of kind R (R386, R389). -/
def answered (op : OpInfo) (h : Hdr) (a : Ans) : State :=
  let r : Req := { h := h, via := .arrive, opcode := op.code }
  let s := a.s.answer r a.st a.detail a.data
  if op.kind = .R then s else s.keep r a.st a.detail a.data

/-- The answer ACCEPTED. -/
def accepted (s : State) : Ans := { st := .accepted, s := s }

/-- The record of a kind-A command that has just begun (R398). -/
def State.begun (s : State) (op : OpInfo) (h : Hdr) (x : Sess) : State :=
  s.addAsync { cred := x.key, tag := h.tag, opcode := op.code, obj := 0, mode := 0, started := s.clk.now, ended := none, evId := none,
               seq := 0, endTime := 0 }

/-- The committed state with the sender's transaction so far and further items applied: what cross-checks run on (R395). -/
def State.withItems (s : State) (x : Sess) (ks : List ItemK) : State := ks.foldl State.applyItem (s.scratch x.key)

/-- What a test of one copy of the configuration image leaves behind: 0x7011 with the cause of its failure (R445). -/
def State.noteCopy (s : State) (copy : Nat) : Option Nat → State
  | some k => s.raise 0x01 0x7011 2 scDev [copy, k]
  | none => s

/-! ### Engine instructions -/

/-- Run r of engine e stands at instruction i, the one at the program counter (R185), and no word of program memory that the run comes to is bad
(R197; `Obligations.EngineEvents` says what a bad one does). -/
structure Stands (s : State) (e : Eng) (r : BRun) (i : Instr) : Prop where
  run : (s.eng e).run = some r
  here : s.fetch e = some i
  clean : r.bad = none

/-- The LDT results that are still on their way after one more instruction (R187). -/
def BRun.aged (r : BRun) : List (Nat × B64 × Nat) := (r.loads.filter fun l => l.2.2 != 0).map fun l => (l.1, l.2.1, l.2.2 - 1)

/-- A general register as the next instruction of run r reads it: an LDT result whose three instructions have passed has arrived. -/
def State.regIn (s : State) (e : Eng) (r : BRun) (i : Fin 16) : B64 := (s.landLoads e r).greg e i

/-- What no instruction of an engine run changes: other engines, the engine's image, the clusters' queues and images, and everything outside
the engines but shared tables, events, counters, and the messages that a counter sends. -/
structure EngineFrame (s t : State) (e : Eng) : Prop where
  engines : ∀ f : Nat, f ≠ e.val → t.eng f = s.eng f
  image : (t.eng e).newImage = (s.eng e).newImage
  clusters : t.bob.stn = s.bob.stn
  queue : t.pending = s.pending
  rest : t.clk = s.clk ∧ t.cmd = s.cmd ∧ t.acl = s.acl ∧ t.ports = s.ports ∧ t.core = s.core ∧ t.tbl = s.tbl ∧ t.late = s.late ∧
    t.seams = s.seams ∧ t.fab = s.fab ∧ t.spc = s.spc ∧ t.sht = s.sht ∧ t.stns = s.stns ∧ t.pow = s.pow

/-- While neither the station's counter unit nor the engine's sampler runs, no event, message or register changes but the count of
instructions. -/
def Quiet (s t : State) (e : Eng) : Prop :=
  s.flag (F.PMU_UNIT_CTL_RUN (e.val / 16)) = false → (s.eng e).due = none → bit (s.eng e).smp 0 = false →
    t.out = s.out ∧ t.evs = s.evs ∧ t.vss = s.vss ∧ t.ep = s.ep ∧
    ∀ a, a ≠ (F.STN_BE_INSTR_LO_INSTR_LO (e.val / 16) (e.val % 16)).addr → a ≠ (F.STN_BE_INSTR_HI_INSTR_HI (e.val / 16) (e.val % 16)).addr →
      t.reg a = s.reg a

/-- Neither data space nor a shared table changes. -/
def SameMemory (s t : State) (e : Eng) : Prop :=
  (t.eng e).data = (s.eng e).data ∧ t.bob.words = s.bob.words ∧ t.bob.bad = s.bob.bad

/-- An instruction of run r at engine e has written v to register d and moved on. -/
structure Writes (s t : State) (e : Eng) (r : BRun) (d : Fin 16) (v : B64) : Prop where
  result : t.greg e d = if d = 0 then 0 else v
  others : ∀ i, i ≠ d → t.greg e i = s.regIn e r i
  pc : (t.eng e).pc = ((s.eng e).pc + 1) % 4096
  run : (t.eng e).run = some { r with loads := r.aged }
  frame : EngineFrame s t e

/-- ... and nothing else but its own advance has changed (R185). -/
structure Computes (s t : State) (e : Eng) (r : BRun) (d : Fin 16) (v : B64) : Prop where
  writes : Writes s t e r d v
  memory : SameMemory s t e
  quiet : Quiet s t e

/-- An instruction of run r at engine e has moved on to slot n with the run as r', and changed no register. -/
structure Moves (s t : State) (e : Eng) (r r' : BRun) (n : Nat) : Prop where
  regs : ∀ i, t.greg e i = s.regIn e r i
  pc : (t.eng e).pc = n % 4096
  run : (t.eng e).run = some r'
  frame : EngineFrame s t e

/-- ... and nothing else but its own advance has changed (R185). -/
structure Branches (s t : State) (e : Eng) (r : BRun) (n : Nat) : Prop where
  moves : Moves s t e r { r with loads := r.aged } n
  memory : SameMemory s t e
  quiet : Quiet s t e

/-- Instructions of a program, with their slots, that follow one another in a run: each but the first stands where the one before it may go on. -/
def Follows (prog : List (Nat × Instr)) : List (Nat × Instr) → Prop
  | [] => True
  | x :: l => x ∈ prog ∧ (∀ y ∈ l.head?, y.1 ∈ insNext x.1 x.2) ∧ Follows prog l

/-- Aclia acts on the fabric at once: it is available, and nothing that came before it was waits (R16). -/
structure Acts (s : State) : Prop where
  up : s.acl.up = true
  empty : s.fab.held = []

/-- A control message that a fabric node takes at once: it arrives on a live Seam link with a good tag (R291), and Aclia acts (R16). -/
structure Taken (s : State) (c : CtlHdr) : Prop where
  node : s.nodeId ≠ 0xFF
  live : s.seamLive c.stn = true
  tag : c.tagOk = true
  acts : Acts s

end Sys2Proof.Machine
end

