-- ==== Sys2Proof/Certificates/Slice0/Obligations.lean ====
section
/-!
DEFINITION. Certificates/Slice0/Obligations.lean: the statements for the provers.
-/

open Sys2Proof Sys2Proof.Machine

/-! ### Request packets (Tables 14.7 to 14.21). In each clause the request is heard (`Heard`, steps 1 to 9 of Table 14.5) with the classes and
scope forms of its row, the remaining hypotheses are the checks of steps 10 to 12, and the conclusion is the whole next state: what the
opcode does, then its one reply (`answered`). -/

/-- Information opcodes: GET_INFO, READ_REG, READ_TABLE, GET_ASYNC. -/
def Obligations.InformationOpcodes : Prop := ∀ (s : State) (h : Hdr) (x : Sess),
  (∀ op : OpInfo, op = { code := 0x0100, kind := .R, who := anyCls, forms := [.dev], cred0 := true } → Heard s op h x →
    exec (.getInfo h) s = .next (answered op h (.read s [.u16 0x1F4E, .u16 0x7272, .u8 0xA1, .u8 (s.get F.GLB_STRAP_CODE),
      .u8 (s.get F.FAB_ID_NODE_ID), .u8 ((x.cls.map Cls.code).getD 0), .u32 (s.get F.ACW_FW_VERSION_FW_VERSION),
      .u64 (s.get F.FAB_UID_LO_UID_LO + s.get F.FAB_UID_HI_UID_HI * 2 ^ 32), .u8 x.vs]))) ∧
  (∀ (op : OpInfo) (addr count : B32) (u : State) (ws : List B32),
    op = { code := 0x0101, kind := .R, who := [.fm, .obs, .pm], forms := [.dev] } → Heard s op h x →
    addr.toNat % 4 = 0 → 1 ≤ count.toNat → count.toNat ≤ 1020 → addr.toNat + 4 * count.toNat ≤ 0x04000000 →
    (∀ i < count.toNat, s.prbsAdvanceAll.regOn (addr.toNat + 4 * i) = true) →
    s.prbsAdvanceAll.readWords addr.toNat count.toNat = (u, ws) →
    exec (.readReg h addr count) s = .next (answered op h (.read u (ws.map fun w => .u32 w.toNat)))) ∧
  (∀ (op : OpInfo) (table copy : B8) (first count : B32),
    op = { code := 0x0102, kind := .R, who := [.fm, .obs, .pm], forms := [.stn] } → Heard s op h x →
    table.toNat ≤ 4 → copy.toNat ≤ 1 → 1 ≤ count.toNat → first.toNat + count.toNat ≤ (tableShape table.toNat).2 →
    4 * (tableShape table.toNat).1 * count.toNat ≤ 4080 → s.pdOn (16 + x.n) = true →
    exec (.readTable h table copy first count) s = .next (answered op h (.read s
      ((List.range count.toNat).flatMap fun i => (List.range (tableShape table.toNat).1).map fun k => .u32 (
        if x.isP && !s.seesEntry x.vs x.n table.toNat (first.toNat + i) then 0
        else if copy.toNat = 1 then s.twShadow table.toNat x.n (first.toNat + i) k else s.tw table.toNat x.n (first.toNat + i) k))))) ∧
  (∀ (op : OpInfo) (tag : B32) (a : Async),
    op = { code := 0x0103, kind := .R, who := [.fm, .obs, .pm, .tenant], forms := [.dev, .node] } → Heard s op h x →
    (s.cmd.asyncs.reverse.find? fun a => a.cred == x.key && a.tag == tag) = some a →
    exec (.getAsync h tag) s = .next (answered op h (.read s [.u8 (b2n a.ended.isSome), .u8 0,
      .u16 (statusCode (a.ended.getD .accepted)), .u32 a.seq])))

/-- Configuration opcodes: STAGE_REG; COMMIT (OK at once, OK owed until the last station has flipped, or ACCEPTED where an image or the fabric's
tables change); ABORT; TXN_STATUS; RELEASE; QUIESCE and PORT_QUIESCE as kind-A commands, with ports left to quiesce or with none. -/
def Obligations.ConfigurationOpcodes : Prop := ∀ (s : State) (h : Hdr) (x : Sess),
  (∀ (op : OpInfo) (items : List (B32 × B32 × B32)) (norm : List (Nat × B32 × B32)) (t : State),
    op = { code := 0x0200, kind := .S, who := [.fm, .pm], forms := [.dev], len := decide (1 ≤ items.length ∧ items.length ≤ 340) } →
    Heard s op h x → (x.isP = true → ∀ y ∈ items, pmReg x.vs y.1.toNat = none) →
    (s.scratch x.key).tryItems 0 (items.map fun y => (y.1.toNat, y.2.1, y.2.2)) = .ok norm →
    (norm.any (fun y => fabReg y.1) = true → s.get F.FAB_STATE_MGR_NODE ≤ 47) →
    (s.withItems x [.regs norm]).crossAll = none → (s.withItems x [.regs norm]).crossRegs x.key (norm.map fun y => y.1) = none →
    s.addItems x.key [.regs norm] (12 * items.length) = some t →
    exec (.stageReg h items) s = .next (answered op h (.ok ((items.filter fun y => isEqReg y.1.toNat).foldl (fun t y =>
      t.eqEvents y.1.toNat (((s.scratch x.key).reg y.1.toNat &&& ~~~y.2.1) ||| (y.2.2 &&& y.2.1)).toNat) t)))) ∧
  (∀ (op : OpInfo) (t : Txn) (u sc v w : State) (ks : List ItemK) (r : Nat → Async),
    op = { code := 0x0201, kind := .I, who := [.fm, .pm], forms := [.dev, .node] } → Heard s op h x → s.txn x.key = some t → u = s.flipAll →
    ks = (if u.tbl.regShadow.isEmpty then [] else [.regs u.tbl.regShadow]) ++ t.items.map Item.what → u.tryCommit x.key u 0 ks = .ok sc →
    u.commitRefused sc x.key t.items ks = none → (∀ a ∈ addrsOf ks, u.regOn a = true) → (∀ st ∈ ks.flatMap itemStations, u.pdOn (16 + st) = true) →
    v = (u.applyCommit sc ks).dropTxn x.key →
    (∀ obj, r obj = { cred := x.key, tag := h.tag, opcode := 0x0201, obj := obj, mode := 0, started := u.clk.now, ended := none, evId := none, seq := 0, endTime := 0 }) →
    w = (if imageMask ks = 0 then v else { v with cmd := { v.cmd with asyncs := v.cmd.asyncs ++ [r (2 ^ 16 + imageMask ks)], xfer := [], xferCred := 0 } }) →
    (imageMask ks = 0 → u.fabWords sc ks = [] → (∀ st < 16, v.flipPending st = false) → exec (.commit h) s = .next (answered op h (.ok v))) ∧
    (imageMask ks = 0 → u.fabWords sc ks = [] → (∃ st < 16, v.flipPending st = true) →
      exec (.commit h) s = .next { v with cmd := { v.cmd with owed := some { h := h, via := .arrive, opcode := 0x0201 } } }) ∧
    (imageMask ks ≠ 0 → u.fabWords sc ks = [] → u.asyncLive x.key < 16 → exec (.commit h) s = .next (answered op h (accepted w))) ∧
    (u.fabWords sc ks ≠ [] → u.asyncLive x.key < 16 → exec (.commit h) s = .next (answered op h (accepted
      (State.commitFabric { w with cmd := { w.cmd with asyncs := w.cmd.asyncs ++ [r (2 ^ 17)] } } (u.fabWords sc ks)))))) ∧
  (∀ (op : OpInfo) (t : Txn), op = { code := 0x0202, kind := .I, who := [.fm, .pm], forms := [.dev, .node] } →
    Heard s op h x → s.txn x.key = some t → exec (.abort h) s = .next (answered op h (.ok (s.dropTxn x.key)))) ∧
  (∀ (op : OpInfo) (t : Txn), op = { code := 0x0203, kind := .R, who := [.fm, .pm], forms := [.dev, .node] } →
    Heard s op h x → s.txn x.key = some t →
    exec (.txnStatus h) s = .next (answered op h (.read s [.u32 t.bytes, .u32 t.items.length, .u32 ((s.clk.now - t.opened) / msec)]))) ∧
  (∀ op : OpInfo, op = { code := 0x0205, kind := .I, who := [.fm], forms := [.stn, .port] } → Heard s op h x →
    exec (.release h) s = .next (answered op h
      (.ok (((if x.form == .stn then s.stnPorts x.n else [x.n]).filter s.quiesced).foldl State.unquiesce s)))) ∧
  (∀ (op : OpInfo) (mode : B8) (limit : B32) (u v : State) (ps : List Nat), op = { code := 0x0204, kind := .A, who := [.fm], forms := [.stn] } →
    Heard s op h x → mode.toNat ≤ 1 → 1 ≤ limit.toNat → limit.toNat ≤ 60000 → s.asyncLive x.key < 16 → (s.begun op h x).quiesceLeft x.n = false →
    u = (s.begun op h x).asyncObj x.n mode.toNat → ps = (u.stnPorts x.n).filter (fun p => u.hasRole p && !u.quiesced p) →
    v = ps.foldl (fun s p => s.quiesceStart p x.key h.tag (mode.toNat == 0)) u →
    exec (.quiesce h mode limit) s = .next (answered op h (accepted (if ps = [] then
      v.endAsync (fun a => a.opcode == 0x0204 && a.cred == x.key && a.tag == h.tag) .ok none else v)))) ∧
  (∀ (op : OpInfo) (mode : B8) (limit : B32) (u : State), op = { code := 0x0301, kind := .A, who := [.fm], forms := [.port] } → Heard s op h x →
    mode.toNat ≤ 1 → 1 ≤ limit.toNat → limit.toNat ≤ 60000 → s.asyncLive x.key < 16 → ((s.begun op h x).port x.n).quiescing = none →
    u = (s.begun op h x).asyncObj x.n mode.toNat →
    exec (.portQuiesce h mode limit) s = .next (answered op h (accepted (if u.quiesced x.n = true ∨ u.hasRole x.n = false then
      u.endAsync (fun a => a.opcode == 0x0301 && a.cred == x.key && a.tag == h.tag) .ok none
      else u.quiesceStart x.n x.key h.tag (mode.toNat == 0)))))

/-- Port opcodes: PORT_STATUS, PORT_RESTART, PORT_MEASURE (into MEASURE from DETECT, FAILED and ACTIVE, and back), LANE_PRBS, LANE_MARGIN,
PRBS_READ, PROXY_CFG_RD and PROXY_CFG_WR. The errors counted at a margin point and what a proxied access finds on a link that is up are free
values (log entry 8). -/
def Obligations.PortOpcodes : Prop := ∀ (s : State) (h : Hdr) (x : Sess),
  (∀ op : OpInfo, op = { code := 0x0300, kind := .R, who := [.fm, .obs, .pm], forms := [.port] } → Heard s op h x →
    exec (.portStatus h) s = .next (answered op h (.read s [
      .u32 (s.reg (F.STN_PORT_CFG_ROLE (stnOf x.n) (kOf x.n)).addr).toNat, .u32 (s.reg (F.STN_PORT_SLOT_SLOT (stnOf x.n) (kOf x.n)).addr).toNat,
      .u32 (s.reg (F.STN_PORT_STATUS_DL_UP (stnOf x.n) (kOf x.n)).addr).toNat,
      .u32 (s.reg ((F.STN_PORT_STATUS_DL_UP (stnOf x.n) (kOf x.n)).addr + 4)).toNat]))) ∧
  (∀ op : OpInfo, op = { code := 0x0302, kind := .I, who := [.fm], forms := [.port] } → Heard s op h x → s.stage x.n = stFAILED →
    exec (.portRestart h) s = .next (answered op h (.ok (s.restartPort x.n)))) ∧
  (∀ (op : OpInfo) (enter : B8), op = { code := 0x0303, kind := .I, who := [.fm], forms := [.port] } → Heard s op h x →
    enter.toNat = 1 → (s.stage x.n = stDETECT ∨ s.stage x.n = stFAILED) →
    exec (.portMeasure h enter) s = .next (answered op h (.ok (s.setStage x.n stMEASURE)))) ∧
  (∀ (op : OpInfo) (enter : B8) (u : State), op = { code := 0x0303, kind := .I, who := [.fm], forms := [.port] } → Heard s op h x →
    enter.toNat = 1 → s.stage x.n = stACTIVE →
    u = (if s.seamMode (stnOf x.n) then s.seamLost (stnOf x.n) slAdmin else s).leaveTo x.n stMEASURE ldMeasure lsLink →
    exec (.portMeasure h enter) s = .next (answered op h (.ok (if u.pciRole x.n = 1 then u.vsResetOp (u.vsOf x.n) vrDown else u)))) ∧
  (∀ (op : OpInfo) (enter : B8), op = { code := 0x0303, kind := .I, who := [.fm], forms := [.port] } → Heard s op h x →
    enter.toNat = 0 → s.stage x.n = stMEASURE →
    exec (.portMeasure h enter) s = .next (answered op h (.ok (((s.leaveMeasure x.n).setStage x.n stOFF).kick x.n)))) ∧
  (∀ (op : OpInfo) (lane pattern bts rate : B8), op = { code := 0x0304, kind := .I, who := [.fm], forms := [.port] } → Heard s op h x →
    (s.measLanes x.n).contains lane.toNat = true → s.stage x.n = stMEASURE → bts.toNat < 16 → patternOk pattern.toNat rate.toNat = true →
    exec (.lanePrbs h lane pattern bts rate) s = .next (answered op h (.ok (s.prbsSet (stnOf x.n) lane.toNat
      (bit bts.toNat 0 || bit bts.toNat 1 || bit bts.toNat 2) (bit bts.toNat 0) (bit bts.toNat 1) (bit bts.toNat 2) (bit bts.toNat 3)
      pattern.toNat rate.toNat)))) ∧
  (∀ (op : OpInfo) (lane tOff vOff eye dwell : B8), op = { code := 0x0305, kind := .I, who := [.fm], forms := [.port] } → Heard s op h x →
    (s.measLanes x.n).contains lane.toNat = true → s.stage x.n = stMEASURE → eye.toNat ≤ 2 → dwell.toNat ≤ 15 →
    2 ^ (20 + dwell.toNat) ≤ rateMb (s.get (F.STN_LN_PRBS_CTL_MEAS_RATE (stnOf x.n) lane.toNat)) * 1000000 →
    s.flag (F.STN_LN_MARGIN_STAT_BUSY (stnOf x.n) lane.toNat) = false →
    ∃ t errs, t = ((s.marginStart (stnOf x.n) lane.toNat (int8 tOff.toNat) (int8 vOff.toNat) eye.toNat dwell.toNat).marginEnd
        (stnOf x.n) lane.toNat errs).nextFree ∧
      exec (.laneMargin h lane tOff vOff eye dwell) s = .next (answered op h (.read (t) [
        .u32 (t.get (F.STN_LN_MARGIN_STAT_MARGIN_ERRS (stnOf x.n) lane.toNat)), .u8 (t.get (F.STN_LN_MARGIN_STAT_CLAMPED (stnOf x.n) lane.toNat))]))) ∧
  (∀ (op : OpInfo) (lane : B8), op = { code := 0x0306, kind := .R, who := [.fm, .obs], forms := [.port] } → Heard s op h x →
    (s.measLanes x.n).contains lane.toNat = true →
    exec (.prbsRead h lane) s = .next (answered op h (.read (s.prbsAdvance (stnOf x.n) lane.toNat)
      ([0, 4, 8, 12, 16].map fun o => Dat.u32 ((s.prbsAdvance (stnOf x.n) lane.toNat).reg
        ((F.STN_LN_PRBS_STAT_CHK_LOCK (stnOf x.n) lane.toNat).addr + o)).toNat)))) ∧
  (∀ (op : OpInfo) (target off : B16) (size : B8), op = { code := 0x0307, kind := .R, who := [.fm], forms := [.port] } → Heard s op h x →
    s.pciRole x.n = 3 → proxyOk off size = true → s.stage x.n = stACTIVE →
    ∃ d c, exec (.proxyCfgRd h target off size) s = .next (answered op h (.read ((s.emit (.tlp x.n (proxyTlp false target off size.toNat []))).nextFree) [.u32 d, .u8 c]))) ∧
  (∀ (op : OpInfo) (target off : B16) (size : B8), op = { code := 0x0307, kind := .R, who := [.fm], forms := [.port] } → Heard s op h x →
    s.pciRole x.n = 3 → proxyOk off size = true → s.stage x.n ≠ stACTIVE →
    exec (.proxyCfgRd h target off size) s = .next (answered op h (.read s [.u32 0xFFFFFFFF, .u8 1]))) ∧
  (∀ (op : OpInfo) (target off : B16) (size : B8) (data : B32), op = { code := 0x0308, kind := .I, who := [.fm], forms := [.port] } →
    Heard s op h x → s.pciRole x.n = 3 → proxyOk off size = true → 
    (s.stage x.n = stACTIVE → ∃ c, exec (.proxyCfgWr h target off size data) s = .next (answered op h
      (.read ((s.emit (.tlp x.n (proxyTlp true target off size.toNat (leBytes size.toNat data.toNat)))).nextFree) [.u8 c]))) ∧
    (s.stage x.n ≠ stACTIVE → exec (.proxyCfgWr h target off size data) s = .next (answered op h (.read s [.u8 1]))))

/-- Routing opcodes that stage: STAGE_WINDOW, STAGE_REQUESTER (an addition and a removal), STAGE_PERMISSION, STAGE_PORT_DEFAULT. -/
def Obligations.RoutingStages : Prop := ∀ (s t : State) (h : Hdr) (x : Sess),
  (∀ (op : OpInfo) (idx mask : B16) (entry : List B32) (w : Win) (m : Nat) (sc : State),
    op = { code := 0x0400, kind := .S, who := [.fm, .pm], forms := [.vs], len := entry.length == 8 } → Heard s op h x →
    w = winOf idx.toNat (fun k => (entry.getD k 0).toNat) → m = (if mask.toNat = 0 then (s.vsStations x.n).foldl (fun m st => m + 2 ^ st) 0 else mask.toNat) →
    idx.toNat < 4096 → (entry.getD 1 0).toNat = 0 → w.hw = false → (∀ st ∈ maskStations m, ((s.scratch x.key).win st idx.toNat).hw = false) →
    (s.scratch x.key).winRange w x.n (entry.getD 0 0).toNat = true →
    (x.isP = true → (w.valid = true → s.winOwn x.n w = true) ∧ ∀ st ∈ maskStations m, st ∈ s.vsStations x.n) →
    sc = s.withItems x [.window m idx.toNat entry] → sc.winCross m idx.toNat w = true →
    (w.valid = true → w.prog = true → ∀ st ∈ maskStations m, s.imageFor x.key st = true) → sc.validGrants.all sc.grantOk = true →
    s.addItems x.key [.window m idx.toNat entry] 36 = some t →
    exec (.stageWindow h idx mask entry) s = .next (answered op h (.ok t))) ∧
  (∀ (op : OpInfo) (add : B8) (entry : B64), op = { code := 0x0401, kind := .S, who := [.fm], forms := [.stn] } → Heard s op h x →
    reqLent entry.toNat = false → entry.toNat < 2 ^ 43 → (reqPort entry.toNat < 144 ∨ reqPort entry.toNat = 0xFF) →
    (add.toNat = 1 → reqValid entry.toNat = true → (reqProg entry.toNat = true → s.imageFor x.key x.n = true) →
      (s.scratch x.key).reqFind x.n (reqRid entry.toNat) (reqPort entry.toNat) = none →
      (s.scratch x.key).reqFree x.n (reqRid entry.toNat) (reqPort entry.toNat) ≠ none →
      s.addItems x.key [.requester x.n true entry] 12 = some t →
      exec (.stageRequester h add entry) s = .next (answered op h (.ok t))) ∧
    (∀ i : Nat, add.toNat = 0 → (s.scratch x.key).reqFind x.n (reqRid entry.toNat) (reqPort entry.toNat) = some i →
      reqLent ((s.scratch x.key).tw64 tReq x.n i 0) = false → s.addItems x.key [.requester x.n false entry] 12 = some t →
      exec (.stageRequester h add entry) s = .next (answered op h (.ok t)))) ∧
  (∀ (op : OpInfo) (rclass first : B8) (count : B16) (vals : Bytes),
    op = { code := 0x0402, kind := .S, who := [.fm], forms := [.stn, .dev], len := vals.length == (count.toNat + 3) / 4 } → Heard s op h x →
    1 ≤ count.toNat → first.toNat + count.toNat ≤ 256 →
    s.addItems x.key [.perm (if x.form == .dev then 0xFFFF else 2 ^ x.n) rclass.toNat first.toNat (permVals vals count.toNat)]
      (4 + vals.length) = some t →
    exec (.stagePermission h rclass first count vals) s = .next (answered op h (.ok t))) ∧
  (∀ (op : OpInfo) (rclass prog : B8), op = { code := 0x0403, kind := .S, who := [.fm], forms := [.port] } → Heard s op h x →
    prog.toNat ≤ 1 → (prog.toNat = 1 → s.imageFor x.key (stnOf x.n) = true) →
    s.addItems x.key [.regs [fldPart (F.STN_CLS_PORT_DEF_DEF_RCLASS (stnOf x.n) (kOf x.n)) rclass.toNat,
      fldPart (F.STN_CLS_PORT_DEF_DEF_PROG (stnOf x.n) (kOf x.n)) prog.toNat]] 2 = some t →
    exec (.stagePortDefault h rclass prog) s = .next (answered op h (.ok t)))

/-- Lending opcodes: LEND, whose proxied reads find a physical function that passes the checks of R140, answers with the lowest free index and
stages the entry; LEND_RESUME, whose reads find the same; LEND_RECLAIM in both modes. Where the command does not say what the reads find, that is a
free value (log entry 8) and the request is answered all the same. -/
def Obligations.LendingOpcodes : Prop := ∀ (s : State) (h : Hdr) (x : Sess),
  (∀ (op : OpInfo) (words : List B32) (r : LendReq) (idx : Nat) (pr : SrIov) (u : State),
    op = { code := 0x0404, kind := .S, who := [.fm], forms := [.vs], len := words.length == 5 } → Heard s op h x →
    r = { w := fun k => (words.getD k 0).toNat } → r.ok = true → r.owner = x.n →
    ((List.range 256).find? fun i => !(s.nextFree.scratch x.key).lendValid (stnOf r.port) i) = some idx →
    (s.nextFree.scratch x.key).lendClash r pr (99, 0) = false → r.misaligned pr ((vfIndex pr r.rid).getD 0) = false →
    (r.prog = true → s.nextFree.imageFor x.key (stnOf r.port) = true) → (s.nextFree.scratch x.key).reqFree (stnOf r.port) r.rid r.port ≠ none →
    s.nextFree.addItems x.key [.lend (stnOf r.port) idx (r.words pr ((vfIndex pr r.rid).getD 0)) pr] 20 = some u →
    exec (.lend h words (some pr)) s = .next (answered op h (.read u [.u8 idx]))) ∧
  (∀ (op : OpInfo) (idx : B8) (r : LendReq) (pr : SrIov), op = { code := 0x0405, kind := .I, who := [.fm], forms := [.stn] } → Heard s op h x →
    s.lendValid x.n idx.toNat = true → s.lendState x.n idx.toNat = 2 → r = { w := s.nextFree.lw x.n idx.toNat } →
    s.nextFree.lendClash r pr (x.n, idx.toNat) = false → r.misaligned pr ((vfIndex pr r.rid).getD 0) = false →
    exec (.lendResume h idx (some pr)) s = .next (answered op h (.ok (s.nextFree.lendActive x.n idx.toNat)))) ∧
  (∀ (op : OpInfo) (words : List B32), op = { code := 0x0404, kind := .S, who := [.fm], forms := [.vs], len := words.length == 5 } → Heard s op h x →
    ∃ pr, exec (.lend h words none) s = exec (.lend h words (some pr)) s ∧ ∃ a, exec (.lend h words none) s = .next (answered op h a)) ∧
  (∀ (op : OpInfo) (idx : B8), op = { code := 0x0405, kind := .I, who := [.fm], forms := [.stn] } → Heard s op h x →
    ∃ pr, exec (.lendResume h idx none) s = exec (.lendResume h idx (some pr)) s ∧ ∃ a, exec (.lendResume h idx none) s = .next (answered op h a)) ∧
  (∀ (op : OpInfo) (idx mode : B8) (limit : B32) (u v : State), op = { code := 0x0406, kind := .A, who := [.fm], forms := [.stn] } → Heard s op h x →
    s.asyncLive x.key < 16 → (s.begun op h x).lendValid x.n idx.toNat = true → (s.begun op h x).lendState x.n idx.toNat ≠ 3 →
    (s.begun op h x).reclaiming x.n idx.toNat = 0 → u = (s.begun op h x).asyncObj (256 * x.n + idx.toNat) mode.toNat →
    (mode.toNat = 1 → exec (.lendReclaim h idx mode limit) s = .next (answered op h (accepted (u.lendRelease x.n idx.toNat 1)))) ∧
    (mode.toNat = 0 → v = u.setVdp x.n idx.toNat 0 ofSLTCTL (u.vdp x.n idx.toNat 0 ofSLTCTL ||| slAttn) →
      exec (.lendReclaim h idx mode limit) s = .next (answered op h (accepted (State.reclaimGoOn
        { v with tbl := { v.tbl with reclaim := SMap.set (fun _ => 0) v.tbl.reclaim (256 * x.n + idx.toNat) 1 } } x.n idx.toNat)))))

/-- Multicast, trace and Bobbin opcodes: STAGE_MGROUP, STAGE_TRACE_RULE, READ_SAMPLES, IMAGE_TRANSFER, IMAGE_INSTALL, STAGE_REGIONS, TABLE_WRITE, TABLE_READ, BOBBIN_STATUS. An image that fails a check is refused with 0x4001. -/
def Obligations.MulticastTraceBobbinOpcodes : Prop := ∀ (s t : State) (h : Hdr) (x : Sess),
  (∀ (op : OpInfo) (group : B8) (entry : List B32) (ws : List (Nat × B32 × B32)),
    op = { code := 0x0500, kind := .S, who := [.fm], forms := [.dev], len := entry.length == 8 } → Heard s op h x →
    ws = ((List.range 5).map fun w => regWhole (groupAddr group.toNat w) (entry.getD w 0).toNat) ++
      [regWhole (groupAddr group.toNat 5) ((entry.getD 5 0).toNat % 128)] →
    (s.withItems x [.regs ws]).groupCheck group.toNat = none → s.addItems x.key [.regs ws] 36 = some t →
    exec (.stageMgroup h group entry) s = .next (answered op h (.ok t))) ∧
  (∀ (op : OpInfo) (rule : B8) (ctl mtch rate : B32) (ws : List (Nat × B32 × B32)),
    op = { code := 0x0501, kind := .S, who := [.fm], forms := [.dev] } → Heard s op h x → rule.toNat < 16 → bits ctl.toNat 12 8 ≤ 143 →
    ws = [((F.MCT_TR_CTL_EN rule.toNat).addr, 0x000FFFF7#32, ctl), ((F.MCT_TR_MATCH_ING_PORT rule.toNat).addr, 0x007FFFFF#32, mtch),
      ((F.MCT_TR_RATE_N_M1 rule.toNat).addr, 0x0000FFFF#32, rate)] →
    (s.withItems x [.regs ws]).traceOk = true → s.addItems x.key [.regs ws] 16 = some t →
    exec (.stageTraceRule h rule ctl mtch rate) s = .next (answered op h (.ok t))) ∧
  (∀ (op : OpInfo) (first count : B32) (es : List Sample), op = { code := 0x0502, kind := .R, who := [.fm, .obs], forms := [.dev] } →
    Heard s op h x → 1 ≤ count.toNat → count.toNat ≤ 63 → es = (s.core.samples.filter fun e => seqGe e.seq first.toNat).take count.toNat →
    exec (.readSamples h first count) s = .next (answered op h (.read s (.u32 ((es.head?.map Sample.seq).getD first.toNat) :: es.flatMap Sample.dat)))) ∧
  (∀ (op : OpInfo) (off : B32) (piece old : Bytes),
    op = { code := 0x0600, kind := .I, who := [.fm], forms := [.dev], len := decide (piece.length ≤ 4076) } → Heard s op h x →
    (s.cmd.xfer = [] ∨ s.cmd.xferCred = x.key ∨ s.cred s.cmd.xferCred = none) → old = (if off.toNat = 0 then [] else s.cmd.xfer) →
    old.length = off.toNat → off.toNat + piece.length ≤ 65920 → (off.toNat ≠ 0 → s.cmd.xferCred = x.key) →
    exec (.imageTransfer h off piece) s = .next (answered op h (.ok { s with cmd := { s.cmd with xfer := old ++ piece, xferCred := x.key } }))) ∧
  (∀ (op : OpInfo) (len : B32) (mask : B16) (mode : B8), op = { code := 0x0601, kind := .S, who := [.fm], forms := [.dev] } →
    Heard s op h x → mode.toNat ≤ 1 → s.cmd.xferCred = x.key → (s.cmd.xfer.take len.toNat).length = len.toNat →
    (∀ st ∈ maskStations mask.toNat, s.swapBusy st = false) →
    s.addItems x.key [.image mask.toNat (mode.toNat == 1) (s.cmd.xfer.take len.toNat)] 8 = some t →
    exec (.imageInstall h len mask mode) s = .next (answered op h (match s.checkImage (s.cmd.xfer.take len.toNat) with
      | none => .ok t
      | some (reason, i, meet) => .fail (if meet then .stagedConflict else .badParam) (s.raise 0x01 0x4001 3 (scStn ((maskStations mask.toNat).headD 0))
          [imgId (s.cmd.xfer.take len.toNat), imgVer (s.cmd.xfer.take len.toNat), reason, i])))) ∧
  (∀ (op : OpInfo) (mask : B16) (nreg : B8) (recs : List (List B32)),
    op = { code := 0x0602, kind := .S, who := [.fm], forms := [.dev], len := recs.length == nreg.toNat && recs.all fun r => r.length == 4 } →
    Heard s op h x → nreg.toNat ≤ 16 → recs.all (regionFmt (2 ^ 20) 3) = true → (∀ st ∈ maskStations mask.toNat, s.rulesBusy st = false) →
    regionsOverlap recs = false → s.addItems x.key [.regions mask.toNat recs] (4 + 16 * recs.length) = some t →
    exec (.stageRegions h mask nreg recs) s = .next (answered op h (.ok t))) ∧
  (∀ (op : OpInfo) (mask : B16) (off : B32) (words : List B64),
    op = { code := 0x0603, kind := .I, who := [.fm], forms := [.dev], len := decide (words.length ≤ 509) } → Heard s op h x →
    off.toNat % 8 = 0 → off.toNat + 8 * words.length ≤ 0x100000 → (∀ st ∈ maskStations mask.toNat, s.bobOn st = true) →
    exec (.tableWrite h mask off words) s = .next (answered op h (.ok ((maskStations mask.toNat).foldl (fun s st =>
      (words.zip (List.range words.length)).foldl (fun s y => s.setShared st (off.toNat + 8 * y.2) y.1) s) s)))) ∧
  (∀ (op : OpInfo) (off count : B32), op = { code := 0x0604, kind := .R, who := [.fm, .obs], forms := [.stn] } → Heard s op h x →
    off.toNat % 8 = 0 → 1 ≤ count.toNat → count.toNat ≤ 510 → off.toNat + 8 * count.toNat ≤ 0x100000 → s.bobOn x.n = true →
    (∀ i < count.toNat, sharedKey x.n (off.toNat + 8 * i) ∉ s.bob.bad) →
    exec (.tableRead h off count) s = .next (answered op h (.read s ((List.range count.toNat).map fun i =>
      .u64 (s.shared x.n (off.toNat + 8 * i)).toNat)))) ∧
  (∀ op : OpInfo, op = { code := 0x0605, kind := .R, who := [.fm, .obs], forms := [.stn] } → Heard s op h x →
    exec (.bobbinStatus h) s = .next (answered op h (.read s ([.u32 (s.reg (F.STN_BB_STATUS_IN_SERVICE x.n).addr).toNat,
      .u32 (s.reg (F.STN_BB_IMAGE_IMAGE_ID x.n).addr).toNat, .u32 (s.reg (F.STN_BB_EPOCH_EPOCH x.n).addr).toNat] ++
      (List.range 16).map fun k => .u32 (s.reg (F.STN_BE_STATE_STATE x.n k).addr).toNat))))

/-- Fabric opcodes: FABRIC_STATE, FABRIC_TOPOLOGY, STAGE_PIN, STAGE_BINDING, STAGE_EXPORT, REROUTE. -/
def Obligations.FabricOpcodes : Prop := ∀ (s t : State) (h : Hdr) (x : Sess),
  (∀ op : OpInfo, op = { code := 0x0700, kind := .R, who := [.fm, .obs], forms := [.node] } → Heard s op h x →
    exec (.fabricState h) s = .next (answered op h (.read s [.u32 (s.regRead F.FAB_STATE_STEP.addr).toNat,
      .u32 (s.regRead F.FAB_TIME_STAT_SYNC.addr).toNat, .u32 (s.regRead F.FAB_CNT_REROUTES.addr).toNat]))) ∧
  (∀ op : OpInfo, op = { code := 0x0701, kind := .R, who := [.fm, .obs], forms := [.dev] } → Heard s op h x →
    s.nodeId ≠ 0xFF → 10 ≤ s.get F.FAB_STATE_STEP →
    exec (.fabricTopology h) s = .next (answered op h (.read s (topoDat s.nodeId s.ownUid s.ownLinks ++
      ((List.range 48).filter fun n => (s.node n).known && n != s.nodeId).flatMap fun n => topoDat n (s.node n).uid.toNat (s.node n).links)))) ∧
  (∀ (op : OpInfo) (ing : B16) (vc node pin : B8) (f : Fld), op = { code := 0x0702, kind := .S, who := [.fm], forms := [.node] } →
    Heard s op h x → ing.toNat ≤ 159 → vc.toNat ≤ 1 → node.toNat ≤ 47 → pin.toNat ≤ 3 → s.managed = true →
    f = F.FAB_PIN_PINS (3 * (2 * ing.toNat + vc.toNat) + node.toNat / 16) →
    s.addItems x.key [.regs [fldPart { f with lo := 2 * (node.toNat % 16), w := 2 } pin.toNat]] 8 = some t →
    exec (.stagePin h ing vc node pin) s = .next (answered op h (.ok t))) ∧
  (∀ (op : OpInfo) (hi fi : B8) (home far : List B32),
    op = { code := 0x0703, kind := .S, who := [.fm], forms := [.dev], len := home.length == 4 && far.length == 4 } → Heard s op h x →
    hi.toNat ≤ 63 → fi.toNat ≤ 63 → s.managed = true →
    (s.withItems x [.binding hi.toNat fi.toNat home far]).bindingOk hi.toNat fi.toNat home far = none →
    s.addItems x.key [.binding hi.toNat fi.toNat home far] 36 = some t →
    exec (.stageBinding h hi fi home far) s = .next (answered op h (.ok t))) ∧
  (∀ (op : OpInfo) (idx : B8) (entry : List B32),
    op = { code := 0x0704, kind := .S, who := [.fm], forms := [.node], len := entry.length == 4 } → Heard s op h x → s.managed = true →
    s.addItems x.key [.regs ((entry.zip (List.range 4)).map fun w => regWhole (exportAddr idx.toNat w.2) w.1.toNat)] 20 = some t →
    exec (.stageExport h idx entry) s = .next (answered op h (.ok t))) ∧
  (∀ op : OpInfo, op = { code := 0x0705, kind := .A, who := [.fm], forms := [.dev] } → Heard s op h x → s.asyncLive x.key < 16 →
    s.nodeId ≠ 0xFF → s.managed = true → s.fab.hold = none → s.fab.publishing = false → s.fab.goAt = none →
    exec (.reroute h) s = .next (answered op h (accepted ((s.begun op h x).startChange [] (2 ^ 48 - 1) 0))))

/-- Panel opcodes that act at once: PANEL_ALLOT, PANEL_ENABLE, PANEL_RESTORE, PANEL_RESUME, PANEL_MESSAGE, PANEL_STATUS. -/
def Obligations.PanelOpcodesAtOnce : Prop := ∀ (s : State) (h : Hdr) (x : Sess),
  (∀ (op : OpInfo) (first count : B16), op = { code := 0x0800, kind := .I, who := [.fm], forms := [.vs] } → Heard s op h x →
    first.toNat + count.toNat ≤ 4096 →
    (∀ a ∈ s.cmd.allot, a.2.2 ≠ x.n → first.toNat + count.toNat ≤ a.1 ∨ a.1 + a.2.1 ≤ first.toNat) →
    (∀ n ∈ s.boundPanels x.n, first.toNat ≤ n ∧ n < first.toNat + count.toNat) →
    exec (.panelAllot h first count) s = .next (answered op h (.ok { s with cmd := { s.cmd with
      allot := s.cmd.allot.filter (fun a => a.2.2 != x.n) ++ if count.toNat = 0 then [] else [(first.toNat, count.toNat, x.n)] } }))) ∧
  (∀ op : OpInfo, op = { code := 0x0803, kind := .I, who := [.fm, .pm, .tenant], forms := [.panel] } → Heard s op h x →
    (s.pState x.n = pStopped → exec (.panelEnable h) s = .next (answered op h (.ok ((s.setP x.n pRunning).goOn x.n)))) ∧
    (s.pState x.n = pHalted → exec (.panelEnable h) s = .next (answered op h (.ok (s.retryPanel x.n))))) ∧
  (∀ (op : OpInfo) (v : B8) (pasid : B32) (grants : List B16) (rec : Bytes) (given : List (Nat × Nat)),
    op = { code := 0x0807, kind := .I, who := [.fm, .pm], forms := [.panel], len := grants.length == 16 && rec.length == 768 } →
    Heard s op h x → given = (((List.range 16).zip (grants.map BitVec.toNat)).filter fun g => g.1 != 0 && bit g.2 15) →
    (x.isP = true → given = [] ∧ v.toNat = x.vs) → v.toNat < 32 → pasid.toNat < 2 ^ 20 → recordOk rec = true →
    (s.pState x.n = pUnbound ∨ s.pState x.n = pStopped ∧ s.sqHead x.n = (s.pnl x.n).sqTail) →
    s.pasidTaken x.n v.toNat pasid.toNat = false → (∀ g ∈ given, s.get (F.SHT_GNT_CTL_VS (g.2 % 1024)) = v.toNat) →
    exec (.panelRestore h v pasid grants rec) s = .next (answered op h (.ok
      ((((s.putRecord x.n v.toNat pasid.toNat rec).clearSlots x.n).bindSlots x.n given).raise 0x07 0x6004 0 (scPanel x.n)
        [x.n, v.toNat, leAt rec 8 8, leAt rec 16 2])))) ∧
  (∀ op : OpInfo, op = { code := 0x0808, kind := .I, who := [.fm, .pm], forms := [.panel] } → Heard s op h x →
    s.pState x.n = pFrozen → exec (.panelResume h) s = .next (answered op h (.ok ((s.setP x.n pRunning).goOn x.n)))) ∧
  (∀ op : OpInfo, op = { code := 0x0808, kind := .I, who := [.fm, .pm], forms := [.panel] } → Heard s op h x →
    s.pState x.n = pHalted → exec (.panelResume h) s = .next (answered op h (.ok (s.retryPanel x.n)))) ∧
  (∀ (op : OpInfo) (word : B32) (v w : Nat), op = { code := 0x080A, kind := .I, who := [.fm, .pm], forms := [.panel] } → Heard s op h x →
    s.panelVs x.n = some v → w = word.toNat % 2 ^ 31 + (if (s.pnl x.n).mmsg.getLsbD 31 then 0 else 2 ^ 31) →
    exec (.panelMessage h word) s = .next (answered op h (.ok
      ((s.modPnl x.n fun y => { y with mmsg := BitVec.ofNat 32 w }).fire v true (s.get (F.SHT_PNL_RING_VECTOR x.n)))))) ∧
  (∀ op : OpInfo, op = { code := 0x080B, kind := .R, who := [.fm, .obs, .pm, .tenant], forms := [.panel] } → Heard s op h x →
    exec (.panelStatus h) s = .next (answered op h (.read s [.u32 (s.reg (F.SHT_PNL_STATE_STATE x.n).addr).toNat,
      .u32 ((s.pnl x.n).cqTail + b2n (s.pnl x.n).phase * 65536), .u64 (s.pnl x.n).descDone, .u64 (s.pnl x.n).bytes])))

/-- Panel opcodes that stage or run on: PANEL_BIND, PANEL_UNBIND, STAGE_GRANT, STAGE_SLOT, PANEL_QUIESCE, PANEL_FREEZE, PANEL_RESET. -/
def Obligations.PanelOpcodesStagedAndAsync : Prop := ∀ (s t : State) (h : Hdr) (x : Sess),
  (∀ (op : OpInfo) (pasid : B32) (sqb cqb : B64) (sqo cqo : B8) (vec : B16) (weight holdoff : B8) (v : Nat) (ws : List (Nat × B32 × B32)),
    op = { code := 0x0801, kind := .S, who := [.fm, .pm], forms := [.panel] } → Heard s op h x → pasid.toNat < 2 ^ 20 →
    ringOk sqb.toNat cqb.toNat sqo.toNat cqo.toNat vec.toNat weight.toNat holdoff.toNat = true → s.panelBindVs x = some v →
    ws = bindParts x.n v pasid.toNat sqb.toNat cqb.toNat sqo.toNat cqo.toNat vec.toNat weight.toNat holdoff.toNat →
    (s.withItems x [.bind x.n v ws]).pasidTaken x.n v pasid.toNat = false → s.addItems x.key [.bind x.n v ws] 28 = some t →
    exec (.panelBind h pasid sqb cqb sqo cqo vec weight holdoff) s = .next (answered op h (.ok t))) ∧
  (∀ op : OpInfo, op = { code := 0x0802, kind := .S, who := [.fm, .pm], forms := [.panel] } → Heard s op h x → s.pState x.n = pStopped →
    s.addItems x.key [.unbind x.n] 0 = some t → exec (.panelUnbind h) s = .next (answered op h (.ok t))) ∧
  (∀ (op : OpInfo) (grant : B16) (ctl lo hi size : B32) (ws : List (Nat × B32 × B32)),
    op = { code := 0x080C, kind := .S, who := [.fm], forms := [.dev] } → Heard s op h x → grant.toNat < 1024 → size.toNat ≠ 0 →
    ws = [regWhole (F.SHT_GNT_CTL_VALID grant.toNat).addr (ctl.toNat % 256),
      regWhole (F.SHT_GNT_BASE_LO_BASE_LO grant.toNat).addr (lo.toNat / 4096 * 4096),
      regWhole (F.SHT_GNT_BASE_HI_BASE_HI grant.toNat).addr hi.toNat, regWhole (F.SHT_GNT_SIZE_SIZE grant.toNat).addr size.toNat] →
    (s.withItems x [.regs ws]).grantOk grant.toNat = true → s.addItems x.key [.regs ws] 20 = some t →
    exec (.stageGrant h grant ctl lo hi size) s = .next (answered op h (.ok t))) ∧
  (∀ (op : OpInfo) (slot valid : B8) (grant : B16) (ws : List (Nat × B32 × B32)),
    op = { code := 0x080D, kind := .S, who := [.fm], forms := [.panel] } → Heard s op h x → 1 ≤ slot.toNat → slot.toNat ≤ 15 →
    valid.toNat ≤ 1 → grant.toNat < 1024 →
    ws = (if slot.toNat % 2 = 0 then
        [fldPart (F.SHT_PNL_SLOT_GRANT0 x.n (slot.toNat / 2)) grant.toNat, fldPart (F.SHT_PNL_SLOT_VALID0 x.n (slot.toNat / 2)) valid.toNat]
      else [fldPart (F.SHT_PNL_SLOT_GRANT1 x.n (slot.toNat / 2)) grant.toNat, fldPart (F.SHT_PNL_SLOT_VALID1 x.n (slot.toNat / 2)) valid.toNat]) →
    (s.withItems x [.regs ws]).slotOk x.n slot.toNat = true → s.addItems x.key [.regs ws] 4 = some t →
    exec (.stageSlot h slot valid grant) s = .next (answered op h (.ok t))) ∧
  (∀ (op : OpInfo) (limit : B32) (u : State), op = { code := 0x0804, kind := .A, who := [.fm, .pm, .tenant], forms := [.panel] } → Heard s op h x →
    s.asyncLive x.key < 16 → u = ((s.begun op h x).asyncObj x.n 0).setP x.n pQuiescing →
    ((s.begun op h x).pState x.n = pRunning → exec (.panelQuiesce h limit) s = .next (answered op h (accepted
      ((u.modPnl x.n fun y => { y with fetched := [], cause := pcQuiesce }).goOn x.n)))) ∧
    (∀ v : State, (s.begun op h x).pState x.n = pHalted →
      v = u.modPnl x.n (fun y => { y with fetched := [], cause := pcQuiesce, ending := none, wr := y.done, rd := y.done }) →
      exec (.panelQuiesce h limit) s = .next (answered op h (accepted
        (if (s.begun op h x).get (F.SHT_PNL_STATE_LAST_STATUS x.n) = psBadDesc then v.endDesc x.n psBadDesc else v.goOn x.n))))) ∧
  (∀ (op : OpInfo) (u : State), op = { code := 0x0805, kind := .A, who := [.fm, .pm], forms := [.panel] } → Heard s op h x →
    s.asyncLive x.key < 16 → u = ((s.begun op h x).asyncObj x.n 0).setP x.n pFreezing →
    ((s.begun op h x).pState x.n = pRunning ∨ (s.begun op h x).pState x.n = pStopped → exec (.panelFreeze h) s = .next (answered op h (accepted
      ((u.modPnl x.n fun y => { y with fetched := [], since := s.clk.now }).goOn x.n)))) ∧
    ((s.begun op h x).pState x.n = pHalted → exec (.panelFreeze h) s = .next (answered op h (accepted
      ((u.modPnl x.n fun y => { y with fetched := [], since := s.clk.now, ending := some 0, rd := y.wr }).goOn x.n))))) ∧
  (∀ op : OpInfo, op = { code := 0x0809, kind := .A, who := [.fm, .pm], forms := [.panel] } → Heard s op h x →
    s.asyncLive x.key < 16 → (s.begun op h x).pState x.n ≠ pUnbound →
    exec (.panelReset h) s = .next (answered op h (accepted (((s.begun op h x).asyncObj x.n 0).resetPanel x.n pcReset))))

/-- Containment and slot opcodes: CQ_READ, FENCE, FENCE_RELEASE, LATE_READ, LATE_CLEAR, SLOT_STATUS, SLOT_POWER, STAGE_SLOT_PARAMS,
STAGE_SLOT_BUDGET. -/
def Obligations.ContainmentAndSlotOpcodes : Prop := ∀ (s t : State) (h : Hdr) (x : Sess),
  (∀ op : OpInfo, op = { code := 0x0900, kind := .R, who := [.fm, .obs], forms := [.stn] } → Heard s op h x →
    exec (.cqRead h) s = .next (answered op h (.read s (.u32 (s.reg (F.STN_CQ_STATUS_USED x.n).addr).toNat ::
      (List.range 128).map fun w => .u32 (s.reg ((F.STN_CQ_ENTRY0_VALID x.n 0).addr + 4 * w)).toNat)))) ∧
  (∀ op : OpInfo, op = { code := 0x0901, kind := .I, who := [.fm], forms := [.stn] } → Heard s op h x →
    exec (.fence h) s = .next (answered op h (.ok (s.fenceOp x.n 0 0)))) ∧
  (∀ op : OpInfo, op = { code := 0x0902, kind := .I, who := [.fm], forms := [.stn] } → Heard s op h x → s.fenced x.n = true →
    s.get (F.STN_OB_FLUSH_FLUSHING x.n) = 0 → exec (.fenceRelease h) s = .next (answered op h (.ok (s.unfence x.n)))) ∧
  (∀ (op : OpInfo) (first count : B32) (es : List LateEnt), op = { code := 0x0903, kind := .R, who := [.fm, .pm], forms := [.dev] } →
    Heard s op h x → 1 ≤ count.toNat → count.toNat ≤ 127 →
    es = (s.late.log.filter fun e => seqGe e.seq first.toNat && (!x.isP || e.vs == x.vs)).take count.toNat →
    exec (.lateRead h first count) s = .next (answered op h (.read
      { s with late := { s.late with log := s.late.log.map (fun (e : LateEnt) => if (es.map LateEnt.seq).contains e.seq then { e with fetched := true } else e) } }
      (.u32 ((es.head?.map LateEnt.seq).getD first.toNat) :: es.flatMap LateEnt.dat)))) ∧
  (∀ op : OpInfo, op = { code := 0x0904, kind := .I, who := [.fm], forms := [.dev] } → Heard s op h x →
    exec (.lateClear h) s = .next (answered op h (.ok { s with late := { s.late with log := [] } }))) ∧
  (∀ (op : OpInfo) (slot : B8), op = { code := 0x0A00, kind := .R, who := [.fm, .obs, .pm], forms := [.dev] } → Heard s op h x →
    slot.toNat ≤ 16 → (x.isP = true → slot.toNat ≠ 16 ∧ ∃ p, s.portOfSlot slot.toNat = some p ∧ s.pciRole p = 2 ∧ s.vsOf p = x.vs) →
    exec (.slotStatus h slot) s = .next (answered op h (.read s (s.spcWords slot.toNat)))) ∧
  (∀ (op : OpInfo) (slot on : B8) (u : State), op = { code := 0x0A01, kind := .I, who := [.fm], forms := [.dev] } → Heard s op h x →
    slot.toNat ≤ 15 → on.toNat ≤ 1 → u = (if on.toNat = 1 then s.commandOn slot.toNat else s.commandOff slot.toNat) →
    (∀ p, s.portOfSlot slot.toNat = some p → s.pciRole p = 2 → s.flag (F.STN_PORT_CFG_HP_OWNER (stnOf p) (kOf p)) = true) →
    exec (.slotPower h slot on) s = .next (answered op h (.ok (((u.portOfSlot slot.toNat).map u.quiesceGoOn).getD u)))) ∧
  (∀ (op : OpInfo) (slot : B8) (cfg : B32), op = { code := 0x0A02, kind := .S, who := [.fm], forms := [.dev] } → Heard s op h x →
    slot.toNat ≤ 16 → spcCfgOk slot.toNat cfg.toNat = true →
    s.addItems x.key [.regs [((F.SPC_CFG_CLASS slot.toNat).addr, if slot.toNat = 16 then 0x0000FFF7#32 else 0x03FFFFFF#32, cfg)]] 8 = some t →
    exec (.stageSlotParams h slot cfg) s = .next (answered op h (.ok t))) ∧
  (∀ (op : OpInfo) (budget : B32), op = { code := 0x0A03, kind := .S, who := [.fm], forms := [.dev] } → Heard s op h x →
    5 ≤ bits budget.toNat 16 8 → bits budget.toNat 16 8 ≤ 100 →
    s.addItems x.key [.regs [(F.SPC_BUDGET_BUDGET_W.addr, 0x007FFFFF#32, budget)]] 4 = some t →
    exec (.stageSlotBudget h budget) s = .next (answered op h (.ok t)))

/-- Sensor, log and counter opcodes: SENSOR_READ, LOG_READ, PLOG_READ, LASTGASP_READ, COUNTER_CLEAR, PMC_GRANT, PMC_READ. -/
def Obligations.SensorLogCounterOpcodes : Prop := ∀ (s t : State) (h : Hdr) (x : Sess),
  (∀ op : OpInfo, op = { code := 0x0B00, kind := .R, who := [.fm, .obs, .pm], forms := [.dev] } → Heard s op h x →
    exec (.sensorRead h) s = .next (answered op h (.read s (((List.range 32).map fun i => Dat.u32 (s.reg (F.ACW_SENS_VALUE i).addr).toNat) ++
      [.u32 (s.reg F.ACW_THERM_STATUS_WARN.addr).toNat])))) ∧
  (∀ (op : OpInfo) (first : B32) (count : B16) (minsev : B8) (l : List (Nat × Ev)),
    op = { code := 0x0B01, kind := .R, who := [.fm, .obs, .pm], forms := [.dev] } → Heard s op h x → 1 ≤ count.toNat → count.toNat ≤ 127 →
    minsev.toNat ≤ 5 → l = (s.evs.log.filter fun r => decide (first.toNat ≤ r.1) && decide (minsev.toNat ≤ r.2.sev) &&
      (!x.isP || s.scopeVs r.2.scope == some x.vs)).take count.toNat →
    exec (.logRead h first count minsev) s = .next (answered op h (.read s (.u32 ((l.head?.map Prod.fst).getD (s.get F.ACW_LOG_STATUS_NEXT_SEQ)) ::
      (l.flatMap fun r => evBytes r.1 r.2).map fun b => .u8 b.toNat)))) ∧
  (∀ (op : OpInfo) (idx : B32) (count : B16), op = { code := 0x0B02, kind := .R, who := [.fm, .obs], forms := [.dev] } → Heard s op h x →
    1 ≤ count.toNat → count.toNat ≤ 127 → idx.toNat < 2176 →
    exec (.plogRead h idx count) s = .next (answered op h (.read s ((((List.range count.toNat).filterMap fun k =>
      s.evs.plog.find? fun r => r.1 % 2176 == idx.toNat + k).flatMap fun r => evBytes r.2.1 r.2.2).map fun b => .u8 b.toNat)))) ∧
  (∀ op : OpInfo, op = { code := 0x0B03, kind := .R, who := [.fm, .obs], forms := [.dev] } → Heard s op h x →
    exec (.lastgaspRead h) s = .next (answered op h (.read s ((List.range 128).map fun k => .u32 (s.gaspWord (k / 8) (k % 8)).toNat)))) ∧
  (∀ (op : OpInfo) (addr : B32) (mine : Nat → Bool), op = { code := 0x0C00, kind := .I, who := [.fm], forms := [.dev, .stn] } → Heard s op h x →
    mine = (fun a => x.form == .dev || (decide (0x01000000 + 0x100000 * x.n ≤ a) && decide (a < 0x01100000 + 0x100000 * x.n))) →
    (addr.toNat = 0 → exec (.counterClear h addr) s = .next (answered op h (.ok (s.prbsAdvanceAll.clearCounters mine)))) ∧
    (addr.toNat ≠ 0 → counterMask addr.toNat ≠ 0 → mine addr.toNat = true →
      exec (.counterClear h addr) s = .next (answered op h (.ok (s.prbsAdvanceAll.clearCounter addr.toNat))))) ∧
  (∀ (op : OpInfo) (unit v en : B8) (mask : B32), op = { code := 0x0C01, kind := .S, who := [.fm], forms := [.dev] } → Heard s op h x →
    unit.toNat ≤ 21 → v.toNat < 32 → en.toNat ≤ 1 →
    s.addItems x.key [.regs [regWhole (F.PMC_GRANT_CTL_VS unit.toNat).addr (v.toNat + en.toNat * 32),
      regWhole (F.PMC_READ_MASK_READ_MASK unit.toNat).addr mask.toNat]] 8 = some t →
    exec (.pmcGrant h unit v en mask) s = .next (answered op h (.ok t))) ∧
  (∀ (op : OpInfo) (unit : B8), op = { code := 0x0C02, kind := .R, who := [.fm, .obs], forms := [.dev] } → Heard s op h x → unit.toNat ≤ 21 →
    exec (.pmcRead h unit) s = .next (answered op h (.read s ((List.range 8).map fun c => .u64 (s.acc unit.toNat c)))))

/-- Reset and power opcodes: PD_STATUS, PD_SET (a domain to be switched on or off, or already so), BLOCK_RESET of a block that is not in use,
DEVICE_RESET, RESET_HISTORY. -/
def Obligations.ResetAndPowerOpcodes : Prop := ∀ (s : State) (h : Hdr) (x : Sess),
  (∀ op : OpInfo, op = { code := 0x0D00, kind := .R, who := [.fm, .obs], forms := [.dev] } → Heard s op h x →
    exec (.pdStatus h) s = .next (answered op h (.read s ((List.range 64).map fun d => .u32 (s.reg (F.GLB_PD_STATE_STATE d).addr).toNat)))) ∧
  (∀ (op : OpInfo) (dom on : B8) (d : Nat) (u v w : State) (mine : Async → Bool), op = { code := 0x0D01, kind := .A, who := [.fm], forms := [.dev] } →
    Heard s op h x → s.asyncLive x.key < 16 → u = s.begun op h x → d = dom.toNat → d ≤ 61 → u.flag F.GLB_STATUS_THERMTRIP = false →
    (d < 16 ∨ 32 ≤ d ∧ d < 48 → u.hold (d % 16) = false) → u.flag (F.GLB_PD_STATE_REQ d) = (u.pdState d == 2) →
    v = (if u.pdState d = 3 then u.put (F.GLB_PD_STATE_STATE d) 0 else u) → mine = (fun a => a.opcode == 0x0D01 && a.obj == d) →
    (on.toNat = 1 → w = { v.pdAsk d true with pow := { (v.pdAsk d true).pow with offBySet := u.pow.offBySet.filter (· != d) } } →
      exec (.pdSet h dom on) s = .next (answered op h (accepted (if u.pdState d = 2 then
        (u.asyncObj d 1).raiseEnd mine 0x00 0x8010 0 scDev [d, 0] else w.asyncObj d 1)))) ∧
    (on.toNat = 0 → (u.noneNeeds d = true ∧ u.pdMayOff d = true ∨ 56 ≤ d ∧ d < 60 ∧ bit (u.get F.CORE_STALL_STATUS_FAILED) (d - 56) = true) →
      w = { v.pdAsk d false with pow := { (v.pdAsk d false).pow with offBySet := d :: u.pow.offBySet.filter (· != d) } } →
      exec (.pdSet h dom on) s = .next (answered op h (accepted (if u.pdState d = 2 then w.asyncObj d 0
        else (w.asyncObj d 0).raiseEnd mine 0x00 0x8011 0 scDev [d, 1]))))) ∧
  (∀ (op : OpInfo) (code : B8), op = { code := 0x0D02, kind := .I, who := [.fm], forms := [.dev, .stn] } → Heard s op h x →
    (1 ≤ code.toNat ∧ code.toNat ≤ 3 ∧ x.form = .stn ∨ 0x10 ≤ code.toNat ∧ code.toNat ≤ 0x12 ∧ x.form = .dev) → s.pow.block = none →
    s.flag (F.GLB_PD_STATE_REQ (blockDomain code.toNat x.n)) = s.pdIsOn (blockDomain code.toNat x.n) → s.blockBusy code.toNat x.n = none →
    exec (.blockReset h code) s = .next (answered op h (.ok { s.blockClear code.toNat x.n with
      pow := { (s.blockClear code.toNat x.n).pow with block := some (code.toNat, x.n) } }))) ∧
  (∀ (op : OpInfo) (kind : B8), op = { code := 0x0D03, kind := .I, who := [.fm], forms := [.dev] } → Heard s op h x → kind.toNat ≤ 1 →
    exec (.deviceReset h kind) s = .next (answered op h (.ok { s with pow := { s.pow with pendingReset := some kind.toNat } }))) ∧
  (∀ op : OpInfo, op = { code := 0x0D04, kind := .R, who := [.fm, .obs], forms := [.dev] } → Heard s op h x →
    exec (.resetHistory h) s = .next (answered op h (.read s (((List.range 9).map fun i => Dat.u16 (s.get (causeCnt (i + 2)))) ++
      [.u32 (s.reg F.GLB_RESET_CAUSE_LAST_CAUSE.addr).toNat]))))

/-- Firmware and configuration image opcodes: FW_WRITE and CFG_WRITE of a first and of a later piece, FW_CHECK of an image that passes or fails,
FW_ACTIVATE, FW_CONFIRM, CFG_FINISH of an image that passes or fails, UPD_STATUS, UART_LOAD of any piece in the boot ROM. -/
def Obligations.FirmwareOpcodes : Prop := ∀ (s : State) (h : Hdr) (x : Sess),
  (∀ (op : OpInfo) (off : B32) (piece : Bytes) (nb : Nat) (u : State),
    op = { code := 0x0E00, kind := .I, who := [.fm], forms := [.dev], len := decide (piece.length ≤ 4076) } → Heard s op h x →
    (s.get F.ACW_FW_STATUS_UPD_STATE = 0 ∧ off.toNat = 0 ∨ s.get F.ACW_FW_STATUS_UPD_STATE = 1 ∧ s.acl.fwCred = x.key ∧
      (off.toNat = 0 ∨ off.toNat = s.acl.fwBytes)) → off.toNat + piece.length ≤ 8388608 → nb = 1 - s.get F.ACW_FW_STATUS_RUN_BANK →
    u = s.setBankOf nb (flashWrite (s.bankOf nb) off.toNat piece) →
    exec (.fwWrite h off piece) s = .next (answered op h (.ok (({ u with acl := { u.acl with fwBytes := off.toNat + piece.length, fwCred := x.key } }).put
      F.ACW_FW_STATUS_UPD_STATE 1)))) ∧
  (∀ (op : OpInfo) (len : B32) (img : Bytes) (u : State), op = { code := 0x0E01, kind := .I, who := [.fm], forms := [.dev] } → Heard s op h x →
    (s.get F.ACW_FW_STATUS_UPD_STATE = 1 ∨ s.get F.ACW_FW_STATUS_UPD_STATE = 2) → img = s.bankOf (1 - s.get F.ACW_FW_STATUS_RUN_BANK) →
    u = s.put F.ACW_FW_STATUS_UPD_STATE 0 →
    exec (.fwCheck h len) s = .next (answered op h (match (if len.toNat ≠ s.acl.fwBytes ∨ len.toNat < fwLen img then some 2 else s.fwTest img) with
      | none => .ok ((s.put F.ACW_FW_STATUS_UPD_STATE 2).raise 0x01 0x7005 1 scDev [fwVersion img, fwSvn img])
      | some k => .fail .badParam (if k = 4 then u.raise 0x01 0x7009 2 scDev [fwSvn img, s.acl.rollback]
          else u.raise 0x01 0x7003 3 scDev [1 - s.get F.ACW_FW_STATUS_RUN_BANK, k])))) ∧
  (∀ op : OpInfo, op = { code := 0x0E02, kind := .A, who := [.fm], forms := [.dev] } → Heard s op h x → s.asyncLive x.key < 16 →
    (s.begun op h x).get F.ACW_FW_STATUS_UPD_STATE = 2 →
    exec (.fwActivate h) s = .next (answered op h (accepted ((s.begun op h x).beginActivation false)))) ∧
  (∀ (op : OpInfo) (u : State), op = { code := 0x0E03, kind := .I, who := [.fm], forms := [.dev] } → Heard s op h x →
    s.flag F.ACW_FW_STATUS_TRIAL = true → u = (((s.writeBootRec (s.get F.ACW_FW_STATUS_RUN_BANK == 1) false false).putB
      F.ACW_FW_STATUS_TRIAL false).putB F.ACW_FW_STATUS_CONFIRMED true).put F.ACW_FW_STATUS_UPD_STATE 0 →
    exec (.fwConfirm h) s = .next (answered op h (.ok (u.raise 0x01 0x7007 0 scDev [u.get F.ACW_FW_VERSION_FW_VERSION])))) ∧
  (∀ (op : OpInfo) (off : B32) (piece : Bytes) (u : State),
    op = { code := 0x0E04, kind := .I, who := [.fm], forms := [.dev], len := decide (piece.length ≤ 4076) } → Heard s op h x →
    (off.toNat = 0 ∧ 16 ≤ piece.length ∧ leAt piece 12 4 = (s.get F.ACW_CFG_SEQ_SEQ + 1) % 2 ^ 32 ∨
      off.toNat ≠ 0 ∧ s.acl.cfgBusy = true ∧ off.toNat = s.acl.cfgBytes) → off.toNat + piece.length ≤ 1048576 →
    (s.acl.cfgBusy = true → s.acl.cfgCred = x.key) → u = s.setCfgOf s.cfgSpare (flashWrite (s.cfgOf s.cfgSpare) off.toNat piece) →
    exec (.cfgWrite h off piece) s = .next (answered op h
      (.ok { u with acl := { u.acl with cfgBytes := off.toNat + piece.length, cfgBusy := true, cfgCred := x.key } }))) ∧
  (∀ (op : OpInfo) (len : B32) (img : Bytes) (u : State), op = { code := 0x0E05, kind := .I, who := [.fm], forms := [.dev] } → Heard s op h x →
    s.acl.cfgBusy = true → len.toNat = s.acl.cfgBytes → s.acl.cfgCred = x.key → img = s.cfgOf s.cfgSpare →
    u = { s with acl := { s.acl with cfgBusy := false } } →
    (leAt img 8 4 = len.toNat → cfgTest img = none →
      exec (.cfgFinish h len) s = .next (answered op h (.ok (u.raise 0x01 0x7014 0 scDev [s.cfgSpare, leAt img 12 4])))) ∧
    ((leAt img 8 4 ≠ len.toNat ∨ cfgTest img ≠ none) → exec (.cfgFinish h len) s = .next (answered op h (.fail .hwFault u)))) ∧
  (∀ op : OpInfo, op = { code := 0x0E06, kind := .R, who := [.fm, .obs], forms := [.dev] } → Heard s op h x →
    exec (.updStatus h) s = .next (answered op h (.read s [.u8 (s.get F.ACW_FW_STATUS_UPD_STATE), .u32 s.acl.fwBytes, .u32 s.acl.cfgBytes]))) ∧
  (∀ (off total : B32) (piece got : Bytes), h.chan = 0 → h.scope = 0xFFFF → h.cred = 0 → h.flags = 0 → s.acl.romWaits = true → s.acl.up = false →
    s.cmd.via = .arrive → s.owing = [] → (s.chan 0).held = [] → s.keptReply .arrive h = none → s.flag F.ACW_FW_STATUS_UART_BOOT = false →
    piece.length ≤ 4072 → (off.toNat = 0 ∨ off.toNat = s.acl.sram.length) → off.toNat + piece.length ≤ total.toNat → total.toNat ≤ 2097152 →
    got = (if off.toNat = 0 then [] else s.acl.sram) ++ piece →
    exec (.uartLoad h off total piece) s = .next (answered { code := 0x0E07, kind := .I, who := [.fm], forms := [.dev], cred0 := true } h
      (if off.toNat + piece.length < total.toNat then .ok { s with acl := { s.acl with sram := got } }
       else if fwLen got ≤ got.length ∧ s.fwTest got = none then .ok ((s.fwUp 0 false true got).booted 2 got)
       else .fail .badParam { s with acl := { s.acl with sram := [] } })))

/-- Credential opcodes: CRED_OPEN, CRED_CLOSE, CRED_TENANT, STAGE_CHANNEL, SEC_STATUS, STAGE_PROXY_REGIONS. Each first disarms an armed debug
lock (R375). -/
def Obligations.CredentialOpcodes : Prop := ∀ (s t : State) (h : Hdr) (x : Sess) (id : B32),
  (∀ (op : OpInfo) (cls v : B8) (k : Cls), op = { code := 0x0F00, kind := .I, who := anyCls, forms := [.dev], cred0 := true } →
    Heard s op h x → cls.toNat ≤ 3 → Cls.ofCode cls.toNat = some k → (k = .pm → v.toNat < 32 ∧ (3 ≤ h.chan.val → chanVs h.chan.val = some v.toNat)) →
    cls.toNat ≤ (s.disarm 0x0F00).maxClass h.chan.val →
    (s.disarm 0x0F00).openCred (fun g => { gen := g, cls := k, vs := if k = .pm then v.toNat else 0xFF, panel := 0, chan := h.chan.val,
                                           eid := bindEid h.chan.val h.eid.toNat }) = some (id, t) →
    exec (.credOpen h cls v) s = .next (answered op h (.read t [.u32 id.toNat]))) ∧
  (∀ op : OpInfo, op = { code := 0x0F01, kind := .I, who := anyCls, forms := [.dev] } → Heard s op h x →
    exec (.credClose h) s = .next (answered op h (.ok ((s.disarm 0x0F01).closeIdx (credIdx x.key))))) ∧
  (∀ (op : OpInfo) (v : Nat), op = { code := 0x0F02, kind := .I, who := [.fm, .pm], forms := [.panel] } → Heard s op h x →
    (s.disarm 0x0F02).panelVs x.n = some v → (x.isP = false ∨ v = x.vs) →
    (s.disarm 0x0F02).openCred (fun g => { gen := g, cls := .tenant, vs := v, panel := x.n, chan := h.chan.val, eid := bindEid h.chan.val h.eid.toNat }) = some (id, t) →
    exec (.credTenant h) s = .next (answered op h (.read t [.u32 id.toNat]))) ∧
  (∀ (op : OpInfo) (ch cls : B8), op = { code := 0x0F09, kind := .S, who := [.fm], forms := [.dev] } → Heard s op h x →
    ch.toNat ≤ 66 → cls.toNat ≤ 3 →
    (s.disarm 0x0F09).addItems x.key [.regs [fldPart (F.ACW_CHAN_CFG_MAX_CLASS ch.toNat) cls.toNat]] 4 = some t →
    exec (.stageChannel h ch cls) s = .next (answered op h (.ok t))) ∧
  (∀ op : OpInfo, op = { code := 0x0F0A, kind := .R, who := [.fm, .obs], forms := [.dev] } → Heard s op h x →
    exec (.secStatus h) s = .next (answered op h (.read (s.disarm 0x0F0A)
      (.u32 ((s.disarm 0x0F0A).reg F.ACW_SEC_STATUS_ROLLBACK.addr).toNat :: (List.range 4).map fun i =>
        .u8 (if ((s.disarm 0x0F0A).keySlot (i + 1)).revoked then 2 else if ((s.disarm 0x0F0A).keySlot (i + 1)).enrolled then 1 else 0))))) ∧
  (∀ (op : OpInfo) (nreg : B8) (recs : List (List B32)),
    op = { code := 0x0F08, kind := .S, who := [.fm], forms := [.dev], len := recs.length == nreg.toNat && recs.all fun r => r.length == 4 } →
    Heard s op h x → nreg.toNat ≤ 16 → recs.all (regionFmt (2 ^ 26) 2) = true → regionsOverlap recs = false →
    (s.disarm 0x0F08).addItems x.key [.proxyRegions recs] (4 + 16 * recs.length) = some t →
    exec (.stageProxyRegions h nreg recs) s = .next (answered op h (.ok t)))

/-- Fuse opcodes: KEY_ENROLL, KEY_REVOKE, ROLLBACK_ADVANCE, DEBUG_ARM, DEBUG_CONFIRM: the fuse is burnt and OK answered where the burn reads back
as written, HW_FAULT with 0xA004 where it does not. What the rollback fuses hold after a failed burn and DEBUG_ARM's challenge are free values (log entry 8), and so is whether a burn reads back where
the command does not say: the request is answered all the same. -/
def Obligations.FuseOpcodes : Prop := ∀ (s d b : State) (h : Hdr) (x : Sess),
  (∀ (op : OpInfo) (slot : B8) (key pad : Bytes),
    op = { code := 0x0F03, kind := .I, who := [.fm], forms := [.dev], len := key.length == 97 && pad.length == 3 } → Heard s op h x →
    d = s.disarm 0x0F03 → b = d.nextFree.emit (.fuse fzKey slot.toNat) → 1 ≤ slot.toNat → slot.toNat ≤ 4 → keyOk key = true →
    pad.any (· != 0) = false → (d.keySlot slot.toNat).enrolled = false → (d.keySlot slot.toNat).revoked = false →
    exec (.keyEnroll h slot key pad (some true)) s = .next (answered op h
      (.ok ((b.setKeySlot slot.toNat { d.keySlot slot.toNat with enrolled := true, key := key }).raise 0x01 0xA006 1 scDev
        [slot.toNat, leNat ((Config.sha384 key).take 8)]))) ∧
    exec (.keyEnroll h slot key pad (some false)) s = .next (answered op h (b.burnFailed fzKey)) ∧
    ∃ ok, exec (.keyEnroll h slot key pad none) s = exec (.keyEnroll h slot key pad (some ok)) s) ∧
  (∀ (op : OpInfo) (slot : B8), op = { code := 0x0F04, kind := .I, who := [.fm], forms := [.dev] } → Heard s op h x →
    d = s.disarm 0x0F04 → b = d.nextFree.emit (.fuse fzRevoke slot.toNat) → 1 ≤ slot.toNat → slot.toNat ≤ 4 →
    (d.keySlot slot.toNat).revoked = false →
    exec (.keyRevoke h slot (some true)) s = .next (answered op h
      (.ok ((b.setKeySlot slot.toNat { d.keySlot slot.toNat with revoked := true }).raise 0x01 0xA007 1 scDev [slot.toNat]))) ∧
    exec (.keyRevoke h slot (some false)) s = .next (answered op h (b.burnFailed fzRevoke)) ∧
    ∃ ok, exec (.keyRevoke h slot none) s = exec (.keyRevoke h slot (some ok)) s) ∧
  (∀ (op : OpInfo) (n : Nat), op = { code := 0x0F05, kind := .I, who := [.fm], forms := [.dev] } → Heard s op h x →
    d = s.disarm 0x0F05 → n = d.get F.ACW_SEC_STATUS_RUN_SVN → b = d.nextFree.emit (.fuse fzRollback n) →
    d.flag F.ACW_FW_STATUS_TRIAL = false → d.flag F.ACW_FW_STATUS_UART_BOOT = false →
    exec (.rollbackAdvance h (some true)) s = .next (answered op h (.read
      ((({ b with acl := { b.acl with rollback := n } }).put F.ACW_SEC_STATUS_ROLLBACK n).raise 0x01 0xA005 1 scDev [d.acl.rollback, n])
      [.u8 n])) ∧
    (∃ k ≤ 64, exec (.rollbackAdvance h (some false)) s = .next (answered op h
      ((({ b with acl := { b.acl with rollback := k } }).put F.ACW_SEC_STATUS_ROLLBACK k).burnFailed fzRollback))) ∧
    ∃ ok, exec (.rollbackAdvance h none) s = exec (.rollbackAdvance h (some ok)) s) ∧
  (∀ op : OpInfo, op = { code := 0x0F06, kind := .I, who := [.fm], forms := [.dev] } → Heard s op h x → s.acl.debugLocked = false →
    s.acl.arm = none → ∃ ch : B32, exec (.debugArm h) s = .next (answered op h (.read
      ((({ s.nextFree with acl := { s.acl with arm := some { challenge := ch, chan := h.chan.val, cred := x.key } } }).putB
        F.ACW_SEC_STATUS_ARMED true).raise 0x01 0xA001 1 scDev [h.chan.val]) [.u32 ch.toNat]))) ∧
  (∀ (op : OpInfo) (chal : B32), op = { code := 0x0F07, kind := .I, who := [.fm], forms := [.dev] } → Heard s op h x →
    s.acl.debugLocked = false → s.acl.arm = some { challenge := chal, chan := h.chan.val, cred := x.key } →
    d = ({ s with acl := { s.acl with arm := none } }).putB F.ACW_SEC_STATUS_ARMED false → b = d.nextFree.emit (.fuse fzDebug 0) →
    exec (.debugConfirm h chal (some true)) s = .next (answered op h
      (.ok ((({ b with acl := { b.acl with debugLocked := true } }).putB F.ACW_SEC_STATUS_DEBUG_LOCKED true).raise 0x01 0xA002 1 scDev []))) ∧
    exec (.debugConfirm h chal (some false)) s = .next (answered op h (b.burnFailed fzDebug)) ∧
    ∃ ok, exec (.debugConfirm h chal none) s = exec (.debugConfirm h chal (some ok)) s)

/-! ### Engine instructions (Table 7.4). Each clause is about one instruction of a run in progress: it completes, its result is in its
destination register (a write of g0 is discarded), the pc moves to the next slot, and nothing else changes (`Computes`, `Branches`). -/

/-- The instructions that compute D from registers: the twelve of Table 7.4 with three registers, and HASH. From parts of R185. -/
def Obligations.EngineAlu : Prop := ∀ (s : State) (e : Eng) (r : BRun) (d a b : Fin 16) (x y : B64),
  x = s.regIn e r a → y = s.regIn e r b →
  (Stands s e r (.aluAdd e d a b) → ∃ t, exec (.aluAdd e d a b) s = .next t ∧ Computes s t e r d (x + y)) ∧
  (Stands s e r (.aluSub e d a b) → ∃ t, exec (.aluSub e d a b) s = .next t ∧ Computes s t e r d (x - y)) ∧
  (Stands s e r (.aluAnd e d a b) → ∃ t, exec (.aluAnd e d a b) s = .next t ∧ Computes s t e r d (x &&& y)) ∧
  (Stands s e r (.aluOr e d a b) → ∃ t, exec (.aluOr e d a b) s = .next t ∧ Computes s t e r d (x ||| y)) ∧
  (Stands s e r (.aluXor e d a b) → ∃ t, exec (.aluXor e d a b) s = .next t ∧ Computes s t e r d (x ^^^ y)) ∧
  (Stands s e r (.aluShl e d a b) → ∃ t, exec (.aluShl e d a b) s = .next t ∧ Computes s t e r d (x <<< (y.toNat % 64))) ∧
  (Stands s e r (.aluShr e d a b) → ∃ t, exec (.aluShr e d a b) s = .next t ∧ Computes s t e r d (x >>> (y.toNat % 64))) ∧
  (Stands s e r (.aluMinu e d a b) → ∃ t, exec (.aluMinu e d a b) s = .next t ∧ Computes s t e r d (BitVec.ofNat 64 (min x.toNat y.toNat))) ∧
  (Stands s e r (.aluMaxu e d a b) → ∃ t, exec (.aluMaxu e d a b) s = .next t ∧ Computes s t e r d (BitVec.ofNat 64 (max x.toNat y.toNat))) ∧
  (Stands s e r (.aluSeq e d a b) → ∃ t, exec (.aluSeq e d a b) s = .next t ∧ Computes s t e r d (if x = y then 1 else 0)) ∧
  (Stands s e r (.aluSltu e d a b) → ∃ t, exec (.aluSltu e d a b) s = .next t ∧ Computes s t e r d (if x.toNat < y.toNat then 1 else 0)) ∧
  (Stands s e r (.hash e d a b) → ∃ t, exec (.hash e d a b) s = .next t ∧ Computes s t e r d ((crc32c (leBytes 8 x.toNat ++ leBytes 8 y.toNat)).setWidth 64))

/-- The instructions with an immediate: ADDI and LI sign-extend it, ANDI, ORI and XORI zero-extend it, SHLI and SHRI shift by it, MOVK replaces
16-bit part HW of D. From parts of R185. -/
def Obligations.EngineImmediates : Prop := ∀ (s : State) (e : Eng) (r : BRun) (d a : Fin 16) (x : B64),
  x = s.regIn e r a →
  (∀ imm, Stands s e r (.addi e d a imm) → ∃ t, exec (.addi e d a imm) s = .next t ∧ Computes s t e r d (x + imm.signExtend 64)) ∧
  (∀ imm, Stands s e r (.andi e d a imm) → ∃ t, exec (.andi e d a imm) s = .next t ∧ Computes s t e r d (x &&& imm.setWidth 64)) ∧
  (∀ imm, Stands s e r (.ori e d a imm) → ∃ t, exec (.ori e d a imm) s = .next t ∧ Computes s t e r d (x ||| imm.setWidth 64)) ∧
  (∀ imm, Stands s e r (.xori e d a imm) → ∃ t, exec (.xori e d a imm) s = .next t ∧ Computes s t e r d (x ^^^ imm.setWidth 64)) ∧
  (∀ sh, Stands s e r (.shli e d a sh) → ∃ t, exec (.shli e d a sh) s = .next t ∧ Computes s t e r d (x <<< sh.toNat)) ∧
  (∀ sh, Stands s e r (.shri e d a sh) → ∃ t, exec (.shri e d a sh) s = .next t ∧ Computes s t e r d (x >>> sh.toNat)) ∧
  (∀ imm, Stands s e r (.li e d imm) → ∃ t, exec (.li e d imm) s = .next t ∧ Computes s t e r d (imm.signExtend 64)) ∧
  (∀ (hw : Fin 4) (imm : B16), Stands s e r (.movk e d hw imm) → ∃ t v, exec (.movk e d hw imm) s = .next t ∧ Computes s t e r d v ∧
    ∀ i < 64, v.getLsbD i = if i / 16 = hw.val then imm.getLsbD (i % 16) else (s.regIn e r d).getLsbD i)

/-- R185, R188: NOP and the branches. A branch that is taken goes on at the slot after its own plus OFF, one that is not at the slot after its
own; no register changes. -/
def Obligations.EngineBranches : Prop := ∀ (s : State) (e : Eng) (r : BRun) (d a : Fin 16) (off : BitVec 12) (x y : B64) (n : Bool → Nat),
  x = s.regIn e r d → y = s.regIn e r a → (∀ c, n c = (s.eng e).pc + 1 + if c then off.toNat else 0) →
  (Stands s e r (.nop e) → ∃ t, exec (.nop e) s = .next t ∧ Branches s t e r (n false)) ∧
  (Stands s e r (.beq e d a off) → ∃ t, exec (.beq e d a off) s = .next t ∧ Branches s t e r (n (x == y))) ∧
  (Stands s e r (.bne e d a off) → ∃ t, exec (.bne e d a off) s = .next t ∧ Branches s t e r (n (x != y))) ∧
  (Stands s e r (.bltu e d a off) → ∃ t, exec (.bltu e d a off) s = .next t ∧ Branches s t e r (n (decide (x.toNat < y.toNat)))) ∧
  (Stands s e r (.bgeu e d a off) → ∃ t, exec (.bgeu e d a off) s = .next t ∧ Branches s t e r (n (decide (y.toNat ≤ x.toNat)))) ∧
  (∀ imm, Stands s e r (.beqi e d imm off) → ∃ t, exec (.beqi e d imm off) s = .next t ∧ Branches s t e r (n (x == imm.setWidth 64))) ∧
  (∀ imm, Stands s e r (.bnei e d imm off) → ∃ t, exec (.bnei e d imm off) s = .next t ∧ Branches s t e r (n (x != imm.setWidth 64))) ∧
  (∀ k, Stands s e r (.bbs e d k off) → ∃ t, exec (.bbs e d k off) s = .next t ∧ Branches s t e r (n (x.getLsbD k.toNat))) ∧
  (∀ k, Stands s e r (.bbc e d k off) → ∃ t, exec (.bbc e d k off) s = .next t ∧ Branches s t e r (n (!x.getLsbD k.toNat))) ∧
  (Stands s e r (.jmp e off) → ∃ t, exec (.jmp e off) s = .next t ∧ Branches s t e r (n true))

/-- The instructions that reach the header window, data space, the shared tables and the classifier's context, where the access is allowed; a data
access outside data space or misaligned, and a table access that the thimble denies, are DATA_RANGE and TABLE_DENIED faults before anything else;
an uncorrectable word is LOCAL_UNCORR or SHARED_UNCORR. From parts of R182 to R184, R186, R187, R189, R194, R197. -/
def Obligations.EngineMemory : Prop := ∀ (s u : State) (e : Eng) (r : BRun) (d a : Fin 16) (n : Nat), n = (s.eng e).pc + 1 → u = s.instrStart e r →
  (∀ (sz : Fin 4) (off : BitVec 6), Stands s e r (.ldh e d sz off) → ∃ t, exec (.ldh e d sz off) s = .next t ∧
    Computes s t e r d (BitVec.ofNat 64 (winLoad r.win off.toNat (2 ^ sz.val)))) ∧
  (∀ (sz : Fin 4) (off : BitVec 6) (w : Bytes), Stands s e r (.sth e a sz off) → w = winStore r off.toNat (2 ^ sz.val) (s.regIn e r a) →
    ∃ t, exec (.sth e a sz off) s = .next t ∧ SameMemory s t e ∧ Quiet s t e ∧
      Moves s t e r { r with loads := r.aged, win := w, tag := if w = r.win then r.tag else leftTag r.tag0 (s.runTlp r) r.win0 w } n) ∧
  (∀ (sz : Fin 4) (imm : B16) (ecc : Fin 3) (addr : Nat), addr = (s.regIn e r a + imm.setWidth 64).toNat → addr % 2 ^ sz.val = 0 →
    addr + 2 ^ sz.val ≤ 0xC000 →
    (ecc.val ≤ 1 → Stands s e r (.ldl e d a sz imm 0) → ∃ t, exec (.ldl e d a sz imm ecc) s = .next t ∧ SameMemory s t e ∧ (ecc.val = 0 → Quiet s t e) ∧
      Writes s t e r d (BitVec.ofNat 64 (leNat ((List.range (2 ^ sz.val)).map fun i => s.dataByte e (addr + i))))) ∧
    (ecc.val ≤ 1 → Stands s e r (.stl e d a sz imm 0) → ∃ t, exec (.stl e d a sz imm ecc) s = .next t ∧ Moves s t e r { r with loads := r.aged } n ∧
      (ecc.val = 0 → Quiet s t e) ∧ t.bob.words = s.bob.words ∧ t.bob.bad = s.bob.bad ∧ ∀ i, t.dataByte e i =
        if addr ≤ i ∧ i < addr + 2 ^ sz.val then BitVec.ofNat 8 ((s.regIn e r d).toNat / 2 ^ (8 * (i - addr))) else s.dataByte e i) ∧
    (ecc.val = 2 → Stands s e r (.ldl e d a sz imm 0) → exec (.ldl e d a sz imm ecc) s = .next ((u.localEcc e 1 (addr / 8) 2).runFault e 6 false)) ∧
    (ecc.val = 2 → Stands s e r (.stl e d a sz imm 0) → exec (.stl e d a sz imm ecc) s = .next ((u.localEcc e 1 (addr / 8) 2).runFault e 6 false))) ∧
  (∀ (sz : Fin 4) (imm : B16) (ecc : Fin 3) (addr : Nat), addr = (s.regIn e r a + imm.setWidth 64).toNat →
    (addr % 2 ^ sz.val ≠ 0 ∨ 0xC000 < addr + 2 ^ sz.val) →
    (Stands s e r (.ldl e d a sz imm 0) → exec (.ldl e d a sz imm ecc) s = .next (u.runFault e 1 false)) ∧
    (Stands s e r (.stl e d a sz imm 0) → exec (.stl e d a sz imm ecc) s = .next (u.runFault e 1 false))) ∧
  (∀ (imm : BitVec 17) (ecc : Fin 3) (addr k : Nat) (ok : Nat → Prop), addr = (s.regIn e r a + (imm.setWidth 64 : B64) * 8).toNat →
    addr % 8 = 0 → addr ≤ 0xFFFF8 → k = sharedKey (e.val / 16) addr → ecc.val ≤ 1 → k ∉ s.bob.bad →
    (∀ kind, ok kind ↔ thmCheck (if r.epoch = (s.thm e).epoch then (s.thm e).regions else (s.thm e).old)
      (if r.epoch = (s.thm e).epoch then (s.thm e).bad else []) addr 8 kind = .allowed) →
    (ok 0 → Stands s e r (.ldt e d a imm 0) → ∃ t, exec (.ldt e d a imm ecc) s = .next t ∧ SameMemory s t e ∧ (ecc.val = 0 → Quiet s t e) ∧
      Moves s t e r { r with loads := r.aged ++ if d = 0 then [] else [(d.val, s.shared (e.val / 16) addr, 3)] } n) ∧
    (ok 1 → Stands s e r (.stt e d a imm) → ∃ t, exec (.stt e d a imm) s = .next t ∧ Moves s t e r { r with loads := r.aged } n ∧ Quiet s t e ∧
      t.shared (e.val / 16) addr = s.regIn e r d ∧ (∀ j, j ≠ k → SMap.get (fun _ => 0) t.bob.words j = SMap.get (fun _ => 0) s.bob.words j) ∧
      (t.eng e).data = (s.eng e).data) ∧
    (ok 2 → Stands s e r (.addt e d a imm 0) → ∃ t, exec (.addt e d a imm ecc) s = .next t ∧ Moves s t e r { r with loads := r.aged } n ∧
      (ecc.val = 0 → Quiet s t e) ∧ t.shared (e.val / 16) addr = s.shared (e.val / 16) addr + s.regIn e r d ∧
      (∀ j, j ≠ k → SMap.get (fun _ => 0) t.bob.words j = SMap.get (fun _ => 0) s.bob.words j) ∧ (t.eng e).data = (s.eng e).data)) ∧
  (∀ (imm : BitVec 17) (ecc : Fin 3) (addr kind : Nat) (x : State) (i j : Instr), addr = (s.regIn e r a + (imm.setWidth 64 : B64) * 8).toNat →
    (kind = 0 ∧ i = .ldt e d a imm 0 ∧ j = .ldt e d a imm ecc ∧ x = u.smpEvent e 2 (u.eng e).pc r.cls ∨ kind = 1 ∧ i = .stt e d a imm ∧ j = i ∧ x = u ∨
      kind = 2 ∧ i = .addt e d a imm 0 ∧ j = .addt e d a imm ecc ∧ x = u) → Stands s e r i →
    (addr % 8 ≠ 0 ∨ 0xFFFF8 < addr ∨ thmCheck (if r.epoch = (s.thm e).epoch then (s.thm e).regions else (s.thm e).old)
      (if r.epoch = (s.thm e).epoch then (s.thm e).bad else []) addr 8 kind = .denied) →
    exec j s = .next (State.runFault (x.raiseLim ms100 e (srcStn (e.val / 16)) 0x4020 2 (scStn (e.val / 16)) 0 [e, addr, kind, r.epoch]) e 2 false)) ∧
  (∀ (imm : BitVec 17) (ecc : Fin 3) (addr k kind : Nat) (x y : State) (i j : Instr), addr = (s.regIn e r a + (imm.setWidth 64 : B64) * 8).toNat →
    (kind = 0 ∧ i = .ldt e d a imm 0 ∧ j = .ldt e d a imm ecc ∧ x = u.smpEvent e 2 (u.eng e).pc r.cls ∨
      kind = 2 ∧ i = .addt e d a imm 0 ∧ j = .addt e d a imm ecc ∧ x = u) → Stands s e r i → addr % 8 = 0 → addr ≤ 0xFFFF8 →
    thmCheck (if r.epoch = (s.thm e).epoch then (s.thm e).regions else (s.thm e).old)
      (if r.epoch = (s.thm e).epoch then (s.thm e).bad else []) addr 8 kind = .allowed → k = sharedKey (e.val / 16) addr →
    (k ∈ s.bob.bad ∧ y = x ∨ k ∉ s.bob.bad ∧ ecc.val = 2 ∧
      y = State.bump { x with bob := { x.bob with bad := x.bob.bad ++ [k] } } (F.STN_CLS_ECC_UNCORR (e.val / 16))) →
    exec j s = .next (y.runFault e 3 false)) ∧
  (∀ (sel : BitVec 6) (f : Flight), sel.toNat ≤ 18 → s.flight r.fid = some f → Stands s e r (.ctx e d sel) → ∃ t, exec (.ctx e d sel) s = .next t ∧
    Computes s t e r d (BitVec.ofNat 64 (ctxValue f (f.hand.getD {}) r e sel.toNat)))

/-- TRACE asks for a rule that is enabled with DEST 0, EVT raises 0x4800 + SUB (or counts it as lost), and the four EXITs end the run: the header
goes on as the program left it, is discarded (ABORT completes a request with Completer Abort), or goes to another port; a REDIRECT to a port that is
not valid is a run fault of cause 4. From parts of R191, R192. -/
def Obligations.EngineActions : Prop := ∀ (s u v : State) (e : Eng) (r r' : BRun) (f : Flight) (st : Nat),
  r' = { r with loads := r.aged } → u = s.instrStart e r → st = e.val / 16 → s.flight r.fid = some f → v = u.retire e r' →
  (∀ rule, s.traceOn rule.val = true → Stands s e r (.trace e rule) → ∃ t, exec (.trace e rule) s = .next t ∧ SameMemory s t e ∧ Quiet s t e ∧
    Moves s t e r { r' with rules := r.rules ++ [rule.val] } ((s.eng e).pc + 1)) ∧
  (∀ rule, s.traceOn rule.val = false → Stands s e r (.trace e rule) → ∃ t, exec (.trace e rule) s = .next t ∧ Branches s t e r ((s.eng e).pc + 1)) ∧
  (∀ (a : Fin 16) (sub : B8) (w : State), w = u.raiseLim ms100 st (srcStn st) (0x4800 + sub.toNat) 1 (scStn st) 0
      [sub.toNat, e.val, (s.regIn e r a).toNat] → Stands s e r (.evt e a sub) →
    exec (.evt e a sub) s = .next ((if w.evs.next = u.evs.next then w.bump (F.STN_BB_EVT_LOST_EVT_LOST st) else w).modEng e fun x =>
      { x with pc := ((s.eng e).pc + 1) % 4096 }) ∧ ∃ t, exec (.evt e a sub) s = .next t ∧ Moves s t e r r' ((s.eng e).pc + 1)) ∧
  (Stands s e r (.exitForward e) → exec (.exitForward e) s = .next (v.rejoin (returned f r'))) ∧
  (Stands s e r (.exitDrop e) → exec (.exitDrop e) s = .next (v.bobDiscard f 1)) ∧
  (Stands s e r (.exitAbort e) → exec (.exitAbort e) s = .next (v.bobDiscard f 4)) ∧
  (∀ (a : Fin 16) (p : Nat), p = (s.regIn e r a).toNat % 256 → Stands s e r (.exitRedirect e a) →
    (∀ d, u.redirect (returned f r') p = some d → exec (.exitRedirect e a) s = .next (v.rejoin { returned f r' with dests := [d] })) ∧
    (u.redirect (returned f r') p = none → exec (.exitRedirect e a) s = .next (u.runFault e 4 false)))

/-- The events of a run and of an engine: BOBBIN_DISPATCH to an engine that serves, with an entry point or none, and with no engine in service;
a bad word of program memory that a run comes to; RUN_TIMEOUT, ENGINE_RESTORED, BOBBIN_SAMPLE, REJOIN_RELEASE, ENGINE_IMAGE_COPY (which succeeds,
fails once, and fails again), IMAGE_SWAPPED. From parts of R28, R178 to R180, R197 to R200, R205, R206. -/
def Obligations.EngineEvents : Prop := ∀ (s u : State) (e : Eng) (st : Stn) (f : Flight), st.val = e.val / 16 →
  (∀ (k : Nat) (ecc : Fin 3) (slot : BitVec 12), (s.bstn st).swap ≠ 1 → s.nextQueue st = some k →
    (SMap.get (fun _ => []) (s.bstn st).queues k).head?.bind s.flight = some f → u = s.takeHead st k →
    (s.engState e = 0 → s.running e = false → exec (.bobbinDispatch e ecc slot) s = .next (if imgEntry (s.engImage e) f.cls = 0xFFFF then u.rejoin (unreturned f [])
      else (u.startRun e f (imgEntry (s.engImage e) f.cls) (if ecc = 0 then none else some (slot.toNat, ecc.val))).fetched e)) ∧
    (s.serving st = false → exec (.bobbinDispatch e ecc slot) s = .next ((u.noteFault st 0 0 8 f.cls).faultPolicy st f []))) ∧
  (∀ (r : BRun) (ecc : Nat) (v : State), (s.eng e).run = some r → s.fetch e = some (.nop e) → r.bad = some (((s.eng e).pc + 1) % 4096, ecc) → 
    u = (s.instrStart e r).modEng e (fun x => { x with pc := ((s.eng e).pc + 1) % 4096, run := some { r with loads := r.aged, bad := none } }) →
    v = u.localEcc e 0 (((s.eng e).pc + 1) % 4096 / 2) ecc →
    exec (.nop e) s = .next (if ecc = 2 then v.runFault e 6 false else v)) ∧
  (∀ r : BRun, (s.eng e).run = some r → exec (.runTimeout e) s = .next (s.runFault e 7 false)) ∧
  (∀ ok : Bool, s.engState e = 2 → (s.engImage e).isEmpty = false →
    u = (s.setEngState e 0).modEng e (fun x => { x with data := imgData (s.engImage e), restoredAt := some s.clk.now, due := none }) →
    exec (.engineRestored e ok) s = .next (if ok then
      ((((u.raise (srcStn st) 0x4012 1 (scStn st) [e.val, s.clk.now - (s.eng e).outAt]).modThm e fun t => { t with bad := [] }).swapMark st).checkEngines st)
      else (s.engFail e (s.get (F.STN_BE_STATE_LAST_CAUSE st (e.val % 16)))).checkEngines st)) ∧
  (∀ (pc cls n : Nat) (b : B64), (s.eng e).due = some (pc, cls, n) →
    b = BitVec.ofNat 64 (pc % 4096 + cls % 4 * 2 ^ 12 + bits (s.eng e).smp 1 2 * 2 ^ 14 + (s.eng e).seq % 65536 * 2 ^ 16 + s.fabNow % 2 ^ 32 * 2 ^ 32) →
    ∃ t, exec (.bobbinSample e) s = .next t ∧ (t.eng e).due = none ∧ (t.eng e).ring.getLast? = some b ∧ (t.eng e).ring.length ≤ 32 ∧
      (t.eng e).run = (s.eng e).run ∧ (t.eng e).pc = (s.eng e).pc ∧ (∀ i, t.greg e i = s.greg e i) ∧ SameMemory s t e ∧ EngineFrame s t e) ∧
  (∀ id : Nat, s.flight id = some f → f.stn = st.val → (s.bstn st).rejoin.contains id = true →
    (∀ g ∈ s.before f, sameClass f g = true → g.ready = true) →
    exec (.rejoinRelease id) s = .next ((s.modBstn st fun b => { b with rejoin := b.rejoin.filter (· != id) }).settle { f with ready := true })) ∧
  (s.mayCopy e = true → (s.eng e).copied = false → exec (.engineImageCopy e false) s = .next (s.modEng e fun x => { x with copied := true })) ∧
  (s.mayCopy e = true → (s.eng e).copied = true → u = s.engFail e (s.get (F.STN_BE_STATE_LAST_CAUSE st (e.val % 16))) →
    exec (.engineImageCopy e false) s = .next (((((u.modEng e fun x => { x with newImage := true, copied := false }).modBstn st fun b =>
      { b with failed := b.failed + 1 })).swapMark st).checkEngines st)) ∧
  (∀ (img : Bytes) (ep : Nat) (w x : State), s.mayCopy e = true → img = (s.bstn st).staging →
    w = (if (s.bstn st).stepped then s else (s.bumpWrap (F.STN_BB_EPOCH_EPOCH st) 1).modBstn st fun b => { b with stepped := true }) →
    ep = w.get (F.STN_BB_EPOCH_EPOCH st) → x = w.modThm e (fun t => { t with regions := imgRegions img, old := t.regions, epoch := ep, bad := [] }) →
    exec (.engineImageCopy e true) s = .next (((((x.setEngState e 0).modEng e fun x =>
      { x with data := imgData img, newImage := true, copied := false, due := none })).swapMark st).checkEngines st)) ∧
  (∀ w : Nat, (s.bstn st).swap = w → w ≠ 0 → (∀ e ∈ engsOf st, (s.eng e).newImage = true) →
    ∃ t, exec (.imageSwapped st) s = .next t ∧ (t.bstn st).active = (s.bstn st).staging ∧ (t.bstn st).staging = (s.bstn st).active ∧
      (t.bstn st).swap = 0 ∧ ∀ e ∈ engsOf st, (t.eng e).newImage = false)

/-- The fences of changed thimble rules: RULE_FENCE_DONE, RULE_FENCE_TIMEOUT, THIMBLE_RULE_FENCE_DONE of an engine's, a mover's and the host proxy's
thimble (with the regions whose words are bad), THIMBLE_FENCE_TIMEOUT. A fence that times out ends the older runs as TIMEOUT faults; an access of a
mover or of the host proxy is never older (log entry 22). From parts of R196, R344. -/
def Obligations.RuleFences : Prop := ∀ (s u v w : State) (st : Stn) (th : Fin 293) (bad : List (Fin 16)), v = s.thmBad th bad →
  (s.flag (F.STN_BB_EPOCH_FENCE_PEND st) = true → (∀ e ∈ engsOf st, s.oldRun e = false) →
    u = (engsOf st).foldl (fun s e => s.modThm e fun t => { t with old := [], fence := false }) (s.putB (F.STN_BB_EPOCH_FENCE_PEND st) false) →
    exec (.ruleFenceDone st) s = .next (u.raise (srcStn st) 0x4022 0 (scStn st) [st, u.get (F.STN_BB_EPOCH_EPOCH st), (u.bstn st).ended])) ∧
  (th.val / 16 = st.val → th.val < 256 → v.flag (F.STN_BB_EPOCH_FENCE_PEND st) = true → (∀ e ∈ engsOf st, v.oldRun e = false) →
    u = (engsOf st).foldl (fun s e => s.modThm e fun t => { t with old := [], fence := false }) (v.putB (F.STN_BB_EPOCH_FENCE_PEND st) false) →
    exec (.thimbleRuleFenceDone th bad) s = .next (u.raise (srcStn st) 0x4022 0 (scStn st) [st, u.get (F.STN_BB_EPOCH_EPOCH st), (u.bstn st).ended])) ∧
  (256 ≤ th.val → (v.thm th).fence = true → u = v.modThm th (fun t => { t with old := [], fence := false }) →
    w = (if th.val = 292 then u.putB F.ACW_EP_PROXY_THM_FENCE_PEND false else u) →
    exec (.thimbleRuleFenceDone th bad) s = .next (w.raise 0x08 0xA012 0 scDev [th.val, (v.thm th).epoch, 0])) ∧
  (s.flag (F.STN_BB_EPOCH_FENCE_PEND st) = true →
    u = (engsOf st).foldl (fun s e =>
      if s.oldRun e then (s.runFault e 7 true).modBstn st fun b => { b with ended := b.ended + 1 } else s) s →
    exec (.ruleFenceTimeout st) s = .next u ∧ (th.val / 16 = st.val → th.val < 256 → exec (.thimbleFenceTimeout th) s = .next u)) ∧
  (256 ≤ th.val → exec (.thimbleFenceTimeout th) s = .next s)

/-! ### Configuration requests, classification, lending, commits (chapters 3, 5, 13) -/

/-- A Secondary Bus Reset or Link Disable written to a DSP acts on its link alone, where no active lending stops it; Slot Control, with a power-off
that an active lending stops or not; an FLR of a lent function and a write of either half of its BARs; a Secondary Bus Reset of a USP, set and
cleared; a CONFIG_REQUEST that meets a USP in Request Retry Status, that reads or writes the USP's own function, that is for the internal bus or
beyond it, and one that arrives at a port that is no USP. From parts of R68, R74 to R76, R83, R139, R141, R142, R157, R332. -/
def Obligations.ConfigurationEvents : Prop := ∀ (s u : State) (p : Port) (v : VsId) (st : Stn) (idx : Fin 256),
  (∀ disable : Bool, s.pciRole p = 2 → s.guard p = none → u = (if (s.lentOn p).isSome then s.suspendPort p lsOwner else s) →
    exec (.dspLinkReset p disable true) s = .next (if disable then (u.modPort p fun x => { x with dis := { x.dis with link := true } }).goOff p ldDisable lsLink
      else (u.modPort p fun x => { x with dis := { x.dis with sbr := true } }).goOff p ldHot lsOwner)) ∧
  (∀ (disable : Bool) (i : Nat), s.pciRole p = 2 → s.guard p = some i →
    exec (.dspLinkReset p disable true) s = .next (s.ownerBlocked p i (if disable then ofLNKCTL else ofBCTL) (if disable then 0x10 else 0x400000))) ∧
  (∀ disable : Bool, s.pciRole p = 2 → exec (.dspLinkReset p disable false) s = .next (if disable then
      (s.modPort p fun x => { x with dis := { x.dis with link := false } }).kick p
      else (s.modPort p fun x => { x with dis := { x.dis with sbr := false } }).kick p)) ∧
  (∀ val : B16, s.pciRole p = 2 →
    (bit val.toNat 10 = false ∨ s.flag (F.STN_PORT_HP_STATUS_PCC (stnOf p) (kOf p)) = true ∨ s.hasSlot p = false →
      exec (.slotControlWrite p val) s = .next (s.slotCtl p val.toNat)) ∧
    (bit val.toNat 10 = true → s.flag (F.STN_PORT_HP_STATUS_PCC (stnOf p) (kOf p)) = false → s.hasSlot p = true →
      (s.guard p = none → exec (.slotControlWrite p val) s = .next ((if (s.lentOn p).isSome then s.suspendPort p lsOwner else s).slotCtl p val.toNat)) ∧
      ∀ i, s.guard p = some i → exec (.slotControlWrite p val) s = .next ((s.ownerBlocked p i ofSLTCTL val.toNat).slotCtl p (setBit val.toNat 10 false)))) ∧
  (s.lendValid st idx = true → exec (.lentFlr st idx) s = .next (s.crtReleaseLend st idx)) ∧
  (∀ (bar : Fin 6) (val : B32) (o : Nat), s.lendValid st idx = true → o = s.lendOrd st idx bar → o ≠ 0 →
    exec (.lentBarWrite st idx bar val) s = .next ((s.setTw tLend st idx (18 + 2 * bar.val) (if 32 ≤ o then 0 else val.toNat / 2 ^ o * 2 ^ o)).hwRefresh st idx bar)) ∧
  (∀ (bar : Fin 6) (val : B32) (k o : Nat), s.lendValid st idx = true → bar.val = k + 1 → s.lendOrd st idx bar = 0 → s.lendM64 st idx k = true →
    o = s.lendOrd st idx k → o ≠ 0 → exec (.lentBarWrite st idx bar val) s =
      .next ((s.setTw tLend st idx (19 + 2 * k) (if o ≤ 32 then val.toNat else val.toNat / 2 ^ (o - 32) * 2 ^ (o - 32))).hwRefresh st idx k)) ∧
  (∀ (a b c d e : State), (s.usp v).isSome = true → (s.vs v).sbr = false → u = s.modVs v (fun w => { w with sbr := true }) →
    a = (u.dsps v).foldl State.cfgReset u →
    b = (u.dsps v).foldl (fun s p => (s.modPort p fun x => { x with dis := { x.dis with sbr := true, link := false } }).goOff p ldHot lsOwner) a →
    c = (b.epReset0 v).epReset1 v pcVsReset →
    d = (c.borrowed v).foldl (fun s x => if s.lendState x.1 x.2 = 1 then s.sendFlr x.1 x.2 else s) c →
    e = (d.homes v).foldl (fun s i => s.farAct i 0 true) d →
    exec (.uspSecondaryBusResetSet v) s = .next (e.raise (srcStn ((e.usp v).elim 0 stnOf)) 0x1033 1 (scVs v) [v.val, vrSbr])) ∧
  (∀ b : State, (s.usp v).isSome = true → (s.vs v).sbr = true → u = s.modVs v (fun w => { w with sbr := false }) →
    b = (u.dsps v).foldl (fun s p => (s.modPort p fun x => { x with dis := { x.dis with sbr := false } }).kick p) u →
    exec (.uspSecondaryBusResetClear v) s = .next (((b.homes v).foldl
      (fun s i => if bit (s.homeDw i ofBCTL) 22 then s else s.farAct i 0 false) b).shtResetDone v)) ∧
  (∀ (r : CfgReq) (t : Tlp) (bare : Cx), u = s.pmWake p → u.pciRole p = 1 → t = cfgTlp (s.flag (F.STN_PORT_STATUS_FLIT (stnOf p) (kOf p))) r →
    bare = bareCx p (stnOf p) (.usp p) (u.vsOf p) p u.nodeId (u.vcOf p t.tc.val) t →
    (((u.vs (u.vsOf p)).published = false ∨ (u.vs (u.vsOf p)).rrs = true) → exec (.configRequest p r) s = .next (u.cfgAnswer bare t csRRS 1)) ∧
    ∀ cx : Cx, (u.vs (u.vsOf p)).published = true → (u.vs (u.vsOf p)).rrs = false →
      u.context p (stnOf p) (.usp p) (u.vsOf p) p u.nodeId (u.vcOf p t.tc.val) p p t = .ok cx →
      (r.type1 = false → r.target.toNat % 8 = 0 → r.write = false →
        exec (.configRequest p r) s = .next (u.cfgAnswer cx t csSC (u.cfgRead p (r.reg.toNat / 4 * 4)))) ∧
      (r.type1 = false → r.target.toNat % 8 = 0 → r.write = true → exec (.configRequest p r) s =
        .next (((u.setCw p ofBUS (u.cw p ofBUS / 256 * 256 + r.target.toNat / 256)).portCfgWrite p (cfgOff t) (cfgData t) (beMask t.be)).cfgAnswer cx t csSC 0)) ∧
      (r.type1 = true → inBuses (u.secBus p) (u.subBus p) (r.target.toNat / 256) = true → exec (.configRequest p r) s =
        .next (if r.target.toNat / 256 = u.secBus p then u.cfgInternal cx t else u.cfgDown cx t (crc32c (tlpBytes t))))) ∧
  (∀ (r : CfgReq) (t : Tlp), u = s.pmWake p → t = cfgTlp (s.flag (F.STN_PORT_STATUS_FLIT (stnOf p) (kOf p))) r →
    (u.pciRole p = 2 → exec (.configRequest p r) s =
      .next (u.cfgRefuse (bareCx p (stnOf p) (.dsp p) (u.vsOf p) p u.nodeId (u.vcOf p t.tc.val) t) t (.row 1))) ∧
    (u.pciRole p = 3 → exec (.configRequest p r) s = .next ((u.emit (.cfgReply p r.tag csUR 0)).emit (.credit p 0 1 t.len))))

/-- TLP_RECEIVE at a port that is up (the words met corrected or not, the port's counters, credits, the TLP's own form, then the checks of the port's
role), at one that is not, and from an endpoint function; TABLE_REWRITE; PROXY_TMO of a port's and of the fabric's return table; LEND_RECLAIMED
(windows, requester entry, lending entry and virtual downstream port go, 0x3011); RECLAIM_TIMEOUT. From parts of R78, R121, R134, R135, R146, R220,
R297. -/
def Obligations.ClassificationAndReturns : Prop := ∀ (s u : State) (st : Stn),
  (∀ (p : Port) (fixed : List (Fin 5 × Nat)) (bad : List (Fin 5 × Nat × Nat)) (t : Tlp) (vc : Nat), s.stage p = stACTIVE → s.pciRole p ≠ 0 → vc = s.vcOf p t.tc.val →
    u = (((s.tableEcc (stnOf p) (scPort p) fixed bad).count (stnOf p) 0x01 (kOf p) (tlpClass t) vc 1).count (stnOf p) 0x02 (kOf p) (tlpClass t) vc t.len).pmWake p →
    exec (.tlpReceive (.port p) fixed bad t) s = .next (
      if u.overflows p vc t then u.overflow p t
      else if t.malformed = true ∨ 4 < t.prefixes ∨ u.mps p < t.data.length then
        u.malformed (bareCx p (stnOf p) (.exp 0) (u.vsOf p) p u.nodeId vc t) p t
      else if u.pciRole p = 3 then u.fromPool (bareCx p (stnOf p) (.exp 0) (u.vsOf p) p u.nodeId vc t) t (crc32c (tlpBytes t)) p
      else u.fromPort p t (crc32c (tlpBytes t)))) ∧
  (∀ (p : Port) (fixed : List (Fin 5 × Nat)) (bad : List (Fin 5 × Nat × Nat)) (t : Tlp), (s.stage p ≠ stACTIVE ∨ s.pciRole p = 0) →
    s.cqFind (stnOf p) 0 p = none → exec (.tlpReceive (.port p) fixed bad t) s = .next s) ∧
  (∀ (v : VsId) (fn : Bool) (fixed : List (Fin 5 × Nat)) (bad : List (Fin 5 × Nat × Nat)) (t : Tlp) (p : Nat), s.usp v = some p →
    u = s.tableEcc (stnOf p) (scStn (stnOf p)) fixed bad →
    (∀ cx : Cx, u.context (256 + v) (stnOf p) (.ep fn) v 0xFE u.nodeId (u.vcOf p t.tc.val) 0xFF 0xFF t = .ok cx →
      exec (.tlpReceive (.ep v fn) fixed bad t) s = .next (u.finish cx t t (crc32c (tlpBytes t)))) ∧
    ∀ (e : Stop) (cx : Cx), u.context (256 + v) (stnOf p) (.ep fn) v 0xFE u.nodeId (u.vcOf p t.tc.val) 0xFF 0xFF t = .error e →
      cx = bareCx (256 + v) (stnOf p) (.ep fn) v 0xFE u.nodeId (u.vcOf p t.tc.val) t →
      exec (.tlpReceive (.ep v fn) fixed bad t) s = .next ((u.refuse cx t 0 e).creditBack cx t)) ∧
  (∀ (table : Fin 5) (idx : Nat), s.acl.up = true → s.entryBad table.val st idx 32 = true →
    u = (if table.val = tCrt then s.crtRelease (9 * st.val + idx / 256) (idx % 256) else s) →
    exec (.tableRewrite st table idx) s =
      .next { u with tbl := { u.tbl with bad := u.tbl.bad.filter fun k => k / 32 != tkey table.val st idx 0 / 32 } }) ∧
  (∀ (port : Port) (tag : Nat), tag < 256 → stnOf port = st.val → crtValid (s.crt port tag) = true →
    exec (.proxyTmo st false port tag) s = .next (((s.crtRelease port tag).bump (F.STN_CLS_CRT_USE_TIMEOUTS st (kOf port))).raise (srcStn st) 0x3016 1
      (scPort port) [port.val, tag, crtRid (s.crt port tag), crtLend (s.crt port tag)])) ∧
  (∀ (port : Port) (tag : Nat) (f : Fret), s.fret st tag = some f →
    exec (.proxyTmo st true port tag) s = .next ((s.setFret st tag none).raise (srcStn st) 0x3016 1 (scPort port)
      [port.val, tag, f.origRid.toNat, f.origVs])) ∧
  (∀ (idx : Fin 256) (a b c : State) (k : Nat), s.lendValid st idx = true → s.lendState st idx = 3 → k = 256 * st.val + idx.val →
    a = s.hwDrop st idx → b = (match a.reqFind st (a.lendRid st idx) (a.lendPort st idx) with
      | some j => a.setTw64 tReq st j 0 0
      | none => a) → c = (b.setEntry tLend st idx 0 (List.replicate 32 0)).vdpClear st idx →
    exec (.lendReclaimed st idx) s = .next (State.raiseEnd { c with tbl := { c.tbl with
          discards := SMap.set (fun _ => 0) c.tbl.discards k 0, reclaim := SMap.set (fun _ => 0) c.tbl.reclaim k 0,
          probes := SMap.set (fun _ => default) c.tbl.probes k default } }
      (fun a => a.opcode == 0x0406 && a.obj == k) (srcStn st) 0x3011 0 (scVs (s.lendOwner st idx))
      [idx.val, s.reclaiming st idx - 1, s.lendDiscards st idx])) ∧
  (∀ (cred tag : B32) (a : Async) (mine : Async → Bool), mine = (fun a => a.opcode == 0x0406 && a.cred == cred && a.tag == tag && a.ended == none) →
    s.cmd.asyncs.find? mine = some a → s.lendState (a.obj / 256) (a.obj % 256) ≠ 3 →
    exec (.reclaimTimeout cred tag) s =
      .next (({ s with tbl := { s.tbl with reclaim := SMap.set (fun _ => 0) s.tbl.reclaim a.obj 0 } }).endAsync mine .timeout none))

/-- TABLE_FLIP (a station's shadow copy becomes active, and the owed reply of the COMMIT follows with the last one), TRANSACTION_IDLE_TIMEOUT,
ASYNC_STATUS_EXPIRY, and CONFIG_IMAGE_LOAD: each invalid copy is noted, the valid copy applies, of two the newer (copy A when they are equal),
and with none the factory defaults. From parts of R50, R66, R277, R278, R363 to R365, R398, R445.
-/
def Obligations.CommitsAndImages : Prop := ∀ (s u : State),
  (∀ st : Stn, s.flipPending st = true → u = s.flipStn st →
    exec (.tableFlip st) s = .next u.commitReport ∧ u.tbl.shadow = s.tbl.shadow.filter (fun x => !stnKey st x.1) ∧
      u.flag (F.STN_CLS_STATUS_FLIP_PENDING st) = false) ∧
  (∀ (cred : B32) (t : Txn), s.txn cred = some t → exec (.transactionIdleTimeout cred) s =
    .next (({ s with cmd := { s.cmd with txns := s.cmd.txns.filter fun x => x.cred != t.cred } }).raise 0x01 0x7030 1
      (s.txnScope t.cred) [t.cred.toNat, 1])) ∧
  (∀ cred tag : B32, exec (.asyncStatusExpiry cred tag) s = .next
    { s with cmd := { s.cmd with asyncs := s.cmd.asyncs.filter fun a => !(a.cred == cred && a.tag == tag && a.ended.isSome) } }) ∧
  (∀ (a b : Option Nat) (newer : Bool) (pick : Nat) (n w : State), s.acl.up = true → s.pow.running = true → s.pow.loaded = false →
    a = cfgTest s.acl.cfgA → b = cfgTest s.acl.cfgB → n = (s.noteCopy 0 a).noteCopy 1 b →
    newer = decide (0 < (BitVec.ofNat 32 (leAt s.acl.cfgB 12 4) - BitVec.ofNat 32 (leAt s.acl.cfgA 12 4)).toInt) →
    pick = (if a = none ∧ b = none then (if newer then 1 else 0) else if a = none then 0 else if b = none then 1 else 3) →
    u = ((n.putB F.ACW_CFG_STATUS_A_VALID a.isNone).putB F.ACW_CFG_STATUS_B_VALID b.isNone).put F.ACW_CFG_STATUS_COPY pick →
    w = (if pick = 3 then u.loadDefaults 1 else (u.put F.ACW_CFG_SEQ_SEQ (leAt (s.cfgOf pick) 12 4)).applyImage (s.cfgOf pick)) →
    exec .configImageLoad s = .next (State.loadDone (State.afterLoad s w)))

/-- CONTAINED (0x2703, and a port's link may train again unless a Surprise Down or a failed quadrant holds it), CONTAIN_RELEASED,
SURPRISE_DOWN_HOLDOFF of a card that is gone and of one that is not, DPC_RELEASE, RECEIVER_ERROR of each kind. From parts of R27, R214, R217, R219,
R221, R224. -/
def Obligations.ContainmentEvents : Prop := ∀ (s u : State) (st : Stn) (i : Fin 32) (p : Port),
  (∀ (x : PortSt) (port : Bool) (r : State), s.cqValid st i = true → s.cqState st i = 1 → s.cqDone st i = true →
    u = s.put (F.STN_CQ_ENTRY0_STATE st i) 2 → x = u.port (u.cqObject st i) → port = (u.cqKind st i == 0) →
    r = u.raise (srcStn st) 0x2703 1 (scStn st) [st.val, i.val,
      (u.fabNow % 2 ^ 32 + 2 ^ 32 - u.get (F.STN_CQ_ENTRY2_TIME st i)) % 2 ^ 32, if port then x.flushed else 0, if port then x.suspended else 0] →
    exec (.contained st i) s =
      .next (if port = true ∧ x.surprise = false ∧ r.get (F.STN_CQ_ENTRY1_CAUSE st i) ≠ 0x0B then r.uncontain (u.cqObject st i) else r)) ∧
  (∀ c : Nat, s.cqValid st i = true → s.cqState st i = 2 → s.cqOver st i = some c →
    exec (.containReleased st i) s = .next ((s.raise (srcStn st) 0x2704 0 (scStn st) [st.val, i.val, c, s.get (F.STN_CQ_ENTRY1_NESTED st i)]).cqDrop st i)) ∧
  ((s.port p).surprise = true → u = s.modPort p (fun x => { x with surprise := false }) → u.slotAbsent p = true →
    exec (.surpriseDownHoldoff p) s = .next ((u.cqEndObj (stnOf p) 0 p ecRemoval).uncontain p)) ∧
  (∀ (dpc done : Bool) (w : State), (s.port p).surprise = true → u = s.modPort p (fun x => { x with surprise := false }) → u.slotAbsent p = false →
    dpc = (!bit (u.cw p 0x108) aeSD && (u.dpcEnable p == 2 || (u.dpcEnable p == 1 && bit (u.cw p 0x10C) aeSD))
      && !u.flag (F.STN_PORT_STATUS_DPC_TRIG (stnOf p) (kOf p))) →
    done = (match u.cqFind (stnOf p) 0 p with
      | some i => u.cqState (stnOf p) i == 2
      | none => true) →
    w = (if dpc then ((u.aer p aeSD).dpcSet p 0 0).suspendPort p lsDpc else u.aer p aeSD) →
    exec (.surpriseDownHoldoff p) s = .next (if done then w.uncontain p else w)) ∧
  (s.flag (F.STN_PORT_STATUS_DPC_TRIG (stnOf p) (kOf p)) = true → u = s.putB (F.STN_PORT_STATUS_DPC_TRIG (stnOf p) (kOf p)) false →
    exec (.dpcRelease p) s = .next (((u.setCw p ofDPCS (u.cw p ofDPCS / 2 * 2)).modPort p fun x =>
      { x with dis := { x.dis with dpc := false }, endCond := ecDpcDone }).kick p)) ∧
  ((s.pciRole p = 1 ∨ s.pciRole p = 2) →
    exec (.receiverError p .receiver) s = .next (s.aerCorr p 0) ∧ exec (.receiverError p .badTlp) s = .next (s.aerCorr p 6) ∧
    exec (.receiverError p .badDllp) s = .next (s.aerCorr p 7) ∧ exec (.receiverError p .replayRollover) s = .next (s.aerCorr p 8) ∧
    exec (.receiverError p .replayTimeout) s = .next (s.aerCorr p 12)) ∧
  (∀ (err : PortErr) (b c : Nat), (s.pciRole p = 1 ∨ s.pciRole p = 2) → (err = .linkProtocol ∧ b = aeDLP ∧ c = 0x05 ∨ err = .flowProtocol ∧ b = aeFCP ∧ c = 0x06) →
    u = s.aer p b → exec (.receiverError p err) s = .next (if u.pciRole p = 1 then u.openPort p c lsLink else u.dpcError p b c))

/-! ### The switch core (chapters 1, 4, 6) -/

/-- A header enters the crossbar when nothing earlier of its ordering class keeps it out, on the path its flow is pinned to, and its trace copy is
admitted or lost; a TLP is admitted whole, in every queue it goes to, or waits with nothing charged, and destinations that are shut refuse it; its
last line makes its records committed; the head of a residue chain enters its queue, which is open and admits it; a credit that the partner
returns. From parts of R32, R43, R95, R96, R99 to R103, R107, R111, R149, R160 to R164, R168 to R170, R181, R447. -/
def Obligations.CrossbarAndQueues : Prop := ∀ (s u : State) (bank : Stn) (id : Nat) (f : Flight), s.flight id = some f →
  (∀ g : Flight, f.entered = false → s.mayEnter f = true →
    g = { f with entered := true, dests := (if s.transit f then f.dests else f.dests.map (s.repath f)) ++
      ((s.traceRule f).bind (s.traceDest f)).toList } →
    exec (.crossbarEntry id) s = .next ((s.setFlight g).admitTrace g)) ∧
  (f.entered = true → (∃ d ∈ f.dests, d.bank = bank.val ∧ d.admitted = false) →
    (∀ x ∈ s.before f, sameClass f x = true → x.dests.all Dest.admitted = true) → u = s.refuseShut f →
    (u.flight id = none → exec (.recordAdmit bank id) s = .next u) ∧
    (∀ g : Flight, u.flight id = some g → u.admitAll g g.dests = none → exec (.recordAdmit bank id) s = .next (u.noteHeld g)) ∧
    (∀ (g k : Flight) (w x : State) (ds : List Dest), u.flight id = some g → u.admitAll g g.dests = some (w, ds) →
      x = (w.setFlight { g with dests := ds }).admitTrace { g with dests := ds } →
      x.flight id = some k → exec (.recordAdmit bank id) s = .next (x.settle k))) ∧
  (∀ (mine : Dest → Bool) (g : Flight) (v : State), mine = (fun d => d.bank == bank.val && d.admitted && !d.committed) →
    s.recovering bank = false → f.dests.any mine = true → (∃ d ∈ f.dests, d.trace = 0 ∧ d.admitted = true) →
    v = s.writeUntil bank id (f.dests.length * 17 + s.core.flights.length * 170) →
    u = (f.dests.filter mine).foldl (fun s d =>
      (s.count (16 + bank.val / 4) 0x21 16 0 0 ((d.r.rlen + 127) / 128)).modBank bank fun b =>
        if d.residue then b.setChain d.qid f.key ((b.chain d.qid f.key).commit id) else b.setQ d.qid ((b.q d.qid).commit id)) v →
    u.flight id = some g →
    exec (.recordCommit bank id) s = .next ((((u.settle
      { g with dests := g.dests.map fun d => if mine d then { d with committed := true, left := 0 } else d }).seamFinish bank).finishHeads
        bank).retrySeals bank)) ∧
  (∀ (q : Fin 64) (ing : Fin 256) (r : Rec) (rest : Queue), ((s.bank bank).chain q ing).pop = some (r, rest) →
    ((s.bank bank).arrivals.find? fun a => a.1 == q.val) = some (q.val, ing.val) → s.recovering bank = false → s.quadFailed bank = false →
    (qPort bank q = 0xFF ∨ (s.port (qPort bank q)).closed = false) → s.admits bank q r.rlen = .yes →
    u = ((s.modBank bank fun b => { b.setChain q ing rest with arrivals := dropArrival (q.val, ing.val) b.arrivals }).freeCells bank
      (((s.bank bank).chain q ing).cells.take (((s.bank bank).chain q ing).occ - rest.occ))).resCount bank →
    exec (.residueLink bank q ing) s = .next ((u.enqueue bank q { r with gap := 0 }).linkedDest r.fid bank q)) ∧
  (∀ (p : Port) (vc : Fin 2) (cls : Fin 3) (hdr data : Nat), s.stage p = stACTIVE →
    ∃ t, exec (.linkCreditReturned p vc cls hdr data) s = .next t ∧
      (∀ k, SMap.get (fun _ => 0) (t.port p).txHdr k = SMap.get (fun _ => 0) (s.port p).txHdr k + if k = 3 * vc.val + cls.val then hdr else 0) ∧
      (∀ k, SMap.get (fun _ => 0) (t.port p).txData k = SMap.get (fun _ => 0) (s.port p).txData k + if k = 3 * vc.val + cls.val then data else 0) ∧
      (∀ p' : Nat, p' ≠ p → t.port p' = s.port p') ∧ ({ t with ports := s.ports } : State) = s)

/-- RECORD_DEPART of a head whose turn it is: lost by what its read meets, whole, or begun; PORT_FLUSHED in the mode the flush began with; the
start of a sieve pass and its end, with what it met. From parts of R30, R97, R104, R106, R108, R109, R110, R112 to R114, R137, R165, R220, R227. -/
def Obligations.DeparturesAndSieve : Prop := ∀ (s u : State) (bank : Stn) (q : Fin 64) (r : Rec) (phys : ReadPhys),
  (∀ x : State × HeadRead, s.headReady bank q = some r → s.depTurn bank q = true → x = (s.takeTurn bank q).readHead bank q phys →
    exec (.recordDepart bank q phys) s = .next (if x.2.lost then x.1.headLost bank q r
      else if r.committed then x.1.departHead bank q (x.1.headOf bank q r) phys.sound else x.1.beginHead bank q phys.sound)) ∧
  (∀ (p : Port) (links : List (Fin 64 × LinkHit)) (drop : Bool) (qs : List Nat) (n : Nat) (a b w y z : State) (x : State × Nat), stnOf p = bank.val →
    bit (s.get (F.STN_OB_FLUSH_FLUSHING bank)) (kOf p) = true → s.recovering bank = false → drop = (s.port p).flushDrop →
    u = s.flushWalk p drop links → qs = u.portQs p → n = qs.foldl (fun n q => n + ((u.bank bank).q q).recs.length) 0 →
    a = qs.foldl (fun s q => s.flushQueue bank q drop) u →
    b = (if drop then a.modBank bank (fun b => { b with lastDrop := some a.clk.now }) else a) →
    x = qs.foldl (fun (x : State × Nat) q => ((x.1.flushChains bank q).1, x.2 + (x.1.flushChains bank q).2)) (b, 0) →
    y = (if x.2 = 0 then x.1
      else (x.1.bumpN (F.STN_OB_RES_DISCARD_RES_DISCARD bank) x.2).raise 0x04 0x2503 1 (scStn bank) [bank.val, p.val, x.2]) →
    w = y.put (F.STN_OB_FLUSH_FLUSHING bank) (setBit (y.get (F.STN_OB_FLUSH_FLUSHING bank)) (kOf p) false) →
    z = (w.modPort p fun v => { v with flushed := v.flushed + n + x.2, closed := w.stage p != stACTIVE }).count bank 0x0B (kOf p) 0 0 (n + x.2) →
    exec (.portFlushed p links) s = .next (z.raise 0x04 0x2301 0 (scStn bank) [bank.val, p.val, (z.port p).flushTrig, b2n drop, n])) ∧
  (s.sieveOn = true → s.flag (F.STN_OB_SIEVE_STAT_ACTIVE bank) = false → s.flag (F.STN_OB_SIEVE_STAT_PAUSED bank) = false → s.recovering bank = false →
    exec (.sievePassStart bank) s = .next ((s.toggleEpoch bank).putB (F.STN_OB_SIEVE_STAT_ACTIVE bank) true)) ∧
  (∀ (find : SieveFind) (a b c : State), s.flag (F.STN_OB_SIEVE_STAT_ACTIVE bank) = true → u = s.putB (F.STN_OB_SIEVE_STAT_ACTIVE bank) false →
    a = find.loops.foldl (fun s l => s.cutAt bank l.1.q (l.1.ing.map Fin.val) l.2 false) u →
    b = find.links.foldl (fun s l => s.sieveLink bank l.1 l.2) a → c = find.corrupt.foldl (fun s i => s.corruptCell bank i.val) b →
    exec (.sievePassEnd bank find.leaks find.corrupt find.loops find.links) s = .next (find.leaks.foldl (fun s i => s.leakCell bank i.val) (c.sieveEnd bank)))

/-- QUADRANT_STALL (the banks roll back and the quadrant recovers, or fails when the last recovery is less than 10 ms old), QUADRANT_RECOVERED with
what the sieve pass of each bank met, RECOVERY_MONITOR_TIMEOUT, PACE_SAMPLE, PACE_MONITOR_SILENT, TRACE_SAMPLER_FIRE. From parts of R21, R22, R114
to R117, R172, R173. -/
def Obligations.QuadrantsAndMonitors : Prop := ∀ (s u : State) (q : Quad) (m : Mon),
  (∀ (v : State) (n : Nat), s.pendingAt q ≠ [] → bit (s.get F.CORE_STALL_STATUS_RECOVERING) q = false → bit (s.get F.CORE_STALL_STATUS_FAILED) q = false →
    v = s.bump (F.CORE_STALL_CNT_STALLS q) → n = ((List.range 16).filter fun st => (s.pendingAt q).any fun f => f.stn == st).length →
    u = (quadBanks q).foldl (fun s b => (s.putB (F.STN_OB_SIEVE_STAT_ACTIVE b) false).rollBack b) (v.raise 0x04 0x2401 3
      scDev [q.val, n, v.get (F.CORE_PACE_M_HS (16 + q.val))]) →
    ((∀ t, (u.quadSt q).recoveredAt = some t → t + 10 * msec < u.clk.now) → ∃ t, exec (.quadrantStall q) s = .next t ∧
      t = (let w := (quadBanks q).foldl (fun s b => s.putB (F.STN_OB_SIEVE_STAT_PAUSED b) true)
            (u.put F.CORE_STALL_STATUS_RECOVERING (setBit (u.get F.CORE_STALL_STATUS_RECOVERING) q true))
          w.setQuad q { w.quadSt q with since := w.clk.now })) ∧
    (∀ t, (u.quadSt q).recoveredAt = some t → u.clk.now ≤ t + 10 * msec → exec (.quadrantStall q) s = .next (u.quadFail q 1))) ∧
  (∀ (a b : State) (finds : List SieveFind), bit (s.get F.CORE_STALL_STATUS_RECOVERING) q = true →
    a = (quadBanks q).foldl (fun s b => ((s.toggleEpoch b).sievePass b (finds.getD (b % 4) {})).putB (F.STN_OB_SIEVE_STAT_PAUSED b) false) s →
    b = a.put F.CORE_STALL_STATUS_RECOVERING (setBit (a.get F.CORE_STALL_STATUS_RECOVERING) q false) →
    u = b.setQuad q { since := 0, recoveredAt := some b.clk.now } →
    exec (.quadrantRecovered q finds) s = .next (u.raise 0x04 0x2402 1 scDev [q.val, u.clk.now - (b.quadSt q).since, (u.pendingAt q).length]) ∧
    exec (.recoveryMonitorTimeout q) s = .next (s.quadFail q 2)) ∧
  (∀ hs be : Nat, exec (.paceSample m hs be) s =
    .next ((if m.val < 16 then (s.paceTake (rdHs m) hs).paceTake (rdBe m) be else s.paceTake (rdHs m) hs).paceRegs m)) ∧
  exec (.paceMonitorSilent m) s = .next ((if m.val < 16 then (s.paceFault (rdHs m)).paceFault (rdBe m) else s.paceFault (rdHs m)).paceRegs m) ∧
  (∀ (st : Stn) (rule : Fin 16) (id : Nat) (f g : Flight), s.flight id = some f → f.stn = st.val → f.fired.contains rule.val = true → f.ready = true →
    g = { f with fired := f.fired.filter (· != rule.val) } →
    (s.flag (F.MCT_TR_CTL_DEST rule) = false →
      exec (.traceSamplerFire st rule id) s = .next (s.setFlight { g with traceReq := f.traceReq ++ [rule.val] })) ∧
    (s.flag (F.MCT_TR_CTL_DEST rule) = true → (∀ r ∈ f.firedAll, r < rule.val → s.flag (F.MCT_TR_CTL_DEST r) = false) →
      exec (.traceSamplerFire st rule id) s = .next ((s.setFlight g).sampleEntry g rule)) ∧
    (s.flag (F.MCT_TR_CTL_DEST rule) = true → (∃ r ∈ f.firedAll, r < rule.val ∧ s.flag (F.MCT_TR_CTL_DEST r) = true) →
      exec (.traceSamplerFire st rule id) s = .next (s.setFlight g)))

/-! ### The host endpoint, counters and registers (chapters 12 and 13) -/

/-- Function resets, and a host's reads and writes of BAR0 from arrival to answer: queued while fewer than 4 reads or 16 writes wait, answered
Unsupported Request or discarded by a function that does not respond; the oldest access of a virtual switch is carried out in its turn (a read that
its thimble and register bridge allow answers data, and each doubleword of a write that they allow is written; the others answer Unsupported Request
or Completer Abort, or are deferred errors), or ends by a timeout. That the other doublewords of a write are written beside one that fails is the
model's choice (log entry 54). From parts of R333 to R338, R340, R350. -/
def Obligations.HostAccesses : Prop := ∀ (s : State) (v : VsId) (off len a : Nat) (tag : B16) (data : List B32) (full : Bool) (rest : List ProxyAcc),
  exec (.endpointFlr v) s = .next (((s.epReset0 v).closeCreds (credOfVs v)).raise 0x08 0x7110 0 (scVs v) [v.val, 0, (s.proxyQ v).length]) ∧
  exec (.shuttleFlr v) s = .next ((s.epReset1 v pcFlr).raise 0x08 0x7110 0 (scVs v) [v.val, 1, 0]) ∧
  ((s.vs v).sbr = false → ∃ t, exec (.functionResetComplete v) s = .next t ∧ (t.vs v).rrs = false ∧ (t.vs v).f0.inReset = false ∧
    (∀ w : Nat, w ≠ v → t.vs w = s.vs w) ∧ t.regs = s.regs ∧ t.pending = s.pending) ∧
  ((s.vs v).f0.responds = true → s.proxyReads v < 4 →
    exec (.hostBar0Read v off len tag) s = .next ((s.setProxyQ v (s.proxyQ v ++ [.read off len tag])).count 21 0x40 16 0 0 1)) ∧
  ((s.vs v).f0.responds = true → s.proxyWrites v < 16 →
    exec (.hostBar0Write v off data full) s = .next ((s.setProxyQ v (s.proxyQ v ++ [.write off data full])).count 21 0x41 16 0 0 1)) ∧
  ((s.vs v).f0.responds = false → exec (.hostBar0Read v off len tag) s = .next (s.emit (.barReply v tag 1 [])) ∧
    exec (.hostBar0Write v off data full) s = .next (s.bump F.ACW_EP_HOST_CNT_DISCARDED)) ∧
  (∀ u, s.proxyQ v = .read off len tag :: rest → u = s.setProxyQ v rest →
    ((shapeOk off len = false ∨ u.bar0Addr v off = none) → exec (.proxyAccess v) s = .next (u.emit (.barReply v tag 1 []))) ∧
    (shapeOk off len = true → u.bar0Addr v off = some a →
      (∀ w, ((List.range (len / 4)).map (a + 4 * ·)).find? (fun w => u.proxyThm w 4 0 != .allowed) = some w →
        exec (.proxyAccess v) s = .next ((u.proxyDenied w 0 (u.proxyThm w 4 0)).emit (.barReply v tag 1 []))) ∧
      ((∀ i < len / 4, u.proxyThm (a + 4 * i) 4 0 = .allowed) →
        (∀ w, ((List.range (len / 4)).map (a + 4 * ·)).find? (fun w => !u.regOn w) = some w →
          exec (.proxyAccess v) s = .next (u.abortRead v w 5 tag)) ∧
        ((∀ i < len / 4, u.regOn (a + 4 * i) = true) → exec (.proxyAccess v) s =
          .next ((u.prbsAdvanceAll.proxyWords v a (len / 4)).1.emit (.barReply v tag 0 (u.prbsAdvanceAll.proxyWords v a (len / 4)).2)))))) ∧
  (∀ u, s.proxyQ v = .write off data full :: rest → u = s.setProxyQ v rest →
    ((full = false ∨ shapeOk off (4 * data.length) = false) → exec (.proxyAccess v) s = .next (u.deferErr v 1 off)) ∧
    (full = true → shapeOk off (4 * data.length) = true → u.bar0Addr v off = none → exec (.proxyAccess v) s = .next (u.deferErr v 2 off)) ∧
    (full = true → shapeOk off (4 * data.length) = true → u.bar0Addr v off = some a → exec (.proxyAccess v) s =
      .next ((((List.range data.length).map (a + 4 * ·)).zip data).foldl (fun t x =>
        if t.proxyThm x.1 4 1 ≠ .allowed then (t.proxyDenied x.1 1 (t.proxyThm x.1 4 1)).deferErr v 3 x.1
        else if t.hostWritable v x.1 = false then t.deferErr v 4 x.1
        else if t.regOn x.1 = false then t.deferErr v 5 x.1 else t.regWrite x.1 x.2) u))) ∧
  (∀ u, s.proxyQ v = .read off len tag :: rest → u = s.setProxyQ v rest →
    exec (.registerAccessTimeout v) s = .next (u.abortRead v (s.accAddr v off) 6 tag)) ∧
  (∀ u, takeRead (s.proxyQ v) = some ((off, tag), rest) → u = s.setProxyQ v rest →
    exec (.hostReadAborted v) s = .next (u.abortRead v (s.accAddr v off) 7 tag)) ∧
  (∀ u, s.proxyQ v = .write off data full :: rest → u = s.setProxyQ v rest →
    exec (.registerAccessTimeout v) s = .next (u.deferErr v 6 (s.accAddr v off))) ∧
  exec (.bar4Write v) s = .next (s.bump F.ACW_EP_HOST_CNT_DISCARDED)

/-- MSIX_MESSAGE (a vector that may send sends, another becomes pending), MSIX_VECTOR_UNMASK, COUNTER_WRAP, COUNTER_SAMPLE, COUNTER_SWEEP,
PMU_CLR_ALL, PMU_COUNTER_CLR. From parts of R341, R346 to R348. -/
def Obligations.MessagesAndCounters : Prop := ∀ (s u : State) (v : VsId) (fn : Bool) (vec : Fin 2048) (m : Pmu) (c : Fin 8),
  (vec.val < vecCount fn → ((s.vs v).fn fn).maySend vec = false → ∃ t, exec (.msixMessage v fn vec) s = .next t ∧
    (((t.vs v).fn fn).vec vec).pending = true ∧ t.out = s.out ∧ t.regs = s.regs ∧ ∀ w : Nat, w ≠ v → t.vs w = s.vs w) ∧
  (vec.val < vecCount fn → ((s.vs v).fn fn).maySend vec = true →
    u = s.modVs v (fun w => w.modFn fn fun g => g.setVec vec { ((s.vs v).fn fn).vec vec with pending := false }) →
    exec (.msixMessage v fn vec) s = .next ((u.emit (.msix v fn vec (((s.vs v).fn fn).vec vec).addr (((s.vs v).fn fn).vec vec).data)).count 21 0x43 16 0 0 1)) ∧
  (∀ (addr : B64) (data : B32), ((s.vs v).fn fn).responds = true → vec.val < vecCount fn →
    exec (.msixVectorUnmask v fn vec addr data) s = .next ((s.modVs v fun w => w.modFn fn fun g =>
      g.setVec vec { ((s.vs v).fn fn).vec vec with addr := addr, data := data, masked := false }).sendPending v fn)) ∧
  (s.cntRuns m c = true → s.flag (F.PMU_CNT_CTL_SMP m c) = false → exec (.counterWrap m c) s = .next (s.wrap m c)) ∧
  (s.cntRuns m c = true → s.flag (F.PMU_CNT_CTL_SMP m c) = true → exec (.counterSample m c) s = .next (s.wrap m c)) ∧
  (s.flag F.PMC_CTL_READER_EN = true → u = (((List.range 22).filter fun k => s.pdOn (domainOf (pmuBase k))).foldl (fun s k =>
      (List.range 8).foldl (fun s c => s.sweepCnt k c) s) s).bumpWrap F.PMC_SWEEPS_SWEEPS 1 →
    exec .counterSweep s = .next { u with ep := { u.ep with sweepTime := u.clk.fab, sweepSeq := u.ep.sweepSeq + 2 } }) ∧
  exec (.pmuClrAll m) s = .next ((List.range 8).foldl (fun s c =>
    ((s.put (F.PMU_CNT_VALUE m c) 0).putB (F.PMU_CNT_CTL_CHG m c) true).putB (F.PMU_CNT_CTL_OVF m c) false) s) ∧
  (∃ t, exec (.pmuCounterClr m c) s = .next t ∧ t.get (F.PMU_CNT_VALUE m c) = 0 ∧ t.flag (F.PMU_CNT_CTL_CHG m c) = true ∧
    (∀ a, a ≠ (F.PMU_CNT_VALUE m c).addr → a ≠ (F.PMU_CNT_CTL_CHG m c).addr → t.reg a = s.reg a) ∧ ({ t with regs := s.regs } : State) = s)

/-- REGISTER_LOW_READ (the high word of a wide quantity is latched), REGISTER_WRITE by Aclia's initiators and by a host's proxy, with what a write
does to a device register of plain access codes, BRIDGE_RETRY, MAILBOX_ENABLE (a ring that is enabled starts from its first entry; while it is
enabled its layout stays), MAILBOX_TAIL_WRITE. From parts of R9, R10, R153, R339, R383, R400. -/
def Obligations.RegisterAccesses : Prop := ∀ (s u : State) (init : Fin 37) (addr : Nat) (val : B32) (v : VsId),
  (s.wideLow addr = true → s.regOn addr = true → u = s.prbsAdvanceAll → u.wideLow addr = true →
    exec (.registerLowRead init addr) s = .next
      { u with ep := { u.ep with latch := SMap.set (fun _ => none) u.ep.latch init (some (addr + 4, u.regRead (addr + 4))) } }) ∧
  (addr % 4 = 0 → s.regOn addr = true → (init.val < 5 ∨ s.hostWritable (init.val - 5) addr = true) →
    exec (.registerWrite init addr val) s = .next (s.regWrite addr val)) ∧
  (addr % 4 = 0 → 5 ≤ init.val → s.hostWritable (init.val - 5) addr = false → exec (.registerWrite init addr val) s = .next s) ∧
  (∀ (now clr : B32), addr % 4 = 0 → s.regOn addr = true → init.val < 5 → 0x02000000 ≤ addr → pmuOf addr = none →
    now = regMask (fun c => c == .rw || c == .rws) addr → clr = regMask (· == .rw1c) addr → regMask (fun c => c == .rwc || c == .qo) addr = 0 →
    ∃ t, exec (.registerWrite init addr val) s = .next t ∧ t.reg addr = ((s.reg addr &&& ~~~now) ||| (val &&& now)) &&& ~~~(clr &&& val) ∧
      (∀ b, b ≠ addr → t.reg b = s.reg b) ∧ ({ t with regs := s.regs } : State) = s) ∧
  (∀ i : Fin 5, exec (.bridgeRetry i) s = .next ((s.bump F.ACW_EP_BRIDGE_RETRIES).count 21 0x42 16 0 0 1)) ∧
  (s.flag (F.ACW_MBX_CFG_EN v) = false → bit val.toNat 0 = true → ∃ t, exec (.mailboxEnable v val) s = .next t ∧
    t.flag (F.ACW_MBX_CFG_EN v) = true ∧ t.get (F.ACW_MBX_HEAD_HEAD v) = 0 ∧ t.get (F.ACW_MBX_HEAD_PHASE v) = 1 ∧ t.get (F.ACW_MBX_TAIL_TAIL v) = 0 ∧
    t.flag (F.ACW_MBX_STATUS_FAULT v) = false ∧ t.get (F.ACW_MBX_STATUS_CAUSE v) = 0 ∧ t.get (F.ACW_MBX_CFG_VEC v) = bits val.toNat 8 8 ∧
    t.get (F.ACW_MBX_CFG_ORDER v) = (if 2 ≤ bits val.toNat 4 4 ∧ bits val.toNat 4 4 ≤ 8 then bits val.toNat 4 4 else s.get (F.ACW_MBX_CFG_ORDER v)) ∧
    t.flag (F.ACW_MBX_CFG_VEC_EN v) = bit val.toNat 16 ∧ ({ t with regs := s.regs } : State) = s) ∧
  (s.flag (F.ACW_MBX_CFG_EN v) = false → bit val.toNat 0 = false →
    u = (s.putB (F.ACW_MBX_CFG_VEC_EN v) (bit val.toNat 16)).put (F.ACW_MBX_CFG_VEC v) (bits val.toNat 8 8) →
    exec (.mailboxEnable v val) s = .next ((if 2 ≤ bits val.toNat 4 4 ∧ bits val.toNat 4 4 ≤ 8 then u.put (F.ACW_MBX_CFG_ORDER v) (bits val.toNat 4 4)
      else u).putB (F.ACW_MBX_CFG_EN v) false)) ∧
  (s.flag (F.ACW_MBX_CFG_EN v) = true →
    exec (.mailboxEnable v val) s = .next ((s.putB (F.ACW_MBX_CFG_VEC_EN v) (bit val.toNat 16)).putB (F.ACW_MBX_CFG_EN v) (bit val.toNat 0))) ∧
  (∀ tail : B8, s.acl.up = true → s.flag (F.ACW_MBX_CFG_EN v) = true → s.flag (F.ACW_MBX_STATUS_FAULT v) = false →
    2 ^ s.get (F.ACW_MBX_CFG_ORDER v) ≤ tail.toNat → u = s.put (F.ACW_MBX_TAIL_TAIL v) tail.toNat →
    exec (.mailboxTailWrite v tail) s = .next (u.ringFault v 2 (s.get (F.ACW_MBX_HEAD_HEAD v)))) ∧
  (∀ tail : B8, (s.acl.up = false ∨ s.flag (F.ACW_MBX_CFG_EN v) = false ∨ s.flag (F.ACW_MBX_STATUS_FAULT v) = true ∨ tail.toNat < 2 ^ s.get (F.ACW_MBX_CFG_ORDER v)) →
    exec (.mailboxTailWrite v tail) s = .next (s.put (F.ACW_MBX_TAIL_TAIL v) tail.toNat))

/-! ### The fabric (chapter 10) -/

/-- The formation of a fabric: HELLO (what it says of its sender and of the candidate it names, and the election it may move), HELLO_ROUND,
NO_MANAGER, TOPO, PUBLISH of a piece, which a node stages or refuses, PUBLISH_START before the fabric is published and after (R286), PREPARE and READY,
and GO, each as Aclia takes it; a message with a bad tag is discarded and counted. The digest of READY is the model's (log entry 37). From parts of
R279, R281, R282, R286, R291, R292. -/
def Obligations.FabricFormation : Prop := ∀ (s u : State) (c : CtlHdr),
  (∀ (m : HelloMsg) (n p : B8) (uid : B64) (links : List TopoLink) (w dg : B32) (first epoch : Nat) (words : List B32) (r : Bool) (time : B64)
      (mask : BitVec 48) (x : B16) (k : Fin 16), s.nodeId ≠ 0xFF → s.seamLive c.stn = true → c.tagOk = false →
    u = s.bump F.FAB_ROUTE_ERR_ROUTE_ERR →
    exec (.hello c m) s = .next u ∧ exec (.topo c n uid links w) s = .next u ∧ exec (.publish c n first words) s = .next u ∧
    exec (.prepareReady c r epoch dg) s = .next u ∧ exec (.go c epoch time) s = .next u ∧ exec (.rerouteHold c epoch mask first) s = .next u ∧
    exec (.sealed c epoch x) s = .next u ∧ exec (.linkEvent c n p k) s = .next u ∧ ∀ e, exec (.lateNotice c e) s = .next u) ∧
  (∀ (m : HelloMsg) (n k : Nat) (a b d e : State), Taken s c → n = m.node.toNat → k = m.cand.toNat → n < 48 →
    a = (s.learn n m.uid).modNode n (fun x => { x with mgrCap := m.mgrCap, heard := (s.learn n m.uid).fab.round, startStep := m.startStep.val }) →
    b = (if a.fab.dropped = n then { a with fab := { a.fab with dropped := 0xFF } } else a) →
    d = (if k < 48 ∧ k ≠ n ∧ k ≠ b.nodeId ∧ k ≠ b.fab.dropped then (b.learn k m.candUid).modNode k (fun x => { x with mgrCap := true, heard := b.fab.round })
      else if k = b.nodeId ∧ k ≠ n then b.learn k m.candUid else b) →
    u = { d with fab := { d.fab with cand := d.candidate, ownRounds := if d.candidate = d.nodeId then d.fab.ownRounds else 0 } } →
    e = (if m.mgr = true ∧ k = d.candidate ∧ d.candidate < 48 ∧ d.candidate ≠ u.nodeId then
      (if u.get F.FAB_STATE_MGR_NODE = d.candidate then { u with fab := { u.fab with silent := 0 } } else u.setMgr d.candidate) else u) →
    exec (.hello c m) s = .next (if d.candidate < d.fab.cand then e.sendHello c.stn else e)) ∧
  (∀ (a b d : State) (own : Nat), Acts s → s.nodeId ≠ 0xFF → a = { s with fab := { s.fab with round := s.fab.round + 1 } } →
    b = (if s.get F.FAB_STATE_MGR_NODE = 0xFF ∨ s.get F.FAB_STATE_MGR_NODE = s.nodeId then a
      else { a with fab := { a.fab with silent := a.fab.silent + 1 } }) →
    d = (if 3 ≤ b.fab.silent then b.dropMgr else b) → own = (if d.candidate = d.nodeId then d.fab.ownRounds + 1 else 0) →
    u = { d with fab := { d.fab with cand := d.candidate, ownRounds := own } } →
    ((own < 3 ∨ u.get F.FAB_STATE_MGR_NODE = u.nodeId) → exec .helloRound s = .next (u.sendHello 16)) ∧
    (3 ≤ own → u.get F.FAB_STATE_MGR_NODE ≠ u.nodeId → exec .helloRound s = .next (((u.setMgr u.nodeId).raise 0x06 0x5103 1 (u.setMgr u.nodeId).fabScope
      [(u.setMgr u.nodeId).nodeId, (u.setMgr u.nodeId).get F.FAB_STATE_DEPUTY, own]).sendHello 16))) ∧
  (Acts s → s.nodeId ≠ 0xFF → s.get F.FAB_STATE_MGR_NODE = 0xFF → s.candidate = 0xFF → s.get F.FAB_STATE_STEP < 12 →
    u = [0, 1].foldl (fun a d => (a.put (F.FAB_ROUTE_LO_PORTS s.nodeId d) 0).put (F.FAB_ROUTE_HI_ATTR s.nodeId d) 0x10) s →
    exec .noManager s = .next ((u.stepUp 12).raise 0x06 0x5104 3 u.fabScope [((List.range 48).filter fun i => (u.node i).known).length])) ∧
  (∀ (n : B8) (uid : B64) (links : List TopoLink) (usps : B32) (a b : State), Taken s c → n.toNat < 48 → n.toNat ≠ s.nodeId →
    a = (s.learn n.toNat uid).modNode n.toNat (fun x => { x with usps := usps.toNat }) → b = a.modNode n.toNat (fun x => { x with links := links }) →
    u = ({ b with fab := { b.fab with lastTopo := b.clk.now } }).tellLinks c.stn 0x02 ([n.toNat, uid.toNat] ++ links.flatMap topoFields) →
    exec (.topo c n uid links usps) s = .next (if (a.node n.toNat).links = links then a
      else if 9 ≤ u.get F.FAB_STATE_STEP ∧ u.topoWhole = true then u.stepUp 10 else u)) ∧
  (∀ (kind : B8) (first base : Nat) (words : List B32) (bad : Option Nat), Taken s c → pieceBase kind.toNat = some base →
    first + words.length ≤ pieceWords kind.toNat →
    u = { s with fab := { s.fab with pieces := s.fab.pieces ++ ((words.zip (List.range words.length)).map fun x => (base + 4 * (first + x.2), x.1)) } } →
    bad = (if kind.toNat ≠ 0 then none
      else ((List.range ((first + words.length) / 2)).filter fun e => decide (first ≤ 2 * e)).find? fun e => !u.entryOk (e / 2) (e % 2)) →
    exec (.publish c kind first words) s = .next (match bad with
      | some e => State.tellCtl { s with fab := { s.fab with pieces := [] } } c.src.toNat 0x10 [0, 2 * e]
      | none => u)) ∧
  (∀ (kind : B8) (first : Nat) (words : List B32), Taken s c → (pieceBase kind.toNat = none ∨ pieceWords kind.toNat < first + words.length) →
    exec (.publish c kind first words) s = .next (s.tellCtl c.src.toNat 0x10 [kind.toNat, first])) ∧
  (∀ (ripe : Prop), Acts s → s.nodeId ≠ 0xFF → s.get F.FAB_STATE_MGR_NODE = s.nodeId → s.fab.publishing = false → s.fab.goAt = none →
    ripe = (s.pow.releasedAt + s.get F.FAB_CTL_FORM_TMO * msec ≤ s.clk.now ∨ s.fab.lastTopo + 20 * msec ≤ s.clk.now ∧
      ∀ n < 48, (s.node n).known = true → n ≠ s.nodeId → 9 ≤ (s.node n).startStep) → ripe →
    (∀ (nt : Net) (os : List Nat) (d : State → Nat → Nat) (a b : State), s.get F.FAB_STATE_STEP < 12 → nt = s.net [] →
      d = (fun s n => digest ((s.piecesFor nt n).flatMap fun p => p.2.2)) → a = ((s.unreachable nt).publishOwn nt).limitVss →
      os = a.others nt → b = { a with fab := { a.fab with publishing := true, ready := [], expect := [] } } →
      u = os.foldl (fun s n => (State.publishTo { s with fab := { s.fab with expect := SMap.set (fun _ => 0) s.fab.expect n (d s n) } } nt n).sendCtl
        n 0x11 [0, s.nextEpoch, d s n] none) b →
      exec .publishStart s = .next (if os = [] then State.sendGo { u with fab := { u.fab with far := [] } } [] else { u with fab := { u.fab with far := [] } })) ∧
    (12 ≤ s.get F.FAB_STATE_STEP → s.fab.hold = none → s.fab.ranks ≠ [] → exec .publishStart s = .next s.joinRoutes)) ∧
  (∀ (epoch mine : Nat) (dg : B32), Taken s c → mine = digest (s.fab.pieces.map Prod.snd) →
    exec (.prepareReady c false epoch dg) s = .next ((if mine = dg.toNat then s else { s with fab := { s.fab with pieces := [] } }).tellCtl c.src.toNat 0x11
      [1, epoch, mine])) ∧
  (∀ (epoch : Nat) (dg : B32), Taken s c → s.fab.publishing = true → epoch = s.nextEpoch → u = s.gotReply c.src.toNat 0x11 →
    (dg.toNat ≠ SMap.get (fun _ => 0) u.fab.expect c.src.toNat →
      exec (.prepareReady c true epoch dg) s = .next (({ u with fab := { u.fab with publishing := false, pieces := [], ready := [], expect := [] } }.raise 0x06 0x5113 3
        u.fabScope [s.nodeId, c.src.toNat, 2]).endAsync (fun a => a.opcode == 0x0201 && a.obj == 2 ^ 17) .stagedConflict none)) ∧
    (∀ a : State, dg.toNat = SMap.get (fun _ => 0) u.fab.expect c.src.toNat →
      a = { u with fab := { u.fab with ready := c.src.toNat :: u.fab.ready.filter (· != c.src.toNat) } } →
      exec (.prepareReady c true epoch dg) s = .next (if (a.fab.expect.map Prod.fst).all a.fab.ready.contains then a.sendGo (a.fab.expect.map Prod.fst) else a))) ∧
  (∀ (epoch : Nat) (dg : B32), Taken s c → (s.fab.publishing = false ∨ epoch ≠ s.nextEpoch) → exec (.prepareReady c true epoch dg) s = .next s) ∧
  (∀ (epoch : Nat) (time : B64), Taken s c → exec (.go c epoch time) s = .next { s with fab := { s.fab with goAt := some (epoch % 256, time) } })

/-- A route change: REROUTE_HOLD, SEAL, SEAL_ROUND_TIMEOUT, SEALED, GO_DEADLINE, LINK_EVENT, REROUTE_START at the manager node, or at the deputy when
every link of the manager node is lost, GO_TIME with and without a route change (the staged pieces become the tables, the epoch is the GO's, the hold
ends), LATE_NOTICE, CONTROL_MESSAGE_RESEND. From parts of R16, R228, R287 to R292. -/
def Obligations.FabricChanges : Prop := ∀ (s u : State) (c : CtlHdr) (st : Stn),
  (∀ (epoch pieces : Nat) (mask : BitVec 48), Taken s c → s.fab.hold = none →
    u = { s with fab := { s.fab with hold := some (mask.toNat, epoch % 256), sealRx := [], failed := 0, rerouteAt := s.clk.now } } →
    exec (.rerouteHold c epoch mask pieces) s = .next ((u.sendSeals 1).advance 6)) ∧
  (∀ (epoch pieces : Nat) (mask : BitVec 48), Taken s c → s.fab.hold ≠ none → exec (.rerouteHold c epoch mask pieces) s = .next s) ∧
  (∀ (k : Fin 3) (round : Fin 256), s.sealTake st k round = some u →
    exec (.seal st k round) s = .next (State.advance { u with fab := { u.fab with sealRx := SMap.set (fun _ => 0) u.fab.sealRx (4 * st.val + k.val) round } } 6)) ∧
  (s.fab.hold ≠ none → s.sealHere st = false → s.fab.sealTx ≤ 4 →
    exec (.sealRoundTimeout st) s = .next (State.advance { s with fab := { s.fab with failed := setBit s.fab.failed st true } } 6)) ∧
  (∀ (epoch m : Nat) (mask : B16), Taken s c → s.fab.running = true → s.fab.hold = some (m, epoch % 256) →
    exec (.sealed c epoch mask) s = .next ((s.gotReply c.src.toNat 0x21).sealedBy c.src.toNat)) ∧
  (Acts s → s.fab.running = true → s.fab.goAt = none → exec .goDeadline s = .next (s.sendGo (s.others (s.net [])))) ∧
  (∀ (node port : B8) (cause : Fin 16), Taken s c → (s.get F.FAB_STATE_ROLE = 1 ∨ s.get F.FAB_STATE_ROLE = 2) →
    s.fab.events.contains (node.toNat, port.toNat, cause.val) = false →
    exec (.linkEvent c node port cause) s = .next { s with fab := { s.fab with events := s.fab.events ++ [(node.toNat, port.toNat, cause.val)] } }) ∧
  (∀ (node port : B8) (cause : Fin 16), Taken s c → ((s.get F.FAB_STATE_ROLE ≠ 1 ∧ s.get F.FAB_STATE_ROLE ≠ 2) ∨
    s.fab.events.contains (node.toNat, port.toNat, cause.val) = true) → exec (.linkEvent c node port cause) s = .next s) ∧
  (∀ lost : List (Nat × Nat), Acts s → s.fab.events ≠ [] → s.fab.hold = none → s.fab.publishing = false → 12 ≤ s.get F.FAB_STATE_STEP →
    lost = s.fab.events.map (fun e => (e.1, e.2.1)) →
    (s.get F.FAB_STATE_ROLE = 1 ∨ s.get F.FAB_STATE_ROLE = 2 ∧ s.allLost (s.get F.FAB_STATE_MGR_NODE) lost = true) →
    u = s.startChange lost (changed (s.net []) (s.net lost)) (((s.fab.events.head?).map fun e => e.2.2).getD 0) →
    exec .rerouteStart s = .next (State.markLost { u with fab := { u.fab with events := [] } } lost)) ∧
  (∀ (e : Nat) (t : B64) (a b : State) (bad : List Nat), Acts s → s.fab.goAt = some (e, t) → bad = (if s.fab.hold = none then [] else s.behind) →
    a = (bad.foldl State.sealFlush s).takePieces.put F.FAB_STATE_EPOCH e →
    b = { a with fab := { a.fab with goAt := none, hold := none, sealTx := 0, sealRx := [], failed := 0, running := false, sealedBy := [],
                                     ready := [], expect := [] } } →
    u = (List.range 64).foldl State.bindStep (b.put F.FAB_TIME_STAT_PARENT b.parentOf) →
    (s.fab.hold ≠ none → exec .goTime s = .next ((u.bump F.FAB_CNT_REROUTES).raiseEnd (fun a => a.opcode == 0x0705 || (a.opcode == 0x0201 && a.obj == 2 ^ 17))
      0x06 0x5111 1 u.fabScope [e, s.clk.now - s.fab.rerouteAt, bad.length])) ∧
    (∀ x : State, s.fab.hold = none → x = u.stepUp 13 → exec .goTime s = .next (if u.get F.FAB_STATE_STEP < 13 then
      x.raiseEnd (fun a => a.opcode == 0x0705 || (a.opcode == 0x0201 && a.obj == 2 ^ 17)) 0x06 0x5105 0 x.fabScope
        [e, 1 + ((List.range 48).filter fun n => x.reachable n && n != x.nodeId).length, x.uspCount, (x.clk.now - x.pow.releasedAt) / msec] else x))) ∧
  (∀ e : LateRec, s.nodeId ≠ 0xFF → s.seamLive c.stn = true → c.tagOk = true → e.ingNode.toNat = s.nodeId →
    exec (.lateNotice c e) s = .next (s.enterLate e)) ∧
  (∀ (mseq : B32) (o : CtlOut), (s.fab.out.find? fun o => o.mseq == mseq.toNat) = some o → (s.acl.up = true ∨ o.kind = 0x30) →
    exec (.controlMessageResend mseq) s = .next (if o.sends < 4 then
      ({ s with fab := { s.fab with out := s.fab.out.map (fun (x : CtlOut) => if x.mseq = o.mseq then { x with sends := x.sends + 1 } else x) } }).emit
        (.ctl o.dest o.kind o.mseq o.fields)
      else State.gaveUp { s with fab := { s.fab with out := s.fab.out.filter fun x => x.mseq != o.mseq } } o))

/-! ### Aclia, sensors, events (chapters 13 and 15) -/

/-- EVENT_RECORD_DELIVERY (the oldest record of a block is logged, with 0x7020 for gaps), FW_BOOTED (the bank of the boot record, or the other when it
fails its tests or its trial was cut short), ACLIA_WATCHDOG, whose third reset within 10 minutes leaves the bank, FW_ACTIVATED of a bank that passes, of
one that fails, and of a revert, CONFIRM_TIMEOUT, DEBUG_ARM_EXPIRY. Whether an image's signature is good is a function of Config (log entry 9), on
which the outcome depends. From parts of R16, R354, R356, R357, R360, R372, R375. -/
def Obligations.ManagementEvents : Prop := ∀ (s u : State),
  (∀ (src : Fin 32) (e : Ev) (rest : List Ev) (left : Nat) (w : State), (s.ram src).held = e :: rest → s.acl.up = true →
    left = (if rest = [] then (s.ram src).dropped else 0) →
    u = { s with evs := { s.evs with ram := SMap.set (fun _ => {}) s.evs.ram src { held := rest, dropped := if rest.isEmpty then 0 else (s.ram src).dropped } } } →
    w = (if e.gap = 0 then u.logPut e else (u.logPut e).logGap src e.gap) →
    exec (.eventRecordDelivery src) s = .next (if left = 0 then w else w.logGap src left)) ∧
  (∀ (saved again : Bool) (r : BootRec) (act first : Nat) (a : State) (up : State → Nat → State), s.pow.running = true → s.acl.up = false →
    s.acl.halted = false → s.acl.romWaits = false → s.acl.activating = none →
    a = (if saved then s else s.dropSaved) → r = a.bootRec → act = b2n r.active → again = (r.trial && r.tried && !a.acl.fallback) →
    first = (if a.acl.fallback then 1 - a.get F.ACW_FW_STATUS_RUN_BANK else if again then 1 - act else act) →
    u = (if again then (a.writeBootRec (!r.active) false false).raise 0x01 0x7008 3 scDev [2]
      else if r.trial = true ∧ a.acl.fallback = false then a.writeBootRec r.active true true else a) →
    up = (fun s b =>
      let t := s.put F.ACW_FW_STATUS_UPD_STATE (if r.trial && !again && b == act then 4
        else if 3 ≤ s.get F.ACW_FW_STATUS_UPD_STATE then 0 else s.get F.ACW_FW_STATUS_UPD_STATE)
      (t.fwUp b (r.trial && !again && b == act) false (t.bankOf b)).booted b (t.bankOf b)) →
    exec (.fwBooted saved) s = .next (match u.fwTest (u.bankOf first) with
      | none => up u first
      | some t =>
        let x := u.raise 0x01 0x7003 3 scDev [first, t]
        match x.fwTest (x.bankOf (1 - first)) with
        | none => up x (1 - first)
        | some t =>
          let y := x.raise 0x01 0x7003 3 scDev [1 - first, t]
          { y with acl := { y.acl with romWaits := true } })) ∧
  (∀ (core : Fin 4) (recent : List Nat) (w : State) (b : Nat), s.pow.running = true → s.acl.halted = false → s.acl.romWaits = false →
    recent = (s.acl.wdt.filter fun t => decide (s.clk.now < t + 600000000000)) ++ [s.clk.now] →
    u = (s.bump F.ACW_WDT_WDT_RESETS).coresDown.discardAll 3 →
    w = (State.trigger { u with acl := { u.acl with wdt := recent, activating := none } } 8).raise 0x01 0x7004 3 scDev [core.val, recent.length] →
    b = w.get F.ACW_FW_STATUS_RUN_BANK →
    exec (.acliaWatchdog core) s = .next (if recent.length < 3 then w
      else if w.fwTest (w.bankOf (1 - b)) = none then State.raise { w with acl := { w.acl with fallback := true } } 0x01 0x7002 3 scDev [b, 1]
      else State.putB { w with acl := { w.acl with halted := true, alertHalt := true, alertN := false } } F.ACW_THERM_STATUS_ALERT true)) ∧
  (∀ (ok saved : Bool) (old t0 ob nb : Nat) (a w x : State), s.acl.activating = some (old, t0, false) → ob = s.get F.ACW_FW_STATUS_RUN_BANK → nb = 1 - ob →
    a = (if saved then s else s.dropSaved) →
    u = ((State.bump { a with acl := { a.acl with activating := none } } F.ACW_WDT_ACTIVATIONS).endAsync (fun a => a.opcode != 0x0E02) .timeout none).trigger 10 →
    w = (u.fwUp nb true false (u.bankOf nb)).put F.ACW_FW_STATUS_UPD_STATE 4 →
    x = ((u.writeBootRec (ob == 1) false false).fwUp ob false false ((u.writeBootRec (ob == 1) false false).bankOf ob)) →
    exec (.fwActivated ok saved) s = .next (if ok = true ∧ u.fwTest (u.bankOf nb) = none then
      w.raiseEnd (fun a => a.opcode == 0x0E02) 0x01 0x7006 1 scDev [old, fwVersion (w.bankOf nb), w.clk.now - t0]
      else ((x.put F.ACW_FW_STATUS_UPD_STATE 0).raise 0x01 0x7008 3 scDev [3]).endAsync (fun a => a.opcode == 0x0E02) .hwFault (some x.evs.next))) ∧
  (∀ (ok saved : Bool) (old t0 nb : Nat) (a : State), s.acl.activating = some (old, t0, true) → nb = 1 - s.get F.ACW_FW_STATUS_RUN_BANK →
    a = (if saved then s else s.dropSaved) →
    u = ((State.bump { a with acl := { a.acl with activating := none } } F.ACW_WDT_ACTIVATIONS).endAsync (fun a => a.opcode != 0x0E02) .timeout none).trigger 10 →
    exec (.fwActivated ok saved) s = .next ((u.fwUp nb false false (u.bankOf nb)).put F.ACW_FW_STATUS_UPD_STATE 0)) ∧
  (s.acl.up = true → s.flag F.ACW_FW_STATUS_TRIAL = true →
    exec .confirmTimeout s = .next ((s.raise 0x01 0x7008 3 scDev [1]).beginActivation true)) ∧
  (s.acl.arm ≠ none → exec .debugArmExpiry s =
    .next ((({ s with acl := { s.acl with arm := none } } : State).putB F.ACW_SEC_STATUS_ARMED false).raise 0x01 0xA003 0 scDev [1]))

/-- A sensor's sample out of range (flagged, not counted as valid), a valid sample of a sensor that is not stale (limited to its step, the median of
five is the value), the fifth valid sample in a row of a stale one, 10 ms without a valid sample, and the end of ALERT_N. From parts of R367 to
R369, R455. -/
def Obligations.SensorEvents : Prop := ∀ (s u : State) (i : Fin 32) (raw : Int), s.pdIsOn 62 = true → s.pow.block ≠ some (0x11, 0xFFFF) →
  (i.val = 31 → s.get F.GLB_RESET_CAUSE_SOURCE = 0) →
  ((raw < (sensRange i).1 ∨ (sensRange i).2 < raw) →
    u = (s.putB (F.ACW_SENS_RANGE i) true).setSens i 
      { s.sens i with miss := (s.sens i).miss + 1, run := 0, win := if s.sensStale i then [] else (s.sens i).win } →
    exec (.sensorSample i raw) s = .next (u.raiseLim 1000000000 i 0x02 0x8102 2 scDev 0 [i.val, (raw % 4294967296).toNat])) ∧
  ((sensRange i).1 ≤ raw → raw ≤ (sensRange i).2 → u = s.putB (F.ACW_SENS_RANGE i) false →
    (∀ win : List Int, u.sensStale i = false → win = (clampStep raw (u.sensVal i) (sensStep i) :: (s.sens i).win).take 5 →
      exec (.sensorSample i raw) s = .next (((u.setSens i { win := win }).setSensVal i (medianInt win)).judge i)) ∧
    (u.sensStale i = true → (s.sens i).run + 1 < 5 →
      exec (.sensorSample i raw) s = .next (u.setSens i { win := (raw :: (s.sens i).win).take 5, miss := 0, run := (s.sens i).run + 1 })) ∧
    (∀ (win : List Int) (w : State), u.sensStale i = true → 5 ≤ (s.sens i).run + 1 → win = (raw :: (s.sens i).win).take 5 →
      w = ((u.setSens i { win := win }).putB (F.ACW_SENS_STALE i) false).setSensVal i (medianInt win) →
      exec (.sensorSample i raw) s = .next ((w.raise 0x02 0x8103 0 scDev [i.val, w.get (F.ACW_SENS_VALUE i)]).judge i))) ∧
  (s.sensStale i = false → u = ((s.setSens i {}).putB (F.ACW_SENS_STALE i) true).showHot →
    exec (.sensorStale i) s = .next ((u.raise 0x02 0x8101 2 scDev [i.val]).alertEval)) ∧
  (s.alertCond = false → s.acl.alertHalt = false →
    exec .alertRelease s = .next (State.putB { s with acl := { s.acl with alertN := true } } F.ACW_THERM_STATUS_ALERT false))

/-! ### PCI Express ports (chapter 3) -/

/-- PORT_QUIESCED (the command it belongs to ends with the last port it waits for), QUIESCE_TIMEOUT, COMMAND_COMPLETED, VS_RESET, PME_TURN_OFF,
PME_TO_ACK once no downstream port owes its own, PME_TO_TIMEOUT, L0P_REQUEST that the port may accept, L0P_WIDTH_RESTORE, ASPM_L1_ENTRY into L1, L1.1 and
L1.2, PTM_EXCHANGE, PTM_REQUEST with and without a valid time, VS_READY. From parts of R72, R77, R82, R84 to R87, R281. -/
def Obligations.PortEvents : Prop := ∀ (s u : State) (p : Port) (v : VsId),
  (∀ (q : Quiescing) (w : State) (d : List Nat), (s.port p).quiescing = some q → q.waiting = false → s.stage p = stOFF → s.queuesEmpty p = true →
    bit (s.get (F.STN_OB_FLUSH_FLUSHING (stnOf p))) (kOf p) = false →
    u = (s.putB (F.STN_PORT_STATUS_QUIESCED (stnOf p) (kOf p)) true).modPort p (fun x => { x with quiescing := none }) →
    w = (if u.pciRole p = 2 then u.modVs (u.vsOf p) (fun x => { x with left := x.left.filter (· != u.devnum p) ++ [u.devnum p] }) else u) →
    d = [p.val, b2n (!q.orderly), w.vsOf p] →
    exec (.portQuiesced p) s = .next (if w.cmd.asyncs.any (fun a => a.ended == none && quiesceCmd p q a && (a.opcode == 0x0301 || !w.quiesceLeft (stnOf p)))
      then w.raiseEnd (quiesceCmd p q) (srcStn (stnOf p)) 0x1036 0 (scPort p) d else w.raise (srcStn (stnOf p)) 0x1036 0 (scPort p) d)) ∧
  (∀ (cred tag : B32) (mine : Async → Bool), mine = (fun a => a.cred == cred && a.tag == tag && (a.opcode == 0x0301 || a.opcode == 0x0204)) →
    (s.cmd.asyncs.any fun a => mine a && a.ended == none) = true →
    u = allPorts.foldl (fun s p => match (s.port p).quiescing with
      | some q => if q.cred == cred && q.tag == tag && q.waiting then s.modPort p fun x => { x with quiescing := none } else s
      | none => s) s →
    exec (.quiesceTimeout cred tag) s = .next (u.endAsync mine .timeout none)) ∧
  ((s.port p).slotWrite ≠ none → exec (.commandCompleted p) s = .next ((s.orCw p ofSLTCTL slCc).modPort p fun x => { x with slotWrite := none })) ∧
  (∀ n : Nat, s.usp v = some n → exec (.vsReset v true) s = .next ((s.vsResetOp v vrHot).hotReset n) ∧
    exec (.vsReset v false) s = .next (s.vsResetOp v vrDown)) ∧
  (∀ ps : List Nat, s.usp v ≠ none → ps = (s.dsps v).filter (fun p => s.stage p == stACTIVE) →
    exec (.pmeTurnOff v) s = .next ((ps.foldl (fun s p => s.emit (.msg p msgPmeTurnOff 0)) s).modVs v fun w => { w with pme := ps, pmeWait := true })) ∧
  ((s.vs v).pmeWait = true → (s.vs v).pme = [] → exec (.pmeToAck v) s = .next (s.pmeDone v)) ∧
  (∀ n : Nat, (s.vs v).pmeWait = true → s.usp v = some n →
    exec (.pmeToTimeout v) s = .next ((s.pmeDone v).raise (srcStn (stnOf n)) 0x1034 2 (scVs v) (v.val :: (s.vs v).pme))) ∧
  (∀ width : Fin 17, s.stage p = stACTIVE → s.pciRole p ≠ 0 → s.flag (F.STN_PORT_CFG_L0P_EN (stnOf p) (kOf p)) = true →
    s.flag (F.STN_PORT_STATUS_FLIT (stnOf p) (kOf p)) = true → 0 < width.val → width.val < s.get (F.STN_PORT_STATUS_WIDTH (stnOf p) (kOf p)) →
    exec (.l0pRequest p width) s = .next ((s.put (F.STN_PORT_STATUS_L0P_WIDTH (stnOf p) (kOf p)) width).modPort p fun x => { x with l0p := true })) ∧
  (∀ w : Nat, s.queueOver p = true → (s.port p).l0p = true → w = s.get (F.STN_PORT_STATUS_WIDTH (stnOf p) (kOf p)) →
    exec (.l0pWidthRestore p) s = .next (((s.put (F.STN_PORT_STATUS_L0P_WIDTH (stnOf p) (kOf p)) w).modPort p fun x => { x with l0p := false }).emit
      (.l0pFull p w))) ∧
  (∀ (sub : Fin 3) (pciPm clkreq : Bool), s.pciRole p = 2 → s.stage p = stACTIVE →
    (pciPm = true ∨ s.flag (F.STN_PORT_CFG_ASPM_L1_EN (stnOf p) (kOf p)) = true ∧ bit (s.cw p ofLNKCTL) 1 = true) →
    (sub = 0 ∨ s.hasSlot p = true ∧ clkreq = true ∧ s.flag (F.STN_PORT_CFG_L1SS_EN (stnOf p) (kOf p)) = true ∧
      bit (s.cw p 0x348) (if pciPm then (if sub.val = 1 then 1 else 0) else (if sub.val = 1 then 3 else 2)) = true) →
    exec (.aspmL1Entry p sub pciPm clkreq) s = .next (s.put (F.STN_PORT_STATUS_PM (stnOf p) (kOf p)) (1 + sub.val))) ∧
  (∀ time : B64, ∃ t, exec (.ptmExchange v time) s = .next t ∧ (t.vs v).ptm = some (time - s.clk.fab) ∧ ({ t with vss := s.vss } : State) = s) ∧
  (s.pciRole p = 2 → exec (.ptmRequest p) s = .next (s.emit (.msg p msgPtmResponse (match (s.vs (s.vsOf p)).ptm with
    | some o => (s.clk.fab + o).toNat
    | none => 2 ^ 64)))) ∧
  (∀ n : Nat, s.usp v = some n → (s.vs v).published = false → s.started (stnOf n) = true → s.fabPublished = true →
    s.fab.unpub.contains v.val = false → u = (s.modVs v fun w => { w with published := true }).putB (F.STN_PORT_STATUS_RRS (stnOf n) (kOf n)) false →
    exec (.vsReady v) s = .next (u.raise (srcStn (stnOf n)) 0x1032 0 (scVs v) [v.val, n, (u.clk.now - u.pow.releasedAt) / msec]))

/-! ### Reset, power domains and clocks (chapter 15) -/

/-- The supplies and resets: SUBSOIL_POWER_ON, STANDBY_POWER_ON, MAIN_POWER_ON_RESET (no cause of its own after a brown-out), BROWN_OUT, WARM_RESET,
STANDBY_POWER_LOSS, HRST_DRIVE_END, RESET_AFTER_REPLY of both kinds, THERMTRIP, SUBSOIL_SUPPLY_CHANGE, VBAK_LOW. From parts of R370, R403 to R406,
R408, R428, R457. -/
def Obligations.ResetEvents : Prop := ∀ (s u : State) (samples : List Nat),
  (u = { s with regs := s.regs.filter (fun x => !(decide (0x20 ≤ x.1 ∧ x.1 < 0x38) || x.1 == 0x50)), evs := { s.evs with gasp := [], gaspSeen := 0 },
                spc := { s.spc with latched := [] }, pow := { s.pow with baseNs := 0, baseTicks := 0 }, clk := { s.clk with ssZero := s.clk.now } } →
    exec .subsoilPowerOn s = .next (u.trigger 1)) ∧
  (∀ a b c : State, a = (s.trigger 2).spcReset → b = (State.resetMain { a with pow := { a.pow with stby := true } } false).strapLatch samples →
    c = b.put F.GLB_STRAP_STBY_CODE (b.get F.GLB_STRAP_CODE) →
    u = ((List.range 17).filter s.gateOn).foldl (fun s n => s.raiseSlot n 0x9011 1 [0]) (c.spc.latched.foldl (fun s n => s.setSp n spLATCHED) c) →
    exec (.standbyPowerOn samples) s = .next ((u.put (F.GLB_PD_STATE_STATE 63) 2).putB (F.GLB_PD_STATE_ISO 63) false)) ∧
  (u = { s with pow := { s.pow with supplyLow := false, samples := samples } } →
    exec (.mainPowerOnReset samples) s = .next (if s.pow.stby = true ∧ s.pow.supplyLow = false then (u.trigger 3).resetMain false else u)) ∧
  (∀ n : Fin 8, u = (s.trigger 4).resetMain false → exec (.brownOut n) s = .next { u with pow := { u.pow with supplyLow := true } }) ∧
  (s.pow.driving = false → s.pow.running = true → u = ((s.disarmFor 2).trigger 5).resetMain true →
    exec (.warmReset samples) s = .next { u with pow := { u.pow with samples := samples } }) ∧
  (u = s.spcReset.resetMain false → exec .standbyPowerLoss s = .next { u with pow := { u.pow with stby := false } }) ∧
  (s.pow.driving = true → s.pow.running = false → s.pow.supplyLow = false → s.pow.stby = true →
    u = (if s.pow.samples.isEmpty then s else s.strapLatch s.pow.samples) →
    exec .hrstDriveEnd s = .next { u with pow := { u.pow with driving := u.flag F.GLB_STATUS_THERMTRIP, samples := [] } }) ∧
  (s.pow.pendingReset = some 0 → u = { s with pow := { s.pow with pendingReset := none } } →
    exec (.resetAfterReply 0) s = .next (((u.disarmFor 2).trigger 6).resetMain true)) ∧
  (s.pow.pendingReset = some 1 → u = { s with pow := { s.pow with pendingReset := none } } →
    exec (.resetAfterReply 1) s = .next ((u.coresDown.discardAll 3).trigger 9)) ∧
  (∀ (die : Fin 5) (raw : Int) (a : State), a = ((((s.trigger 7).gaspPut 0x8113 5 [die.val, (raw % 65536).toNat]).putB F.GLB_STATUS_THERMTRIP true).putB
      F.ACW_THERM_STATUS_TRIP true) →
    u = State.raise { a with acl := { a.acl with thermtripN := false }, pow := { a.pow with driving := true } } 0x02 0x8113 5 scDev [die.val, (raw % 65536).toNat] →
    exec (.thermtrip die raw) s = .next ((List.range 62).foldl (fun s d => s.pdAsk d false) u)) ∧
  (∀ b : Bool, ∃ t, exec (.subsoilSupplyChange b) s = .next t ∧ t.get F.GLB_RESET_CAUSE_SOURCE = b2n b ∧
    (∀ a, a ≠ F.GLB_RESET_CAUSE_SOURCE.addr → t.reg a = s.reg a) ∧ ({ t with regs := s.regs } : State) = s) ∧
  (∀ mv : Nat, s.get F.GLB_RESET_CAUSE_SOURCE = 0 → u = s.putB F.GLB_RESET_CAUSE_VBAK_LOW (decide (mv < 2200)) →
    exec (.vbakLow mv) s = .next (if mv < 2200 then u.raiseQuiet 3600000000000 0 0x00 0x8030 2 scDev [mv, 0] else u))

/-- RESET_RELEASE starts main logic (PD62 and PD63 are on, the fuses are loaded, UID, rollback value and debug lock show in their registers); PD_ON,
PD_OFF, PD_FAULT; BLOCK_RESET_DONE; REFCLK_LOST, REFCLK_RESTORED, CORE_PLL_SWITCH; STATION_WAKE, STATION_CLOCK_STOP; SUBSOIL_BASE_UPDATE.
The input that the core PLL changes to from a lost one is the model's reading (log entry 12). From parts of R14, R403, R409 to R412, R415, R417 to R419. -/
def Obligations.DomainsAndClocks : Prop := ∀ (s u : State) (d : Pd) (q : Quad) (st : Stn),
  (s.pow.running = false → s.pow.supplyLow = false → s.pow.stby = true → (s.pow.driving = false ∨ s.flag F.GLB_STATUS_THERMTRIP = true) → ∃ t, exec .resetRelease s = .next t ∧
    t.pow.running = true ∧ t.pow.releasedAt = s.clk.now ∧ t.acl.romWaits = bit (s.get F.GLB_STRAP_CODE) 0 ∧ t.pdState 63 = 2 ∧
    t.flag F.GLB_FUSE_STATUS_LOADED = true ∧ t.get F.FAB_UID_LO_UID_LO + t.get F.FAB_UID_HI_UID_HI * 2 ^ 32 = s.acl.uid.toNat ∧
    t.flag F.ACW_SEC_STATUS_DEBUG_LOCKED = s.acl.debugLocked ∧ t.pending = s.pending ∧ t.clk.now = s.clk.now ∧ t.clk.fab = s.clk.fab) ∧
  (d.val < 62 → s.pow.running = true → s.flag F.GLB_STATUS_THERMTRIP = false → s.flag (F.GLB_PD_STATE_REQ d) = true → s.pdState d ≠ 2 → s.pdState d ≠ 3 →
    s.pdReady d = true → u = ((s.put (F.GLB_PD_STATE_STATE d) 2).putB (F.GLB_PD_STATE_ISO d) false).pdInit d →
    exec (.pdOn d) s = .next (u.raiseEnd (fun a => a.opcode == 0x0D01 && a.obj == d.val && a.mode == 1) 0x00 0x8010 0 scDev
      [d.val, u.clk.now - SMap.get (fun _ => 0) u.pow.reqAt d])) ∧
  (d.val < 62 → s.flag (F.GLB_PD_STATE_REQ d) = false → s.pdState d ≠ 0 → s.pdState d ≠ 3 →
    u = ((s.pdGone d).put (F.GLB_PD_STATE_STATE d) 0).putB (F.GLB_PD_STATE_ISO d) true →
    exec (.pdOff d) s = .next (u.raiseEnd (fun a => a.opcode == 0x0D01 && a.obj == d.val && a.mode == 0) 0x00 0x8011 0 scDev
      [d.val, if s.flag F.GLB_STATUS_THERMTRIP then 4 else if s.pow.offBySet.contains d.val then 1 else 2])) ∧
  (∀ (hot : Bool) (w : State), d.val < 62 → s.flag (F.GLB_PD_STATE_REQ d) = true → s.pdState d ≠ 2 → s.pdState d ≠ 3 →
    u = (((s.put (F.GLB_PD_STATE_STATE d) 3).putB (F.GLB_PD_STATE_ISO d) true).bump (F.GLB_PD_STATE_FAULTS d)).putB (F.GLB_PD_STATE_REQ d) false →
    w = (if d.val < 48 then u.leaveHeld (d.val % 16) else u) →
    exec (.pdFault d hot) s = .next ((w.raise 0x00 0x8012 4 scDev [d.val, if hot then 2 else 1]).endAsync
      (fun a => a.opcode == 0x0D01 && a.obj == d.val) .hwFault (some w.evs.next))) ∧
  (∀ c k : Nat, s.pow.block = some (c, k) → u = { s with pow := { s.pow with block := none } } →
    exec .blockResetDone s = .next (if c < 0x10 then u.kickStn k else u)) ∧
  (∀ a b : State, bit (s.get F.GLB_CLK_STATUS_REFCLK_OK) q = true →
    a = (s.put F.GLB_CLK_STATUS_REFCLK_OK (setBit (s.get F.GLB_CLK_STATUS_REFCLK_OK) q false)).bump F.GLB_XING_CNT_REFCLK_LOSSES →
    b = { a with pow := { a.pow with lostAt := SMap.set (fun _ => 0) a.pow.lostAt q (a.clk.now + 1) } } →
    exec (.refclkLost q) s = .next ((quadBanks q).foldl (fun s st => s.pllLost st) (b.raise 0x00 0x8020 3 scDev [q.val, dieMask q,
      if b.flag F.GLB_STATUS_CORE_REF_INT = false ∧ b.get F.GLB_CLK_STATUS_CORE_REF = q.val then 1 else 0]))) ∧
  (∀ (was : Nat) (a : State), bit (s.get F.GLB_CLK_STATUS_REFCLK_OK) q = false → was = SMap.get (fun _ => 0) s.pow.lostAt q →
    a = { s.put F.GLB_CLK_STATUS_REFCLK_OK (setBit (s.get F.GLB_CLK_STATUS_REFCLK_OK) q true) with
      pow := { s.pow with lostAt := SMap.set (fun _ => 0) s.pow.lostAt q 0 } } →
    u = (if was = 0 then a else a.raise 0x00 0x8021 1 scDev [q.val, s.clk.now + 1 - was, dieMask q]) →
    exec (.refclkRestored q) s = .next ((quadBanks q).foldl (fun s st =>
      if s.started st && !s.pllLocked st then (s.beginSeries st).kickStn st else s) u)) ∧
  (s.pow.running = true → bit (s.get F.GLB_CLK_STATUS_REFCLK_OK) q = true →
    (s.flag F.GLB_STATUS_CORE_REF_INT = true ∨
      bit (s.get F.GLB_CLK_STATUS_REFCLK_OK) (s.get F.GLB_CLK_STATUS_CORE_REF) = false ∧ s.nextRef = some q.val) →
    exec (.corePllSwitch (some q)) s =
      .next (((s.put F.GLB_CLK_STATUS_CORE_REF q).putB F.GLB_CLK_STATUS_CORE_LOCK true).putB F.GLB_STATUS_CORE_REF_INT false)) ∧
  (s.pow.running = true → s.get F.GLB_CLK_STATUS_REFCLK_OK = 0 → exec (.corePllSwitch none) s = .next (s.putB F.GLB_STATUS_CORE_REF_INT true)) ∧
  (bit (s.get F.GLB_CLK_STATUS_STN_CLK_RUN) st = false → s.pdIsOn st = true → exec (.stationWake st) s =
    .next ((s.bumpWrap F.GLB_XING_CNT_WAKES 1).put F.GLB_CLK_STATUS_STN_CLK_RUN (setBit (s.get F.GLB_CLK_STATUS_STN_CLK_RUN) st true))) ∧
  ((∀ p ∈ s.stnPorts st, s.stage p = stOFF ∨ 3 ≤ s.get (F.STN_PORT_STATUS_PM st (kOf p))) → (∀ x ∈ (s.bank st).qs, x.2.recs = []) →
    (∀ x ∈ (s.bstn st).queues, x.2 = []) → exec (.stationClockStop st) s =
    .next (s.put F.GLB_CLK_STATUS_STN_CLK_RUN (setBit (s.get F.GLB_CLK_STATUS_STN_CLK_RUN) st false))) ∧
  (s.pow.running = true → exec .subsoilBaseUpdate s =
    .next (State.putB { s with pow := { s.pow with baseNs := s.clk.fab, baseTicks := s.ssTicks } } F.GLB_RESET_CAUSE_TIME_VALID true))

/-! ### Seam links (chapter 9) -/

/-- The flits a live Seam link receives: DATA, IDLE and BYPASS flits that pass (corrections are counted, then the header, then Table 9.6), those that
fail, which are lost DATA flits (counted, NAK), SEAM_TRAIN_FLIT in ACTIVE; its replay: REPLAY_TIMER_EXPIRY, REPLAY_END, BYPASS_RESEND; and what the
transmitter sends: SEAM_RECORD_START of a record that its read loses, that is whole, or whose end is still to come, SEAM_RECORD_ABANDONED. A BYPASS
flit's messages are taken in order, each once. That the flits of a replay leave at its end is the model's choice (log entry 39). From parts of R210,
R240 to R258, R264, R265, R270, R283. -/
def Obligations.SeamFlits : Prop := ∀ (s u : State) (st : Stn) (h : FlitHdr), s.seamLive st = true →
  (∀ (starts : List RecStart) (ends : List RecEnd) (d : Nat), (flitRead h.flips).ok = true → u = (s.takeFixes st (flitRead h.flips).fixed).takeHdr st h →
    d = (h.seq + 4096 - u.get (F.STN_SEAM_RXSEQ_EXPECTED st)) % 4096 →
    exec (.seamDataFlit st h starts ends) s = .next (if d = 0 then u.acceptFlit st starts ends
      else if 1536 ≤ d ∧ d < 2560 then u.seqErr st 1 h.seq
      else if u.flag (F.STN_SEAM_RXSEQ_NAK_SENT st) then u
      else if 2560 ≤ d then u.bump (F.STN_SEAM_CNT_SEQ_DUP st)
      else u.sendNak st)) ∧
  (∀ d : Nat, (flitRead h.flips).ok = true → u = (s.takeFixes st (flitRead h.flips).fixed).takeHdr st h →
    d = (h.seq + 4096 - u.get (F.STN_SEAM_RXSEQ_EXPECTED st)) % 4096 →
    exec (.seamIdleFlit st h) s = .next (if 1 ≤ d ∧ d < 1536 then u.sendNak st else u)) ∧
  (∀ msgs : List (Fin 256 × BMsg), (flitRead h.flips).ok = true → u = ((s.takeFixes st (flitRead h.flips).fixed).takeHdr st h).lostTail st h.seq →
    exec (.seamBypassFlit st h msgs) s = .next ((msgs.take 14).foldl (fun s m =>
      if s.seamLive st = true ∧ s.get (F.STN_SEAM_RXSEQ_BEXP st) = m.1.val then
        (s.put (F.STN_SEAM_RXSEQ_BEXP st) ((m.1.val + 1) % 256)).takeMsg st m.2 else s) u)) ∧
  (∀ (starts : List RecStart) (ends : List RecEnd) (msgs : List (Fin 256 × BMsg)) (v : State), (flitRead h.flips).ok = false →
    u = s.takeFixes st (flitRead h.flips).fixed → v = ((u.bump (F.STN_SEAM_CNT_RX_BAD_FLITS st)).count st 0x0D 16 0 0 1).sendNak st →
    exec (.seamDataFlit st h starts ends) s = .next v ∧ exec (.seamIdleFlit st h) s = .next v ∧ exec (.seamBypassFlit st h msgs) s = .next v) ∧
  exec (.seamBadFlit st) s = .next (((s.bump (F.STN_SEAM_CNT_RX_BAD_FLITS st)).count st 0x0D 16 0 0 1).sendNak st) ∧
  (∀ b : TrainBlk, exec (.seamTrainFlit st b) s = .next (s.seamDown st slPartner)) ∧
  ((s.seam st).store ≠ [] → (s.seam st).replayFrom = none →
    u = s.put (F.STN_SEAM_TXSEQ_REPLAY_CNT st) (s.get (F.STN_SEAM_TXSEQ_REPLAY_CNT st) + (if (s.seam st).subTx.isSome then 0 else 1)) →
    exec (.replayTimerExpiry st) s = .next (
      if 4 ≤ s.get (F.STN_SEAM_TXSEQ_REPLAY_CNT st) + (if (s.seam st).subTx.isSome then 0 else 1) then u.seamDown st slReplay
      else u.replay st (u.ackNext st) 1)) ∧
  ((s.seam st).store ≠ [] → (s.seam st).replayFrom ≠ none →
    exec (.replayTimerExpiry st) s = .next (s.modSeam st fun x => { x with expiryWaits := true, ackedSince := false })) ∧
  (∀ (k : Nat) (v : State), (s.seam st).replayFrom = some k →
    v = ((s.seam st).store.filter fun f => decide ((f.seq + 4096 - k) % 4096 < 2048)).foldl (fun s f => s.flitOut st f) s →
    u = (v.modSeam st fun y => { y with replayFrom := none, expiryWaits := false }).putB (F.STN_SEAM_STATUS_REPLAYING st) false →
    exec (.replayEnd st true) s = .next (if (s.seam st).expiryWaits = true ∧ (s.seam st).ackedSince = false ∧ (s.seam st).store ≠ [] then u.timerExpiry st
      else u) ∧
    exec (.replayEnd st false) s = .next (s.seamDown st slStore)) ∧
  (∀ ms : List SentMsg, ms = (s.seam st).msgs → ms ≠ [] → (∀ m ∈ ms, m.sends < 8) →
    u = (s.bumpN (F.STN_SEAM_CNT_MISC_BYP_RETX st) ms.length).modSeam st (fun x => { x with msgs := x.msgs.map fun m => { m with sends := m.sends + 1 } }) →
    exec (.bypassResend st) s = .next (ms.foldl (fun s m => s.emit (.seam st (bmsgFields m.msg).1 (m.bseq :: (bmsgFields m.msg).2))) u)) ∧
  ((∃ m ∈ (s.seam st).msgs, 8 ≤ m.sends) → exec (.bypassResend st) s = .next (s.seamDown st slBypass)) ∧
  (∀ (c : Fin 4) (phys : ReadPhys) (cuts : List (Fin 57)) (n : Nat) (r0 r k : Rec) (b : Bytes) (parts : List Bytes) (x : State × HeadRead) (mark : Bool),
    s.seamTurn st = some c.val → s.seamHead st c = some r0 → r = r0.onSeam → b = recStream (s.carriage st c r) r.tlp →
    parts = startParts r.committed cuts b → parts.flatten.length < b.length → (s.seam st).store.length + parts.length + seamFlits r.rlen ≤ 1536 →
    x = s.readHead st (58 + c.val) phys → n = seamUnits r.rlen → k = x.1.headOf st (58 + c.val) r0 →
    mark = (!(phys.sound && tagFits k.onSeam.btag k.onSeam.tlp)) →
    u = (x.1.takeUnits st c n).bumpN (F.STN_SEAM_SHORT_SHORT_FLITS st) (parts.filter fun y => decide (y.length < 228)).length →
    (x.2.early = true → exec (.seamRecordStart st c phys cuts) s = .next ((x.1.integrityDiscard r0 st (58 + c.val) 2).retrySeals st)) ∧
    (x.2.early = false → x.2.lost = true →
      exec (.seamRecordStart st c phys cuts) s = .next ((u.seamSend st c (r.cutTo x.2.good) n b.length cuts true).retrySeals st)) ∧
    (x.2.early = false → x.2.lost = false → r.committed = true →
      exec (.seamRecordStart st c phys cuts) s = .next ((u.seamLeave st c k.onSeam n b.length cuts mark).retrySeals st)) ∧
    (∀ w : State, x.2.early = false → x.2.lost = false → r.committed = false →
      w = u.modBank st (fun b => b.setQ (58 + c.val) { b.q (58 + c.val) with recs := (b.q (58 + c.val)).recs.set 0 { k with marked := mark } }) →
      exec (.seamRecordStart st c phys cuts) s = .next ((w.pushFlits st c n none false parts).modSeam st fun x =>
        { x with txOpen := some { cls := c.val, left := b.length - parts.flatten.length } }))) ∧
  (∀ t : TxOpen, (s.seam st).txOpen = some t → ((((s.bank st).q (58 + t.cls)).recs.head?).map Rec.committed).getD false = false →
    u = (((s.modSeam st fun x => { x with txOpen := none }).pushFlits st t.cls 0 none true (chunks 12 (List.replicate t.left 0))).bump
      (F.STN_SEAM_CNT_MARK_MARKED_TX st)) →
    exec (.seamRecordAbandoned st) s = .next (u.raiseLim ms100 st (srcStn st) 0x5040 1 (scPort (9 * st.val)) 0 [1, t.cls]))

/-- The timers of a live Seam link and its lane substitution: CREDIT_AUDIT_TIMER, ONOFF_RESYNC_TIMER, RESYNC_ACK_TIMEOUT, SEAM_LANE_FAULT (a fit spare
takes the lane's place; a second lane, the spare itself or an unfit one is a failure), SEAM_SPARE_SUBST, SEAM_SPARE_FAILED, SEAM_LANE_LOCK_LOST, DEAD_TIMEOUT, RTT_PROBE_TIMER, TIME_EXCHANGE_TIMER,
TIME_EXCHANGE_LOSS. From parts of R260, R262, R263, R266 to R268, R271 to R273. -/
def Obligations.SeamTimers : Prop := ∀ (s u : State) (st : Stn), s.seamLive st = true →
  ((s.seam st).pOnoff = false → exec (.creditAuditTimer st) s =
    .next (s.bypSend st (.creditAudit (Fin.ofNat 4096 (s.get (F.STN_SEAM_TXSEQ_NEXT_SEQ st) + 4095)) ([0, 1, 2, 3].map (s.seamCons st))))) ∧
  (s.get (F.STN_SEAM_STATUS_FC st) = 2 → s.flag (F.STN_SEAM_STATUS_FC_HELD st) = false → s.flag (F.STN_SEAM_CFG_FC_MODE st) = false →
    exec (.onoffResyncTimer st) s = .next ((s.put (F.STN_SEAM_STATUS_FC st) 3).bypSend st
      (.resync (Fin.ofNat 4096 (s.get (F.STN_SEAM_RXSEQ_EXPECTED st) + 4095)) (s.rxList st)
        ([0, 1, 2, 3].map fun c => SMap.get (fun _ => 0) (s.seam st).rxFreed c)))) ∧
  (s.get (F.STN_SEAM_STATUS_FC st) = 3 → exec (.resyncAckTimeout st) s =
    .next ((s.put (F.STN_SEAM_STATUS_FC st) 2).modSeam st fun x => { x with trigAt := s.clk.now })) ∧
  (∀ (lane : Lane) (lock : Bool) (cur : Option Nat) (v : State),
    cur = (match (s.seam st).subRx with
      | some (f, _) => some f
      | none => if s.flag (F.STN_SEAM_STATUS_RX_SUB st) then some (s.get (F.STN_SEAM_STATUS_RX_SUB_LANE st)) else none) →
    cur ≠ some lane.val → (lane.val = 16 → cur ≠ none) → (lock = true ∨ s.manyFixes st (if lane.val = 16 then cur.getD 16 else lane.val) = true) →
    u = s.raise (srcStn st) 0x5020 2 (scPort (9 * st.val)) [0, lane.val, b2n (!lock)] →
    v = (u.prbsStop st 16 true).put (F.STN_LN_STATUS_SPARE_ROLE st 16) 2 →
    exec (.seamLaneFault st lane lock) s = .next (if lane.val = 16 then u.spareFailed st 0 16 3 else if cur ≠ none then u.spareFailed st 0 lane.val 2
      else if u.get (F.STN_LN_STATUS_SPARE_ROLE st 16) ≠ 1 then u.spareFailed st 0 lane.val 4
      else (v.modSeam st fun x => { x with subRx := some (lane.val, v.clk.now) }).bypSend st (.spareReq (Fin.ofNat 16 lane.val)))) ∧
  (∀ f t : Nat, (s.seam st).subRx = some (f, t) →
    u = (((s.putB (F.STN_SEAM_STATUS_RX_SUB st) true).put (F.STN_SEAM_STATUS_RX_SUB_LANE st) f).bump (F.STN_SEAM_CNT_MISC_SUBST st)).modSeam st
      (fun x => { x with subRx := none }) →
    exec (.seamSpareSubst st) s = .next ((u.bypSend st (.spareDone (Fin.ofNat 16 f))).raise (srcStn st) 0x5021 1 (scPort (9 * st.val)) [0, f, u.clk.now - t]) ∧
    exec (.seamSpareFailed st) s = .next ((s.raise (srcStn st) 0x5022 3 (scPort (9 * st.val)) [0, f, 1]).seamDown st slLane)) ∧
  exec (.seamLaneLockLost st) s = .next (s.seamDown st slLock) ∧
  ((s.seam st).subRx = none → exec (.deadTimeout st) s = .next (s.seamDown st slDead)) ∧
  exec (.rttProbeTimer st) s = .next (s.bypSend st (.rttProbe s.stamp)) ∧
  (∀ t1 : Nat, s.get F.FAB_TIME_STAT_PARENT = st.val → s.timePaused st = false →
    exec (.timeExchangeTimer t1) s = .next (s.bypSend st (.timeReq t1))) ∧
  (s.get F.FAB_TIME_STAT_SYNC = 2 → u = { s with fab := { s.fab with small := 0, large := 0 } } →
    exec .timeExchangeLoss s = .next ((u.put F.FAB_TIME_STAT_SYNC 1).raise 0x06 0x5121 2 u.fabScope [2, u.get F.FAB_TIME_STAT_OFFSET]))

/-- What each bypass message does on a live Seam link once it has been accepted: SPARE_REQ of the first lane, of the same again and of a second one,
SPARE_DONE, SPARE_ABORT, CREDIT_AUDIT of the last flit accepted, of a later and of an earlier one, RESYNC_ACK, RESYNC, RTT_PROBE, RTT_ECHO,
LINK_DOWN_NOTICE, TIME_REQ, TIME_RESP. From parts of R59, R262, R263, R266 to R268, R271, R272, R299, R300. -/
def Obligations.SeamMessages : Prop := ∀ (s u : State) (st : Stn), s.seamLive st = true →
  (∀ lane : Fin 16, s.flag (F.STN_SEAM_STATUS_TX_SUB st) = false →
    u = ((s.putB (F.STN_SEAM_STATUS_TX_SUB st) true).put (F.STN_SEAM_STATUS_TX_SUB_LANE st) lane).bump (F.STN_SEAM_CNT_MISC_SUBST st) →
    exec (.spareReq st lane) s = .next ((u.prbsStop st 16 true).modSeam st fun x => { x with subTx := some lane.val })) ∧
  (∀ lane : Fin 16, s.flag (F.STN_SEAM_STATUS_TX_SUB st) = true →
    exec (.spareReq st lane) s = .next (if s.get (F.STN_SEAM_STATUS_TX_SUB_LANE st) = lane.val then s else s.spareFailed st 1 lane 2)) ∧
  (∀ lane : Fin 16, (s.seam st).subTx = some lane.val → u = s.modSeam st (fun x => { x with subTx := none }) →
    exec (.spareDone st lane) s = .next u ∧
    ∀ n, exec (.spareAbort st lane n) s = .next (if (u.putB (F.STN_SEAM_STATUS_TX_SUB st) false).subst st 0 then u.putB (F.STN_SEAM_STATUS_TX_SUB st) false
      else (u.putB (F.STN_SEAM_STATUS_TX_SUB st) false).spareStart st (if (s.seam st).rate128 then 6 else 5))) ∧
  (∀ (q : Fin 4096) (cons : List Nat) (d : Nat), d = (q.val + 4096 - (s.get (F.STN_SEAM_RXSEQ_EXPECTED st) + 4095) % 4096) % 4096 →
    (d = 0 → exec (.creditAudit st q cons) s = .next (s.auditCheck st cons (s.rxList st))) ∧
    (1 ≤ d → d < 1536 → exec (.creditAudit st q cons) s = .next (s.modSeam st fun x => { x with audit := some (q.val, cons) })) ∧
    (1536 ≤ d → exec (.creditAudit st q cons) s = .next (match (s.seam st).rxHist.find? fun x => x.1 == q.val with
      | some x => s.auditCheck st cons x.2
      | none => s))) ∧
  (∀ r : Fin 4096, s.get (F.STN_SEAM_STATUS_FC st) = 3 → exec (.resyncAck st r) s = .next (s.fcRestore st)) ∧
  (∀ (r : Fin 4096) (rx freed at_ : List Nat), at_ = (((s.seam st).store.find? fun f => f.seq == r.val).map SentFlit.cons).getD (s.seam st).relCons →
    u = s.modSeam st (fun y => { y with
      cons := [0, 1, 2, 3].foldl (fun m c => SMap.set (fun _ => 0) m c ((rx.getD c 0 + s.seamCons st c + 65536 - at_.getD c 0) % 65536)) y.cons,
      freed := [0, 1, 2, 3].foldl (fun m c => SMap.set (fun _ => 0) m c (freed.getD c 0 % 65536)) y.freed }) →
    exec (.resync st r rx freed) s = .next (u.bypSend st (.resyncAck r))) ∧
  (∀ stamp hold : Nat, exec (.rttProbe st stamp hold) s = .next (s.bypSend st (.rttEcho stamp hold))) ∧
  (∀ stamp hold rtt tr : Nat, rtt = (s.stamp + 2 ^ 32 - stamp % 2 ^ 32) % 2 ^ 32 - hold → u = s.put (F.STN_SEAM_RTT_RTT_LAST st) (min 2047 rtt) →
    tr = u.get (F.STN_SEAM_RTT_RTT_TRAIN st) → exec (.rttEcho st stamp hold) s = .next (if 12 * tr < 10 * rtt then
      u.raiseQuiet 1000000000 st (srcStn st) 0x5041 2 (scPort (9 * st.val)) [tr, min 2047 rtt] else u)) ∧
  (∀ c : Fin 16, exec (.linkDownNotice st c) s = .next (s.seamDown st slPartner)) ∧
  (∀ t1 t2 t3 : Nat, exec (.timeReq st t1 t2 t3) s = .next (s.bypSend st (.timeResp t1 t2 t3 0))) ∧
  (∀ (t1 t2 t3 t4 sync small large : Nat) (off : Int) (a b : State), s.get F.FAB_TIME_STAT_PARENT = st.val → s.get F.FAB_TIME_STAT_SYNC ≠ 3 →
    off = (((t2 : Int) - t1) - ((t4 : Int) - t3)) / 2 → sync = (if s.get F.FAB_TIME_STAT_SYNC = 0 then 1 else s.get F.FAB_TIME_STAT_SYNC) →
    a = (s.put F.FAB_TIME_STAT_SYNC sync).put F.FAB_TIME_STAT_OFFSET (off % 65536).toNat →
    b = (if sync = 1 ∧ 4000 < off then { a with clk := { a.clk with fab := a.clk.fab + BitVec.ofNat 64 (off / 4).toNat }, fab := { a.fab with slew := 0 } }
      else { a with fab := { a.fab with slew := off } }) →
    small = (if off.natAbs ≤ 20 then s.fab.small + 1 else 0) → large = (if 40 < off.natAbs then s.fab.large + 1 else 0) →
    u = { b with fab := { b.fab with small := small, large := large } } →
    exec (.timeResp st t1 t2 t3 t4) s = .next (if sync = 1 ∧ 8 ≤ small then
        (u.put F.FAB_TIME_STAT_SYNC 2).raise 0x06 0x5120 0 (u.put F.FAB_TIME_STAT_SYNC 2).fabScope [st.val, (off % 65536).toNat]
      else if sync = 2 ∧ 3 ≤ large then u.timeUnlock 1 else u))

/-! ### Panels and movers (chapter 11) -/

/-- The doorbells of a bound panel whose Shuttle function responds: SHT_DB_SQ_TAIL and SHT_DB_CQ_HEAD within their rings and outside them, RESUME and
RESUME with SKIP of a halted panel, TENANT_MSG with a flipped TOGGLE, whose word replaces one that has not been logged yet, and without one; and a write
to a panel bound elsewhere, counted in SHT_STRAY. From parts of R304, R305, R309, R320. -/
def Obligations.Doorbells : Prop := ∀ (s u : State) (v : VsId) (n : Panel) (val : B16), (s.vs v).f1.responds = true → s.panelVs n = some v.val →
  (val.toNat < s.sqSize n → exec (.shtDbSqTail v n val) s = .next (s.modPnl n fun x => { x with sqTail := val.toNat })) ∧
  (s.sqSize n ≤ val.toNat → exec (.shtDbSqTail v n val) s = .next (s.badPointer n psBadTail)) ∧
  (∀ step avail : Nat, step = (val.toNat + s.cqSize n - (s.pnl n).cqHead) % s.cqSize n →
    avail = ((s.pnl n).cqTail + s.cqSize n - (s.pnl n).cqHead) % s.cqSize n →
    (val.toNat < s.cqSize n → 1 ≤ step → step ≤ avail →
      exec (.shtDbCqHead v n val) s = .next ((s.modPnl n fun x => { x with cqHead := val.toNat }).goOn n)) ∧
    ((s.cqSize n ≤ val.toNat ∨ step = 0 ∨ avail < step) → exec (.shtDbCqHead v n val) s = .next (s.badPointer n psBadHead))) ∧
  (s.pState n = pHalted → exec (.doorbellResume v n) s = .next (s.retryPanel n)) ∧
  (∀ k : Nat, s.pState n = pHalted → k = s.get (F.SHT_PNL_STATE_LAST_STATUS n) →
    exec (.doorbellResumeSkip v n) s = .next (if k < psBadTail then ((s.endDesc n k).setP n pRunning).goOn n else s.retryPanel n)) ∧
  (∀ (word : B32) (mine : Ev → Bool) (d : List Nat), word.getLsbD 31 = !(s.pnl n).tmsg.getLsbD 31 → u = s.modPnl n (fun x => { x with tmsg := word }) →
    mine = (fun e => e.code == 0x6005 && e.scope == scPanel n) → d = [n.val, v.val, word.toNat] →
    ((∀ e ∈ (u.ram 0x07).held, mine e = false) → exec (.tenantMsg v n word) s = .next ((u.raise 0x07 0x6005 1 (scPanel n) d).fire v false
      ((u.raise 0x07 0x6005 1 (scPanel n) d).get F.SHT_CTL_MSG_VECTOR))) ∧
    (∀ r : EvRam, (∃ e ∈ (u.ram 0x07).held, mine e = true) →
      r = { u.ram 0x07 with held := (u.ram 0x07).held.map (fun e => if mine e then { e with detail := d } else e) } →
      exec (.tenantMsg v n word) s = .next (State.fire { u with evs := { u.evs with ram := SMap.set (fun _ => {}) u.evs.ram 0x07 r } } v false
        (u.get F.SHT_CTL_MSG_VECTOR)))) ∧
  (∀ word : B32, word.getLsbD 31 = (s.pnl n).tmsg.getLsbD 31 → exec (.tenantMsg v n word) s = .next s) ∧
  (∀ w : VsId, w ≠ v → exec (.doorbellStrayWrite w n) s = .next (s.bump F.SHT_STRAY_STRAY))

/-- The movers: MOVER_TAKE of the next ready panel, MOVER_RELEASE, DESCRIPTOR_FETCH with and without a context error, SHUTTLE_READ_ISSUE (at a chunk
boundary a descriptor whose grant has changed ends, and one that is to freeze or has used its quantum waits), SHUTTLE_READ_COMPLETION with data and
without, SHT_CPL_TIMEOUT, FLUSH_READ_COMPLETE, INT_HOLDOFF_EXPIRY. From parts of R307, R310 to R313, R316 to R318, R326, R328. -/
def Obligations.MoverEvents : Prop := ∀ (s u : State) (m : Mover) (n : Nat),
  (∀ (a b : State), (s.mover m).panel = none → (match s.readyPanels.find? fun n => decide (s.sht.last < n) with
      | some n => some n
      | none => s.readyPanels.head?) = some n →
    a = s.modMover m (fun x => { x with panel := some n, left := (s.get (F.SHT_PNL_RING_WEIGHT_M1 n) + 1) * 65536 }) →
    b = State.modThm { a with sht := { a.sht with last := n } } (256 + m.val) (fun x =>
      { x with regions := [[BitVec.ofNat 32 (768 * n), BitVec.ofNat 32 (768 * n + 767), 3, 0]] }) →
    u = (b.putB (F.SHT_MV_STAT_BUSY m) true).put (F.SHT_MV_STAT_PANEL m) n →
    exec (.moverTake m) s = .next ((u.put F.SHT_BUSY_BUSY (setBit (u.get F.SHT_BUSY_BUSY) m true)).goOn n)) ∧
  ((s.mover m).panel = some n → s.liveReads n = [] → (s.pnl n).rd = (s.pnl n).wr →
    (∀ d, (s.pnl n).cur = some d → atChunk d (s.pnl n).wr = true ∨ (s.pnl n).wr = 0 ∨ (s.pnl n).wr = (s.pnl n).done) →
    ((s.mover m).left = 0 ∨ s.pState n ≠ pRunning ∨ (s.pnl n).cur = none ∧ ((s.pnl n).fetched = [] ∨ s.cqFull n = true)) →
    exec (.moverRelease m) s = .next (s.letGo m)) ∧
  (∀ (p : Panel) (fixed : Nat) (upset : Option (Bool × Nat)) (data : Option Bytes) (held idx : Nat),
    u = (match upset with
      | some x => (s.bumpN F.SHT_CTX_ECC_CORR fixed).panelInternal p x.1 x.2
      | none => s.bumpN F.SHT_CTX_ECC_CORR fixed) →
    held = (u.pnl p).fetched.length + (if (u.pnl p).cur.isSome then 1 else 0) → idx = (u.sqHead p + held) % u.sqSize p →
    ((u.pState p ≠ pRunning ∨ u.shtMaster (u.pVs p) = false ∨ 4 ≤ (u.pnl p).fetched.length ∨
      ((u.pnl p).sqTail + u.sqSize p - u.sqHead p) % u.sqSize p ≤ held) → exec (.descriptorFetch p fixed upset data) s = .next u) ∧
    (u.pState p = pRunning → u.shtMaster (u.pVs p) = true → (u.pnl p).fetched.length < 4 →
      held < ((u.pnl p).sqTail + u.sqSize p - u.sqHead p) % u.sqSize p →
      exec (.descriptorFetch p fixed upset data) s = .next (
        let w := (u.emit (.hostRead (u.pVs p) (u.pPasid p + 1) (BitVec.ofNat 64 (u.sqBase p + 64 * idx)) 64)).count 20 0x32 16 0 0 1
        match data with
        | none => w.haltPanel p psRing
        | some d => (w.modPnl p fun x => { x with fetched := x.fetched ++ [slice d 0 64] }).goOn p))) ∧
  (∀ (d : Bytes) (hit : Option OldGrant), (s.mover m).panel = some n → (s.pnl n).cur = some d → s.shtMaster (s.pVs n) = true → (s.pnl n).ending = none →
    (s.pnl n).rd < dMoves d → (s.pState n = pRunning ∨ s.pState n = pQuiescing ∨ s.pState n = pFreezing) →
    hit = (if atChunk d (s.pnl n).rd = true ∨ (s.pnl n).rd = (s.pnl n).done ∧ (s.pnl n).rd = 0 then grantHit d (s.pnl n).revoked else none) →
    exec (.shuttleReadIssue m) s = .next (match hit with
      | some g => s.revokeAt n g
      | none => if atChunk d (s.pnl n).rd = true ∧ (s.pState n = pFreezing ∨ (s.mover m).left = 0) then s else s.issueNext m n d)) ∧
  (∀ (tag : Nat) (r : ShRead) (bs : Bytes), ((s.mover m).reads.find? fun r => r.tag == tag && r.data.isNone) = some r → r.dead = false →
    u = s.modMover m (fun y => { y with reads := y.reads.map fun q => if q.tag = tag then { q with data := some bs } else q }) →
    exec (.shuttleReadCompletion m tag (some bs)) s = .next (((u.drainReads 64 m r.panel).showReads m).goOn r.panel)) ∧
  (∀ (tag : Nat) (r : ShRead) (bs : Bytes), ((s.mover m).reads.find? fun r => r.tag == tag && r.data.isNone) = some r → r.dead = true →
    exec (.shuttleReadCompletion m tag (some bs)) s =
      .next ((s.modMover m fun y => { y with reads := y.reads.filter fun q => q.tag != tag }).showReads m)) ∧
  (∀ (tag : Nat) (r : ShRead), ((s.mover m).reads.find? fun r => r.tag == tag && r.data.isNone) = some r →
    exec (.shuttleReadCompletion m tag none) s = .next (s.readFails m r F.SHT_CPL_ERR_ERRORS) ∧
    exec (.shtCplTimeout m tag) s = .next ((s.raiseLim ms100 r.panel 0x07 0x6006 2 (scPanel r.panel) 0 [r.panel, m.val, r.src]).readFails m r
      F.SHT_CPL_ERR_TIMEOUTS)) ∧
  (∀ p : Panel, (s.pnl p).flushing = true → u = s.modPnl p (fun x => { x with flushing := false }) →
    (u.pState p ≠ pResetting → exec (.flushReadComplete p true) s = .next ((u.modPnl p fun x => { x with done := x.wr }).goOn p) ∧
      exec (.flushReadComplete p false) s = .next ((u.bump F.SHT_CPL_ERR_ERRORS).failDesc p psFlush)) ∧
    (u.pState p = pResetting → ∀ ok, exec (.flushReadComplete p ok) s = .next u)) ∧
  (∀ p : Panel, (s.pnl p).owedMsg = true → exec (.intHoldoffExpiry p) s =
    .next ((s.modPnl p fun x => { x with lastMsg := some s.clk.now, owedMsg := false }).fire (s.pVs p) true (s.get (F.SHT_PNL_RING_VECTOR p))))

/-- ATS_TRANSLATION granted and refused, ATS_INVALIDATE, ATS_INVALIDATE_COMPLETE, PANEL_FROZEN between descriptors and within one, once the flush read it
owes is made, PANEL_STOPPED at the end of a quiesce and of a reset, PANEL_QUIESCE_TIMEOUT. From parts of R314, R322, R325, R326. -/
def Obligations.PanelEvents : Prop := ∀ (s u : State) (n : Panel) (v : VsId),
  (∀ (page phys : B64) (read write w : Bool) (e : AtsEnt), ((s.pnl n).atsWait.find? fun x => x.1 == page.toNat / 4096) = some (page.toNat / 4096, w) →
    (if w then write else read) = true → u = s.modPnl n (fun x => { x with atsWait := x.atsWait.filter fun y => y.1 != page.toNat / 4096 }) →
    e = { v := u.pVs n, pasid := u.pPasid n, page := page.toNat / 4096, read := read, write := write, phys := phys.toNat / 4096 * 4096 } →
    exec (.atsTranslation n page true read write phys) s = .next { u with sht := { u.sht with
                                                                   atc := (u.sht.atc.filter fun y => !(y.v == e.v && y.pasid == e.pasid && y.page == e.page)) ++ [e] } } ∧
    exec (.atsTranslation n page false read write phys) s = .next (u.endSoon n psXlate)) ∧
  (∀ (page : B64) (pasid : Option Nat) (pages itag : Nat) (hit : Nat × Nat × Nat → Bool),
    hit = (fun w => w.1 == v.val && (pasid.isNone || pasid == some w.2.1) && decide (page.toNat / 4096 ≤ w.2.2) && decide (w.2.2 < page.toNat / 4096 + pages)) →
    ∃ t, exec (.atsInvalidate v pasid page pages itag) s = .next t ∧ t.sht.atc = s.sht.atc.filter (fun e => !hit (e.v, e.pasid, e.page)) ∧
      t.sht.inv = s.sht.inv ++ [(v.val, itag, s.sht.movers.flatMap fun x => (x.2.reads.filter fun r => r.pages.any hit).map fun r => (x.1, r.tag))] ∧
      ({ t with sht := s.sht } : State) = s ∧ t.sht.panels = s.sht.panels ∧ t.sht.movers = s.sht.movers) ∧
  (∀ (itag : Nat) (i : Nat × Nat × List (Nat × Nat)), (s.sht.inv.find? fun i => i.1 == v.val && i.2.1 == itag) = some i →
    (∀ x ∈ i.2.2, ∀ r ∈ (s.mover x.1).reads, r.tag ≠ x.2) →
    exec (.atsInvalidateComplete v itag) s = .next (State.emit
      { s with sht := { s.sht with inv := s.sht.inv.filter fun j => !(j.1 == v.val && j.2.1 == itag) } } (.ats v 2 (BitVec.ofNat 64 itag)))) ∧
  (s.pState n = pFreezing → s.shtMaster (s.pVs n) = true → (s.pnl n).flushOwed = true → exec (.panelFrozen n) s = .next (s.payFlush n)) ∧
  (∀ x : PanelSt, x = s.pnl n → s.pState n = pFreezing → s.shtMaster (s.pVs n) = true → x.flushOwed = false → s.anyRead n = false → x.flushing = false →
    x.rd = x.wr → (∀ d, x.cur = some d → (x.ending ≠ none ∨ x.wr = 0 ∨ atChunk d x.wr = true ∨ x.wr = x.done) ∧
      (dDstSlot d = 0 ∨ x.wr ≤ x.done ∨ x.ending ≠ none)) →
    u = ((s.letGoPanel n).setP n pFrozen).modPnl n (fun x => { x with ending := none, fetched := [] }) →
    exec (.panelFrozen n) s = .next (u.raiseEnd (fun a => a.opcode == 0x0805 && a.obj == n.val) 0x07 0x6002 0 (scPanel n)
      [n.val, b2n x.cur.isSome, x.done, u.clk.now - x.since])) ∧
  (s.pState n = pQuiescing → (s.pnl n).cur = none → s.anyRead n = false → (s.pnl n).flushing = false →
    exec (.panelStopped n) s = .next (((s.letGoPanel n).setP n pStopped).raiseEnd (fun a => a.opcode == 0x0804 && a.obj == n.val) 0x07 0x6003 0 (scPanel n)
      [n.val, pcQuiesce])) ∧
  (∀ (x : PanelSt) (w : State), x = s.pnl n → s.pState n = pResetting → s.anyRead n = false → x.flushing = false →
    (x.cause = pcReset → s.shtMaster (s.pVs n) = true) →
    u = ((((s.letGoPanel n).setP n pStopped).put (F.SHT_PNL_STATE_LAST_STATUS n) psAborted).put (F.SHT_PNL_STATE_SQ_HEAD n) 0).modPnl n (fun x =>
      { tmsg := x.tmsg, mmsg := x.mmsg, descDone := x.descDone, bytes := x.bytes, lastMsg := x.lastMsg, owedMsg := x.owedMsg }) →
    w = u.raiseEnd (fun a => a.opcode == 0x0809 && a.obj == n.val) 0x07 0x6003 0 (scPanel n) [n.val, x.cause] →
    exec (.panelStopped n) s = .next (if x.flushOwed then s.payFlush n
      else if (w.vs (w.pVs n)).f1.inReset then w.shtResetDone (w.pVs n) else w)) ∧
  (∀ cred tag : B32, exec (.panelQuiesceTimeout cred tag) s =
    .next (s.endAsync (fun a => a.opcode == 0x0804 && a.cred == cred && a.tag == tag) .timeout none))

/-! ### Slot power (chapter 16) -/

/-- The card and the button: SLOT_PRESENT and SLOT_REMOVED, latched off or not (a return of presence clears a latch), SLOT_SEATED, SLOT_SEAT_LOST,
BUTTON_PRESS, BUTTON_RELEASE (a toggle clears a latch), SLOT_INPUT_FAULT and VIN_WARNING with the gate on and off. A slot whose port is none
(`portOfSlot`) has no port side. From parts of R429, R430, R439, R442, R443. -/
def Obligations.SlotCards : Prop := ∀ (s u w : State) (n : Slot) (m : SlotMeas),
  (s.flag (F.SPC_STATUS_PRESENT n) = false →
    u = (((s.putB (F.SPC_STATUS_PRESENT n) true).modSpc n fun x => { x with presentAt := s.clk.now }).raiseSlot n 0x9001 0 []).hpSync n →
    w = (if u.spState n = spLATCHED ∧ (u.spcSt n).gone = true then u.unlatch n else u) →
    exec (.slotPresent n) s = .next ((w.modSpc n fun x => { x with gone := false }).presenceMoved n)) ∧
  (s.flag (F.SPC_STATUS_PRESENT n) = true →
    u = ((s.putB (F.SPC_STATUS_PRESENT n) false).putB (F.SPC_STATUS_SEATED n) false).raiseSlot n 0x9002 1 [s.spState n] →
    w = (if s.spState n = spLATCHED then u.modSpc n (fun x => { x with gone := true }) else u) →
    exec (.slotRemoved n) s = .next ((w.cardLost n lcGone).presenceMoved n)) ∧
  (s.flag (F.SPC_STATUS_PRESENT n) = true → s.seated n = false → u = s.putB (F.SPC_STATUS_SEATED n) true →
    exec (.slotSeated n) s = .next (((u.raiseSlot n 0x9003 0 [(u.clk.now - (u.spcSt n).presentAt) / msec]).hpSync n).presenceMoved n)) ∧
  (∀ fast : Bool, s.seated n = true → (fast = true → s.gateOn n = true) →
    u = (s.putB (F.SPC_STATUS_SEATED n) false).raiseSlot n 0x9004 2 [s.spState n, b2n fast] →
    exec (.slotSeatLost n fast) s = .next ((u.cardLost n lcSeat).presenceMoved n)) ∧
  (u = (s.putB (F.SPC_STATUS_BTN n) true).modSpc n (fun x => { x with pressed := true }) →
    exec (.buttonPress n) s = .next ((u.slotBit n slAttn).hpSync n)) ∧
  (u = ((s.putB (F.SPC_STATUS_BTN n) false).modSpc n (fun x => { x with pressed := false })).hpSync n →
    exec (.buttonRelease n) s = .next (if (s.spcSt n).pressed = true ∧ u.spState n = spLATCHED then u.unlatch n else u)) ∧
  (poweredSp (s.spState n) = true → exec (.slotInputFault n m) s =
    .next (((((s.setMeas n m).slotBit n slPowerFault).powerOff n (if m.vin < 10000 then lcUv else lcOv))).perstFell n)) ∧
  (poweredSp (s.spState n) = false → exec (.slotInputFault n m) s = .next (s.setMeas n m)) ∧
  (u = s.setMeas n m → exec (.vinWarning n m) s =
    .next (if u.gateOn n then (u.modSpc n fun x => { x with vinWarn := true }).pwrWarn n 1 m.vin else u))

/-- The states of a slot controller: SLOT_RAMP_START where the budget and the stagger allow it, and of SPC16, VOUT_GOOD, RAMP_TIMEOUT, SLOT_POWER_ON,
FAULT_CONDITION_START in QUAL and in ON, FAULT_CONDITION_END, SLOT_BREAKER_TRIP, FAST_TRIP, SLOT_RETRY, the first one after an on command too,
ORDERLY_OFF_COMPLETE, PERST_RELEASE, PWRWARN_RELEASE, SPC16_ADMIT with VIN in range and out of it (after an input fault the range is the
narrower one). From parts of R431, R433, R434, R436 to R441. -/
def Obligations.SlotStates : Prop := ∀ (s u w : State) (n : Slot) (m : SlotMeas),
  (s.mayRamp n = true → n.val < 16 → u = (((s.leaveWait n).setSp n spRAMP).putB (F.SPC_STATUS_GATE_ON n) true).modSpc n
      (fun x => { x with gateAt := ((s.leaveWait n).setSp n spRAMP).clk.now }) →
    exec (.slotRampStart n) s = .next (State.hpSync { u.put F.SPC_BUDGET_USED_USED_W (u.usedW + classW (u.spcClass n)) with
                                                      spc := { u.spc with lastRamp := some u.clk.now } } n)) ∧
  (s.mayRamp 16 = true → u = (((s.leaveWait 16).setSp 16 spRAMP).putB (F.SPC_STATUS_GATE_ON 16) true).modSpc 16
      (fun x => { x with gateAt := ((s.leaveWait 16).setSp 16 spRAMP).clk.now }) →
    exec (.slotRampStart 16) s = .next ((u.modSpc 16 fun x => { x with inForce := none }).hpSync 16)) ∧
  (s.spState n = spRAMP → exec (.voutGood n m) s = .next (((s.setMeas n m).setSp n spQUAL).modSpc n fun x => { x with rampTime := s.clk.now - x.gateAt }) ∧
    exec (.rampTimeout n m) s = .next (s.tripOut n lcRamp m)) ∧
  (s.spState n = spQUAL → s.flag (F.SPC_STATUS_FAULT_TMR n) = false →
    u = (((s.setMeas n m).setSp n spON).putB (F.SPC_STATUS_PGOOD n) true).modSpc n (fun x => { x with pgoodAt := s.clk.now }) →
    exec (.slotPowerOn n m) s = .next ((u.raiseSlot n 0x9010 0 [u.spcClass n, (u.spcSt n).rampTime, m.vout]).hpSync n)) ∧
  (∀ volt : Bool, s.spState n = spQUAL ∨ s.spState n = spON → s.flag (F.SPC_STATUS_FAULT_TMR n) = false →
    w = ((s.setMeas n m).putB (F.SPC_STATUS_FAULT_TMR n) true).modSpc n (fun x => { x with volt := volt }) →
    u = (if s.spState n = spQUAL then w.raiseSlot n 0x9012 2 [if volt then m.vout else m.iout] else w.pwrWarn n 0 m.vin) →
    exec (.faultConditionStart n volt m) s = .next (if u.limiting n m then
      (u.putB (F.SPC_STATUS_ILIM_ACTIVE n) true).raiseLim sec n 0x03 0x9020 2 (u.slotScope n) 0 [n.val, m.iout] else u)) ∧
  (s.flag (F.SPC_STATUS_FAULT_TMR n) = true →
    exec (.faultConditionEnd n) s = .next ((s.putB (F.SPC_STATUS_FAULT_TMR n) false).putB (F.SPC_STATUS_ILIM_ACTIVE n) false) ∧
    exec (.slotBreakerTrip n m) s = .next (s.tripOut n (if (s.spcSt n).volt then lcVout else lcOver) m)) ∧
  (poweredSp (s.spState n) = true → exec (.fastTrip n m) s = .next (s.tripOut n lcFast m)) ∧
  (∀ (k : Nat) (r : Rate), s.spState n = spRETRY → s.cmdHeld n = true → s.seated n = true → w = s.bump (F.SPC_CNT_RETRIES n) →
    k = 0x9022 * 2 ^ 32 + n.val → r = SMap.get (fun _ => {}) w.evs.rate k →
    u = (if (w.spcSt n).retried then w else { w with evs := { w.evs with rate := SMap.set (fun _ => {}) w.evs.rate k { r with seen := false } } }) →
    exec (.slotRetry n) s = .next (((u.raiseLim (60 * sec) n 0x03 0x9022 1 (u.slotScope n) 0
      [n.val, (u.spcSt n).delay]).modSpc n fun x => { x with retried := true }).enterWait n)) ∧
  (s.spState n = spON → (s.spcSt n).offing = true → u = s.powerOff n lcOff →
    exec (.orderlyOffComplete n) s = .next (if u.cmdOn n then u.tryWait n else u)) ∧
  (∀ p : Nat, s.perstReady n = true → u = s.modSpc n (fun x => { x with perst := true }) → u.portOfSlot n = some p →
    exec (.perstRelease n) s = .next (u.kick p)) ∧
  (s.flag (F.SPC_STATUS_FAULT_TMR n) = false →
    exec (.pwrwarnRelease n) s = .next ((s.putB (F.SPC_STATUS_PWRWARN n) false).modSpc n fun x => { x with vinWarn := false })) ∧
  (∀ lo hi : Nat, lo = (if s.get (F.SPC_STATUS_LAST_CAUSE 16) = lcUv then 10500 else 10000) →
    hi = (if s.get (F.SPC_STATUS_LAST_CAUSE 16) = lcOv then 13500 else 14000) →
    (s.spState 16 = spOFF → s.seated 16 = true → lo ≤ m.vin → m.vin ≤ hi → (∀ t, (s.spcSt 16).tripAt = some t → t + sec ≤ s.clk.now) →
      exec (.spc16Admit m) s = .next (((s.setMeas 16 m).putB (F.SPC_STATUS_CMD_ON 16) true).enterWait 16)) ∧
    (m.vin < lo ∨ hi < m.vin → exec (.spc16Admit m) s = .next (s.setMeas 16 m)))

/-! ### Stations and links (chapter 2) -/

/-- STATION_START in its turn (the stations before it in the start order have started or cannot, and 2 ms have passed since the last start), the
station PLL, the PRBS checkers and margin points, PRBS_CLR, the check of the spare lane once a second within its limit and above it,
STATION_CLOCK_SLOWDOWN. From parts of R44, R45, R47, R57 to R60. -/
def Obligations.StationEvents : Prop := ∀ (s u : State) (st : Stn) (lane : Lane),
  (∀ a b : List Nat, s.pow.sequenced = true → s.hold st = false → s.flag (F.STN_LANE_STATUS_HELD st) = true → s.pdIsOn (16 + st) = true → s.pdState st ≠ 3 →
    s.pdState (32 + st) ≠ 3 → s.startOrder = a ++ st.val :: b → (∀ x ∈ a, s.started x = true ∨ s.noStart x = true) →
    (∀ t, s.pow.lastStart = some t → t + 2 * msec ≤ s.clk.now) →
    exec (.stationStart st) s = .next (((s.putB (F.STN_LANE_STATUS_HELD st) false).pdAsk (32 + st) true).pdAsk st true)) ∧
  (s.started st = true → 0 < (s.stn st).tries → (s.stn st).waiting = false →
    u = (s.putB (F.STN_LANE_STATUS_PLL_LOCK st) true).modStn st (fun x => { x with tries := 0 }) →
    exec (.pllLock st) s = .next ((u.stnPorts st).foldl (fun s p => if s.stage p = stPLL then s.setStage p stDETECT else s.kick p) u)) ∧
  ((s.stn st).waiting = false → (s.stn st).tries = 1 → ∃ t, exec (.pllTryTimeout st) s = .next t ∧ (t.stn st).waiting = true ∧
    (t.stn st).tries = 1 ∧ (∀ k : Nat, k ≠ st → t.stn k = s.stn k) ∧ ({ t with stns := s.stns } : State) = s) ∧
  ((s.stn st).waiting = false → (s.stn st).tries = 2 → u = (s.modStn st fun x => { x with tries := 0 }).raise (srcStn st) 0x1001 3 (scStn st) [st.val, 2] →
    exec (.pllTryTimeout st) s = .next ((u.livePorts st).foldl
      (fun s p => (if s.stage p = stMEASURE then s.leaveMeasure p else s).setStage p stFAILED) u)) ∧
  ((s.stn st).waiting = true → exec (.pllRetry st) s = .next (s.modStn st fun x => { x with tries := 2, waiting := false })) ∧
  (s.pllLocked st = true → u = (s.putB (F.STN_LANE_STATUS_PLL_LOCK st) false).beginSeries st →
    exec (.pllLockLoss st) s = .next ((u.stnPorts st).foldl State.portToPll u)) ∧
  (s.flag (F.STN_LN_PRBS_CTL_EN st lane) = true → s.flag (F.STN_LN_PRBS_CTL_CHK st lane) = true →
    exec (.checkerLock st lane) s = .next (s.putB (F.STN_LN_PRBS_STAT_CHK_LOCK st lane) true)) ∧
  (s.flag (F.STN_LN_PRBS_STAT_CHK_LOCK st lane) = true → exec (.prbsLockLoss st lane) s =
    .next (((s.prbsAdvance st lane).putB (F.STN_LN_PRBS_STAT_CHK_LOCK st lane) false).bump (F.STN_LN_PRBS_STAT_LOCK_LOSS st lane))) ∧
  (∃ t, exec (.prbsClr st lane) s = .next t ∧ t.get (F.STN_LN_PRBS_ERR_LO_ERR_LO st lane) = 0 ∧
    t.get (F.STN_LN_PRBS_ERR_HI_ERR_HI st lane) = 0 ∧ t.get (F.STN_LN_PRBS_BITS_LO_BITS_LO st lane) = 0 ∧ t.get (F.STN_LN_PRBS_BITS_HI_BITS_HI st lane) = 0 ∧
    t.get (F.STN_LN_PRBS_STAT_LOCK_LOSS st lane) = 0 ∧ (s.flag (F.STN_LN_PRBS_STAT_CHK_LOCK st lane) = false → ({ t with regs := s.regs } : State) = s)) ∧
  (∀ ctl : B32, bit ctl.toNat 31 = true → s.inMeasure st lane = true → s.flag (F.STN_LN_MARGIN_STAT_BUSY st lane) = false →
    exec (.marginGo st lane ctl) s = .next (s.marginStart st lane (int7 (bits ctl.toNat 0 7)) (int7 (bits ctl.toNat 8 7)) (bits ctl.toNat 16 2) (bits ctl.toNat 20 4))) ∧
  (∀ errs : Nat, s.flag (F.STN_LN_MARGIN_STAT_BUSY st lane) = true → exec (.marginPointDone st lane errs) s =
    .next ((s.put (F.STN_LN_MARGIN_STAT_MARGIN_ERRS st lane) (min (2 ^ 24 - 1) errs)).putB (F.STN_LN_MARGIN_STAT_BUSY st lane) false)) ∧
  (∀ errs role n : Nat, s.spareRuns st 16 = true → role = s.get (F.STN_LN_STATUS_SPARE_ROLE st 16) → role = 1 ∨ role = 3 →
    s.flag (F.STN_LN_PRBS_CTL_EN st 16) = true → u = s.spareCount st errs → n = (u.stn st).spareOk + 1 →
    (u.get (F.STN_TRAIN_CTL_SPARE_ERR_LIMIT st) < errs →
      exec (.spareCheck st errs) s = .next (((u.put (F.STN_LN_STATUS_SPARE_ROLE st 16) 3).modStn st fun x => { x with spareOk := 0 }).raise (srcStn st)
        0x1021 2 (scStn st) [st.val, errs])) ∧
    (errs ≤ u.get (F.STN_TRAIN_CTL_SPARE_ERR_LIMIT st) → exec (.spareCheck st errs) s = .next (if role = 3 ∧ 60 ≤ n then
      (u.modStn st fun x => { x with spareOk := min 60 n }).put (F.STN_LN_STATUS_SPARE_ROLE st 16) 1 else u.modStn st fun x => { x with spareOk := min 60 n }))) ∧
  ((∀ p ∈ s.stnPorts st, s.stage p ≠ stACTIVE ∨ s.get (F.STN_PORT_STATUS_RATE st (kOf p)) < 5) →
    exec (.stationClockSlowdown st) s = .next (s.putB (F.STN_LANE_STATUS_CLK_2G st) false))

/-- The training of a link: RECEIVER_DETECTED, DETECT_RETRY, BIT_LOCK on the lanes in use at PATTERN, LOCK_COMPLETE of a PCI Express and of a Seam
link, LINK_UP of a DSP, a USP and a pool port, with the credits advertised, TRAIN_ATTEMPT_TIMEOUT and LTSSM_RETURN_TO_DETECT below the attempt
limit and at it, LINK_DOWN. From parts of R3, R40, R49, R52 to R54, R62, R63, R78, R79, R217, R269, R424. -/
def Obligations.LinkTraining : Prop := ∀ (s u w : State) (p : Port) (st : Nat), st = stnOf p →
  (∀ (lanes : Nat) (ls : List Nat) (a : State), s.stage p = stDETECT → ls = s.usable p lanes → s.lanesDo p ls = true →
    a = ls.foldl (fun s l => s.putB (F.STN_LN_STATUS_RX_PRESENT st l) true) (s.clearLanes p) →
    u = a.modPort p (fun x => { x with timer := true, failed := 0, target := (a.targetWidth p, a.targetRate p), coefs := [],
                                       flitEn := a.flag (F.STN_PORT_CFG_FLIT_EN st (kOf p)), sris := a.flag (F.STN_PORT_CFG_SRIS st (kOf p)),
                                       eq := (a.measLanes p).map fun l => (l, a.eqLo st l, a.eqHi st l) }) →
    exec (.receiverDetected p lanes) s = .next ((u.lanesAt p (if u.seamMode st then 5 else 0)).setStage p stPATTERN)) ∧
  (s.stage p = stDETECT → exec (.detectRetry p) s = .next (s.clearLanes p)) ∧
  (∀ lanes : Nat, s.stage p = stPATTERN → s.lockDoes p (s.trained p lanes) = true → exec (.bitLock p lanes) s = .next (((s.trained p lanes).foldl
    (fun s l => (s.putB (F.STN_LN_STATUS_BIT_LOCK st l) true).putB (F.STN_LN_STATUS_SYM_LOCK st l) true) s).setStage p stLOCK)) ∧
  (∀ (width : Fin 17) (failed inverted : Nat) (reversed : Bool) (a : State), s.stage p = stLOCK → s.lockEnds p width failed = true →
    a = (s.modPort p fun x => { x with failed := failed }).put (F.STN_PORT_STATUS_WIDTH st (kOf p)) width →
    u = (a.orderLanes p inverted reversed).setStage p stEXCHANGE → exec (.lockComplete p width failed inverted reversed) s =
      .next (if u.seamMode st then u.modSeam st fun x => { x with step := 1, seenReady := false, rtts := [] } else u)) ∧
  (∀ (up : LinkUp) (a b d : State) (c : SMap Bool × SMap Nat × SMap Nat), s.seamMode st = false → s.stage p = stEXCHANGE →
    s.upFits p up = true → a = s.portUp p up.rate up.width up.failed up.eq up.flit up.scaledFc → c = creditMaps up.credits →
    b = (a.modPort p (fun x => { x with txInf := c.1, txHdr := c.2.1, txData := c.2.2, rxFrom := a.core.nextId })).advertise p 0 →
    d = (if bit (b.cw p ofVC1) 31 then b.advertise p 1 else b) →
    (d.pciRole p = 2 → u = d.orCw p ofSLTCTL slDllsc →
      w = (if bit (u.cw p ofDPC) 23 then u.emit (.errMsg (u.vsOf p) (BitVec.ofNat 16 (u.portRid p)) 0) else u) →
      exec (.linkUp p up) s = .next (if w.hasSlot p then w.emit (.msg p msgSlotPower (w.slotLimitOf p)) else w)) ∧
    (d.pciRole p = 1 → w = (if (d.vs (d.vsOf p)).sbr then d else d.modVs (d.vsOf p) fun x => { x with rrs := false }) →
      exec (.linkUp p up) s = .next (w.putB (F.STN_PORT_STATUS_RRS st (kOf p)) (!(w.vs (d.vsOf p)).published))) ∧
    (d.pciRole p ≠ 1 → d.pciRole p ≠ 2 → exec (.linkUp p up) s = .next d)) ∧
  (∀ n g lim locked : Nat, g = s.stage p → (g = stPATTERN ∨ g = stLOCK ∨ g = stEXCHANGE) → n = (s.port p).attempts + 1 →
    lim = s.get (F.STN_TRAIN_CTL_ATTEMPT_LIMIT st) →
    u = ((s.modPort p fun x => { x with attempts := n, timer := false }).raise (srcStn st) 0x1002 1 (scPort p) [p.val, g, n]).put
      (F.STN_PORT_STATUS_WIDTH st (kOf p)) 0 →
    locked = ((u.lanesOf p).filter fun l => u.flag (F.STN_LN_STATUS_BIT_LOCK st l)).length →
    w = (if lim ≠ 0 ∧ lim ≤ n then ((u.setStage p stFAILED).clearLanes p).raise (srcStn st) 0x1003 3 (scPort p) [p.val, n, locked]
      else (u.setStage p stDETECT).clearLanes p) →
    exec (.trainAttemptTimeout p) s = .next w ∧ (s.seamMode st = false → exec (.ltssmReturnToDetect p) s = .next w)) ∧
  exec (.linkDown p) s = .next (s.linkFell p stDETECT ldDown slDead)

/-! ### Transports (chapter 13) -/

/-- UNDECODABLE_REQUEST, whatever is wrong with the request, UART_FRAME and MCTP_MESSAGE (the packet they carry is served as the command it
spells), a message of another vendor or kind or to a channel that is no MCTP endpoint, an end of a frame's or message's assembly, a misrouted
message, the MCTP control commands, ENTDAA. From parts of R381, R382, R384 to R387. -/
def Obligations.Transports : Prop := ∀ (s u w : State) (chan : Chan) (eid : B8) (pkt : Bytes), s.acl.up = true → s.flag F.ACW_FW_STATUS_UART_BOOT = false →
  s.cmd.via = .arrive → (s.chan chan.val).held = [] → u = { s with cmd := { s.cmd with via := .arrive } } →
  (∀ (tag : B32) (scope opcode : B16) (why : BadReq), s.owing = [] →
    w = (if why = .badLength ∨ why = .badCrc then s.raiseLim ms100 chan.val 0x01 0x7301 2 scDev 0 [chan.val, eid.toNat, statusCode (badStatus why)] else s) →
    exec (.undecodableRequest chan eid tag scope opcode why) s = .next (w.answer { h := { chan := chan, eid := eid, tag := tag, cred := 0, scope := scope,
                                                                                             flags := 0, crc := 0 },
                                                                                   via := .arrive, opcode := opcode.toNat } (badStatus why) 0 [])) ∧
  (∀ i : Instr, packetOf 0 0 pkt = i → ∃ t, servePacket i u = .next t ∧ exec (.uartFrame pkt) s = .next t) ∧
  (∀ i : Instr, s.mctpHere chan.val = true → packetOf chan eid pkt = i →
    ∃ t, servePacket i u = .next t ∧ exec (.mctpMessage chan eid 0x1F4E 1 pkt) s = .next t) ∧
  (∀ (vendor : B16) (kind : B8), vendor ≠ 0x1F4E ∨ kind ≠ 1 ∨ s.mctpHere chan.val = false → exec (.mctpMessage chan eid vendor kind pkt) s = .next s) ∧
  exec .uartGapTimeout s = .next s ∧ exec (.mctpAssemblyTimeout chan eid) s = .next s ∧ (∀ p, exec (.mctpVdmMisrouted p) s = .next s) ∧
  (s.mctpHere chan.val = true →
    (eid = 0 ∨ eid = 0xFF → exec (.setEndpointId chan eid) s = .next (s.emit (.mctp chan.val [2]))) ∧
    (eid ≠ 0 → eid ≠ 0xFF → exec (.setEndpointId chan eid) s = .next ((s.modChan chan.val fun x => { x with eid := eid.toNat }).emit (.mctp chan.val [0, 0, eid, 0]))) ∧
    exec (.getEndpointId chan) s = .next (s.emit (.mctp chan.val [0, BitVec.ofNat 8 (s.chan chan.val).eid, 0, 0])) ∧
    exec (.getEndpointUuid chan) s = .next (s.emit (.mctp chan.val (0 :: (leBytes 8 Config.uuidHigh.toNat).reverse ++ (leBytes 8 s.ownUid).reverse))) ∧
    exec (.getMctpVersionSupport chan) s = .next (s.emit (.mctp chan.val (0 :: Config.mctpVersions))) ∧
    exec (.getMessageTypeSupport chan) s = .next (s.emit (.mctp chan.val [0, 1, 0x7E])) ∧
    exec (.getVendorDefinedMsgSupport chan) s = .next (s.emit (.mctp chan.val (0 :: 0xFF :: 0 :: 0x1F :: 0x4E :: leBytes 2 Config.mctpVdmSet.toNat)))) ∧
  (∀ addr : BitVec 7, chan.val = 1 ∨ chan.val = 2 → exec (.entdaa chan addr) s = .next (s.modChan chan.val fun x => { x with dynAddr := addr.toNat }))

/-- MAILBOX_ENTRY (a TAIL outside the ring and an entry that cannot be read stop the ring; a request that cannot be read is answered with result
1, one of the wrong length with result 2; another is served as the command it spells) and CMD_FWD (a request is served as the command it spells;
a reply settles the request of its MSEQ, if there is one; one whose CRC fails is discarded). From parts of R293, R383. -/
def Obligations.CarriedRequests : Prop := ∀ (s u : State) (v : VsId) (c : CtlHdr) (cls vs : B8) (pkt : Bytes),
  (∀ (rd : MbxRead) (head : Nat), s.ringReady v = true → head = s.get (F.ACW_MBX_HEAD_HEAD v) →
    (2 ^ s.get (F.ACW_MBX_CFG_ORDER v) ≤ s.get (F.ACW_MBX_TAIL_TAIL v) → exec (.mailboxEntry v rd) s = .next (s.ringFault v 2 head)) ∧
    (s.get (F.ACW_MBX_TAIL_TAIL v) < 2 ^ s.get (F.ACW_MBX_CFG_ORDER v) →
      u = s.emit (.hostRead v 0 (BitVec.ofNat 64 (s.get (F.ACW_MBX_BASE_HI_BASE_HI v) * 2 ^ 32 + s.get (F.ACW_MBX_BASE_LO_BASE_LO v) * 4096 + 32 * head)) 32) →
      exec (.mailboxEntry v .entryFail) s = .next (u.ringFault v 1 head) ∧
      ∀ (req rsp : B64) (len : B16) (ok : Bool), 
        exec (.mailboxEntry v (.entry req rsp len none ok)) s = .next ((u.emit (.hostRead v 0 req len.toNat)).ringDone v 0 1 ok) ∧
        ∀ b : Bytes, (len.toNat ≠ 20 + rdN b 8 2 ∨ b.length ≠ len.toNat →
            exec (.mailboxEntry v (.entry req rsp len (some b) ok)) s = .next ((u.emit (.hostRead v 0 req len.toNat)).ringDone v 0 2 ok)) ∧
          (len.toNat = 20 + rdN b 8 2 → b.length = len.toNat → ∃ t,
            servePacket (packetOf ⟨3 + v.val, by omega⟩ 0 b) { u.emit (.hostRead v 0 req len.toNat) with cmd := { s.cmd with via := .mbx rsp ok } } = .next t ∧
            exec (.mailboxEntry v (.entry req rsp len (some b) ok)) s = .next t))) ∧
  (Taken s c → s.acl.up = true →
    (∃ t, servePacket (packetOf 0 0 pkt) { s with cmd := { s.cmd with via := .fwd c.src.toNat c.mseq.toNat cls.toNat vs.toNat } } = .next t ∧
      exec (.cmdFwd c false cls vs pkt) s = .next t) ∧
    (crc32c (pkt.take (pkt.length - 4)) ≠ r32 pkt (pkt.length - 4) → exec (.cmdFwd c true cls vs pkt) s = .next s) ∧
    ∀ mine : CtlOut → Bool, mine = (fun o => o.mseq == c.mseq.toNat && o.kind == 0x40 && o.dest == c.src.toNat) →
      crc32c (pkt.take (pkt.length - 4)) = r32 pkt (pkt.length - 4) →
      (s.fab.out.find? mine = none → exec (.cmdFwd c true cls vs pkt) s = .next s) ∧
      ∀ o : CtlOut, s.fab.out.find? mine = some o → u = { s with fab := { s.fab with out := s.fab.out.filter fun x => !mine x } } →
        (o.req = none → exec (.cmdFwd c true cls vs pkt) s = .next u) ∧
        ∀ r : Req, o.req = some r → exec (.cmdFwd c true cls vs pkt) s = .next (u.settleReq r
          ((allStatus.find? fun x => statusCode x == rdN pkt 2 2).getD .hwFault) (rdN pkt 12 4)
          (((pkt.drop 16).take (rdN pkt 8 2)).map fun b => .u8 b.toNat)))

/-! ### Whole-machine rules -/

/-- A step takes the command at the front of the queue and runs it with the queue's rest, and every command in every state ends in a next state.
On an empty queue a packet that Aclia held is served (R385), and with none, one nanosecond passes (the model's choice, log entry 30). -/
def Obligations.StepTakesTheFront : Prop := ∀ (s : State) (c : Instr) (q : List Instr),
  step { s with pending := c :: q } = exec c { s with pending := q } ∧ (∃ t, exec c s = .next t) ∧
  (s.pending = [] → (∀ (i : Instr) (t : State), s.takeHeld = some (i, t) → step s = exec i t) ∧ (s.takeHeld = none → step s = .next s.tick))

/-- What reset leaves: no command waits, Aclia is off, nothing has been sent, no event has been raised, no credential is open, no slot is on;
ATTEMPT_TMO is 64 ms and ATTEMPT_LIMIT 8 (R48), NODE_ID is 0xFF (R278: standalone without a valid image), and the first station is the one that is
not held (R45; that it is station 0 is the model's choice, log entry 3). -/
def Obligations.ResetState : Prop := State.reset.pending = [] ∧ State.reset.out = [] ∧ State.reset.acl.up = false ∧ State.reset.evs.ram = [] ∧
  State.reset.cmd.creds = [] ∧ (∀ n : Slot, State.reset.spState n = spOFF) ∧
  (∀ st : Stn, State.reset.get (F.STN_TRAIN_CTL_ATTEMPT_TMO st) = 64 ∧ State.reset.get (F.STN_TRAIN_CTL_ATTEMPT_LIMIT st) = 8 ∧
    State.reset.flag (F.STN_LANE_MODE_HOLD st) = decide (st ≠ 0)) ∧
  State.reset.get F.FAB_ID_NODE_ID = 0xFF

/-- R37: which BIFURC values are valid, and that they are 26. -/
def Obligations.BifurcValues : Prop :=
  (∀ v : Fin 256, bifurcValid v = true ↔ bit v 0 = true ∧ ∀ k < 8, bit v k = true →
    (bifWidth v k = 2 ∨ bifWidth v k = 4 ∨ bifWidth v k = 8 ∨ bifWidth v k = 16) ∧ 2 * k % bifWidth v k = 0) ∧
  ((List.range 256).filter bifurcValid).length = 26

/-- Every Bobbin instruction that has a word spells itself by it (Tables 7.3 and 7.4): no field of an encoding is dropped. An instruction's memory
outcomes are no part of its word and read as clean. -/
def Obligations.BobbinWordsRoundTrip : Prop := ∀ (e : Eng) (d a b : Fin 16) (sz hw : Fin 4) (i8 : B8) (i16 : B16) (i17 : BitVec 17) (i18 : BitVec 18)
    (i22 : BitVec 22) (i6 : BitVec 6) (off : BitVec 12) (sel : Fin 19) (i : Instr),
  i ∈ [.nop e, .aluAdd e d a b, .aluSub e d a b, .aluAnd e d a b, .aluOr e d a b, .aluXor e d a b, .aluShl e d a b, .aluShr e d a b,
    .aluMinu e d a b, .aluMaxu e d a b, .aluSeq e d a b, .aluSltu e d a b, .hash e d a b, .addi e d a i18, .andi e d a i18, .ori e d a i18,
    .xori e d a i18, .shli e d a i6, .shri e d a i6, .li e d i22, .movk e d hw i16] ∨
  i ∈ [.ldh e d sz i6, .sth e a sz i6, .ldl e d a sz i16 0, .stl e d a sz i16 0, .ldt e d a i17 0, .stt e d a i17, .addt e d a i17 0,
    .ctx e d (BitVec.ofNat 6 sel), .beq e d a off, .bne e d a off, .bltu e d a off, .bgeu e d a off, .beqi e d i8 off, .bnei e d i8 off,
    .bbs e d i6 off, .bbc e d i6 off, .jmp e off, .trace e a, .evt e a i8, .exitForward e, .exitDrop e, .exitAbort e, .exitRedirect e a] →
  ∃ w, encodeBobbin i = some w ∧ w < 2 ^ 32 ∧ decodeBobbin e w = some i

/-- R188: in a program whose paths pass the checker, from each of its entry points, the instructions of a run stand at rising slots, are at most
48, and the run has ended with an EXIT or goes on within the program; and the checker refuses every image whose program has a word that is no
instruction or a path that fails. -/
def Obligations.CheckedRunsEnd : Prop := ∀ (s : State) (img : Bytes) (es : List Nat), es = [leAt img 16 2, leAt img 18 2, leAt img 20 2] →
  (∀ (prog : List (Nat × Instr)) (x : Nat × Instr) (l : List (Nat × Instr)), imgProg img = .ok prog →
    checkPaths (imgProgLen img) es prog = none → x.1 ∈ es → Follows prog (x :: l) →
    (x :: l).length ≤ 48 ∧ (x :: l).Pairwise (fun y z => y.1 < z.1) ∧
    ∃ z ∈ (x :: l).getLast?, insExit z.2 = true ∨ ∃ y ∈ prog, y.1 ∈ insNext z.1 z.2) ∧
  (∀ (prog : List (Nat × Instr)) (r : Nat × Nat), imgProg img = .ok prog → checkPaths (imgProgLen img) es prog = some r →
    s.checkImage img ≠ none) ∧
  ∀ k : Nat, imgProg img = .error k → s.checkImage img ≠ none

/-- R178, R185: an instruction belongs to a run: on an engine that runs no header, no word of a program does anything. -/
def Obligations.NoRunNoEffect : Prop := ∀ (s : State) (e : Eng) (w : Nat) (i : Instr), decodeBobbin e w = some i → (s.eng e).run = none →
  exec i s = .next s

/-- R323: PANEL_SAVE of a FROZEN panel answers with its record, 768 bytes with the CRC over bytes 0 to 763 as the record stands; of a panel in any
other state it answers NOT_IDLE. Nothing but the answer changes, so that the save may be repeated. -/
def Obligations.SavingChangesNothing : Prop := ∀ (s : State) (h : Hdr) (x : Sess) (op : OpInfo) (rec : Bytes),
  op = { code := 0x0806, kind := .R, who := [.fm, .pm], forms := [.panel] } → Heard s op h x → rec = s.panelRecord x.n →
  (s.pState x.n = pFrozen → exec (.panelSave h) s =
    .next (s.emit (.reply h.chan.val h.eid.toNat 0x0806 .ok h.tag h.scope.toNat 0 (rec.map fun b => .u8 b.toNat)))) ∧
  (s.pState x.n ≠ pFrozen → exec (.panelSave h) s = .next (s.emit (.reply h.chan.val h.eid.toNat 0x0806 .notIdle h.tag h.scope.toNat 0 []))) ∧
  rec.length = 768 ∧ rec.drop 764 = leBytes 4 (crc32c (rec.take 764)).toNat

/-- Table 14.3, FLAGS bit 0, and R389: a request with CHECK_ONLY that passes steps 1 to 9 changes nothing, whatever its opcode's own part would do:
it is answered, and the answer is kept unless the opcode is of kind R. -/
def Obligations.CheckOnlyChangesNothing : Prop := ∀ (s : State) (self : Instr) (op : OpInfo) (h : Hdr) (params : List Dat)
    (body : Sess → State → Ans) (x : Sess), h.flags = 1 → Heard s op { h with flags := 0 } x →
  ∃ (st : Status) (detail : Nat) (data : List Dat) (u : State),
    u = s.emit (.reply h.chan.val h.eid.toNat op.code st h.tag h.scope.toNat detail data) ∧ (op.kind ≠ .R → data = []) ∧
    (op.kind = .R → s.serve self op h params body = u) ∧
    (op.kind ≠ .R → ∃ k : ChanSt → ChanSt, s.serve self op h params body = u.modChan h.chan.val k ∧ ∀ c, { k c with kept := c.kept } = c)

/-- R389: a repeat of a request whose reply is kept receives that reply again and is not carried out; a repeat of one that is still being served is
ignored; a channel keeps at most 4 replies for one sender, the newest of them the one just given, and every other sender's. -/
def Obligations.RepeatsAreNotCarriedOut : Prop := ∀ (s : State) (op : OpInfo) (h : Hdr), s.acl.up = true → s.cmd.via = .arrive →
  (∀ (self : Instr) (params : List Dat) (body : Sess → State → Ans),
    (s.inService .arrive h = true → s.serve self op h params body = s) ∧
    (∀ (k : Kept) (c e o : Nat) (st : Status) (g : B32) (sc detail : Nat) (data : List Dat), s.inService .arrive h = false →
      s.chanBusy h.chan.val h.eid.toNat = false → s.flag F.ACW_FW_STATUS_UART_BOOT = false → (s.chan h.chan.val).held = [] → op.kind ≠ .R →
      s.keptReply .arrive h = some k → k.reply = .reply c e o st g sc detail data →
      s.serve self op h params body = s.emit (.reply h.chan.val h.eid.toNat op.code st h.tag h.scope.toNat detail (if st = .ok then data else [])))) ∧
  (∀ (r : Req) (st : Status) (detail : Nat) (data : List Dat) (mine : Kept → Bool) (t : State), t = s.keep r st detail data →
    mine = (fun k => k.eid == keepKey r.via r.h) →
    ((t.chan r.h.chan.val).kept.filter mine).length ≤ 4 ∧
    (∃ k, ((t.chan r.h.chan.val).kept.filter mine).head? = some k ∧ k.tag = r.h.tag ∧ k.crc = r.h.crc ∧ k.time = s.clk.now) ∧
    (t.chan r.h.chan.val).kept.filter (fun k => !mine k) = (s.chan r.h.chan.val).kept.filter (fun k => !mine k))
end

