-- ==== Sys2Proof/Laws/Sparse.lean ====
section
/-!
SUPPORT. Laws/Sparse.lean: reading a sparse map after a write, and that a write keeps the canonical form.
-/

namespace Sys2Proof.Machine

variable {α : Type} (d : Nat → α) (m : SMap α) (k l : Nat) (v : α)

theorem SMap.get_insert_self : SMap.get d (SMap.insert m k v) k = v := by
  induction m with
  | nil => simp [SMap.insert, SMap.get]
  | cons x m ih =>
    obtain ⟨j, w⟩ := x
    simp only [SMap.insert]
    split
    · simp [SMap.get]
    · split
      · simp [SMap.get]
      · rename_i h; simp [SMap.get, h, ih]

theorem SMap.get_insert_ne (h : l ≠ k) : SMap.get d (SMap.insert m k v) l = SMap.get d m l := by
  induction m with
  | nil => simp [SMap.insert, SMap.get, h]
  | cons x m ih =>
    obtain ⟨j, w⟩ := x
    simp only [SMap.insert]
    split
    · simp [SMap.get, h]
    · split
      · rename_i e; subst e; simp [SMap.get, h]
      · simp [SMap.get, ih]

theorem SMap.get_erase_self : SMap.get d (SMap.erase m k) k = d k := by
  induction m with
  | nil => simp [SMap.erase, SMap.get]
  | cons x m ih =>
    obtain ⟨j, w⟩ := x
    simp only [SMap.erase]
    split
    · exact ih
    · rename_i h; simp [SMap.get, h, ih]

theorem SMap.get_erase_ne (h : l ≠ k) : SMap.get d (SMap.erase m k) l = SMap.get d m l := by
  induction m with
  | nil => simp [SMap.erase]
  | cons x m ih =>
    obtain ⟨j, w⟩ := x
    simp only [SMap.erase]
    split
    · rename_i e; subst e; simp [SMap.get, h, ih]
    · simp [SMap.get, ih]

/-- The key written reads as the value written. -/
@[simp] theorem SMap.get_set_self [DecidableEq α] : SMap.get d (SMap.set d m k v) k = v := by
  unfold SMap.set
  split
  · rename_i h; rw [SMap.get_erase_self, h]
  · exact SMap.get_insert_self d m k v

/-- Every other key reads as before. -/
theorem SMap.get_set_ne [DecidableEq α] (h : l ≠ k) : SMap.get d (SMap.set d m k v) l = SMap.get d m l := by
  unfold SMap.set
  split
  · exact SMap.get_erase_ne d m k l h
  · exact SMap.get_insert_ne d m k l v h

theorem SMap.get_set [DecidableEq α] : SMap.get d (SMap.set d m k v) l = if l = k then v else SMap.get d m l := by
  split
  · rename_i h; subst h; simp
  · rename_i h; exact SMap.get_set_ne d m k l v h

theorem SMap.wfFrom_mono [DecidableEq α] {a b : Nat} (hab : a ≤ b) (h : SMap.wfFrom d b m = true) : SMap.wfFrom d a m = true := by
  cases m with
  | nil => rfl
  | cons x m =>
    obtain ⟨j, w⟩ := x
    simp only [SMap.wfFrom, Bool.and_eq_true, decide_eq_true_eq] at h ⊢
    exact ⟨⟨by omega, h.1.2⟩, h.2⟩

theorem SMap.wfFrom_erase [DecidableEq α] (lo : Nat) (h : SMap.wfFrom d lo m = true) : SMap.wfFrom d lo (SMap.erase m k) = true := by
  induction m generalizing lo with
  | nil => rfl
  | cons x m ih =>
    obtain ⟨j, w⟩ := x
    simp only [SMap.wfFrom, Bool.and_eq_true, decide_eq_true_eq] at h
    simp only [SMap.erase]
    split
    · exact SMap.wfFrom_mono d _ (by omega) (ih _ h.2)
    · simp only [SMap.wfFrom, Bool.and_eq_true, decide_eq_true_eq]
      exact ⟨h.1, ih _ h.2⟩

theorem SMap.wfFrom_insert [DecidableEq α] (lo : Nat) (hk : lo ≤ k) (hv : v ≠ d k) (h : SMap.wfFrom d lo m = true) :
    SMap.wfFrom d lo (SMap.insert m k v) = true := by
  induction m generalizing lo with
  | nil => simp [SMap.insert, SMap.wfFrom, hk, hv]
  | cons x m ih =>
    obtain ⟨j, w⟩ := x
    simp only [SMap.wfFrom, Bool.and_eq_true, decide_eq_true_eq] at h
    simp only [SMap.insert]
    split
    · simp only [SMap.wfFrom, Bool.and_eq_true, decide_eq_true_eq]
      exact ⟨⟨hk, by simp [hv]⟩, ⟨by omega, h.1.2⟩, h.2⟩
    · split
      · rename_i e; subst e
        simp only [SMap.wfFrom, Bool.and_eq_true, decide_eq_true_eq]
        exact ⟨⟨hk, by simp [hv]⟩, h.2⟩
      · simp only [SMap.wfFrom, Bool.and_eq_true, decide_eq_true_eq]
        exact ⟨h.1, ih _ (by omega) h.2⟩

/-- A write keeps the canonical form. -/
theorem SMap.wf_set [DecidableEq α] (h : SMap.wf d m = true) : SMap.wf d (SMap.set d m k v) = true := by
  unfold SMap.set
  split
  · exact SMap.wfFrom_erase d m k 0 h
  · rename_i hv; exact SMap.wfFrom_insert d m k v 0 (by omega) hv h

end Sys2Proof.Machine
end

