-- ==== Sys2Proof/Laws/State.lean ====
section
/-!
SUPPORT. Laws/State.lean: what each update of the state leaves alone, one lemma per field and update, and what a register, a register
field or an entry of a map reads as after a write.
-/

namespace Sys2Proof.Machine

variable (s : State)

/-! ### setReg -/

@[simp] theorem State.setReg_pending (a : Nat) (v : B32) : (s.setReg a v).pending = s.pending := (rfl)
@[simp] theorem State.setReg_out (a : Nat) (v : B32) : (s.setReg a v).out = s.out := (rfl)
@[simp] theorem State.setReg_clk (a : Nat) (v : B32) : (s.setReg a v).clk = s.clk := (rfl)
@[simp] theorem State.setReg_evs (a : Nat) (v : B32) : (s.setReg a v).evs = s.evs := (rfl)
@[simp] theorem State.setReg_cmd (a : Nat) (v : B32) : (s.setReg a v).cmd = s.cmd := (rfl)
@[simp] theorem State.setReg_acl (a : Nat) (v : B32) : (s.setReg a v).acl = s.acl := (rfl)
@[simp] theorem State.setReg_ports (a : Nat) (v : B32) : (s.setReg a v).ports = s.ports := (rfl)
@[simp] theorem State.setReg_vss (a : Nat) (v : B32) : (s.setReg a v).vss = s.vss := (rfl)
@[simp] theorem State.setReg_core (a : Nat) (v : B32) : (s.setReg a v).core = s.core := (rfl)
@[simp] theorem State.setReg_tbl (a : Nat) (v : B32) : (s.setReg a v).tbl = s.tbl := (rfl)
@[simp] theorem State.setReg_bob (a : Nat) (v : B32) : (s.setReg a v).bob = s.bob := (rfl)
@[simp] theorem State.setReg_late (a : Nat) (v : B32) : (s.setReg a v).late = s.late := (rfl)
@[simp] theorem State.setReg_seams (a : Nat) (v : B32) : (s.setReg a v).seams = s.seams := (rfl)
@[simp] theorem State.setReg_fab (a : Nat) (v : B32) : (s.setReg a v).fab = s.fab := (rfl)
@[simp] theorem State.setReg_spc (a : Nat) (v : B32) : (s.setReg a v).spc = s.spc := (rfl)
@[simp] theorem State.setReg_sht (a : Nat) (v : B32) : (s.setReg a v).sht = s.sht := (rfl)
@[simp] theorem State.setReg_ep (a : Nat) (v : B32) : (s.setReg a v).ep = s.ep := (rfl)
@[simp] theorem State.setReg_stns (a : Nat) (v : B32) : (s.setReg a v).stns = s.stns := (rfl)
@[simp] theorem State.setReg_pow (a : Nat) (v : B32) : (s.setReg a v).pow = s.pow := (rfl)

/-! ### put -/

@[simp] theorem State.put_pending (f : Fld) (v : Nat) : (s.put f v).pending = s.pending := (rfl)
@[simp] theorem State.put_out (f : Fld) (v : Nat) : (s.put f v).out = s.out := (rfl)
@[simp] theorem State.put_clk (f : Fld) (v : Nat) : (s.put f v).clk = s.clk := (rfl)
@[simp] theorem State.put_evs (f : Fld) (v : Nat) : (s.put f v).evs = s.evs := (rfl)
@[simp] theorem State.put_cmd (f : Fld) (v : Nat) : (s.put f v).cmd = s.cmd := (rfl)
@[simp] theorem State.put_acl (f : Fld) (v : Nat) : (s.put f v).acl = s.acl := (rfl)
@[simp] theorem State.put_ports (f : Fld) (v : Nat) : (s.put f v).ports = s.ports := (rfl)
@[simp] theorem State.put_vss (f : Fld) (v : Nat) : (s.put f v).vss = s.vss := (rfl)
@[simp] theorem State.put_core (f : Fld) (v : Nat) : (s.put f v).core = s.core := (rfl)
@[simp] theorem State.put_tbl (f : Fld) (v : Nat) : (s.put f v).tbl = s.tbl := (rfl)
@[simp] theorem State.put_bob (f : Fld) (v : Nat) : (s.put f v).bob = s.bob := (rfl)
@[simp] theorem State.put_late (f : Fld) (v : Nat) : (s.put f v).late = s.late := (rfl)
@[simp] theorem State.put_seams (f : Fld) (v : Nat) : (s.put f v).seams = s.seams := (rfl)
@[simp] theorem State.put_fab (f : Fld) (v : Nat) : (s.put f v).fab = s.fab := (rfl)
@[simp] theorem State.put_spc (f : Fld) (v : Nat) : (s.put f v).spc = s.spc := (rfl)
@[simp] theorem State.put_sht (f : Fld) (v : Nat) : (s.put f v).sht = s.sht := (rfl)
@[simp] theorem State.put_ep (f : Fld) (v : Nat) : (s.put f v).ep = s.ep := (rfl)
@[simp] theorem State.put_stns (f : Fld) (v : Nat) : (s.put f v).stns = s.stns := (rfl)
@[simp] theorem State.put_pow (f : Fld) (v : Nat) : (s.put f v).pow = s.pow := (rfl)

/-! ### putB -/

@[simp] theorem State.putB_pending (f : Fld) (b : Bool) : (s.putB f b).pending = s.pending := (rfl)
@[simp] theorem State.putB_out (f : Fld) (b : Bool) : (s.putB f b).out = s.out := (rfl)
@[simp] theorem State.putB_clk (f : Fld) (b : Bool) : (s.putB f b).clk = s.clk := (rfl)
@[simp] theorem State.putB_evs (f : Fld) (b : Bool) : (s.putB f b).evs = s.evs := (rfl)
@[simp] theorem State.putB_cmd (f : Fld) (b : Bool) : (s.putB f b).cmd = s.cmd := (rfl)
@[simp] theorem State.putB_acl (f : Fld) (b : Bool) : (s.putB f b).acl = s.acl := (rfl)
@[simp] theorem State.putB_ports (f : Fld) (b : Bool) : (s.putB f b).ports = s.ports := (rfl)
@[simp] theorem State.putB_vss (f : Fld) (b : Bool) : (s.putB f b).vss = s.vss := (rfl)
@[simp] theorem State.putB_core (f : Fld) (b : Bool) : (s.putB f b).core = s.core := (rfl)
@[simp] theorem State.putB_tbl (f : Fld) (b : Bool) : (s.putB f b).tbl = s.tbl := (rfl)
@[simp] theorem State.putB_bob (f : Fld) (b : Bool) : (s.putB f b).bob = s.bob := (rfl)
@[simp] theorem State.putB_late (f : Fld) (b : Bool) : (s.putB f b).late = s.late := (rfl)
@[simp] theorem State.putB_seams (f : Fld) (b : Bool) : (s.putB f b).seams = s.seams := (rfl)
@[simp] theorem State.putB_fab (f : Fld) (b : Bool) : (s.putB f b).fab = s.fab := (rfl)
@[simp] theorem State.putB_spc (f : Fld) (b : Bool) : (s.putB f b).spc = s.spc := (rfl)
@[simp] theorem State.putB_sht (f : Fld) (b : Bool) : (s.putB f b).sht = s.sht := (rfl)
@[simp] theorem State.putB_ep (f : Fld) (b : Bool) : (s.putB f b).ep = s.ep := (rfl)
@[simp] theorem State.putB_stns (f : Fld) (b : Bool) : (s.putB f b).stns = s.stns := (rfl)
@[simp] theorem State.putB_pow (f : Fld) (b : Bool) : (s.putB f b).pow = s.pow := (rfl)

/-! ### bumpN -/

@[simp] theorem State.bumpN_pending (f : Fld) (n : Nat) : (s.bumpN f n).pending = s.pending := (rfl)
@[simp] theorem State.bumpN_out (f : Fld) (n : Nat) : (s.bumpN f n).out = s.out := (rfl)
@[simp] theorem State.bumpN_clk (f : Fld) (n : Nat) : (s.bumpN f n).clk = s.clk := (rfl)
@[simp] theorem State.bumpN_evs (f : Fld) (n : Nat) : (s.bumpN f n).evs = s.evs := (rfl)
@[simp] theorem State.bumpN_cmd (f : Fld) (n : Nat) : (s.bumpN f n).cmd = s.cmd := (rfl)
@[simp] theorem State.bumpN_acl (f : Fld) (n : Nat) : (s.bumpN f n).acl = s.acl := (rfl)
@[simp] theorem State.bumpN_ports (f : Fld) (n : Nat) : (s.bumpN f n).ports = s.ports := (rfl)
@[simp] theorem State.bumpN_vss (f : Fld) (n : Nat) : (s.bumpN f n).vss = s.vss := (rfl)
@[simp] theorem State.bumpN_core (f : Fld) (n : Nat) : (s.bumpN f n).core = s.core := (rfl)
@[simp] theorem State.bumpN_tbl (f : Fld) (n : Nat) : (s.bumpN f n).tbl = s.tbl := (rfl)
@[simp] theorem State.bumpN_bob (f : Fld) (n : Nat) : (s.bumpN f n).bob = s.bob := (rfl)
@[simp] theorem State.bumpN_late (f : Fld) (n : Nat) : (s.bumpN f n).late = s.late := (rfl)
@[simp] theorem State.bumpN_seams (f : Fld) (n : Nat) : (s.bumpN f n).seams = s.seams := (rfl)
@[simp] theorem State.bumpN_fab (f : Fld) (n : Nat) : (s.bumpN f n).fab = s.fab := (rfl)
@[simp] theorem State.bumpN_spc (f : Fld) (n : Nat) : (s.bumpN f n).spc = s.spc := (rfl)
@[simp] theorem State.bumpN_sht (f : Fld) (n : Nat) : (s.bumpN f n).sht = s.sht := (rfl)
@[simp] theorem State.bumpN_ep (f : Fld) (n : Nat) : (s.bumpN f n).ep = s.ep := (rfl)
@[simp] theorem State.bumpN_stns (f : Fld) (n : Nat) : (s.bumpN f n).stns = s.stns := (rfl)
@[simp] theorem State.bumpN_pow (f : Fld) (n : Nat) : (s.bumpN f n).pow = s.pow := (rfl)

/-! ### bump -/

@[simp] theorem State.bump_pending (f : Fld) : (s.bump f).pending = s.pending := (rfl)
@[simp] theorem State.bump_out (f : Fld) : (s.bump f).out = s.out := (rfl)
@[simp] theorem State.bump_clk (f : Fld) : (s.bump f).clk = s.clk := (rfl)
@[simp] theorem State.bump_evs (f : Fld) : (s.bump f).evs = s.evs := (rfl)
@[simp] theorem State.bump_cmd (f : Fld) : (s.bump f).cmd = s.cmd := (rfl)
@[simp] theorem State.bump_acl (f : Fld) : (s.bump f).acl = s.acl := (rfl)
@[simp] theorem State.bump_ports (f : Fld) : (s.bump f).ports = s.ports := (rfl)
@[simp] theorem State.bump_vss (f : Fld) : (s.bump f).vss = s.vss := (rfl)
@[simp] theorem State.bump_core (f : Fld) : (s.bump f).core = s.core := (rfl)
@[simp] theorem State.bump_tbl (f : Fld) : (s.bump f).tbl = s.tbl := (rfl)
@[simp] theorem State.bump_bob (f : Fld) : (s.bump f).bob = s.bob := (rfl)
@[simp] theorem State.bump_late (f : Fld) : (s.bump f).late = s.late := (rfl)
@[simp] theorem State.bump_seams (f : Fld) : (s.bump f).seams = s.seams := (rfl)
@[simp] theorem State.bump_fab (f : Fld) : (s.bump f).fab = s.fab := (rfl)
@[simp] theorem State.bump_spc (f : Fld) : (s.bump f).spc = s.spc := (rfl)
@[simp] theorem State.bump_sht (f : Fld) : (s.bump f).sht = s.sht := (rfl)
@[simp] theorem State.bump_ep (f : Fld) : (s.bump f).ep = s.ep := (rfl)
@[simp] theorem State.bump_stns (f : Fld) : (s.bump f).stns = s.stns := (rfl)
@[simp] theorem State.bump_pow (f : Fld) : (s.bump f).pow = s.pow := (rfl)

/-! ### bumpWrap -/

@[simp] theorem State.bumpWrap_pending (f : Fld) (n : Nat) : (s.bumpWrap f n).pending = s.pending := (rfl)
@[simp] theorem State.bumpWrap_out (f : Fld) (n : Nat) : (s.bumpWrap f n).out = s.out := (rfl)
@[simp] theorem State.bumpWrap_clk (f : Fld) (n : Nat) : (s.bumpWrap f n).clk = s.clk := (rfl)
@[simp] theorem State.bumpWrap_evs (f : Fld) (n : Nat) : (s.bumpWrap f n).evs = s.evs := (rfl)
@[simp] theorem State.bumpWrap_cmd (f : Fld) (n : Nat) : (s.bumpWrap f n).cmd = s.cmd := (rfl)
@[simp] theorem State.bumpWrap_acl (f : Fld) (n : Nat) : (s.bumpWrap f n).acl = s.acl := (rfl)
@[simp] theorem State.bumpWrap_ports (f : Fld) (n : Nat) : (s.bumpWrap f n).ports = s.ports := (rfl)
@[simp] theorem State.bumpWrap_vss (f : Fld) (n : Nat) : (s.bumpWrap f n).vss = s.vss := (rfl)
@[simp] theorem State.bumpWrap_core (f : Fld) (n : Nat) : (s.bumpWrap f n).core = s.core := (rfl)
@[simp] theorem State.bumpWrap_tbl (f : Fld) (n : Nat) : (s.bumpWrap f n).tbl = s.tbl := (rfl)
@[simp] theorem State.bumpWrap_bob (f : Fld) (n : Nat) : (s.bumpWrap f n).bob = s.bob := (rfl)
@[simp] theorem State.bumpWrap_late (f : Fld) (n : Nat) : (s.bumpWrap f n).late = s.late := (rfl)
@[simp] theorem State.bumpWrap_seams (f : Fld) (n : Nat) : (s.bumpWrap f n).seams = s.seams := (rfl)
@[simp] theorem State.bumpWrap_fab (f : Fld) (n : Nat) : (s.bumpWrap f n).fab = s.fab := (rfl)
@[simp] theorem State.bumpWrap_spc (f : Fld) (n : Nat) : (s.bumpWrap f n).spc = s.spc := (rfl)
@[simp] theorem State.bumpWrap_sht (f : Fld) (n : Nat) : (s.bumpWrap f n).sht = s.sht := (rfl)
@[simp] theorem State.bumpWrap_ep (f : Fld) (n : Nat) : (s.bumpWrap f n).ep = s.ep := (rfl)
@[simp] theorem State.bumpWrap_stns (f : Fld) (n : Nat) : (s.bumpWrap f n).stns = s.stns := (rfl)
@[simp] theorem State.bumpWrap_pow (f : Fld) (n : Nat) : (s.bumpWrap f n).pow = s.pow := (rfl)

/-! ### modPort -/

@[simp] theorem State.modPort_pending (p : Nat) (f : PortSt → PortSt) : (s.modPort p f).pending = s.pending := (rfl)
@[simp] theorem State.modPort_out (p : Nat) (f : PortSt → PortSt) : (s.modPort p f).out = s.out := (rfl)
@[simp] theorem State.modPort_clk (p : Nat) (f : PortSt → PortSt) : (s.modPort p f).clk = s.clk := (rfl)
@[simp] theorem State.modPort_regs (p : Nat) (f : PortSt → PortSt) : (s.modPort p f).regs = s.regs := (rfl)
@[simp] theorem State.modPort_evs (p : Nat) (f : PortSt → PortSt) : (s.modPort p f).evs = s.evs := (rfl)
@[simp] theorem State.modPort_cmd (p : Nat) (f : PortSt → PortSt) : (s.modPort p f).cmd = s.cmd := (rfl)
@[simp] theorem State.modPort_acl (p : Nat) (f : PortSt → PortSt) : (s.modPort p f).acl = s.acl := (rfl)
@[simp] theorem State.modPort_vss (p : Nat) (f : PortSt → PortSt) : (s.modPort p f).vss = s.vss := (rfl)
@[simp] theorem State.modPort_core (p : Nat) (f : PortSt → PortSt) : (s.modPort p f).core = s.core := (rfl)
@[simp] theorem State.modPort_tbl (p : Nat) (f : PortSt → PortSt) : (s.modPort p f).tbl = s.tbl := (rfl)
@[simp] theorem State.modPort_bob (p : Nat) (f : PortSt → PortSt) : (s.modPort p f).bob = s.bob := (rfl)
@[simp] theorem State.modPort_late (p : Nat) (f : PortSt → PortSt) : (s.modPort p f).late = s.late := (rfl)
@[simp] theorem State.modPort_seams (p : Nat) (f : PortSt → PortSt) : (s.modPort p f).seams = s.seams := (rfl)
@[simp] theorem State.modPort_fab (p : Nat) (f : PortSt → PortSt) : (s.modPort p f).fab = s.fab := (rfl)
@[simp] theorem State.modPort_spc (p : Nat) (f : PortSt → PortSt) : (s.modPort p f).spc = s.spc := (rfl)
@[simp] theorem State.modPort_sht (p : Nat) (f : PortSt → PortSt) : (s.modPort p f).sht = s.sht := (rfl)
@[simp] theorem State.modPort_ep (p : Nat) (f : PortSt → PortSt) : (s.modPort p f).ep = s.ep := (rfl)
@[simp] theorem State.modPort_stns (p : Nat) (f : PortSt → PortSt) : (s.modPort p f).stns = s.stns := (rfl)
@[simp] theorem State.modPort_pow (p : Nat) (f : PortSt → PortSt) : (s.modPort p f).pow = s.pow := (rfl)

/-! ### modVs -/

@[simp] theorem State.modVs_pending (v : Nat) (f : VsSt → VsSt) : (s.modVs v f).pending = s.pending := (rfl)
@[simp] theorem State.modVs_out (v : Nat) (f : VsSt → VsSt) : (s.modVs v f).out = s.out := (rfl)
@[simp] theorem State.modVs_clk (v : Nat) (f : VsSt → VsSt) : (s.modVs v f).clk = s.clk := (rfl)
@[simp] theorem State.modVs_regs (v : Nat) (f : VsSt → VsSt) : (s.modVs v f).regs = s.regs := (rfl)
@[simp] theorem State.modVs_evs (v : Nat) (f : VsSt → VsSt) : (s.modVs v f).evs = s.evs := (rfl)
@[simp] theorem State.modVs_cmd (v : Nat) (f : VsSt → VsSt) : (s.modVs v f).cmd = s.cmd := (rfl)
@[simp] theorem State.modVs_acl (v : Nat) (f : VsSt → VsSt) : (s.modVs v f).acl = s.acl := (rfl)
@[simp] theorem State.modVs_ports (v : Nat) (f : VsSt → VsSt) : (s.modVs v f).ports = s.ports := (rfl)
@[simp] theorem State.modVs_core (v : Nat) (f : VsSt → VsSt) : (s.modVs v f).core = s.core := (rfl)
@[simp] theorem State.modVs_tbl (v : Nat) (f : VsSt → VsSt) : (s.modVs v f).tbl = s.tbl := (rfl)
@[simp] theorem State.modVs_bob (v : Nat) (f : VsSt → VsSt) : (s.modVs v f).bob = s.bob := (rfl)
@[simp] theorem State.modVs_late (v : Nat) (f : VsSt → VsSt) : (s.modVs v f).late = s.late := (rfl)
@[simp] theorem State.modVs_seams (v : Nat) (f : VsSt → VsSt) : (s.modVs v f).seams = s.seams := (rfl)
@[simp] theorem State.modVs_fab (v : Nat) (f : VsSt → VsSt) : (s.modVs v f).fab = s.fab := (rfl)
@[simp] theorem State.modVs_spc (v : Nat) (f : VsSt → VsSt) : (s.modVs v f).spc = s.spc := (rfl)
@[simp] theorem State.modVs_sht (v : Nat) (f : VsSt → VsSt) : (s.modVs v f).sht = s.sht := (rfl)
@[simp] theorem State.modVs_ep (v : Nat) (f : VsSt → VsSt) : (s.modVs v f).ep = s.ep := (rfl)
@[simp] theorem State.modVs_stns (v : Nat) (f : VsSt → VsSt) : (s.modVs v f).stns = s.stns := (rfl)
@[simp] theorem State.modVs_pow (v : Nat) (f : VsSt → VsSt) : (s.modVs v f).pow = s.pow := (rfl)

/-! ### modBank -/

@[simp] theorem State.modBank_pending (b : Nat) (f : Bank → Bank) : (s.modBank b f).pending = s.pending := (rfl)
@[simp] theorem State.modBank_out (b : Nat) (f : Bank → Bank) : (s.modBank b f).out = s.out := (rfl)
@[simp] theorem State.modBank_clk (b : Nat) (f : Bank → Bank) : (s.modBank b f).clk = s.clk := (rfl)
@[simp] theorem State.modBank_regs (b : Nat) (f : Bank → Bank) : (s.modBank b f).regs = s.regs := (rfl)
@[simp] theorem State.modBank_evs (b : Nat) (f : Bank → Bank) : (s.modBank b f).evs = s.evs := (rfl)
@[simp] theorem State.modBank_cmd (b : Nat) (f : Bank → Bank) : (s.modBank b f).cmd = s.cmd := (rfl)
@[simp] theorem State.modBank_acl (b : Nat) (f : Bank → Bank) : (s.modBank b f).acl = s.acl := (rfl)
@[simp] theorem State.modBank_ports (b : Nat) (f : Bank → Bank) : (s.modBank b f).ports = s.ports := (rfl)
@[simp] theorem State.modBank_vss (b : Nat) (f : Bank → Bank) : (s.modBank b f).vss = s.vss := (rfl)
@[simp] theorem State.modBank_tbl (b : Nat) (f : Bank → Bank) : (s.modBank b f).tbl = s.tbl := (rfl)
@[simp] theorem State.modBank_bob (b : Nat) (f : Bank → Bank) : (s.modBank b f).bob = s.bob := (rfl)
@[simp] theorem State.modBank_late (b : Nat) (f : Bank → Bank) : (s.modBank b f).late = s.late := (rfl)
@[simp] theorem State.modBank_seams (b : Nat) (f : Bank → Bank) : (s.modBank b f).seams = s.seams := (rfl)
@[simp] theorem State.modBank_fab (b : Nat) (f : Bank → Bank) : (s.modBank b f).fab = s.fab := (rfl)
@[simp] theorem State.modBank_spc (b : Nat) (f : Bank → Bank) : (s.modBank b f).spc = s.spc := (rfl)
@[simp] theorem State.modBank_sht (b : Nat) (f : Bank → Bank) : (s.modBank b f).sht = s.sht := (rfl)
@[simp] theorem State.modBank_ep (b : Nat) (f : Bank → Bank) : (s.modBank b f).ep = s.ep := (rfl)
@[simp] theorem State.modBank_stns (b : Nat) (f : Bank → Bank) : (s.modBank b f).stns = s.stns := (rfl)
@[simp] theorem State.modBank_pow (b : Nat) (f : Bank → Bank) : (s.modBank b f).pow = s.pow := (rfl)

/-! ### modSeam -/

@[simp] theorem State.modSeam_pending (i : Nat) (f : SeamSt → SeamSt) : (s.modSeam i f).pending = s.pending := (rfl)
@[simp] theorem State.modSeam_out (i : Nat) (f : SeamSt → SeamSt) : (s.modSeam i f).out = s.out := (rfl)
@[simp] theorem State.modSeam_clk (i : Nat) (f : SeamSt → SeamSt) : (s.modSeam i f).clk = s.clk := (rfl)
@[simp] theorem State.modSeam_regs (i : Nat) (f : SeamSt → SeamSt) : (s.modSeam i f).regs = s.regs := (rfl)
@[simp] theorem State.modSeam_evs (i : Nat) (f : SeamSt → SeamSt) : (s.modSeam i f).evs = s.evs := (rfl)
@[simp] theorem State.modSeam_cmd (i : Nat) (f : SeamSt → SeamSt) : (s.modSeam i f).cmd = s.cmd := (rfl)
@[simp] theorem State.modSeam_acl (i : Nat) (f : SeamSt → SeamSt) : (s.modSeam i f).acl = s.acl := (rfl)
@[simp] theorem State.modSeam_ports (i : Nat) (f : SeamSt → SeamSt) : (s.modSeam i f).ports = s.ports := (rfl)
@[simp] theorem State.modSeam_vss (i : Nat) (f : SeamSt → SeamSt) : (s.modSeam i f).vss = s.vss := (rfl)
@[simp] theorem State.modSeam_core (i : Nat) (f : SeamSt → SeamSt) : (s.modSeam i f).core = s.core := (rfl)
@[simp] theorem State.modSeam_tbl (i : Nat) (f : SeamSt → SeamSt) : (s.modSeam i f).tbl = s.tbl := (rfl)
@[simp] theorem State.modSeam_bob (i : Nat) (f : SeamSt → SeamSt) : (s.modSeam i f).bob = s.bob := (rfl)
@[simp] theorem State.modSeam_late (i : Nat) (f : SeamSt → SeamSt) : (s.modSeam i f).late = s.late := (rfl)
@[simp] theorem State.modSeam_fab (i : Nat) (f : SeamSt → SeamSt) : (s.modSeam i f).fab = s.fab := (rfl)
@[simp] theorem State.modSeam_spc (i : Nat) (f : SeamSt → SeamSt) : (s.modSeam i f).spc = s.spc := (rfl)
@[simp] theorem State.modSeam_sht (i : Nat) (f : SeamSt → SeamSt) : (s.modSeam i f).sht = s.sht := (rfl)
@[simp] theorem State.modSeam_ep (i : Nat) (f : SeamSt → SeamSt) : (s.modSeam i f).ep = s.ep := (rfl)
@[simp] theorem State.modSeam_stns (i : Nat) (f : SeamSt → SeamSt) : (s.modSeam i f).stns = s.stns := (rfl)
@[simp] theorem State.modSeam_pow (i : Nat) (f : SeamSt → SeamSt) : (s.modSeam i f).pow = s.pow := (rfl)

/-! ### modChan -/

@[simp] theorem State.modChan_pending (c : Nat) (f : ChanSt → ChanSt) : (s.modChan c f).pending = s.pending := (rfl)
@[simp] theorem State.modChan_out (c : Nat) (f : ChanSt → ChanSt) : (s.modChan c f).out = s.out := (rfl)
@[simp] theorem State.modChan_clk (c : Nat) (f : ChanSt → ChanSt) : (s.modChan c f).clk = s.clk := (rfl)
@[simp] theorem State.modChan_regs (c : Nat) (f : ChanSt → ChanSt) : (s.modChan c f).regs = s.regs := (rfl)
@[simp] theorem State.modChan_evs (c : Nat) (f : ChanSt → ChanSt) : (s.modChan c f).evs = s.evs := (rfl)
@[simp] theorem State.modChan_acl (c : Nat) (f : ChanSt → ChanSt) : (s.modChan c f).acl = s.acl := (rfl)
@[simp] theorem State.modChan_ports (c : Nat) (f : ChanSt → ChanSt) : (s.modChan c f).ports = s.ports := (rfl)
@[simp] theorem State.modChan_vss (c : Nat) (f : ChanSt → ChanSt) : (s.modChan c f).vss = s.vss := (rfl)
@[simp] theorem State.modChan_core (c : Nat) (f : ChanSt → ChanSt) : (s.modChan c f).core = s.core := (rfl)
@[simp] theorem State.modChan_tbl (c : Nat) (f : ChanSt → ChanSt) : (s.modChan c f).tbl = s.tbl := (rfl)
@[simp] theorem State.modChan_bob (c : Nat) (f : ChanSt → ChanSt) : (s.modChan c f).bob = s.bob := (rfl)
@[simp] theorem State.modChan_late (c : Nat) (f : ChanSt → ChanSt) : (s.modChan c f).late = s.late := (rfl)
@[simp] theorem State.modChan_seams (c : Nat) (f : ChanSt → ChanSt) : (s.modChan c f).seams = s.seams := (rfl)
@[simp] theorem State.modChan_fab (c : Nat) (f : ChanSt → ChanSt) : (s.modChan c f).fab = s.fab := (rfl)
@[simp] theorem State.modChan_spc (c : Nat) (f : ChanSt → ChanSt) : (s.modChan c f).spc = s.spc := (rfl)
@[simp] theorem State.modChan_sht (c : Nat) (f : ChanSt → ChanSt) : (s.modChan c f).sht = s.sht := (rfl)
@[simp] theorem State.modChan_ep (c : Nat) (f : ChanSt → ChanSt) : (s.modChan c f).ep = s.ep := (rfl)
@[simp] theorem State.modChan_stns (c : Nat) (f : ChanSt → ChanSt) : (s.modChan c f).stns = s.stns := (rfl)
@[simp] theorem State.modChan_pow (c : Nat) (f : ChanSt → ChanSt) : (s.modChan c f).pow = s.pow := (rfl)

/-! ### modStn -/

@[simp] theorem State.modStn_pending (n : Nat) (f : StnSt → StnSt) : (s.modStn n f).pending = s.pending := (rfl)
@[simp] theorem State.modStn_out (n : Nat) (f : StnSt → StnSt) : (s.modStn n f).out = s.out := (rfl)
@[simp] theorem State.modStn_clk (n : Nat) (f : StnSt → StnSt) : (s.modStn n f).clk = s.clk := (rfl)
@[simp] theorem State.modStn_regs (n : Nat) (f : StnSt → StnSt) : (s.modStn n f).regs = s.regs := (rfl)
@[simp] theorem State.modStn_evs (n : Nat) (f : StnSt → StnSt) : (s.modStn n f).evs = s.evs := (rfl)
@[simp] theorem State.modStn_cmd (n : Nat) (f : StnSt → StnSt) : (s.modStn n f).cmd = s.cmd := (rfl)
@[simp] theorem State.modStn_acl (n : Nat) (f : StnSt → StnSt) : (s.modStn n f).acl = s.acl := (rfl)
@[simp] theorem State.modStn_ports (n : Nat) (f : StnSt → StnSt) : (s.modStn n f).ports = s.ports := (rfl)
@[simp] theorem State.modStn_vss (n : Nat) (f : StnSt → StnSt) : (s.modStn n f).vss = s.vss := (rfl)
@[simp] theorem State.modStn_core (n : Nat) (f : StnSt → StnSt) : (s.modStn n f).core = s.core := (rfl)
@[simp] theorem State.modStn_tbl (n : Nat) (f : StnSt → StnSt) : (s.modStn n f).tbl = s.tbl := (rfl)
@[simp] theorem State.modStn_bob (n : Nat) (f : StnSt → StnSt) : (s.modStn n f).bob = s.bob := (rfl)
@[simp] theorem State.modStn_late (n : Nat) (f : StnSt → StnSt) : (s.modStn n f).late = s.late := (rfl)
@[simp] theorem State.modStn_seams (n : Nat) (f : StnSt → StnSt) : (s.modStn n f).seams = s.seams := (rfl)
@[simp] theorem State.modStn_fab (n : Nat) (f : StnSt → StnSt) : (s.modStn n f).fab = s.fab := (rfl)
@[simp] theorem State.modStn_spc (n : Nat) (f : StnSt → StnSt) : (s.modStn n f).spc = s.spc := (rfl)
@[simp] theorem State.modStn_sht (n : Nat) (f : StnSt → StnSt) : (s.modStn n f).sht = s.sht := (rfl)
@[simp] theorem State.modStn_ep (n : Nat) (f : StnSt → StnSt) : (s.modStn n f).ep = s.ep := (rfl)
@[simp] theorem State.modStn_pow (n : Nat) (f : StnSt → StnSt) : (s.modStn n f).pow = s.pow := (rfl)

/-! ### modEng -/

@[simp] theorem State.modEng_pending (e : Nat) (f : BEng → BEng) : (s.modEng e f).pending = s.pending := (rfl)
@[simp] theorem State.modEng_out (e : Nat) (f : BEng → BEng) : (s.modEng e f).out = s.out := (rfl)
@[simp] theorem State.modEng_clk (e : Nat) (f : BEng → BEng) : (s.modEng e f).clk = s.clk := (rfl)
@[simp] theorem State.modEng_regs (e : Nat) (f : BEng → BEng) : (s.modEng e f).regs = s.regs := (rfl)
@[simp] theorem State.modEng_evs (e : Nat) (f : BEng → BEng) : (s.modEng e f).evs = s.evs := (rfl)
@[simp] theorem State.modEng_cmd (e : Nat) (f : BEng → BEng) : (s.modEng e f).cmd = s.cmd := (rfl)
@[simp] theorem State.modEng_acl (e : Nat) (f : BEng → BEng) : (s.modEng e f).acl = s.acl := (rfl)
@[simp] theorem State.modEng_ports (e : Nat) (f : BEng → BEng) : (s.modEng e f).ports = s.ports := (rfl)
@[simp] theorem State.modEng_vss (e : Nat) (f : BEng → BEng) : (s.modEng e f).vss = s.vss := (rfl)
@[simp] theorem State.modEng_core (e : Nat) (f : BEng → BEng) : (s.modEng e f).core = s.core := (rfl)
@[simp] theorem State.modEng_tbl (e : Nat) (f : BEng → BEng) : (s.modEng e f).tbl = s.tbl := (rfl)
@[simp] theorem State.modEng_late (e : Nat) (f : BEng → BEng) : (s.modEng e f).late = s.late := (rfl)
@[simp] theorem State.modEng_seams (e : Nat) (f : BEng → BEng) : (s.modEng e f).seams = s.seams := (rfl)
@[simp] theorem State.modEng_fab (e : Nat) (f : BEng → BEng) : (s.modEng e f).fab = s.fab := (rfl)
@[simp] theorem State.modEng_spc (e : Nat) (f : BEng → BEng) : (s.modEng e f).spc = s.spc := (rfl)
@[simp] theorem State.modEng_sht (e : Nat) (f : BEng → BEng) : (s.modEng e f).sht = s.sht := (rfl)
@[simp] theorem State.modEng_ep (e : Nat) (f : BEng → BEng) : (s.modEng e f).ep = s.ep := (rfl)
@[simp] theorem State.modEng_stns (e : Nat) (f : BEng → BEng) : (s.modEng e f).stns = s.stns := (rfl)
@[simp] theorem State.modEng_pow (e : Nat) (f : BEng → BEng) : (s.modEng e f).pow = s.pow := (rfl)

/-! ### modBstn -/

@[simp] theorem State.modBstn_pending (n : Nat) (f : BStn → BStn) : (s.modBstn n f).pending = s.pending := (rfl)
@[simp] theorem State.modBstn_out (n : Nat) (f : BStn → BStn) : (s.modBstn n f).out = s.out := (rfl)
@[simp] theorem State.modBstn_clk (n : Nat) (f : BStn → BStn) : (s.modBstn n f).clk = s.clk := (rfl)
@[simp] theorem State.modBstn_regs (n : Nat) (f : BStn → BStn) : (s.modBstn n f).regs = s.regs := (rfl)
@[simp] theorem State.modBstn_evs (n : Nat) (f : BStn → BStn) : (s.modBstn n f).evs = s.evs := (rfl)
@[simp] theorem State.modBstn_cmd (n : Nat) (f : BStn → BStn) : (s.modBstn n f).cmd = s.cmd := (rfl)
@[simp] theorem State.modBstn_acl (n : Nat) (f : BStn → BStn) : (s.modBstn n f).acl = s.acl := (rfl)
@[simp] theorem State.modBstn_ports (n : Nat) (f : BStn → BStn) : (s.modBstn n f).ports = s.ports := (rfl)
@[simp] theorem State.modBstn_vss (n : Nat) (f : BStn → BStn) : (s.modBstn n f).vss = s.vss := (rfl)
@[simp] theorem State.modBstn_core (n : Nat) (f : BStn → BStn) : (s.modBstn n f).core = s.core := (rfl)
@[simp] theorem State.modBstn_tbl (n : Nat) (f : BStn → BStn) : (s.modBstn n f).tbl = s.tbl := (rfl)
@[simp] theorem State.modBstn_late (n : Nat) (f : BStn → BStn) : (s.modBstn n f).late = s.late := (rfl)
@[simp] theorem State.modBstn_seams (n : Nat) (f : BStn → BStn) : (s.modBstn n f).seams = s.seams := (rfl)
@[simp] theorem State.modBstn_fab (n : Nat) (f : BStn → BStn) : (s.modBstn n f).fab = s.fab := (rfl)
@[simp] theorem State.modBstn_spc (n : Nat) (f : BStn → BStn) : (s.modBstn n f).spc = s.spc := (rfl)
@[simp] theorem State.modBstn_sht (n : Nat) (f : BStn → BStn) : (s.modBstn n f).sht = s.sht := (rfl)
@[simp] theorem State.modBstn_ep (n : Nat) (f : BStn → BStn) : (s.modBstn n f).ep = s.ep := (rfl)
@[simp] theorem State.modBstn_stns (n : Nat) (f : BStn → BStn) : (s.modBstn n f).stns = s.stns := (rfl)
@[simp] theorem State.modBstn_pow (n : Nat) (f : BStn → BStn) : (s.modBstn n f).pow = s.pow := (rfl)

/-! ### modThm -/

@[simp] theorem State.modThm_pending (n : Nat) (f : ThimbleSt → ThimbleSt) : (s.modThm n f).pending = s.pending := (rfl)
@[simp] theorem State.modThm_out (n : Nat) (f : ThimbleSt → ThimbleSt) : (s.modThm n f).out = s.out := (rfl)
@[simp] theorem State.modThm_clk (n : Nat) (f : ThimbleSt → ThimbleSt) : (s.modThm n f).clk = s.clk := (rfl)
@[simp] theorem State.modThm_regs (n : Nat) (f : ThimbleSt → ThimbleSt) : (s.modThm n f).regs = s.regs := (rfl)
@[simp] theorem State.modThm_evs (n : Nat) (f : ThimbleSt → ThimbleSt) : (s.modThm n f).evs = s.evs := (rfl)
@[simp] theorem State.modThm_cmd (n : Nat) (f : ThimbleSt → ThimbleSt) : (s.modThm n f).cmd = s.cmd := (rfl)
@[simp] theorem State.modThm_acl (n : Nat) (f : ThimbleSt → ThimbleSt) : (s.modThm n f).acl = s.acl := (rfl)
@[simp] theorem State.modThm_ports (n : Nat) (f : ThimbleSt → ThimbleSt) : (s.modThm n f).ports = s.ports := (rfl)
@[simp] theorem State.modThm_vss (n : Nat) (f : ThimbleSt → ThimbleSt) : (s.modThm n f).vss = s.vss := (rfl)
@[simp] theorem State.modThm_core (n : Nat) (f : ThimbleSt → ThimbleSt) : (s.modThm n f).core = s.core := (rfl)
@[simp] theorem State.modThm_tbl (n : Nat) (f : ThimbleSt → ThimbleSt) : (s.modThm n f).tbl = s.tbl := (rfl)
@[simp] theorem State.modThm_bob (n : Nat) (f : ThimbleSt → ThimbleSt) : (s.modThm n f).bob = s.bob := (rfl)
@[simp] theorem State.modThm_late (n : Nat) (f : ThimbleSt → ThimbleSt) : (s.modThm n f).late = s.late := (rfl)
@[simp] theorem State.modThm_seams (n : Nat) (f : ThimbleSt → ThimbleSt) : (s.modThm n f).seams = s.seams := (rfl)
@[simp] theorem State.modThm_fab (n : Nat) (f : ThimbleSt → ThimbleSt) : (s.modThm n f).fab = s.fab := (rfl)
@[simp] theorem State.modThm_spc (n : Nat) (f : ThimbleSt → ThimbleSt) : (s.modThm n f).spc = s.spc := (rfl)
@[simp] theorem State.modThm_sht (n : Nat) (f : ThimbleSt → ThimbleSt) : (s.modThm n f).sht = s.sht := (rfl)
@[simp] theorem State.modThm_stns (n : Nat) (f : ThimbleSt → ThimbleSt) : (s.modThm n f).stns = s.stns := (rfl)
@[simp] theorem State.modThm_pow (n : Nat) (f : ThimbleSt → ThimbleSt) : (s.modThm n f).pow = s.pow := (rfl)

/-! ### modPnl -/

@[simp] theorem State.modPnl_pending (n : Nat) (f : PanelSt → PanelSt) : (s.modPnl n f).pending = s.pending := (rfl)
@[simp] theorem State.modPnl_out (n : Nat) (f : PanelSt → PanelSt) : (s.modPnl n f).out = s.out := (rfl)
@[simp] theorem State.modPnl_clk (n : Nat) (f : PanelSt → PanelSt) : (s.modPnl n f).clk = s.clk := (rfl)
@[simp] theorem State.modPnl_regs (n : Nat) (f : PanelSt → PanelSt) : (s.modPnl n f).regs = s.regs := (rfl)
@[simp] theorem State.modPnl_evs (n : Nat) (f : PanelSt → PanelSt) : (s.modPnl n f).evs = s.evs := (rfl)
@[simp] theorem State.modPnl_cmd (n : Nat) (f : PanelSt → PanelSt) : (s.modPnl n f).cmd = s.cmd := (rfl)
@[simp] theorem State.modPnl_acl (n : Nat) (f : PanelSt → PanelSt) : (s.modPnl n f).acl = s.acl := (rfl)
@[simp] theorem State.modPnl_ports (n : Nat) (f : PanelSt → PanelSt) : (s.modPnl n f).ports = s.ports := (rfl)
@[simp] theorem State.modPnl_vss (n : Nat) (f : PanelSt → PanelSt) : (s.modPnl n f).vss = s.vss := (rfl)
@[simp] theorem State.modPnl_core (n : Nat) (f : PanelSt → PanelSt) : (s.modPnl n f).core = s.core := (rfl)
@[simp] theorem State.modPnl_tbl (n : Nat) (f : PanelSt → PanelSt) : (s.modPnl n f).tbl = s.tbl := (rfl)
@[simp] theorem State.modPnl_bob (n : Nat) (f : PanelSt → PanelSt) : (s.modPnl n f).bob = s.bob := (rfl)
@[simp] theorem State.modPnl_late (n : Nat) (f : PanelSt → PanelSt) : (s.modPnl n f).late = s.late := (rfl)
@[simp] theorem State.modPnl_seams (n : Nat) (f : PanelSt → PanelSt) : (s.modPnl n f).seams = s.seams := (rfl)
@[simp] theorem State.modPnl_fab (n : Nat) (f : PanelSt → PanelSt) : (s.modPnl n f).fab = s.fab := (rfl)
@[simp] theorem State.modPnl_spc (n : Nat) (f : PanelSt → PanelSt) : (s.modPnl n f).spc = s.spc := (rfl)
@[simp] theorem State.modPnl_ep (n : Nat) (f : PanelSt → PanelSt) : (s.modPnl n f).ep = s.ep := (rfl)
@[simp] theorem State.modPnl_stns (n : Nat) (f : PanelSt → PanelSt) : (s.modPnl n f).stns = s.stns := (rfl)
@[simp] theorem State.modPnl_pow (n : Nat) (f : PanelSt → PanelSt) : (s.modPnl n f).pow = s.pow := (rfl)

/-! ### modMover -/

@[simp] theorem State.modMover_pending (m : Nat) (f : MoverSt → MoverSt) : (s.modMover m f).pending = s.pending := (rfl)
@[simp] theorem State.modMover_out (m : Nat) (f : MoverSt → MoverSt) : (s.modMover m f).out = s.out := (rfl)
@[simp] theorem State.modMover_clk (m : Nat) (f : MoverSt → MoverSt) : (s.modMover m f).clk = s.clk := (rfl)
@[simp] theorem State.modMover_regs (m : Nat) (f : MoverSt → MoverSt) : (s.modMover m f).regs = s.regs := (rfl)
@[simp] theorem State.modMover_evs (m : Nat) (f : MoverSt → MoverSt) : (s.modMover m f).evs = s.evs := (rfl)
@[simp] theorem State.modMover_cmd (m : Nat) (f : MoverSt → MoverSt) : (s.modMover m f).cmd = s.cmd := (rfl)
@[simp] theorem State.modMover_acl (m : Nat) (f : MoverSt → MoverSt) : (s.modMover m f).acl = s.acl := (rfl)
@[simp] theorem State.modMover_ports (m : Nat) (f : MoverSt → MoverSt) : (s.modMover m f).ports = s.ports := (rfl)
@[simp] theorem State.modMover_vss (m : Nat) (f : MoverSt → MoverSt) : (s.modMover m f).vss = s.vss := (rfl)
@[simp] theorem State.modMover_core (m : Nat) (f : MoverSt → MoverSt) : (s.modMover m f).core = s.core := (rfl)
@[simp] theorem State.modMover_tbl (m : Nat) (f : MoverSt → MoverSt) : (s.modMover m f).tbl = s.tbl := (rfl)
@[simp] theorem State.modMover_bob (m : Nat) (f : MoverSt → MoverSt) : (s.modMover m f).bob = s.bob := (rfl)
@[simp] theorem State.modMover_late (m : Nat) (f : MoverSt → MoverSt) : (s.modMover m f).late = s.late := (rfl)
@[simp] theorem State.modMover_seams (m : Nat) (f : MoverSt → MoverSt) : (s.modMover m f).seams = s.seams := (rfl)
@[simp] theorem State.modMover_fab (m : Nat) (f : MoverSt → MoverSt) : (s.modMover m f).fab = s.fab := (rfl)
@[simp] theorem State.modMover_spc (m : Nat) (f : MoverSt → MoverSt) : (s.modMover m f).spc = s.spc := (rfl)
@[simp] theorem State.modMover_ep (m : Nat) (f : MoverSt → MoverSt) : (s.modMover m f).ep = s.ep := (rfl)
@[simp] theorem State.modMover_stns (m : Nat) (f : MoverSt → MoverSt) : (s.modMover m f).stns = s.stns := (rfl)
@[simp] theorem State.modMover_pow (m : Nat) (f : MoverSt → MoverSt) : (s.modMover m f).pow = s.pow := (rfl)

/-! ### modSpc -/

@[simp] theorem State.modSpc_pending (n : Nat) (f : SpcSt → SpcSt) : (s.modSpc n f).pending = s.pending := (rfl)
@[simp] theorem State.modSpc_out (n : Nat) (f : SpcSt → SpcSt) : (s.modSpc n f).out = s.out := (rfl)
@[simp] theorem State.modSpc_clk (n : Nat) (f : SpcSt → SpcSt) : (s.modSpc n f).clk = s.clk := (rfl)
@[simp] theorem State.modSpc_regs (n : Nat) (f : SpcSt → SpcSt) : (s.modSpc n f).regs = s.regs := (rfl)
@[simp] theorem State.modSpc_evs (n : Nat) (f : SpcSt → SpcSt) : (s.modSpc n f).evs = s.evs := (rfl)
@[simp] theorem State.modSpc_cmd (n : Nat) (f : SpcSt → SpcSt) : (s.modSpc n f).cmd = s.cmd := (rfl)
@[simp] theorem State.modSpc_acl (n : Nat) (f : SpcSt → SpcSt) : (s.modSpc n f).acl = s.acl := (rfl)
@[simp] theorem State.modSpc_ports (n : Nat) (f : SpcSt → SpcSt) : (s.modSpc n f).ports = s.ports := (rfl)
@[simp] theorem State.modSpc_vss (n : Nat) (f : SpcSt → SpcSt) : (s.modSpc n f).vss = s.vss := (rfl)
@[simp] theorem State.modSpc_core (n : Nat) (f : SpcSt → SpcSt) : (s.modSpc n f).core = s.core := (rfl)
@[simp] theorem State.modSpc_tbl (n : Nat) (f : SpcSt → SpcSt) : (s.modSpc n f).tbl = s.tbl := (rfl)
@[simp] theorem State.modSpc_bob (n : Nat) (f : SpcSt → SpcSt) : (s.modSpc n f).bob = s.bob := (rfl)
@[simp] theorem State.modSpc_late (n : Nat) (f : SpcSt → SpcSt) : (s.modSpc n f).late = s.late := (rfl)
@[simp] theorem State.modSpc_seams (n : Nat) (f : SpcSt → SpcSt) : (s.modSpc n f).seams = s.seams := (rfl)
@[simp] theorem State.modSpc_fab (n : Nat) (f : SpcSt → SpcSt) : (s.modSpc n f).fab = s.fab := (rfl)
@[simp] theorem State.modSpc_sht (n : Nat) (f : SpcSt → SpcSt) : (s.modSpc n f).sht = s.sht := (rfl)
@[simp] theorem State.modSpc_ep (n : Nat) (f : SpcSt → SpcSt) : (s.modSpc n f).ep = s.ep := (rfl)
@[simp] theorem State.modSpc_stns (n : Nat) (f : SpcSt → SpcSt) : (s.modSpc n f).stns = s.stns := (rfl)
@[simp] theorem State.modSpc_pow (n : Nat) (f : SpcSt → SpcSt) : (s.modSpc n f).pow = s.pow := (rfl)

/-! ### emit -/

@[simp] theorem State.emit_pending (o : Output) : (s.emit o).pending = s.pending := (rfl)
@[simp] theorem State.emit_clk (o : Output) : (s.emit o).clk = s.clk := (rfl)
@[simp] theorem State.emit_regs (o : Output) : (s.emit o).regs = s.regs := (rfl)
@[simp] theorem State.emit_evs (o : Output) : (s.emit o).evs = s.evs := (rfl)
@[simp] theorem State.emit_cmd (o : Output) : (s.emit o).cmd = s.cmd := (rfl)
@[simp] theorem State.emit_acl (o : Output) : (s.emit o).acl = s.acl := (rfl)
@[simp] theorem State.emit_ports (o : Output) : (s.emit o).ports = s.ports := (rfl)
@[simp] theorem State.emit_vss (o : Output) : (s.emit o).vss = s.vss := (rfl)
@[simp] theorem State.emit_core (o : Output) : (s.emit o).core = s.core := (rfl)
@[simp] theorem State.emit_tbl (o : Output) : (s.emit o).tbl = s.tbl := (rfl)
@[simp] theorem State.emit_bob (o : Output) : (s.emit o).bob = s.bob := (rfl)
@[simp] theorem State.emit_late (o : Output) : (s.emit o).late = s.late := (rfl)
@[simp] theorem State.emit_seams (o : Output) : (s.emit o).seams = s.seams := (rfl)
@[simp] theorem State.emit_fab (o : Output) : (s.emit o).fab = s.fab := (rfl)
@[simp] theorem State.emit_spc (o : Output) : (s.emit o).spc = s.spc := (rfl)
@[simp] theorem State.emit_sht (o : Output) : (s.emit o).sht = s.sht := (rfl)
@[simp] theorem State.emit_ep (o : Output) : (s.emit o).ep = s.ep := (rfl)
@[simp] theorem State.emit_stns (o : Output) : (s.emit o).stns = s.stns := (rfl)
@[simp] theorem State.emit_pow (o : Output) : (s.emit o).pow = s.pow := (rfl)

/-! ### nextFree -/

@[simp] theorem State.nextFree_pending : (s.nextFree).pending = s.pending := (rfl)
@[simp] theorem State.nextFree_out : (s.nextFree).out = s.out := (rfl)
@[simp] theorem State.nextFree_regs : (s.nextFree).regs = s.regs := (rfl)
@[simp] theorem State.nextFree_evs : (s.nextFree).evs = s.evs := (rfl)
@[simp] theorem State.nextFree_cmd : (s.nextFree).cmd = s.cmd := (rfl)
@[simp] theorem State.nextFree_acl : (s.nextFree).acl = s.acl := (rfl)
@[simp] theorem State.nextFree_ports : (s.nextFree).ports = s.ports := (rfl)
@[simp] theorem State.nextFree_vss : (s.nextFree).vss = s.vss := (rfl)
@[simp] theorem State.nextFree_core : (s.nextFree).core = s.core := (rfl)
@[simp] theorem State.nextFree_tbl : (s.nextFree).tbl = s.tbl := (rfl)
@[simp] theorem State.nextFree_bob : (s.nextFree).bob = s.bob := (rfl)
@[simp] theorem State.nextFree_late : (s.nextFree).late = s.late := (rfl)
@[simp] theorem State.nextFree_seams : (s.nextFree).seams = s.seams := (rfl)
@[simp] theorem State.nextFree_fab : (s.nextFree).fab = s.fab := (rfl)
@[simp] theorem State.nextFree_spc : (s.nextFree).spc = s.spc := (rfl)
@[simp] theorem State.nextFree_sht : (s.nextFree).sht = s.sht := (rfl)
@[simp] theorem State.nextFree_ep : (s.nextFree).ep = s.ep := (rfl)
@[simp] theorem State.nextFree_stns : (s.nextFree).stns = s.stns := (rfl)
@[simp] theorem State.nextFree_pow : (s.nextFree).pow = s.pow := (rfl)

/-! ### raiseF -/

@[simp] theorem State.raiseF_pending (src code sev scope flags : Nat) (l : List Nat) : (s.raiseF src code sev scope flags l).pending = s.pending := (rfl)
@[simp] theorem State.raiseF_out (src code sev scope flags : Nat) (l : List Nat) : (s.raiseF src code sev scope flags l).out = s.out := (rfl)
@[simp] theorem State.raiseF_clk (src code sev scope flags : Nat) (l : List Nat) : (s.raiseF src code sev scope flags l).clk = s.clk := (rfl)
@[simp] theorem State.raiseF_regs (src code sev scope flags : Nat) (l : List Nat) : (s.raiseF src code sev scope flags l).regs = s.regs := (rfl)
@[simp] theorem State.raiseF_cmd (src code sev scope flags : Nat) (l : List Nat) : (s.raiseF src code sev scope flags l).cmd = s.cmd := (rfl)
@[simp] theorem State.raiseF_acl (src code sev scope flags : Nat) (l : List Nat) : (s.raiseF src code sev scope flags l).acl = s.acl := (rfl)
@[simp] theorem State.raiseF_ports (src code sev scope flags : Nat) (l : List Nat) : (s.raiseF src code sev scope flags l).ports = s.ports := (rfl)
@[simp] theorem State.raiseF_vss (src code sev scope flags : Nat) (l : List Nat) : (s.raiseF src code sev scope flags l).vss = s.vss := (rfl)
@[simp] theorem State.raiseF_core (src code sev scope flags : Nat) (l : List Nat) : (s.raiseF src code sev scope flags l).core = s.core := (rfl)
@[simp] theorem State.raiseF_tbl (src code sev scope flags : Nat) (l : List Nat) : (s.raiseF src code sev scope flags l).tbl = s.tbl := (rfl)
@[simp] theorem State.raiseF_bob (src code sev scope flags : Nat) (l : List Nat) : (s.raiseF src code sev scope flags l).bob = s.bob := (rfl)
@[simp] theorem State.raiseF_late (src code sev scope flags : Nat) (l : List Nat) : (s.raiseF src code sev scope flags l).late = s.late := (rfl)
@[simp] theorem State.raiseF_seams (src code sev scope flags : Nat) (l : List Nat) : (s.raiseF src code sev scope flags l).seams = s.seams := (rfl)
@[simp] theorem State.raiseF_fab (src code sev scope flags : Nat) (l : List Nat) : (s.raiseF src code sev scope flags l).fab = s.fab := (rfl)
@[simp] theorem State.raiseF_spc (src code sev scope flags : Nat) (l : List Nat) : (s.raiseF src code sev scope flags l).spc = s.spc := (rfl)
@[simp] theorem State.raiseF_sht (src code sev scope flags : Nat) (l : List Nat) : (s.raiseF src code sev scope flags l).sht = s.sht := (rfl)
@[simp] theorem State.raiseF_ep (src code sev scope flags : Nat) (l : List Nat) : (s.raiseF src code sev scope flags l).ep = s.ep := (rfl)
@[simp] theorem State.raiseF_stns (src code sev scope flags : Nat) (l : List Nat) : (s.raiseF src code sev scope flags l).stns = s.stns := (rfl)
@[simp] theorem State.raiseF_pow (src code sev scope flags : Nat) (l : List Nat) : (s.raiseF src code sev scope flags l).pow = s.pow := (rfl)

/-! ### raise -/

@[simp] theorem State.raise_pending (src code sev scope : Nat) (l : List Nat) : (s.raise src code sev scope l).pending = s.pending := (rfl)
@[simp] theorem State.raise_out (src code sev scope : Nat) (l : List Nat) : (s.raise src code sev scope l).out = s.out := (rfl)
@[simp] theorem State.raise_clk (src code sev scope : Nat) (l : List Nat) : (s.raise src code sev scope l).clk = s.clk := (rfl)
@[simp] theorem State.raise_regs (src code sev scope : Nat) (l : List Nat) : (s.raise src code sev scope l).regs = s.regs := (rfl)
@[simp] theorem State.raise_cmd (src code sev scope : Nat) (l : List Nat) : (s.raise src code sev scope l).cmd = s.cmd := (rfl)
@[simp] theorem State.raise_acl (src code sev scope : Nat) (l : List Nat) : (s.raise src code sev scope l).acl = s.acl := (rfl)
@[simp] theorem State.raise_ports (src code sev scope : Nat) (l : List Nat) : (s.raise src code sev scope l).ports = s.ports := (rfl)
@[simp] theorem State.raise_vss (src code sev scope : Nat) (l : List Nat) : (s.raise src code sev scope l).vss = s.vss := (rfl)
@[simp] theorem State.raise_core (src code sev scope : Nat) (l : List Nat) : (s.raise src code sev scope l).core = s.core := (rfl)
@[simp] theorem State.raise_tbl (src code sev scope : Nat) (l : List Nat) : (s.raise src code sev scope l).tbl = s.tbl := (rfl)
@[simp] theorem State.raise_bob (src code sev scope : Nat) (l : List Nat) : (s.raise src code sev scope l).bob = s.bob := (rfl)
@[simp] theorem State.raise_late (src code sev scope : Nat) (l : List Nat) : (s.raise src code sev scope l).late = s.late := (rfl)
@[simp] theorem State.raise_seams (src code sev scope : Nat) (l : List Nat) : (s.raise src code sev scope l).seams = s.seams := (rfl)
@[simp] theorem State.raise_fab (src code sev scope : Nat) (l : List Nat) : (s.raise src code sev scope l).fab = s.fab := (rfl)
@[simp] theorem State.raise_spc (src code sev scope : Nat) (l : List Nat) : (s.raise src code sev scope l).spc = s.spc := (rfl)
@[simp] theorem State.raise_sht (src code sev scope : Nat) (l : List Nat) : (s.raise src code sev scope l).sht = s.sht := (rfl)
@[simp] theorem State.raise_ep (src code sev scope : Nat) (l : List Nat) : (s.raise src code sev scope l).ep = s.ep := (rfl)
@[simp] theorem State.raise_stns (src code sev scope : Nat) (l : List Nat) : (s.raise src code sev scope l).stns = s.stns := (rfl)
@[simp] theorem State.raise_pow (src code sev scope : Nat) (l : List Nat) : (s.raise src code sev scope l).pow = s.pow := (rfl)

/-! ### What an entry reads as after an update -/

@[simp] theorem State.modPort_port (i j : Nat) (f : PortSt → PortSt) : (s.modPort i f).port j = if j = i then f (s.port i) else s.port j := by
  simp only [State.port, State.modPort, SMap.get_set]
@[simp] theorem State.modVs_vs (i j : Nat) (f : VsSt → VsSt) : (s.modVs i f).vs j = if j = i then f (s.vs i) else s.vs j := by
  simp only [State.vs, State.modVs, SMap.get_set]
@[simp] theorem State.modBank_bank (i j : Nat) (f : Bank → Bank) : (s.modBank i f).bank j = if j = i then f (s.bank i) else s.bank j := by
  simp only [State.bank, State.modBank, SMap.get_set]
@[simp] theorem State.modSeam_seam (i j : Nat) (f : SeamSt → SeamSt) : (s.modSeam i f).seam j = if j = i then f (s.seam i) else s.seam j := by
  simp only [State.seam, State.modSeam, SMap.get_set]
@[simp] theorem State.modChan_chan (i j : Nat) (f : ChanSt → ChanSt) : (s.modChan i f).chan j = if j = i then f (s.chan i) else s.chan j := by
  simp only [State.chan, State.modChan, SMap.get_set]
@[simp] theorem State.modStn_stn (i j : Nat) (f : StnSt → StnSt) : (s.modStn i f).stn j = if j = i then f (s.stn i) else s.stn j := by
  simp only [State.stn, State.modStn, SMap.get_set]
@[simp] theorem State.modEng_eng (i j : Nat) (f : BEng → BEng) : (s.modEng i f).eng j = if j = i then f (s.eng i) else s.eng j := by
  simp only [State.eng, State.modEng, SMap.get_set]
@[simp] theorem State.modBstn_bstn (i j : Nat) (f : BStn → BStn) : (s.modBstn i f).bstn j = if j = i then f (s.bstn i) else s.bstn j := by
  simp only [State.bstn, State.modBstn, SMap.get_set]
@[simp] theorem State.modThm_thm (i j : Nat) (f : ThimbleSt → ThimbleSt) : (s.modThm i f).thm j = if j = i then f (s.thm i) else s.thm j := by
  simp only [State.thm, State.modThm, SMap.get_set]
@[simp] theorem State.modPnl_pnl (i j : Nat) (f : PanelSt → PanelSt) : (s.modPnl i f).pnl j = if j = i then f (s.pnl i) else s.pnl j := by
  simp only [State.pnl, State.modPnl, SMap.get_set]
@[simp] theorem State.modMover_mover (i j : Nat) (f : MoverSt → MoverSt) : (s.modMover i f).mover j = if j = i then f (s.mover i) else s.mover j := by
  simp only [State.mover, State.modMover, SMap.get_set]
@[simp] theorem State.modSpc_spcSt (i j : Nat) (f : SpcSt → SpcSt) : (s.modSpc i f).spcSt j = if j = i then f (s.spcSt i) else s.spcSt j := by
  simp only [State.spcSt, State.modSpc, SMap.get_set]

/-! ### What an entry depends on: only its own part of the state -/

theorem State.port_congr {t : State} (h : s.ports = t.ports) (i : Nat) : s.port i = t.port i := by simp only [State.port, h]
theorem State.vs_congr {t : State} (h : s.vss = t.vss) (i : Nat) : s.vs i = t.vs i := by simp only [State.vs, h]
theorem State.bank_congr {t : State} (h : s.core = t.core) (i : Nat) : s.bank i = t.bank i := by simp only [State.bank, h]
theorem State.seam_congr {t : State} (h : s.seams = t.seams) (i : Nat) : s.seam i = t.seam i := by simp only [State.seam, h]
theorem State.chan_congr {t : State} (h : s.cmd = t.cmd) (i : Nat) : s.chan i = t.chan i := by simp only [State.chan, h]
theorem State.stn_congr {t : State} (h : s.stns = t.stns) (i : Nat) : s.stn i = t.stn i := by simp only [State.stn, h]
theorem State.eng_congr {t : State} (h : s.bob = t.bob) (i : Nat) : s.eng i = t.eng i := by simp only [State.eng, h]
theorem State.bstn_congr {t : State} (h : s.bob = t.bob) (i : Nat) : s.bstn i = t.bstn i := by simp only [State.bstn, h]
theorem State.thm_congr {t : State} (h : s.ep = t.ep) (i : Nat) : s.thm i = t.thm i := by simp only [State.thm, h]
theorem State.pnl_congr {t : State} (h : s.sht = t.sht) (i : Nat) : s.pnl i = t.pnl i := by simp only [State.pnl, h]
theorem State.mover_congr {t : State} (h : s.sht = t.sht) (i : Nat) : s.mover i = t.mover i := by simp only [State.mover, h]
theorem State.spcSt_congr {t : State} (h : s.spc = t.spc) (i : Nat) : s.spcSt i = t.spcSt i := by simp only [State.spcSt, h]
theorem State.reg_congr {t : State} (h : s.regs = t.regs) (a : Nat) : s.reg a = t.reg a := by simp only [State.reg, h]
theorem State.get_congr {t : State} (h : s.regs = t.regs) (f : Fld) : s.get f = t.get f := by simp only [State.get, State.reg, h]
theorem State.flag_congr {t : State} (h : s.regs = t.regs) (f : Fld) : s.flag f = t.flag f := by simp only [State.flag, State.get, State.reg, h]

/-! ### Entries after an update of another part -/

@[simp] theorem State.setReg_port (a : Nat) (v : B32) (j : Nat) : (s.setReg a v).port j = s.port j := State.port_congr _ rfl j
@[simp] theorem State.setReg_vs (a : Nat) (v : B32) (j : Nat) : (s.setReg a v).vs j = s.vs j := State.vs_congr _ rfl j
@[simp] theorem State.setReg_bank (a : Nat) (v : B32) (j : Nat) : (s.setReg a v).bank j = s.bank j := State.bank_congr _ rfl j
@[simp] theorem State.setReg_seam (a : Nat) (v : B32) (j : Nat) : (s.setReg a v).seam j = s.seam j := State.seam_congr _ rfl j
@[simp] theorem State.setReg_chan (a : Nat) (v : B32) (j : Nat) : (s.setReg a v).chan j = s.chan j := State.chan_congr _ rfl j
@[simp] theorem State.setReg_stn (a : Nat) (v : B32) (j : Nat) : (s.setReg a v).stn j = s.stn j := State.stn_congr _ rfl j
@[simp] theorem State.setReg_eng (a : Nat) (v : B32) (j : Nat) : (s.setReg a v).eng j = s.eng j := State.eng_congr _ rfl j
@[simp] theorem State.setReg_bstn (a : Nat) (v : B32) (j : Nat) : (s.setReg a v).bstn j = s.bstn j := State.bstn_congr _ rfl j
@[simp] theorem State.setReg_thm (a : Nat) (v : B32) (j : Nat) : (s.setReg a v).thm j = s.thm j := State.thm_congr _ rfl j
@[simp] theorem State.setReg_pnl (a : Nat) (v : B32) (j : Nat) : (s.setReg a v).pnl j = s.pnl j := State.pnl_congr _ rfl j
@[simp] theorem State.setReg_mover (a : Nat) (v : B32) (j : Nat) : (s.setReg a v).mover j = s.mover j := State.mover_congr _ rfl j
@[simp] theorem State.setReg_spcSt (a : Nat) (v : B32) (j : Nat) : (s.setReg a v).spcSt j = s.spcSt j := State.spcSt_congr _ rfl j
@[simp] theorem State.put_port (x : Fld) (v : Nat) (j : Nat) : (s.put x v).port j = s.port j := State.port_congr _ rfl j
@[simp] theorem State.put_vs (x : Fld) (v : Nat) (j : Nat) : (s.put x v).vs j = s.vs j := State.vs_congr _ rfl j
@[simp] theorem State.put_bank (x : Fld) (v : Nat) (j : Nat) : (s.put x v).bank j = s.bank j := State.bank_congr _ rfl j
@[simp] theorem State.put_seam (x : Fld) (v : Nat) (j : Nat) : (s.put x v).seam j = s.seam j := State.seam_congr _ rfl j
@[simp] theorem State.put_chan (x : Fld) (v : Nat) (j : Nat) : (s.put x v).chan j = s.chan j := State.chan_congr _ rfl j
@[simp] theorem State.put_stn (x : Fld) (v : Nat) (j : Nat) : (s.put x v).stn j = s.stn j := State.stn_congr _ rfl j
@[simp] theorem State.put_eng (x : Fld) (v : Nat) (j : Nat) : (s.put x v).eng j = s.eng j := State.eng_congr _ rfl j
@[simp] theorem State.put_bstn (x : Fld) (v : Nat) (j : Nat) : (s.put x v).bstn j = s.bstn j := State.bstn_congr _ rfl j
@[simp] theorem State.put_thm (x : Fld) (v : Nat) (j : Nat) : (s.put x v).thm j = s.thm j := State.thm_congr _ rfl j
@[simp] theorem State.put_pnl (x : Fld) (v : Nat) (j : Nat) : (s.put x v).pnl j = s.pnl j := State.pnl_congr _ rfl j
@[simp] theorem State.put_mover (x : Fld) (v : Nat) (j : Nat) : (s.put x v).mover j = s.mover j := State.mover_congr _ rfl j
@[simp] theorem State.put_spcSt (x : Fld) (v : Nat) (j : Nat) : (s.put x v).spcSt j = s.spcSt j := State.spcSt_congr _ rfl j
@[simp] theorem State.putB_port (x : Fld) (b : Bool) (j : Nat) : (s.putB x b).port j = s.port j := State.port_congr _ rfl j
@[simp] theorem State.putB_vs (x : Fld) (b : Bool) (j : Nat) : (s.putB x b).vs j = s.vs j := State.vs_congr _ rfl j
@[simp] theorem State.putB_bank (x : Fld) (b : Bool) (j : Nat) : (s.putB x b).bank j = s.bank j := State.bank_congr _ rfl j
@[simp] theorem State.putB_seam (x : Fld) (b : Bool) (j : Nat) : (s.putB x b).seam j = s.seam j := State.seam_congr _ rfl j
@[simp] theorem State.putB_chan (x : Fld) (b : Bool) (j : Nat) : (s.putB x b).chan j = s.chan j := State.chan_congr _ rfl j
@[simp] theorem State.putB_stn (x : Fld) (b : Bool) (j : Nat) : (s.putB x b).stn j = s.stn j := State.stn_congr _ rfl j
@[simp] theorem State.putB_eng (x : Fld) (b : Bool) (j : Nat) : (s.putB x b).eng j = s.eng j := State.eng_congr _ rfl j
@[simp] theorem State.putB_bstn (x : Fld) (b : Bool) (j : Nat) : (s.putB x b).bstn j = s.bstn j := State.bstn_congr _ rfl j
@[simp] theorem State.putB_thm (x : Fld) (b : Bool) (j : Nat) : (s.putB x b).thm j = s.thm j := State.thm_congr _ rfl j
@[simp] theorem State.putB_pnl (x : Fld) (b : Bool) (j : Nat) : (s.putB x b).pnl j = s.pnl j := State.pnl_congr _ rfl j
@[simp] theorem State.putB_mover (x : Fld) (b : Bool) (j : Nat) : (s.putB x b).mover j = s.mover j := State.mover_congr _ rfl j
@[simp] theorem State.putB_spcSt (x : Fld) (b : Bool) (j : Nat) : (s.putB x b).spcSt j = s.spcSt j := State.spcSt_congr _ rfl j
@[simp] theorem State.bumpN_port (x : Fld) (n : Nat) (j : Nat) : (s.bumpN x n).port j = s.port j := State.port_congr _ rfl j
@[simp] theorem State.bumpN_vs (x : Fld) (n : Nat) (j : Nat) : (s.bumpN x n).vs j = s.vs j := State.vs_congr _ rfl j
@[simp] theorem State.bumpN_bank (x : Fld) (n : Nat) (j : Nat) : (s.bumpN x n).bank j = s.bank j := State.bank_congr _ rfl j
@[simp] theorem State.bumpN_seam (x : Fld) (n : Nat) (j : Nat) : (s.bumpN x n).seam j = s.seam j := State.seam_congr _ rfl j
@[simp] theorem State.bumpN_chan (x : Fld) (n : Nat) (j : Nat) : (s.bumpN x n).chan j = s.chan j := State.chan_congr _ rfl j
@[simp] theorem State.bumpN_stn (x : Fld) (n : Nat) (j : Nat) : (s.bumpN x n).stn j = s.stn j := State.stn_congr _ rfl j
@[simp] theorem State.bumpN_eng (x : Fld) (n : Nat) (j : Nat) : (s.bumpN x n).eng j = s.eng j := State.eng_congr _ rfl j
@[simp] theorem State.bumpN_bstn (x : Fld) (n : Nat) (j : Nat) : (s.bumpN x n).bstn j = s.bstn j := State.bstn_congr _ rfl j
@[simp] theorem State.bumpN_thm (x : Fld) (n : Nat) (j : Nat) : (s.bumpN x n).thm j = s.thm j := State.thm_congr _ rfl j
@[simp] theorem State.bumpN_pnl (x : Fld) (n : Nat) (j : Nat) : (s.bumpN x n).pnl j = s.pnl j := State.pnl_congr _ rfl j
@[simp] theorem State.bumpN_mover (x : Fld) (n : Nat) (j : Nat) : (s.bumpN x n).mover j = s.mover j := State.mover_congr _ rfl j
@[simp] theorem State.bumpN_spcSt (x : Fld) (n : Nat) (j : Nat) : (s.bumpN x n).spcSt j = s.spcSt j := State.spcSt_congr _ rfl j
@[simp] theorem State.bump_port (x : Fld) (j : Nat) : (s.bump x).port j = s.port j := State.port_congr _ rfl j
@[simp] theorem State.bump_vs (x : Fld) (j : Nat) : (s.bump x).vs j = s.vs j := State.vs_congr _ rfl j
@[simp] theorem State.bump_bank (x : Fld) (j : Nat) : (s.bump x).bank j = s.bank j := State.bank_congr _ rfl j
@[simp] theorem State.bump_seam (x : Fld) (j : Nat) : (s.bump x).seam j = s.seam j := State.seam_congr _ rfl j
@[simp] theorem State.bump_chan (x : Fld) (j : Nat) : (s.bump x).chan j = s.chan j := State.chan_congr _ rfl j
@[simp] theorem State.bump_stn (x : Fld) (j : Nat) : (s.bump x).stn j = s.stn j := State.stn_congr _ rfl j
@[simp] theorem State.bump_eng (x : Fld) (j : Nat) : (s.bump x).eng j = s.eng j := State.eng_congr _ rfl j
@[simp] theorem State.bump_bstn (x : Fld) (j : Nat) : (s.bump x).bstn j = s.bstn j := State.bstn_congr _ rfl j
@[simp] theorem State.bump_thm (x : Fld) (j : Nat) : (s.bump x).thm j = s.thm j := State.thm_congr _ rfl j
@[simp] theorem State.bump_pnl (x : Fld) (j : Nat) : (s.bump x).pnl j = s.pnl j := State.pnl_congr _ rfl j
@[simp] theorem State.bump_mover (x : Fld) (j : Nat) : (s.bump x).mover j = s.mover j := State.mover_congr _ rfl j
@[simp] theorem State.bump_spcSt (x : Fld) (j : Nat) : (s.bump x).spcSt j = s.spcSt j := State.spcSt_congr _ rfl j
@[simp] theorem State.bumpWrap_port (x : Fld) (n : Nat) (j : Nat) : (s.bumpWrap x n).port j = s.port j := State.port_congr _ rfl j
@[simp] theorem State.bumpWrap_vs (x : Fld) (n : Nat) (j : Nat) : (s.bumpWrap x n).vs j = s.vs j := State.vs_congr _ rfl j
@[simp] theorem State.bumpWrap_bank (x : Fld) (n : Nat) (j : Nat) : (s.bumpWrap x n).bank j = s.bank j := State.bank_congr _ rfl j
@[simp] theorem State.bumpWrap_seam (x : Fld) (n : Nat) (j : Nat) : (s.bumpWrap x n).seam j = s.seam j := State.seam_congr _ rfl j
@[simp] theorem State.bumpWrap_chan (x : Fld) (n : Nat) (j : Nat) : (s.bumpWrap x n).chan j = s.chan j := State.chan_congr _ rfl j
@[simp] theorem State.bumpWrap_stn (x : Fld) (n : Nat) (j : Nat) : (s.bumpWrap x n).stn j = s.stn j := State.stn_congr _ rfl j
@[simp] theorem State.bumpWrap_eng (x : Fld) (n : Nat) (j : Nat) : (s.bumpWrap x n).eng j = s.eng j := State.eng_congr _ rfl j
@[simp] theorem State.bumpWrap_bstn (x : Fld) (n : Nat) (j : Nat) : (s.bumpWrap x n).bstn j = s.bstn j := State.bstn_congr _ rfl j
@[simp] theorem State.bumpWrap_thm (x : Fld) (n : Nat) (j : Nat) : (s.bumpWrap x n).thm j = s.thm j := State.thm_congr _ rfl j
@[simp] theorem State.bumpWrap_pnl (x : Fld) (n : Nat) (j : Nat) : (s.bumpWrap x n).pnl j = s.pnl j := State.pnl_congr _ rfl j
@[simp] theorem State.bumpWrap_mover (x : Fld) (n : Nat) (j : Nat) : (s.bumpWrap x n).mover j = s.mover j := State.mover_congr _ rfl j
@[simp] theorem State.bumpWrap_spcSt (x : Fld) (n : Nat) (j : Nat) : (s.bumpWrap x n).spcSt j = s.spcSt j := State.spcSt_congr _ rfl j
@[simp] theorem State.modPort_vs (p : Nat) (x : PortSt → PortSt) (j : Nat) : (s.modPort p x).vs j = s.vs j := State.vs_congr _ rfl j
@[simp] theorem State.modPort_bank (p : Nat) (x : PortSt → PortSt) (j : Nat) : (s.modPort p x).bank j = s.bank j := State.bank_congr _ rfl j
@[simp] theorem State.modPort_seam (p : Nat) (x : PortSt → PortSt) (j : Nat) : (s.modPort p x).seam j = s.seam j := State.seam_congr _ rfl j
@[simp] theorem State.modPort_chan (p : Nat) (x : PortSt → PortSt) (j : Nat) : (s.modPort p x).chan j = s.chan j := State.chan_congr _ rfl j
@[simp] theorem State.modPort_stn (p : Nat) (x : PortSt → PortSt) (j : Nat) : (s.modPort p x).stn j = s.stn j := State.stn_congr _ rfl j
@[simp] theorem State.modPort_eng (p : Nat) (x : PortSt → PortSt) (j : Nat) : (s.modPort p x).eng j = s.eng j := State.eng_congr _ rfl j
@[simp] theorem State.modPort_bstn (p : Nat) (x : PortSt → PortSt) (j : Nat) : (s.modPort p x).bstn j = s.bstn j := State.bstn_congr _ rfl j
@[simp] theorem State.modPort_thm (p : Nat) (x : PortSt → PortSt) (j : Nat) : (s.modPort p x).thm j = s.thm j := State.thm_congr _ rfl j
@[simp] theorem State.modPort_pnl (p : Nat) (x : PortSt → PortSt) (j : Nat) : (s.modPort p x).pnl j = s.pnl j := State.pnl_congr _ rfl j
@[simp] theorem State.modPort_mover (p : Nat) (x : PortSt → PortSt) (j : Nat) : (s.modPort p x).mover j = s.mover j := State.mover_congr _ rfl j
@[simp] theorem State.modPort_spcSt (p : Nat) (x : PortSt → PortSt) (j : Nat) : (s.modPort p x).spcSt j = s.spcSt j := State.spcSt_congr _ rfl j
@[simp] theorem State.modPort_reg (p : Nat) (x : PortSt → PortSt) (j : Nat) : (s.modPort p x).reg j = s.reg j := State.reg_congr _ rfl j
@[simp] theorem State.modPort_get (p : Nat) (x : PortSt → PortSt) (j : Fld) : (s.modPort p x).get j = s.get j := State.get_congr _ rfl j
@[simp] theorem State.modPort_flag (p : Nat) (x : PortSt → PortSt) (j : Fld) : (s.modPort p x).flag j = s.flag j := State.flag_congr _ rfl j
@[simp] theorem State.modVs_port (v : Nat) (x : VsSt → VsSt) (j : Nat) : (s.modVs v x).port j = s.port j := State.port_congr _ rfl j
@[simp] theorem State.modVs_bank (v : Nat) (x : VsSt → VsSt) (j : Nat) : (s.modVs v x).bank j = s.bank j := State.bank_congr _ rfl j
@[simp] theorem State.modVs_seam (v : Nat) (x : VsSt → VsSt) (j : Nat) : (s.modVs v x).seam j = s.seam j := State.seam_congr _ rfl j
@[simp] theorem State.modVs_chan (v : Nat) (x : VsSt → VsSt) (j : Nat) : (s.modVs v x).chan j = s.chan j := State.chan_congr _ rfl j
@[simp] theorem State.modVs_stn (v : Nat) (x : VsSt → VsSt) (j : Nat) : (s.modVs v x).stn j = s.stn j := State.stn_congr _ rfl j
@[simp] theorem State.modVs_eng (v : Nat) (x : VsSt → VsSt) (j : Nat) : (s.modVs v x).eng j = s.eng j := State.eng_congr _ rfl j
@[simp] theorem State.modVs_bstn (v : Nat) (x : VsSt → VsSt) (j : Nat) : (s.modVs v x).bstn j = s.bstn j := State.bstn_congr _ rfl j
@[simp] theorem State.modVs_thm (v : Nat) (x : VsSt → VsSt) (j : Nat) : (s.modVs v x).thm j = s.thm j := State.thm_congr _ rfl j
@[simp] theorem State.modVs_pnl (v : Nat) (x : VsSt → VsSt) (j : Nat) : (s.modVs v x).pnl j = s.pnl j := State.pnl_congr _ rfl j
@[simp] theorem State.modVs_mover (v : Nat) (x : VsSt → VsSt) (j : Nat) : (s.modVs v x).mover j = s.mover j := State.mover_congr _ rfl j
@[simp] theorem State.modVs_spcSt (v : Nat) (x : VsSt → VsSt) (j : Nat) : (s.modVs v x).spcSt j = s.spcSt j := State.spcSt_congr _ rfl j
@[simp] theorem State.modVs_reg (v : Nat) (x : VsSt → VsSt) (j : Nat) : (s.modVs v x).reg j = s.reg j := State.reg_congr _ rfl j
@[simp] theorem State.modVs_get (v : Nat) (x : VsSt → VsSt) (j : Fld) : (s.modVs v x).get j = s.get j := State.get_congr _ rfl j
@[simp] theorem State.modVs_flag (v : Nat) (x : VsSt → VsSt) (j : Fld) : (s.modVs v x).flag j = s.flag j := State.flag_congr _ rfl j
@[simp] theorem State.modBank_port (b : Nat) (x : Bank → Bank) (j : Nat) : (s.modBank b x).port j = s.port j := State.port_congr _ rfl j
@[simp] theorem State.modBank_vs (b : Nat) (x : Bank → Bank) (j : Nat) : (s.modBank b x).vs j = s.vs j := State.vs_congr _ rfl j
@[simp] theorem State.modBank_seam (b : Nat) (x : Bank → Bank) (j : Nat) : (s.modBank b x).seam j = s.seam j := State.seam_congr _ rfl j
@[simp] theorem State.modBank_chan (b : Nat) (x : Bank → Bank) (j : Nat) : (s.modBank b x).chan j = s.chan j := State.chan_congr _ rfl j
@[simp] theorem State.modBank_stn (b : Nat) (x : Bank → Bank) (j : Nat) : (s.modBank b x).stn j = s.stn j := State.stn_congr _ rfl j
@[simp] theorem State.modBank_eng (b : Nat) (x : Bank → Bank) (j : Nat) : (s.modBank b x).eng j = s.eng j := State.eng_congr _ rfl j
@[simp] theorem State.modBank_bstn (b : Nat) (x : Bank → Bank) (j : Nat) : (s.modBank b x).bstn j = s.bstn j := State.bstn_congr _ rfl j
@[simp] theorem State.modBank_thm (b : Nat) (x : Bank → Bank) (j : Nat) : (s.modBank b x).thm j = s.thm j := State.thm_congr _ rfl j
@[simp] theorem State.modBank_pnl (b : Nat) (x : Bank → Bank) (j : Nat) : (s.modBank b x).pnl j = s.pnl j := State.pnl_congr _ rfl j
@[simp] theorem State.modBank_mover (b : Nat) (x : Bank → Bank) (j : Nat) : (s.modBank b x).mover j = s.mover j := State.mover_congr _ rfl j
@[simp] theorem State.modBank_spcSt (b : Nat) (x : Bank → Bank) (j : Nat) : (s.modBank b x).spcSt j = s.spcSt j := State.spcSt_congr _ rfl j
@[simp] theorem State.modBank_reg (b : Nat) (x : Bank → Bank) (j : Nat) : (s.modBank b x).reg j = s.reg j := State.reg_congr _ rfl j
@[simp] theorem State.modBank_get (b : Nat) (x : Bank → Bank) (j : Fld) : (s.modBank b x).get j = s.get j := State.get_congr _ rfl j
@[simp] theorem State.modBank_flag (b : Nat) (x : Bank → Bank) (j : Fld) : (s.modBank b x).flag j = s.flag j := State.flag_congr _ rfl j
@[simp] theorem State.modSeam_port (i : Nat) (x : SeamSt → SeamSt) (j : Nat) : (s.modSeam i x).port j = s.port j := State.port_congr _ rfl j
@[simp] theorem State.modSeam_vs (i : Nat) (x : SeamSt → SeamSt) (j : Nat) : (s.modSeam i x).vs j = s.vs j := State.vs_congr _ rfl j
@[simp] theorem State.modSeam_bank (i : Nat) (x : SeamSt → SeamSt) (j : Nat) : (s.modSeam i x).bank j = s.bank j := State.bank_congr _ rfl j
@[simp] theorem State.modSeam_chan (i : Nat) (x : SeamSt → SeamSt) (j : Nat) : (s.modSeam i x).chan j = s.chan j := State.chan_congr _ rfl j
@[simp] theorem State.modSeam_stn (i : Nat) (x : SeamSt → SeamSt) (j : Nat) : (s.modSeam i x).stn j = s.stn j := State.stn_congr _ rfl j
@[simp] theorem State.modSeam_eng (i : Nat) (x : SeamSt → SeamSt) (j : Nat) : (s.modSeam i x).eng j = s.eng j := State.eng_congr _ rfl j
@[simp] theorem State.modSeam_bstn (i : Nat) (x : SeamSt → SeamSt) (j : Nat) : (s.modSeam i x).bstn j = s.bstn j := State.bstn_congr _ rfl j
@[simp] theorem State.modSeam_thm (i : Nat) (x : SeamSt → SeamSt) (j : Nat) : (s.modSeam i x).thm j = s.thm j := State.thm_congr _ rfl j
@[simp] theorem State.modSeam_pnl (i : Nat) (x : SeamSt → SeamSt) (j : Nat) : (s.modSeam i x).pnl j = s.pnl j := State.pnl_congr _ rfl j
@[simp] theorem State.modSeam_mover (i : Nat) (x : SeamSt → SeamSt) (j : Nat) : (s.modSeam i x).mover j = s.mover j := State.mover_congr _ rfl j
@[simp] theorem State.modSeam_spcSt (i : Nat) (x : SeamSt → SeamSt) (j : Nat) : (s.modSeam i x).spcSt j = s.spcSt j := State.spcSt_congr _ rfl j
@[simp] theorem State.modSeam_reg (i : Nat) (x : SeamSt → SeamSt) (j : Nat) : (s.modSeam i x).reg j = s.reg j := State.reg_congr _ rfl j
@[simp] theorem State.modSeam_get (i : Nat) (x : SeamSt → SeamSt) (j : Fld) : (s.modSeam i x).get j = s.get j := State.get_congr _ rfl j
@[simp] theorem State.modSeam_flag (i : Nat) (x : SeamSt → SeamSt) (j : Fld) : (s.modSeam i x).flag j = s.flag j := State.flag_congr _ rfl j
@[simp] theorem State.modChan_port (c : Nat) (x : ChanSt → ChanSt) (j : Nat) : (s.modChan c x).port j = s.port j := State.port_congr _ rfl j
@[simp] theorem State.modChan_vs (c : Nat) (x : ChanSt → ChanSt) (j : Nat) : (s.modChan c x).vs j = s.vs j := State.vs_congr _ rfl j
@[simp] theorem State.modChan_bank (c : Nat) (x : ChanSt → ChanSt) (j : Nat) : (s.modChan c x).bank j = s.bank j := State.bank_congr _ rfl j
@[simp] theorem State.modChan_seam (c : Nat) (x : ChanSt → ChanSt) (j : Nat) : (s.modChan c x).seam j = s.seam j := State.seam_congr _ rfl j
@[simp] theorem State.modChan_stn (c : Nat) (x : ChanSt → ChanSt) (j : Nat) : (s.modChan c x).stn j = s.stn j := State.stn_congr _ rfl j
@[simp] theorem State.modChan_eng (c : Nat) (x : ChanSt → ChanSt) (j : Nat) : (s.modChan c x).eng j = s.eng j := State.eng_congr _ rfl j
@[simp] theorem State.modChan_bstn (c : Nat) (x : ChanSt → ChanSt) (j : Nat) : (s.modChan c x).bstn j = s.bstn j := State.bstn_congr _ rfl j
@[simp] theorem State.modChan_thm (c : Nat) (x : ChanSt → ChanSt) (j : Nat) : (s.modChan c x).thm j = s.thm j := State.thm_congr _ rfl j
@[simp] theorem State.modChan_pnl (c : Nat) (x : ChanSt → ChanSt) (j : Nat) : (s.modChan c x).pnl j = s.pnl j := State.pnl_congr _ rfl j
@[simp] theorem State.modChan_mover (c : Nat) (x : ChanSt → ChanSt) (j : Nat) : (s.modChan c x).mover j = s.mover j := State.mover_congr _ rfl j
@[simp] theorem State.modChan_spcSt (c : Nat) (x : ChanSt → ChanSt) (j : Nat) : (s.modChan c x).spcSt j = s.spcSt j := State.spcSt_congr _ rfl j
@[simp] theorem State.modChan_reg (c : Nat) (x : ChanSt → ChanSt) (j : Nat) : (s.modChan c x).reg j = s.reg j := State.reg_congr _ rfl j
@[simp] theorem State.modChan_get (c : Nat) (x : ChanSt → ChanSt) (j : Fld) : (s.modChan c x).get j = s.get j := State.get_congr _ rfl j
@[simp] theorem State.modChan_flag (c : Nat) (x : ChanSt → ChanSt) (j : Fld) : (s.modChan c x).flag j = s.flag j := State.flag_congr _ rfl j
@[simp] theorem State.modStn_port (n : Nat) (x : StnSt → StnSt) (j : Nat) : (s.modStn n x).port j = s.port j := State.port_congr _ rfl j
@[simp] theorem State.modStn_vs (n : Nat) (x : StnSt → StnSt) (j : Nat) : (s.modStn n x).vs j = s.vs j := State.vs_congr _ rfl j
@[simp] theorem State.modStn_bank (n : Nat) (x : StnSt → StnSt) (j : Nat) : (s.modStn n x).bank j = s.bank j := State.bank_congr _ rfl j
@[simp] theorem State.modStn_seam (n : Nat) (x : StnSt → StnSt) (j : Nat) : (s.modStn n x).seam j = s.seam j := State.seam_congr _ rfl j
@[simp] theorem State.modStn_chan (n : Nat) (x : StnSt → StnSt) (j : Nat) : (s.modStn n x).chan j = s.chan j := State.chan_congr _ rfl j
@[simp] theorem State.modStn_eng (n : Nat) (x : StnSt → StnSt) (j : Nat) : (s.modStn n x).eng j = s.eng j := State.eng_congr _ rfl j
@[simp] theorem State.modStn_bstn (n : Nat) (x : StnSt → StnSt) (j : Nat) : (s.modStn n x).bstn j = s.bstn j := State.bstn_congr _ rfl j
@[simp] theorem State.modStn_thm (n : Nat) (x : StnSt → StnSt) (j : Nat) : (s.modStn n x).thm j = s.thm j := State.thm_congr _ rfl j
@[simp] theorem State.modStn_pnl (n : Nat) (x : StnSt → StnSt) (j : Nat) : (s.modStn n x).pnl j = s.pnl j := State.pnl_congr _ rfl j
@[simp] theorem State.modStn_mover (n : Nat) (x : StnSt → StnSt) (j : Nat) : (s.modStn n x).mover j = s.mover j := State.mover_congr _ rfl j
@[simp] theorem State.modStn_spcSt (n : Nat) (x : StnSt → StnSt) (j : Nat) : (s.modStn n x).spcSt j = s.spcSt j := State.spcSt_congr _ rfl j
@[simp] theorem State.modStn_reg (n : Nat) (x : StnSt → StnSt) (j : Nat) : (s.modStn n x).reg j = s.reg j := State.reg_congr _ rfl j
@[simp] theorem State.modStn_get (n : Nat) (x : StnSt → StnSt) (j : Fld) : (s.modStn n x).get j = s.get j := State.get_congr _ rfl j
@[simp] theorem State.modStn_flag (n : Nat) (x : StnSt → StnSt) (j : Fld) : (s.modStn n x).flag j = s.flag j := State.flag_congr _ rfl j
@[simp] theorem State.modEng_port (e : Nat) (x : BEng → BEng) (j : Nat) : (s.modEng e x).port j = s.port j := State.port_congr _ rfl j
@[simp] theorem State.modEng_vs (e : Nat) (x : BEng → BEng) (j : Nat) : (s.modEng e x).vs j = s.vs j := State.vs_congr _ rfl j
@[simp] theorem State.modEng_bank (e : Nat) (x : BEng → BEng) (j : Nat) : (s.modEng e x).bank j = s.bank j := State.bank_congr _ rfl j
@[simp] theorem State.modEng_seam (e : Nat) (x : BEng → BEng) (j : Nat) : (s.modEng e x).seam j = s.seam j := State.seam_congr _ rfl j
@[simp] theorem State.modEng_chan (e : Nat) (x : BEng → BEng) (j : Nat) : (s.modEng e x).chan j = s.chan j := State.chan_congr _ rfl j
@[simp] theorem State.modEng_stn (e : Nat) (x : BEng → BEng) (j : Nat) : (s.modEng e x).stn j = s.stn j := State.stn_congr _ rfl j
@[simp] theorem State.modEng_thm (e : Nat) (x : BEng → BEng) (j : Nat) : (s.modEng e x).thm j = s.thm j := State.thm_congr _ rfl j
@[simp] theorem State.modEng_pnl (e : Nat) (x : BEng → BEng) (j : Nat) : (s.modEng e x).pnl j = s.pnl j := State.pnl_congr _ rfl j
@[simp] theorem State.modEng_mover (e : Nat) (x : BEng → BEng) (j : Nat) : (s.modEng e x).mover j = s.mover j := State.mover_congr _ rfl j
@[simp] theorem State.modEng_spcSt (e : Nat) (x : BEng → BEng) (j : Nat) : (s.modEng e x).spcSt j = s.spcSt j := State.spcSt_congr _ rfl j
@[simp] theorem State.modEng_reg (e : Nat) (x : BEng → BEng) (j : Nat) : (s.modEng e x).reg j = s.reg j := State.reg_congr _ rfl j
@[simp] theorem State.modEng_get (e : Nat) (x : BEng → BEng) (j : Fld) : (s.modEng e x).get j = s.get j := State.get_congr _ rfl j
@[simp] theorem State.modEng_flag (e : Nat) (x : BEng → BEng) (j : Fld) : (s.modEng e x).flag j = s.flag j := State.flag_congr _ rfl j
@[simp] theorem State.modBstn_port (n : Nat) (x : BStn → BStn) (j : Nat) : (s.modBstn n x).port j = s.port j := State.port_congr _ rfl j
@[simp] theorem State.modBstn_vs (n : Nat) (x : BStn → BStn) (j : Nat) : (s.modBstn n x).vs j = s.vs j := State.vs_congr _ rfl j
@[simp] theorem State.modBstn_bank (n : Nat) (x : BStn → BStn) (j : Nat) : (s.modBstn n x).bank j = s.bank j := State.bank_congr _ rfl j
@[simp] theorem State.modBstn_seam (n : Nat) (x : BStn → BStn) (j : Nat) : (s.modBstn n x).seam j = s.seam j := State.seam_congr _ rfl j
@[simp] theorem State.modBstn_chan (n : Nat) (x : BStn → BStn) (j : Nat) : (s.modBstn n x).chan j = s.chan j := State.chan_congr _ rfl j
@[simp] theorem State.modBstn_stn (n : Nat) (x : BStn → BStn) (j : Nat) : (s.modBstn n x).stn j = s.stn j := State.stn_congr _ rfl j
@[simp] theorem State.modBstn_thm (n : Nat) (x : BStn → BStn) (j : Nat) : (s.modBstn n x).thm j = s.thm j := State.thm_congr _ rfl j
@[simp] theorem State.modBstn_pnl (n : Nat) (x : BStn → BStn) (j : Nat) : (s.modBstn n x).pnl j = s.pnl j := State.pnl_congr _ rfl j
@[simp] theorem State.modBstn_mover (n : Nat) (x : BStn → BStn) (j : Nat) : (s.modBstn n x).mover j = s.mover j := State.mover_congr _ rfl j
@[simp] theorem State.modBstn_spcSt (n : Nat) (x : BStn → BStn) (j : Nat) : (s.modBstn n x).spcSt j = s.spcSt j := State.spcSt_congr _ rfl j
@[simp] theorem State.modBstn_reg (n : Nat) (x : BStn → BStn) (j : Nat) : (s.modBstn n x).reg j = s.reg j := State.reg_congr _ rfl j
@[simp] theorem State.modBstn_get (n : Nat) (x : BStn → BStn) (j : Fld) : (s.modBstn n x).get j = s.get j := State.get_congr _ rfl j
@[simp] theorem State.modBstn_flag (n : Nat) (x : BStn → BStn) (j : Fld) : (s.modBstn n x).flag j = s.flag j := State.flag_congr _ rfl j
@[simp] theorem State.modThm_port (n : Nat) (x : ThimbleSt → ThimbleSt) (j : Nat) : (s.modThm n x).port j = s.port j := State.port_congr _ rfl j
@[simp] theorem State.modThm_vs (n : Nat) (x : ThimbleSt → ThimbleSt) (j : Nat) : (s.modThm n x).vs j = s.vs j := State.vs_congr _ rfl j
@[simp] theorem State.modThm_bank (n : Nat) (x : ThimbleSt → ThimbleSt) (j : Nat) : (s.modThm n x).bank j = s.bank j := State.bank_congr _ rfl j
@[simp] theorem State.modThm_seam (n : Nat) (x : ThimbleSt → ThimbleSt) (j : Nat) : (s.modThm n x).seam j = s.seam j := State.seam_congr _ rfl j
@[simp] theorem State.modThm_chan (n : Nat) (x : ThimbleSt → ThimbleSt) (j : Nat) : (s.modThm n x).chan j = s.chan j := State.chan_congr _ rfl j
@[simp] theorem State.modThm_stn (n : Nat) (x : ThimbleSt → ThimbleSt) (j : Nat) : (s.modThm n x).stn j = s.stn j := State.stn_congr _ rfl j
@[simp] theorem State.modThm_eng (n : Nat) (x : ThimbleSt → ThimbleSt) (j : Nat) : (s.modThm n x).eng j = s.eng j := State.eng_congr _ rfl j
@[simp] theorem State.modThm_bstn (n : Nat) (x : ThimbleSt → ThimbleSt) (j : Nat) : (s.modThm n x).bstn j = s.bstn j := State.bstn_congr _ rfl j
@[simp] theorem State.modThm_pnl (n : Nat) (x : ThimbleSt → ThimbleSt) (j : Nat) : (s.modThm n x).pnl j = s.pnl j := State.pnl_congr _ rfl j
@[simp] theorem State.modThm_mover (n : Nat) (x : ThimbleSt → ThimbleSt) (j : Nat) : (s.modThm n x).mover j = s.mover j := State.mover_congr _ rfl j
@[simp] theorem State.modThm_spcSt (n : Nat) (x : ThimbleSt → ThimbleSt) (j : Nat) : (s.modThm n x).spcSt j = s.spcSt j := State.spcSt_congr _ rfl j
@[simp] theorem State.modThm_reg (n : Nat) (x : ThimbleSt → ThimbleSt) (j : Nat) : (s.modThm n x).reg j = s.reg j := State.reg_congr _ rfl j
@[simp] theorem State.modThm_get (n : Nat) (x : ThimbleSt → ThimbleSt) (j : Fld) : (s.modThm n x).get j = s.get j := State.get_congr _ rfl j
@[simp] theorem State.modThm_flag (n : Nat) (x : ThimbleSt → ThimbleSt) (j : Fld) : (s.modThm n x).flag j = s.flag j := State.flag_congr _ rfl j
@[simp] theorem State.modPnl_port (n : Nat) (x : PanelSt → PanelSt) (j : Nat) : (s.modPnl n x).port j = s.port j := State.port_congr _ rfl j
@[simp] theorem State.modPnl_vs (n : Nat) (x : PanelSt → PanelSt) (j : Nat) : (s.modPnl n x).vs j = s.vs j := State.vs_congr _ rfl j
@[simp] theorem State.modPnl_bank (n : Nat) (x : PanelSt → PanelSt) (j : Nat) : (s.modPnl n x).bank j = s.bank j := State.bank_congr _ rfl j
@[simp] theorem State.modPnl_seam (n : Nat) (x : PanelSt → PanelSt) (j : Nat) : (s.modPnl n x).seam j = s.seam j := State.seam_congr _ rfl j
@[simp] theorem State.modPnl_chan (n : Nat) (x : PanelSt → PanelSt) (j : Nat) : (s.modPnl n x).chan j = s.chan j := State.chan_congr _ rfl j
@[simp] theorem State.modPnl_stn (n : Nat) (x : PanelSt → PanelSt) (j : Nat) : (s.modPnl n x).stn j = s.stn j := State.stn_congr _ rfl j
@[simp] theorem State.modPnl_eng (n : Nat) (x : PanelSt → PanelSt) (j : Nat) : (s.modPnl n x).eng j = s.eng j := State.eng_congr _ rfl j
@[simp] theorem State.modPnl_bstn (n : Nat) (x : PanelSt → PanelSt) (j : Nat) : (s.modPnl n x).bstn j = s.bstn j := State.bstn_congr _ rfl j
@[simp] theorem State.modPnl_thm (n : Nat) (x : PanelSt → PanelSt) (j : Nat) : (s.modPnl n x).thm j = s.thm j := State.thm_congr _ rfl j
@[simp] theorem State.modPnl_spcSt (n : Nat) (x : PanelSt → PanelSt) (j : Nat) : (s.modPnl n x).spcSt j = s.spcSt j := State.spcSt_congr _ rfl j
@[simp] theorem State.modPnl_reg (n : Nat) (x : PanelSt → PanelSt) (j : Nat) : (s.modPnl n x).reg j = s.reg j := State.reg_congr _ rfl j
@[simp] theorem State.modPnl_get (n : Nat) (x : PanelSt → PanelSt) (j : Fld) : (s.modPnl n x).get j = s.get j := State.get_congr _ rfl j
@[simp] theorem State.modPnl_flag (n : Nat) (x : PanelSt → PanelSt) (j : Fld) : (s.modPnl n x).flag j = s.flag j := State.flag_congr _ rfl j
@[simp] theorem State.modMover_port (m : Nat) (x : MoverSt → MoverSt) (j : Nat) : (s.modMover m x).port j = s.port j := State.port_congr _ rfl j
@[simp] theorem State.modMover_vs (m : Nat) (x : MoverSt → MoverSt) (j : Nat) : (s.modMover m x).vs j = s.vs j := State.vs_congr _ rfl j
@[simp] theorem State.modMover_bank (m : Nat) (x : MoverSt → MoverSt) (j : Nat) : (s.modMover m x).bank j = s.bank j := State.bank_congr _ rfl j
@[simp] theorem State.modMover_seam (m : Nat) (x : MoverSt → MoverSt) (j : Nat) : (s.modMover m x).seam j = s.seam j := State.seam_congr _ rfl j
@[simp] theorem State.modMover_chan (m : Nat) (x : MoverSt → MoverSt) (j : Nat) : (s.modMover m x).chan j = s.chan j := State.chan_congr _ rfl j
@[simp] theorem State.modMover_stn (m : Nat) (x : MoverSt → MoverSt) (j : Nat) : (s.modMover m x).stn j = s.stn j := State.stn_congr _ rfl j
@[simp] theorem State.modMover_eng (m : Nat) (x : MoverSt → MoverSt) (j : Nat) : (s.modMover m x).eng j = s.eng j := State.eng_congr _ rfl j
@[simp] theorem State.modMover_bstn (m : Nat) (x : MoverSt → MoverSt) (j : Nat) : (s.modMover m x).bstn j = s.bstn j := State.bstn_congr _ rfl j
@[simp] theorem State.modMover_thm (m : Nat) (x : MoverSt → MoverSt) (j : Nat) : (s.modMover m x).thm j = s.thm j := State.thm_congr _ rfl j
@[simp] theorem State.modMover_spcSt (m : Nat) (x : MoverSt → MoverSt) (j : Nat) : (s.modMover m x).spcSt j = s.spcSt j := State.spcSt_congr _ rfl j
@[simp] theorem State.modMover_reg (m : Nat) (x : MoverSt → MoverSt) (j : Nat) : (s.modMover m x).reg j = s.reg j := State.reg_congr _ rfl j
@[simp] theorem State.modMover_get (m : Nat) (x : MoverSt → MoverSt) (j : Fld) : (s.modMover m x).get j = s.get j := State.get_congr _ rfl j
@[simp] theorem State.modMover_flag (m : Nat) (x : MoverSt → MoverSt) (j : Fld) : (s.modMover m x).flag j = s.flag j := State.flag_congr _ rfl j
@[simp] theorem State.modSpc_port (n : Nat) (x : SpcSt → SpcSt) (j : Nat) : (s.modSpc n x).port j = s.port j := State.port_congr _ rfl j
@[simp] theorem State.modSpc_vs (n : Nat) (x : SpcSt → SpcSt) (j : Nat) : (s.modSpc n x).vs j = s.vs j := State.vs_congr _ rfl j
@[simp] theorem State.modSpc_bank (n : Nat) (x : SpcSt → SpcSt) (j : Nat) : (s.modSpc n x).bank j = s.bank j := State.bank_congr _ rfl j
@[simp] theorem State.modSpc_seam (n : Nat) (x : SpcSt → SpcSt) (j : Nat) : (s.modSpc n x).seam j = s.seam j := State.seam_congr _ rfl j
@[simp] theorem State.modSpc_chan (n : Nat) (x : SpcSt → SpcSt) (j : Nat) : (s.modSpc n x).chan j = s.chan j := State.chan_congr _ rfl j
@[simp] theorem State.modSpc_stn (n : Nat) (x : SpcSt → SpcSt) (j : Nat) : (s.modSpc n x).stn j = s.stn j := State.stn_congr _ rfl j
@[simp] theorem State.modSpc_eng (n : Nat) (x : SpcSt → SpcSt) (j : Nat) : (s.modSpc n x).eng j = s.eng j := State.eng_congr _ rfl j
@[simp] theorem State.modSpc_bstn (n : Nat) (x : SpcSt → SpcSt) (j : Nat) : (s.modSpc n x).bstn j = s.bstn j := State.bstn_congr _ rfl j
@[simp] theorem State.modSpc_thm (n : Nat) (x : SpcSt → SpcSt) (j : Nat) : (s.modSpc n x).thm j = s.thm j := State.thm_congr _ rfl j
@[simp] theorem State.modSpc_pnl (n : Nat) (x : SpcSt → SpcSt) (j : Nat) : (s.modSpc n x).pnl j = s.pnl j := State.pnl_congr _ rfl j
@[simp] theorem State.modSpc_mover (n : Nat) (x : SpcSt → SpcSt) (j : Nat) : (s.modSpc n x).mover j = s.mover j := State.mover_congr _ rfl j
@[simp] theorem State.modSpc_reg (n : Nat) (x : SpcSt → SpcSt) (j : Nat) : (s.modSpc n x).reg j = s.reg j := State.reg_congr _ rfl j
@[simp] theorem State.modSpc_get (n : Nat) (x : SpcSt → SpcSt) (j : Fld) : (s.modSpc n x).get j = s.get j := State.get_congr _ rfl j
@[simp] theorem State.modSpc_flag (n : Nat) (x : SpcSt → SpcSt) (j : Fld) : (s.modSpc n x).flag j = s.flag j := State.flag_congr _ rfl j
@[simp] theorem State.emit_port (o : Output) (j : Nat) : (s.emit o).port j = s.port j := State.port_congr _ rfl j
@[simp] theorem State.emit_vs (o : Output) (j : Nat) : (s.emit o).vs j = s.vs j := State.vs_congr _ rfl j
@[simp] theorem State.emit_bank (o : Output) (j : Nat) : (s.emit o).bank j = s.bank j := State.bank_congr _ rfl j
@[simp] theorem State.emit_seam (o : Output) (j : Nat) : (s.emit o).seam j = s.seam j := State.seam_congr _ rfl j
@[simp] theorem State.emit_chan (o : Output) (j : Nat) : (s.emit o).chan j = s.chan j := State.chan_congr _ rfl j
@[simp] theorem State.emit_stn (o : Output) (j : Nat) : (s.emit o).stn j = s.stn j := State.stn_congr _ rfl j
@[simp] theorem State.emit_eng (o : Output) (j : Nat) : (s.emit o).eng j = s.eng j := State.eng_congr _ rfl j
@[simp] theorem State.emit_bstn (o : Output) (j : Nat) : (s.emit o).bstn j = s.bstn j := State.bstn_congr _ rfl j
@[simp] theorem State.emit_thm (o : Output) (j : Nat) : (s.emit o).thm j = s.thm j := State.thm_congr _ rfl j
@[simp] theorem State.emit_pnl (o : Output) (j : Nat) : (s.emit o).pnl j = s.pnl j := State.pnl_congr _ rfl j
@[simp] theorem State.emit_mover (o : Output) (j : Nat) : (s.emit o).mover j = s.mover j := State.mover_congr _ rfl j
@[simp] theorem State.emit_spcSt (o : Output) (j : Nat) : (s.emit o).spcSt j = s.spcSt j := State.spcSt_congr _ rfl j
@[simp] theorem State.emit_reg (o : Output) (j : Nat) : (s.emit o).reg j = s.reg j := State.reg_congr _ rfl j
@[simp] theorem State.emit_get (o : Output) (j : Fld) : (s.emit o).get j = s.get j := State.get_congr _ rfl j
@[simp] theorem State.emit_flag (o : Output) (j : Fld) : (s.emit o).flag j = s.flag j := State.flag_congr _ rfl j
@[simp] theorem State.nextFree_port (j : Nat) : (s.nextFree).port j = s.port j := State.port_congr _ rfl j
@[simp] theorem State.nextFree_vs (j : Nat) : (s.nextFree).vs j = s.vs j := State.vs_congr _ rfl j
@[simp] theorem State.nextFree_bank (j : Nat) : (s.nextFree).bank j = s.bank j := State.bank_congr _ rfl j
@[simp] theorem State.nextFree_seam (j : Nat) : (s.nextFree).seam j = s.seam j := State.seam_congr _ rfl j
@[simp] theorem State.nextFree_chan (j : Nat) : (s.nextFree).chan j = s.chan j := State.chan_congr _ rfl j
@[simp] theorem State.nextFree_stn (j : Nat) : (s.nextFree).stn j = s.stn j := State.stn_congr _ rfl j
@[simp] theorem State.nextFree_eng (j : Nat) : (s.nextFree).eng j = s.eng j := State.eng_congr _ rfl j
@[simp] theorem State.nextFree_bstn (j : Nat) : (s.nextFree).bstn j = s.bstn j := State.bstn_congr _ rfl j
@[simp] theorem State.nextFree_thm (j : Nat) : (s.nextFree).thm j = s.thm j := State.thm_congr _ rfl j
@[simp] theorem State.nextFree_pnl (j : Nat) : (s.nextFree).pnl j = s.pnl j := State.pnl_congr _ rfl j
@[simp] theorem State.nextFree_mover (j : Nat) : (s.nextFree).mover j = s.mover j := State.mover_congr _ rfl j
@[simp] theorem State.nextFree_spcSt (j : Nat) : (s.nextFree).spcSt j = s.spcSt j := State.spcSt_congr _ rfl j
@[simp] theorem State.nextFree_reg (j : Nat) : (s.nextFree).reg j = s.reg j := State.reg_congr _ rfl j
@[simp] theorem State.nextFree_get (j : Fld) : (s.nextFree).get j = s.get j := State.get_congr _ rfl j
@[simp] theorem State.nextFree_flag (j : Fld) : (s.nextFree).flag j = s.flag j := State.flag_congr _ rfl j
@[simp] theorem State.raiseF_port (src code sev scope flags : Nat) (l : List Nat) (j : Nat) : (s.raiseF src code sev scope flags l).port j = s.port j := State.port_congr _ rfl j
@[simp] theorem State.raiseF_vs (src code sev scope flags : Nat) (l : List Nat) (j : Nat) : (s.raiseF src code sev scope flags l).vs j = s.vs j := State.vs_congr _ rfl j
@[simp] theorem State.raiseF_bank (src code sev scope flags : Nat) (l : List Nat) (j : Nat) : (s.raiseF src code sev scope flags l).bank j = s.bank j := State.bank_congr _ rfl j
@[simp] theorem State.raiseF_seam (src code sev scope flags : Nat) (l : List Nat) (j : Nat) : (s.raiseF src code sev scope flags l).seam j = s.seam j := State.seam_congr _ rfl j
@[simp] theorem State.raiseF_chan (src code sev scope flags : Nat) (l : List Nat) (j : Nat) : (s.raiseF src code sev scope flags l).chan j = s.chan j := State.chan_congr _ rfl j
@[simp] theorem State.raiseF_stn (src code sev scope flags : Nat) (l : List Nat) (j : Nat) : (s.raiseF src code sev scope flags l).stn j = s.stn j := State.stn_congr _ rfl j
@[simp] theorem State.raiseF_eng (src code sev scope flags : Nat) (l : List Nat) (j : Nat) : (s.raiseF src code sev scope flags l).eng j = s.eng j := State.eng_congr _ rfl j
@[simp] theorem State.raiseF_bstn (src code sev scope flags : Nat) (l : List Nat) (j : Nat) : (s.raiseF src code sev scope flags l).bstn j = s.bstn j := State.bstn_congr _ rfl j
@[simp] theorem State.raiseF_thm (src code sev scope flags : Nat) (l : List Nat) (j : Nat) : (s.raiseF src code sev scope flags l).thm j = s.thm j := State.thm_congr _ rfl j
@[simp] theorem State.raiseF_pnl (src code sev scope flags : Nat) (l : List Nat) (j : Nat) : (s.raiseF src code sev scope flags l).pnl j = s.pnl j := State.pnl_congr _ rfl j
@[simp] theorem State.raiseF_mover (src code sev scope flags : Nat) (l : List Nat) (j : Nat) : (s.raiseF src code sev scope flags l).mover j = s.mover j := State.mover_congr _ rfl j
@[simp] theorem State.raiseF_spcSt (src code sev scope flags : Nat) (l : List Nat) (j : Nat) : (s.raiseF src code sev scope flags l).spcSt j = s.spcSt j := State.spcSt_congr _ rfl j
@[simp] theorem State.raiseF_reg (src code sev scope flags : Nat) (l : List Nat) (j : Nat) : (s.raiseF src code sev scope flags l).reg j = s.reg j := State.reg_congr _ rfl j
@[simp] theorem State.raiseF_get (src code sev scope flags : Nat) (l : List Nat) (j : Fld) : (s.raiseF src code sev scope flags l).get j = s.get j := State.get_congr _ rfl j
@[simp] theorem State.raiseF_flag (src code sev scope flags : Nat) (l : List Nat) (j : Fld) : (s.raiseF src code sev scope flags l).flag j = s.flag j := State.flag_congr _ rfl j
@[simp] theorem State.raise_port (src code sev scope : Nat) (l : List Nat) (j : Nat) : (s.raise src code sev scope l).port j = s.port j := State.port_congr _ rfl j
@[simp] theorem State.raise_vs (src code sev scope : Nat) (l : List Nat) (j : Nat) : (s.raise src code sev scope l).vs j = s.vs j := State.vs_congr _ rfl j
@[simp] theorem State.raise_bank (src code sev scope : Nat) (l : List Nat) (j : Nat) : (s.raise src code sev scope l).bank j = s.bank j := State.bank_congr _ rfl j
@[simp] theorem State.raise_seam (src code sev scope : Nat) (l : List Nat) (j : Nat) : (s.raise src code sev scope l).seam j = s.seam j := State.seam_congr _ rfl j
@[simp] theorem State.raise_chan (src code sev scope : Nat) (l : List Nat) (j : Nat) : (s.raise src code sev scope l).chan j = s.chan j := State.chan_congr _ rfl j
@[simp] theorem State.raise_stn (src code sev scope : Nat) (l : List Nat) (j : Nat) : (s.raise src code sev scope l).stn j = s.stn j := State.stn_congr _ rfl j
@[simp] theorem State.raise_eng (src code sev scope : Nat) (l : List Nat) (j : Nat) : (s.raise src code sev scope l).eng j = s.eng j := State.eng_congr _ rfl j
@[simp] theorem State.raise_bstn (src code sev scope : Nat) (l : List Nat) (j : Nat) : (s.raise src code sev scope l).bstn j = s.bstn j := State.bstn_congr _ rfl j
@[simp] theorem State.raise_thm (src code sev scope : Nat) (l : List Nat) (j : Nat) : (s.raise src code sev scope l).thm j = s.thm j := State.thm_congr _ rfl j
@[simp] theorem State.raise_pnl (src code sev scope : Nat) (l : List Nat) (j : Nat) : (s.raise src code sev scope l).pnl j = s.pnl j := State.pnl_congr _ rfl j
@[simp] theorem State.raise_mover (src code sev scope : Nat) (l : List Nat) (j : Nat) : (s.raise src code sev scope l).mover j = s.mover j := State.mover_congr _ rfl j
@[simp] theorem State.raise_spcSt (src code sev scope : Nat) (l : List Nat) (j : Nat) : (s.raise src code sev scope l).spcSt j = s.spcSt j := State.spcSt_congr _ rfl j
@[simp] theorem State.raise_reg (src code sev scope : Nat) (l : List Nat) (j : Nat) : (s.raise src code sev scope l).reg j = s.reg j := State.reg_congr _ rfl j
@[simp] theorem State.raise_get (src code sev scope : Nat) (l : List Nat) (j : Fld) : (s.raise src code sev scope l).get j = s.get j := State.get_congr _ rfl j
@[simp] theorem State.raise_flag (src code sev scope : Nat) (l : List Nat) (j : Fld) : (s.raise src code sev scope l).flag j = s.flag j := State.flag_congr _ rfl j
@[simp] theorem State.modEng_bstn (e j : Nat) (x : BEng → BEng) : (s.modEng e x).bstn j = s.bstn j := by simp only [State.bstn, State.modEng]
@[simp] theorem State.modBstn_eng (n j : Nat) (x : BStn → BStn) : (s.modBstn n x).eng j = s.eng j := by simp only [State.eng, State.modBstn]
@[simp] theorem State.modPnl_mover (n j : Nat) (x : PanelSt → PanelSt) : (s.modPnl n x).mover j = s.mover j := by simp only [State.mover, State.modPnl]
@[simp] theorem State.modMover_pnl (n j : Nat) (x : MoverSt → MoverSt) : (s.modMover n x).pnl j = s.pnl j := by simp only [State.pnl, State.modMover]

/-! ### Registers -/

@[simp] theorem State.setReg_reg (a b : Nat) (v : B32) : (s.setReg a v).reg b = if b = a then v else s.reg b := by
  simp only [State.reg, State.setReg, SMap.get_set]

/-- A write of a field changes its register only. -/
theorem State.put_reg_ne (f : Fld) (v a : Nat) (h : a ≠ f.addr) : (s.put f v).reg a = s.reg a := by simp [State.put, h]

@[simp] theorem State.put_reg_self (f : Fld) (v : Nat) : (s.put f v).reg f.addr = f.into (s.reg f.addr) v := by simp [State.put]

/-- A write of a field changes no field of another register. -/
theorem State.put_get_addr (f g : Fld) (v : Nat) (h : g.addr ≠ f.addr) : (s.put f v).get g = s.get g := by simp [State.get, State.put, h]

end Sys2Proof.Machine
end

