-- ==== Sys2Proof/Laws/Count.lean ====
section
/-!
SUPPORT. Laws/Count.lean: everything that counting an event or firing a vector can change: registers, outputs, events, the vectors of a
virtual switch's endpoint, and the sample ring.
-/

namespace Sys2Proof.Machine

/-- t differs from s at most in what counting changes. -/
structure CountOnly (s t : State) : Prop where
  pending : t.pending = s.pending
  clk : t.clk = s.clk
  cmd : t.cmd = s.cmd
  acl : t.acl = s.acl
  ports : t.ports = s.ports
  core : t.core = s.core
  tbl : t.tbl = s.tbl
  bob : t.bob = s.bob
  late : t.late = s.late
  seams : t.seams = s.seams
  fab : t.fab = s.fab
  spc : t.spc = s.spc
  sht : t.sht = s.sht
  stns : t.stns = s.stns
  pow : t.pow = s.pow
  thimbles : t.ep.thimbles = s.ep.thimbles

variable {s t u : State}

theorem CountOnly.refl (s : State) : CountOnly s s := ⟨rfl, rfl, rfl, rfl, rfl, rfl, rfl, rfl, rfl, rfl, rfl, rfl, rfl, rfl, rfl, rfl⟩

theorem CountOnly.trans (h : CountOnly s t) (k : CountOnly t u) : CountOnly s u :=
  ⟨k.1.trans h.1, k.2.trans h.2, k.3.trans h.3, k.4.trans h.4, k.5.trans h.5, k.6.trans h.6, k.7.trans h.7, k.8.trans h.8, k.9.trans h.9,
   k.10.trans h.10, k.11.trans h.11, k.12.trans h.12, k.13.trans h.13, k.14.trans h.14, k.15.trans h.15, k.16.trans h.16⟩

theorem CountOnly.put (h : CountOnly s t) (f : Fld) (v : Nat) : CountOnly s (t.put f v) := h.trans ⟨rfl, rfl, rfl, rfl, rfl, rfl, rfl, rfl, rfl, rfl, rfl, rfl, rfl, rfl, rfl, rfl⟩

theorem CountOnly.bumpWrap (h : CountOnly s t) (f : Fld) (n : Nat) : CountOnly s (t.bumpWrap f n) := h.put f _

theorem CountOnly.setAcc (h : CountOnly s t) (u c v : Nat) : CountOnly s (t.setAcc u c v) := (h.put _ _).put _ _

/-- A sample goes into the ring. -/
theorem CountOnly.sampled (h : CountOnly s t) (l : List PmcSample) (o : Option Nat) :
    CountOnly s { t with ep := { t.ep with samples := l, lastSample := o } } := h.trans ⟨rfl, rfl, rfl, rfl, rfl, rfl, rfl, rfl, rfl, rfl, rfl, rfl, rfl, rfl, rfl, rfl⟩

theorem CountOnly.raise (h : CountOnly s t) (a b c d : Nat) (l : List Nat) : CountOnly s (t.raise a b c d l) :=
  h.trans ⟨rfl, rfl, rfl, rfl, rfl, rfl, rfl, rfl, rfl, rfl, rfl, rfl, rfl, rfl, rfl, rfl⟩

theorem CountOnly.raiseLim (h : CountOnly s t) (p k a b c d f : Nat) (l : List Nat) : CountOnly s (t.raiseLim p k a b c d f l) := by
  refine h.trans ?_
  unfold State.raiseLim
  dsimp only
  split <;> exact ⟨rfl, rfl, rfl, rfl, rfl, rfl, rfl, rfl, rfl, rfl, rfl, rfl, rfl, rfl, rfl, rfl⟩

theorem CountOnly.raiseQuiet (h : CountOnly s t) (p k a b c d : Nat) (l : List Nat) : CountOnly s (t.raiseQuiet p k a b c d l) := by
  refine h.trans ?_
  unfold State.raiseQuiet
  dsimp only
  split <;> exact ⟨rfl, rfl, rfl, rfl, rfl, rfl, rfl, rfl, rfl, rfl, rfl, rfl, rfl, rfl, rfl, rfl⟩

theorem CountOnly.fireMsg (h : CountOnly s t) (v : Nat) (fn : Bool) (i : Nat) : CountOnly s (t.fireMsg v fn i).1 := by
  refine h.trans ?_
  unfold State.fireMsg
  dsimp only
  split <;> exact ⟨rfl, rfl, rfl, rfl, rfl, rfl, rfl, rfl, rfl, rfl, rfl, rfl, rfl, rfl, rfl, rfl⟩

/-- A step of a fold that only counts. -/
theorem CountOnly.foldl {α : Type} {g : State → α → State} (hg : ∀ a x, CountOnly a (g a x)) (l : List α) : ∀ {s t : State}, CountOnly s t →
    CountOnly s (l.foldl g t) := by
  induction l with
  | nil => intro s t h; exact h
  | cons x l ih => intro s t h; exact ih (h.trans (hg _ _))

section

variable {fire : State → Nat → Nat → State} (hf : ∀ a v i, CountOnly a (fire a v i))
include hf

theorem CountOnly.pmcSample (h : CountOnly s t) (u c : Nat) : CountOnly s (t.pmcSample u c fire) := by
  have r1 := (((CountOnly.refl t).put F.PMC_SMP_LOST_LOST (min (2 ^ F.PMC_SMP_LOST_LOST.w - 1) (t.get F.PMC_SMP_LOST_LOST + 1))).raiseQuiet
    1000000000 0 0x08 0x7201 1 (if t.flag (F.PMC_GRANT_CTL_EN u) then scVs (t.get (F.PMC_GRANT_CTL_VS u)) else scDev)
    [(t.bump F.PMC_SMP_LOST_LOST).ep.lost + 1])
  refine h.trans ?_
  unfold State.pmcSample
  dsimp only
  split <;> split
  · exact ⟨r1.1, r1.2, r1.3, r1.4, r1.5, r1.6, r1.7, r1.8, r1.9, r1.10, r1.11, r1.12, r1.13, r1.14, r1.15, r1.16⟩
  · split
    · exact CountOnly.trans (((CountOnly.refl t).sampled _ _).bumpWrap _ _) (hf _ _ _)
    · exact ((CountOnly.refl t).sampled _ _).bumpWrap _ _
  · contradiction
  · split
    · exact CountOnly.trans (((CountOnly.refl t).sampled _ _).bumpWrap _ _) (hf _ _ _)
    · exact ((CountOnly.refl t).sampled _ _).bumpWrap _ _

theorem CountOnly.cntAdd (h : CountOnly s t) (u c n : Nat) : CountOnly s (t.cntAdd u c n fire).1 := by
  refine h.trans ?_
  unfold State.cntAdd
  dsimp only
  split
  · exact (CountOnly.refl t).put _ _
  · dsimp only
    split
    · exact CountOnly.put (CountOnly.pmcSample hf
        ((((CountOnly.refl t).put _ _).put _ _).setAcc _ _ _) _ _) _ _
    · exact ((CountOnly.refl t).put _ _).put _ _

theorem CountOnly.countWith (h : CountOnly s t) (u ev k cls vc n : Nat) : CountOnly s (t.countWith u ev k cls vc n fire) := by
  refine h.trans ?_
  unfold State.countWith
  split
  · refine CountOnly.foldl (fun a c => ?_) _ (CountOnly.refl t)
    split
    · have h1 := CountOnly.cntAdd hf (CountOnly.refl a) u c n
      split
      · rename_i x e
        rw [e] at h1
        unfold State.cntChain
        split
        · exact CountOnly.cntAdd hf h1 _ _ _
        · exact h1
      · rename_i x e
        rw [e] at h1
        exact h1
    · exact CountOnly.refl a
  · exact CountOnly.refl t

end

theorem CountOnly.fireVec (h : CountOnly s t) (v : Nat) (fn : Bool) (i : Nat) : CountOnly s (t.fireVec v fn i) := by
  refine h.trans ?_
  have h1 := CountOnly.fireMsg (CountOnly.refl t) v fn i
  unfold State.fireVec
  split
  · rename_i x e; rw [e] at h1
    exact CountOnly.countWith (fun a v i => CountOnly.fireMsg (CountOnly.refl a) v false i) h1 _ _ _ _ _ _
  · rename_i x e; rw [e] at h1; exact h1

/-- Counting an event. -/
theorem CountOnly.count (h : CountOnly s t) (u ev k cls vc n : Nat) : CountOnly s (t.count u ev k cls vc n) :=
  CountOnly.countWith (fun a v i => CountOnly.fireVec (CountOnly.refl a) v false i) h u ev k cls vc n

/-- Firing a vector. -/
theorem CountOnly.fire (h : CountOnly s t) (v : Nat) (fn : Bool) (i : Nat) : CountOnly s (t.fire v fn i) := by
  refine h.trans ?_
  have h1 := CountOnly.fireMsg (CountOnly.refl t) v fn i
  unfold State.fire
  split
  · rename_i x e; rw [e] at h1; exact CountOnly.count h1 _ _ _ _ _ _
  · rename_i x e; rw [e] at h1; exact h1

/-- A unit that does not run counts nothing. -/
theorem State.count_off (s : State) (u ev k cls vc n : Nat) (h : s.flag (F.PMU_UNIT_CTL_RUN u) = false) : s.count u ev k cls vc n = s := by
  simp [State.count, State.countWith, h]

end Sys2Proof.Machine
end

