-- ==== Sys2Proof/Laws/Engine.lean ====
section
/-!
SUPPORT. Laws/Engine.lean: what the start of an engine instruction does, said once: LDT results land, the instruction is counted, and nothing
else of the engine but its sampler moves.
-/

namespace Sys2Proof.Machine

/-- What an instruction's own start, and its sampler, leave alone. -/
structure StartOnly (s t : State) (e : Nat) : Prop where
  pending : t.pending = s.pending
  rest : t.clk = s.clk ∧ t.cmd = s.cmd ∧ t.acl = s.acl ∧ t.ports = s.ports ∧ t.core = s.core ∧ t.tbl = s.tbl ∧ t.late = s.late ∧
    t.seams = s.seams ∧ t.fab = s.fab ∧ t.spc = s.spc ∧ t.sht = s.sht ∧ t.stns = s.stns ∧ t.pow = s.pow
  others : ∀ f : Nat, f ≠ e → t.eng f = s.eng f
  shared : t.bob.stn = s.bob.stn ∧ t.bob.words = s.bob.words ∧ t.bob.bad = s.bob.bad
  mine : (t.eng e).regs = (s.eng e).regs ∧ (t.eng e).pc = (s.eng e).pc ∧ (t.eng e).run = (s.eng e).run ∧ (t.eng e).data = (s.eng e).data ∧
    (t.eng e).newImage = (s.eng e).newImage
  thimbles : t.ep.thimbles = s.ep.thimbles

variable {s t u : State} {e : Nat}

theorem StartOnly.refl (s : State) (e : Nat) : StartOnly s s e :=
  ⟨rfl, ⟨rfl, rfl, rfl, rfl, rfl, rfl, rfl, rfl, rfl, rfl, rfl, rfl, rfl⟩, fun _ _ => rfl, ⟨rfl, rfl, rfl⟩, ⟨rfl, rfl, rfl, rfl, rfl⟩, rfl⟩

theorem StartOnly.trans (h : StartOnly s t e) (k : StartOnly t u e) : StartOnly s u e := by
  obtain ⟨a, ⟨b1, b2, b3, b4, b5, b6, b7, b8, b9, b10, b11, b12, b13⟩, c, ⟨d1, d2, d3⟩, ⟨e1, e2, e3, e4, e5⟩, g⟩ := h
  obtain ⟨a', ⟨b1', b2', b3', b4', b5', b6', b7', b8', b9', b10', b11', b12', b13'⟩, c', ⟨d1', d2', d3'⟩, ⟨e1', e2', e3', e4', e5'⟩, g'⟩ := k
  exact ⟨a'.trans a, ⟨b1'.trans b1, b2'.trans b2, b3'.trans b3, b4'.trans b4, b5'.trans b5, b6'.trans b6, b7'.trans b7, b8'.trans b8,
    b9'.trans b9, b10'.trans b10, b11'.trans b11, b12'.trans b12, b13'.trans b13⟩, fun f hf => (c' f hf).trans (c f hf),
    ⟨d1'.trans d1, d2'.trans d2, d3'.trans d3⟩, ⟨e1'.trans e1, e2'.trans e2, e3'.trans e3, e4'.trans e4, e5'.trans e5⟩, g'.trans g⟩

theorem CountOnly.start (h : CountOnly s t) (e : Nat) : StartOnly s t e := by
  have b := State.eng_congr t h.bob
  exact ⟨h.pending, ⟨h.clk, h.cmd, h.acl, h.ports, h.core, h.tbl, h.late, h.seams, h.fab, h.spc, h.sht, h.stns, h.pow⟩, fun f _ => b f,
    ⟨by rw [h.bob], by rw [h.bob], by rw [h.bob]⟩, ⟨by rw [b], by rw [b], by rw [b], by rw [b], by rw [b]⟩, h.thimbles⟩

/-- A change of the engine's sampler alone. -/
theorem StartOnly.sampler (s : State) (e : Nat) (f : BEng → BEng) (hf : ∀ x, (f x).regs = x.regs ∧ (f x).pc = x.pc ∧ (f x).run = x.run ∧
    (f x).data = x.data ∧ (f x).newImage = x.newImage) : StartOnly s (s.modEng e f) e := by
  refine ⟨rfl, ⟨rfl, rfl, rfl, rfl, rfl, rfl, rfl, rfl, rfl, rfl, rfl, rfl, rfl⟩, fun g hg => ?_, ⟨rfl, rfl, rfl⟩, ?_, rfl⟩
  · simp [hg]
  · simpa using hf (s.eng e)

theorem StartOnly.smpWrite (s : State) (e : Nat) : StartOnly s (s.smpWrite e) e := by
  unfold State.smpWrite
  dsimp only
  split
  · exact StartOnly.refl s e
  · refine (StartOnly.sampler s e _ ?_).trans (((CountOnly.refl _).put _ _ |>.put _ _).start e)
    intro x; exact ⟨rfl, rfl, rfl, rfl, rfl⟩

theorem StartOnly.smpEvent (s : State) (e kind pc cls : Nat) : StartOnly s (s.smpEvent e kind pc cls) e := by
  unfold State.smpEvent
  dsimp only
  split
  · split
    · exact (StartOnly.smpWrite s e).trans (StartOnly.sampler _ e _ fun _ => ⟨rfl, rfl, rfl, rfl, rfl⟩)
    · exact StartOnly.sampler _ e _ fun _ => ⟨rfl, rfl, rfl, rfl, rfl⟩
  · exact StartOnly.refl s e

theorem StartOnly.smpSkid (s : State) (e pc : Nat) : StartOnly s (s.smpSkid e pc) e := by
  unfold State.smpSkid
  split
  · exact StartOnly.refl s e
  · dsimp only
    split
    · refine StartOnly.trans (StartOnly.sampler s e _ ?_) (StartOnly.smpWrite _ e)
      intro x; exact ⟨rfl, rfl, rfl, rfl, rfl⟩
    · exact StartOnly.sampler s e _ fun _ => ⟨rfl, rfl, rfl, rfl, rfl⟩

/-- After the landing of LDT results, an instruction's start changes only counts and the sampler. -/
theorem State.instrStart_only (s : State) (e : Nat) (r : BRun) : StartOnly (s.landLoads e r) (s.instrStart e r) e := by
  unfold State.instrStart
  dsimp only
  refine StartOnly.trans (t := State.count _ _ _ _ _ _ _) ?_ ((StartOnly.smpSkid _ e _).trans (StartOnly.smpEvent _ e _ _ _))
  exact (CountOnly.count ((CountOnly.refl _).put _ _ |>.put _ _) _ _ _ _ _ _).start e

/-- What the landing of LDT results leaves alone. -/
structure LandOnly (s t : State) (e : Nat) : Prop where
  rest : ({ t with bob := s.bob } : State) = s
  others : ∀ f : Nat, f ≠ e → t.eng f = s.eng f
  shared : t.bob.stn = s.bob.stn ∧ t.bob.words = s.bob.words ∧ t.bob.bad = s.bob.bad
  mine : (t.eng e).pc = (s.eng e).pc ∧ (t.eng e).data = (s.eng e).data ∧ (t.eng e).newImage = (s.eng e).newImage ∧
    (t.eng e).due = (s.eng e).due ∧ (t.eng e).smp = (s.eng e).smp

theorem LandOnly.modEng (h : LandOnly s t e) (f : BEng → BEng) (hf : ∀ x, (f x).pc = x.pc ∧ (f x).data = x.data ∧ (f x).newImage = x.newImage ∧
    (f x).due = x.due ∧ (f x).smp = x.smp) : LandOnly s (t.modEng e f) e := by
  obtain ⟨a, b, c, d⟩ := h
  refine ⟨a, fun g hg => by simp [hg, b g hg], c, ?_⟩
  have k := hf (t.eng e)
  simp only [State.modEng_eng, if_true]
  exact ⟨k.1.trans d.1, k.2.1.trans d.2.1, k.2.2.1.trans d.2.2.1, k.2.2.2.1.trans d.2.2.2.1, k.2.2.2.2.trans d.2.2.2.2⟩

/-- The landing of LDT results changes only the engine's registers and its run. -/
theorem State.landLoads_only (s : State) (e : Nat) (r : BRun) : LandOnly s (s.landLoads e r) e := by
  have step : ∀ (l : List (Nat × B64 × Nat)) (t : State), LandOnly s t e →
      LandOnly s (l.foldl (fun s x => s.setGreg e (Fin.ofNat 16 x.1) x.2.1) t) e := by
    intro l
    induction l with
    | nil => intro t h; exact h
    | cons x l ih =>
      intro t h
      refine ih _ ?_
      show LandOnly s (t.setGreg e (Fin.ofNat 16 x.1) x.2.1) e
      unfold State.setGreg
      split
      · exact h
      · exact h.modEng _ fun _ => ⟨rfl, rfl, rfl, rfl, rfl⟩
  unfold State.landLoads
  refine LandOnly.modEng (step _ _ ⟨rfl, fun _ _ => rfl, ⟨rfl, rfl, rfl⟩, ⟨rfl, rfl, rfl, rfl, rfl⟩⟩) _ ?_
  intro x; exact ⟨rfl, rfl, rfl, rfl, rfl⟩

/-- The landing of LDT results. -/
theorem State.landLoads_run (s : State) (e : Nat) (r : BRun) : ((s.landLoads e r).eng e).run = some { r with loads := r.aged } := by
  simp [State.landLoads, BRun.aged]

/-- The landing of LDT results outside the engines. -/
theorem State.landLoads_eq (s : State) (e : Nat) (r : BRun) : s.landLoads e r = { s with bob := (s.landLoads e r).bob } := by
  have h := (s.landLoads_only e r).rest
  generalize s.landLoads e r = t at *
  rcases s with ⟨_, _, _, _, _, _, _, _, _, _, _, _, _, _, _, _, _, _, _, _⟩
  rcases t with ⟨_, _, _, _, _, _, _, _, _, _, _, _, _, _, _, _, _, _, _, _⟩
  simp_all

/-- A register as an instruction reads it. -/
theorem State.instrStart_greg (s : State) (e : Eng) (r : BRun) (i : Fin 16) : (s.instrStart e r).greg e i = s.regIn e r i := by
  have h := (s.instrStart_only e r).mine.1
  simp only [State.greg, State.regIn, h]

theorem State.instrStart_run (s : State) (e : Nat) (r : BRun) : ((s.instrStart e r).eng e).run = some { r with loads := r.aged } := by
  rw [(s.instrStart_only e r).mine.2.2.1, s.landLoads_run]

/-- The start of an instruction changes nothing that no instruction changes. -/
theorem State.instrStart_frame (s : State) (e : Eng) (r : BRun) : EngineFrame s (s.instrStart e r) e := by
  have a := s.landLoads_only e r
  have b := s.instrStart_only e r
  have c := s.landLoads_eq e r
  have q := b.pending
  have p := b.rest
  rw [c] at q p
  exact ⟨fun f hf => (b.others f hf).trans (a.others f hf), b.mine.2.2.2.2.trans a.mine.2.2.1, b.shared.1.trans a.shared.1, q, p⟩

theorem State.instrStart_memory (s : State) (e : Eng) (r : BRun) : SameMemory s (s.instrStart e r) e := by
  have a := s.landLoads_only e r
  have b := s.instrStart_only e r
  exact ⟨b.mine.2.2.2.1.trans a.mine.2.1, b.shared.2.1.trans a.shared.2.1, b.shared.2.2.trans a.shared.2.2⟩

/-- A unit and a sampler that are off: the start of an instruction whose LDT results have landed counts the instruction. -/
theorem State.start_off (t : State) (e : Nat) (r : BRun) (a4 : (t.eng e).due = none) (a5 : bit (t.eng e).smp 0 = false) (st pc : Nat) (lo hi : Fld)
    (f1 : t.flag (F.PMU_UNIT_CTL_RUN st) = false) (hl : (F.PMU_UNIT_CTL_RUN st).addr ≠ lo.addr) (hh : (F.PMU_UNIT_CTL_RUN st).addr ≠ hi.addr) :
    ((((t.addWide lo hi 1).count st 0x08 16 r.cls 0 1).smpSkid e pc).smpEvent e 0 pc r.cls) = t.addWide lo hi 1 := by
  rw [State.count_off]
  · have e1 : ((t.addWide lo hi 1).eng e) = t.eng e := by simp only [State.addWide, State.put_eng]
    have e2 : (t.addWide lo hi 1).smpSkid e pc = t.addWide lo hi 1 := by unfold State.smpSkid; rw [e1, a4]
    rw [e2]; unfold State.smpEvent; simp only [e1, a5, Bool.false_and, Bool.false_eq_true, if_false]
  · rw [← f1]; unfold State.flag State.addWide
    rw [State.put_get_addr _ _ _ _ hh, State.put_get_addr _ _ _ _ hl]

theorem State.landLoads_rest (s : State) (e : Nat) (r : BRun) : (s.landLoads e r).out = s.out ∧ (s.landLoads e r).evs = s.evs ∧
    (s.landLoads e r).vss = s.vss ∧ (s.landLoads e r).ep = s.ep ∧ (s.landLoads e r).regs = s.regs := by
  have c := s.landLoads_eq e r
  generalize s.landLoads e r = t at *
  rw [c]; exact ⟨rfl, rfl, rfl, rfl, rfl⟩

/-- With the counter unit and the sampler off, the start of an instruction is the landing of its LDT results and its count. -/
theorem State.instrStart_off (s : State) (e : Eng) (r : BRun) (h1 : s.flag (F.PMU_UNIT_CTL_RUN (e.val / 16)) = false) (h2 : (s.eng e).due = none)
    (h3 : bit (s.eng e).smp 0 = false) : s.instrStart e r =
      (s.landLoads e r).addWide (F.STN_BE_INSTR_LO_INSTR_LO (e.val / 16) (e.val % 16)) (F.STN_BE_INSTR_HI_INSTR_HI (e.val / 16) (e.val % 16)) 1 := by
  have a := s.landLoads_only e r
  have c := (s.landLoads_rest e r).2.2.2.2
  simp only [State.instrStart]
  refine State.start_off _ e r (a.mine.2.2.2.1.trans h2) (by rw [a.mine.2.2.2.2]; exact h3) _ _ _ _ ?_ ?_ ?_
  · rw [State.flag_congr _ c, h1]
  all_goals have := e.isLt; simp only [F.PMU_UNIT_CTL_RUN, F.STN_BE_INSTR_HI_INSTR_HI, F.STN_BE_INSTR_LO_INSTR_LO, pmuBase]; split <;> omega

/-- With the counter unit and the sampler off, the start of an instruction counts it and nothing more. -/
theorem State.instrStart_quiet (s : State) (e : Eng) (r : BRun) : Quiet s (s.instrStart e r) e := by
  intro h1 h2 h3
  have fr := s.landLoads_rest e r
  rw [State.instrStart_off s e r h1 h2 h3]
  simp only [State.addWide, State.put_out, State.put_evs, State.put_vss, State.put_ep]
  refine ⟨fr.1, fr.2.1, fr.2.2.1, fr.2.2.2.1, fun x hx hy => ?_⟩
  rw [State.put_reg_ne _ _ _ _ hy, State.put_reg_ne _ _ _ _ hx, State.reg_congr _ fr.2.2.2.2]

end Sys2Proof.Machine
end

