-- ==== Sys2Proof/Laws/Fields.lean ====
section
/-!
SUPPORT. Laws/Fields.lean: what a register field reads as after a write: the value written, cut to the field, and every other field as before.
-/

namespace Sys2Proof.Machine

/-- A natural as the part above a field, the field, and the part below it. -/
theorem split_field (x lo w : Nat) : x = x / 2 ^ (lo + w) * 2 ^ (lo + w) + x / 2 ^ lo % 2 ^ w * 2 ^ lo + x % 2 ^ lo := by
  have h1 := Nat.div_add_mod x (2 ^ lo)
  have h2 := Nat.div_add_mod (x / 2 ^ lo) (2 ^ w)
  rw [Nat.div_div_eq_div_mul, ← Nat.pow_add] at h2
  have h3 : x / 2 ^ lo * 2 ^ lo = x / 2 ^ (lo + w) * 2 ^ (lo + w) + x / 2 ^ lo % 2 ^ w * 2 ^ lo := by
    conv_lhs => rw [← h2]
    rw [Nat.add_mul, Nat.pow_add]
    ring
  rw [Nat.mul_comm] at h1
  omega

/-- A word with one field replaced, part by part. -/
theorem Fld.toNat_into (f : Fld) (x : B32) (v : Nat) (h : f.lo + f.w ≤ 32) :
    (f.into x v).toNat = x.toNat / 2 ^ (f.lo + f.w) * 2 ^ (f.lo + f.w) + (v % 2 ^ f.w) * 2 ^ f.lo + x.toNat % 2 ^ f.lo := by
  have hx := split_field x.toNat f.lo f.w
  have lt : x.toNat / 2 ^ (f.lo + f.w) * 2 ^ (f.lo + f.w) + (v % 2 ^ f.w) * 2 ^ f.lo + x.toNat % 2 ^ f.lo < 2 ^ 32 := by
    obtain ⟨k, hk⟩ := Nat.exists_eq_add_of_le h
    have hp : (2 : Nat) ^ 32 = 2 ^ k * 2 ^ (f.lo + f.w) := by rw [hk, Nat.pow_add]; ring
    have q : x.toNat / 2 ^ (f.lo + f.w) < 2 ^ k := Nat.div_lt_of_lt_mul (by rw [Nat.mul_comm, ← hp]; exact x.isLt)
    have a : v % 2 ^ f.w + 1 ≤ 2 ^ f.w := Nat.mod_lt _ (Nat.two_pow_pos _)
    have b : x.toNat % 2 ^ f.lo < 2 ^ f.lo := Nat.mod_lt _ (Nat.two_pow_pos _)
    have c : (v % 2 ^ f.w) * 2 ^ f.lo + x.toNat % 2 ^ f.lo < 2 ^ (f.lo + f.w) := by
      rw [Nat.pow_add, Nat.mul_comm (2 ^ f.lo)]
      nlinarith [Nat.mul_le_mul_right (2 ^ f.lo) a]
    rw [hp]
    nlinarith [Nat.mul_le_mul_right (2 ^ (f.lo + f.w)) (show x.toNat / 2 ^ (f.lo + f.w) + 1 ≤ 2 ^ k from q)]
  have e : x.toNat - f.of x * 2 ^ f.lo + (v % 2 ^ f.w) * 2 ^ f.lo =
      x.toNat / 2 ^ (f.lo + f.w) * 2 ^ (f.lo + f.w) + (v % 2 ^ f.w) * 2 ^ f.lo + x.toNat % 2 ^ f.lo := by
    simp only [Fld.of]; omega
  rw [Fld.into, BitVec.toNat_ofNat, e, Nat.mod_eq_of_lt lt]

/-- A field reads as what was written, cut to its width. -/
theorem Fld.of_into (f : Fld) (x : B32) (v : Nat) (h : f.lo + f.w ≤ 32) : f.of (f.into x v) = v % 2 ^ f.w := by
  rw [Fld.of, Fld.toNat_into f x v h]
  rw [show x.toNat / 2 ^ (f.lo + f.w) * 2 ^ (f.lo + f.w) + (v % 2 ^ f.w) * 2 ^ f.lo + x.toNat % 2 ^ f.lo =
    x.toNat % 2 ^ f.lo + 2 ^ f.lo * (v % 2 ^ f.w + 2 ^ f.w * (x.toNat / 2 ^ (f.lo + f.w))) from by rw [Nat.pow_add]; ring]
  rw [Nat.add_mul_div_left _ _ (Nat.two_pow_pos _), Nat.div_eq_of_lt (Nat.mod_lt _ (Nat.two_pow_pos _)), Nat.zero_add, Nat.add_mul_mod_self_left]
  simp

/-- A field beside the one written keeps its value. -/
theorem Fld.of_into_ne (f g : Fld) (x : B32) (v : Nat) (h : f.lo + f.w ≤ 32) (d : g.lo + g.w ≤ f.lo ∨ f.lo + f.w ≤ g.lo) :
    g.of (f.into x v) = g.of x := by
  have hx := split_field x.toNat f.lo f.w
  rw [Fld.of, Fld.of, Fld.toNat_into f x v h]
  rcases d with d | d
  · obtain ⟨k, hk⟩ := Nat.exists_eq_add_of_le d
    generalize hq : x.toNat / 2 ^ (f.lo + f.w) = q at *
    generalize x.toNat / 2 ^ f.lo % 2 ^ f.w = o at *
    generalize v % 2 ^ f.w = u
    have key : ∀ z : Nat, (q * 2 ^ (f.lo + f.w) + z * 2 ^ f.lo + x.toNat % 2 ^ f.lo) / 2 ^ g.lo % 2 ^ g.w = x.toNat % 2 ^ f.lo / 2 ^ g.lo % 2 ^ g.w := by
      intro z
      rw [show q * 2 ^ (f.lo + f.w) + z * 2 ^ f.lo + x.toNat % 2 ^ f.lo =
        x.toNat % 2 ^ f.lo + 2 ^ g.lo * (2 ^ g.w * (2 ^ k * (q * 2 ^ f.w + z))) from by
          rw [Nat.pow_add 2 f.lo, hk, Nat.pow_add, Nat.pow_add]; ring]
      rw [Nat.add_mul_div_left _ _ (Nat.two_pow_pos _), Nat.add_mul_mod_self_left]
    conv_rhs => rw [hx]
    rw [key, key]
  · obtain ⟨k, hk⟩ := Nat.exists_eq_add_of_le d
    have key : ∀ z r : Nat, z < 2 ^ f.w → r < 2 ^ f.lo →
        (x.toNat / 2 ^ (f.lo + f.w) * 2 ^ (f.lo + f.w) + z * 2 ^ f.lo + r) / 2 ^ g.lo = x.toNat / 2 ^ (f.lo + f.w) / 2 ^ k := by
      intro z r hz hr
      rw [hk, Nat.pow_add 2 (f.lo + f.w) k, ← Nat.div_div_eq_div_mul]
      congr 1
      rw [show x.toNat / 2 ^ (f.lo + f.w) * 2 ^ (f.lo + f.w) + z * 2 ^ f.lo + r = (z * 2 ^ f.lo + r) + 2 ^ (f.lo + f.w) * (x.toNat / 2 ^ (f.lo + f.w)) from by ring]
      rw [Nat.add_mul_div_left _ _ (Nat.two_pow_pos _), Nat.div_eq_of_lt, Nat.zero_add]
      rw [Nat.pow_add, Nat.mul_comm (2 ^ f.lo)]
      nlinarith [Nat.mul_le_mul_right (2 ^ f.lo) (show z + 1 ≤ 2 ^ f.w from hz)]
    have m := Nat.mod_lt x.toNat (Nat.two_pow_pos f.lo)
    conv_rhs => rw [hx]
    rw [key _ _ (Nat.mod_lt _ (Nat.two_pow_pos _)) m, key _ _ (Nat.mod_lt _ (Nat.two_pow_pos _)) m]

/-- A field reads as what was written, cut to its width. -/
theorem State.put_get_self (s : State) (f : Fld) (v : Nat) (h : f.lo + f.w ≤ 32) : (s.put f v).get f = v % 2 ^ f.w := by
  simp [State.get, Fld.of_into f _ v h]

/-- A field beside the one written keeps its value. -/
theorem State.put_get_ne (s : State) (f g : Fld) (v : Nat) (h : f.lo + f.w ≤ 32)
    (d : g.addr ≠ f.addr ∨ g.lo + g.w ≤ f.lo ∨ f.lo + f.w ≤ g.lo) : (s.put f v).get g = s.get g := by
  by_cases e : g.addr = f.addr
  · rw [State.get, State.get, e, State.put_reg_self, Fld.of_into_ne f g _ v h (by rcases d with d | d; exact absurd e d; exact d)]
  · exact State.put_get_addr s f g v e

end Sys2Proof.Machine
end

