-- ==== Sys2Proof/Laws/Packets.lean ====
section
/-!
SUPPORT. Laws/Packets.lean: what the service of a request packet does, said once: a request that is heard is answered with what its
opcode's own part gives.
-/

namespace Sys2Proof.Machine

theorem State.arrived_eq {s : State} (h : s.cmd.via = .arrive) : s.arrived = s := by
  rcases s with ⟨_, _, _, _, _, cmd, _, _, _, _, _, _, _, _, _, _, _, _, _, _⟩
  rcases cmd with ⟨_, _, _, _, _, _, _, _, _, _, _, _, via⟩ <;> simp_all [State.arrived]

theorem State.inService_eq {s : State} (h : s.owing = []) (v : Via) (k : Hdr) : s.inService v k = false := by
  simp [State.inService, h]

theorem State.chanBusy_eq {s : State} (h : s.owing = []) (c e : Nat) : s.chanBusy c e = false := by
  simp [State.chanBusy, h]

/-- An opcode's own part that answers OK under a request that is heard. -/
theorem State.runBody_ok {s : State} {op : OpInfo} {h : Hdr} {x : Sess} {body : Sess → State → Ans} (hf : h.flags = 0) {a : Ans}
    (hb : body x (if op.kind = .A then s.begun op h x else s) = a) (ha : a.st = .ok) : s.runBody op h x body = a := by
  simp only [State.begun] at hb
  simp [State.runBody, hf, hb, ha]

/-- An opcode's own part that answers ACCEPTED: a kind-A command has its record, if the credential has fewer than 16 in progress. -/
theorem State.runBody_accepted {s : State} {op : OpInfo} {h : Hdr} {x : Sess} {body : Sess → State → Ans} (hf : h.flags = 0) {a : Ans}
    (hb : body x (if op.kind = .A then s.begun op h x else s) = a) (ha : a.st = .accepted) (hl : op.kind ≠ .A ∨ s.asyncLive x.key < 16) :
    s.runBody op h x body = a := by
  have : ¬ (op.kind = .A ∧ 16 ≤ s.asyncLive x.key) := by
    rcases hl with h | h
    · simp [h]
    · omega
  simp only [State.begun] at hb
  simp [State.runBody, hf, hb, ha, this]

/-- The own part of a request of no kind A is what the service takes, whatever it answers. -/
theorem State.runBody_now {s : State} {op : OpInfo} {h : Hdr} {x : Sess} {body : Sess → State → Ans} (hf : h.flags = 0) {a : Ans}
    (hk : op.kind ≠ .A) (hb : body x s = a) : s.runBody op h x body = a := by
  rcases a with ⟨st, detail, data, t, owed⟩
  cases st <;> simp [State.runBody, hf, hk, hb]

/-- The service of a request that is heard: its own part, then the reply, now or later. -/
theorem State.serve_served {s : State} {op : OpInfo} {h : Hdr} {x : Sess} (self : Instr) (params : List Dat) (body : Sess → State → Ans)
    (hh : Heard s op h x) : s.serve self op h params body =
      if ((s.disarm op.code).runBody op h x body).owed then
        if ((s.disarm op.code).runBody op h x body).st = .ok then
          { ((s.disarm op.code).runBody op h x body).s with
            cmd := { ((s.disarm op.code).runBody op h x body).s.cmd with owed := some { h := h, via := .arrive, opcode := op.code } } }
        else ((s.disarm op.code).runBody op h x body).s
      else answered op h ((s.disarm op.code).runBody op h x body) := by
  have h1 := State.arrived_eq hh.arriving
  have h2 := State.inService_eq hh.quiet .arrive h
  have h3 := State.chanBusy_eq hh.quiet h.chan.val h.eid.toNat
  have hf : h.flags.toNat = 0 := by simp [hh.flags]
  have h4 : ¬ (x.form = .node ∧ x.n ≠ s.nodeId) := by
    rcases hh.here with h | h <;> simp [h]
  have h5 : ¬ ((op.code = 0x0703 ∨ op.code = 0x0705) ∧ s.get F.FAB_STATE_MGR_NODE < 48 ∧ s.get F.FAB_STATE_MGR_NODE ≠ s.nodeId
              ∧ Via.isFwd .arrive = false) := by
    rcases hh.mine with h | h | h
    · simp [h]
    · simp [h.1, h.2]
    · omega
  unfold State.serve
  simp only [hh.arriving, h2, h3, hh.up, hh.booted, hh.empty, h1, hh.who, hh.len, hf]
  simp only [Bool.true_or, Bool.not_true, Bool.false_or, Bool.and_false, Bool.false_eq_true, if_false, List.isEmpty_nil, Bool.false_and]
  have h6 : (if op.kind = .R then none else s.keptReply .arrive h) = none := by simp [hh.fresh]
  rw [h6]
  simp [h4, h5, answered]

/-- The service of a request that is heard, for an opcode part whose reply is not owed. -/
theorem State.serve_heard {s : State} {op : OpInfo} {h : Hdr} {x : Sess} (self : Instr) (params : List Dat) (body : Sess → State → Ans)
    (hh : Heard s op h x) (ho : ((s.disarm op.code).runBody op h x body).owed = false) :
    s.serve self op h params body = answered op h ((s.disarm op.code).runBody op h x body) := by
  rw [State.serve_served self params body hh, ho]; simp

/-- A request that is heard and whose own part answers OK. -/
theorem State.serve_ok {s s' : State} {op : OpInfo} {h : Hdr} {x : Sess} (self : Instr) (params : List Dat) (body : Sess → State → Ans) {a : Ans}
    (hh : Heard s op h x) (hd : s.disarm op.code = s') (hk : op.kind ≠ .A) (hb : body x s' = a) (ha : a.st = .ok) (ho : a.owed = false) :
    s.serve self op h params body = answered op h a := by
  have hr : (s.disarm op.code).runBody op h x body = a := State.runBody_ok hh.flags (by simp [hk, hd, hb]) ha
  rw [State.serve_heard self params body hh (by rw [hr, ho]), hr]

/-- A request that is heard and that is of no kind A, whatever its own part answers at once. -/
theorem State.serve_now {s s' : State} {op : OpInfo} {h : Hdr} {x : Sess} (self : Instr) (params : List Dat) (body : Sess → State → Ans) {a : Ans}
    (hh : Heard s op h x) (hd : s.disarm op.code = s') (hk : op.kind ≠ .A) (hb : body x s' = a) (ho : a.owed = false) :
    s.serve self op h params body = answered op h a := by
  have hr : (s.disarm op.code).runBody op h x body = a := State.runBody_now hh.flags hk (by rw [hd, hb])
  rw [State.serve_heard self params body hh (by rw [hr, ho]), hr]

/-- A request that is heard and whose own part answers OK later: its reply is owed. -/
theorem State.serve_owed {s s' : State} {op : OpInfo} {h : Hdr} {x : Sess} (self : Instr) (params : List Dat) (body : Sess → State → Ans) {a : Ans}
    (hh : Heard s op h x) (hd : s.disarm op.code = s') (hk : op.kind ≠ .A) (hb : body x s' = a) (ha : a.st = .ok) (ho : a.owed = true) :
    s.serve self op h params body =
      { a.s with cmd := { a.s.cmd with owed := some { h := h, via := .arrive, opcode := op.code } } } := by
  have hr : (s.disarm op.code).runBody op h x body = a := State.runBody_now hh.flags hk (by rw [hd, hb])
  have := State.serve_served (s := s) self params body hh
  rw [this, hr]
  simp [ho, ha]

/-- A kind-A request that is heard and whose own part answers ACCEPTED. -/
theorem State.serve_accepted {s s' : State} {op : OpInfo} {h : Hdr} {x : Sess} (self : Instr) (params : List Dat) (body : Sess → State → Ans)
    {a : Ans} (hh : Heard s op h x) (hd : s.disarm op.code = s') (hk : op.kind = .A) (hl : s'.asyncLive x.key < 16)
    (hb : body x (s'.begun op h x) = a) (ha : a.st = .accepted) (ho : a.owed = false) :
    s.serve self op h params body = answered op h a := by
  have hr : (s.disarm op.code).runBody op h x body = a :=
    State.runBody_accepted hh.flags (by simp [hk, hd, hb]) ha (.inr (by rw [hd]; exact hl))
  rw [State.serve_heard self params body hh (by rw [hr, ho]), hr]

/-- Staging succeeds when the cross-check passes and the transaction has room. -/
theorem State.stage_ok {s t : State} {x : Sess} {ks : List ItemK} {bytes : Nat} {check : State → Option (Status × Nat)}
    (hc : check (s.withItems x ks) = none) (ha : s.addItems x.key ks bytes = some t) : s.stage_ x ks bytes check = .ok t := by
  simp only [State.withItems] at hc
  simp [State.stage_, hc, ha]

/-- Only group 0x0F disarms a debug lock. -/
theorem State.disarm_eq (s : State) {code : Nat} (h : code / 256 ≠ 0x0F) : s.disarm code = s := by
  simp [State.disarm, h]

end Sys2Proof.Machine
end

