-- ==== Sys2Proof/WellFormed.lean ====
section
/-!
DEFINITION. WellFormed.lean: which terms of Instr the outside world can send: the bounds of the spec that an operand's type does not carry.
The machine gives every term a meaning; these checks say which of them stand for a command of the hardware.
-/

namespace Sys2Proof

/-- Words of n bits. -/
def natsOk (bits : Nat) (xs : List Nat) : Bool := xs.all fun x => decide (x < 2 ^ bits)

/-- A TLP as stage 1 parses it: a header of at most 64 bytes with its prefixes (R182), a payload of at most 4,096 bytes. -/
def Tlp.wf (t : Tlp) : Bool := decide (t.hdr.length ≤ 64) && decide (t.data.length ≤ 4096)

/-- A strap reading: eight counts of a 10-bit converter (R405). -/
def samplesOk (xs : List Nat) : Bool := xs.length == 8 && natsOk 10 xs

/-- A mask of a station's 17 lanes (R36). -/
def lanesOk (m : Nat) : Bool := decide (m < 2 ^ 17)

/-- Per-class counts of a Seam link: four, modulo 65,536 (R259). -/
def countsOk (xs : List Nat) : Bool := xs.length == 4 && natsOk 16 xs

/-- A carriage word's RLEN field has 11 bits (Table 9.5). -/
def Carriage.wf (c : Carriage) : Bool := decide (c.rlen < 2 ^ 11)

/-- A bypass message (Table 9.9). -/
def BMsg.wf : BMsg → Bool
  | .spareAbort _ reason => decide (reason < 2 ^ 8)
  | .creditAudit _ cons => countsOk cons
  | .resync _ rx freed => countsOk rx && countsOk freed
  | .rttProbe a => natsOk 32 [a]
  | .rttEcho a b => natsOk 32 [a, b]
  | .timeReq a => natsOk 64 [a]
  | .timeResp a b c d => natsOk 64 [a, b, c, d]
  | _ => true

/-- A training block (Table 9.12). -/
def TrainBlk.wf (b : TrainBlk) : Bool := b.res.length == 4 && natsOk 16 (b.units :: b.headroom :: b.res)

/-- What a mailbox read brings (R383): a request that can be read has the length its entry states. -/
def MbxRead.wf : MbxRead → Bool
  | .entryFail => true
  | .entry _ _ len req _ => req.all fun b => b.length == len.toNat

/-- The bytes of parameters of a packet whose opcode takes a variable number of them (chapter 14). -/
def Instr.paramBytes : Instr → Nat
  | .stageReg _ items => 12 * items.length
  | .lend _ words _ => 4 * words.length
  | .stageWindow _ _ _ entry | .stageMgroup _ _ entry | .stageExport _ _ entry => 4 + 4 * entry.length
  | .stageBinding _ _ _ home far => 4 + 4 * (home ++ far).length
  | .stageRegions _ _ _ recs | .stageProxyRegions _ _ recs => 4 + 4 * recs.flatten.length
  | .stagePermission _ _ _ _ vals => 4 + vals.length
  | .imageTransfer _ _ piece | .fwWrite _ _ piece | .cfgWrite _ _ piece => 4 + piece.length
  | .uartLoad _ _ _ piece => 8 + piece.length
  | .tableWrite _ _ _ words => 8 * (1 + words.length)
  | .panelRestore _ _ _ grants rec => 8 + 2 * grants.length + rec.length
  | .keyEnroll _ _ key pad _ => 1 + (key ++ pad).length
  | _ => 0

/-- What the lanes of a station report, as a mask. -/
def Instr.laneMask : Instr → Nat
  | .receiverDetected _ lanes | .bitLock _ lanes => lanes
  | .lockComplete _ _ failed inverted _ => failed ||| inverted
  | .linkUp _ up => up.failed
  | _ => 0

/-- Time stamps of 32 bits (Table 9.9). -/
def Instr.stamps : Instr → List Nat
  | .rttProbe _ stamp hold | .rttEcho _ stamp hold => [stamp, hold]
  | _ => []

/-- The lengths and bounds of what a command brings beside its parameters. -/
def Instr.partsOk : Instr → Bool
  | .mctpMessage _ _ _ _ pkt | .uartFrame pkt => decide (pkt.length ≤ 4100)
  | .mailboxEntry _ rd => rd.wf
  | .tlpReceive _ _ _ t => t.wf
  | .seamDataFlit _ _ starts ends => decide (ends.length ≤ 12) && starts.all fun r => r.car.wf && r.tlp.wf
  | .seamBypassFlit _ _ msgs => decide (msgs.length ≤ 14) && msgs.all (BMsg.wf ∘ Prod.snd)
  | .seamTrainFlit _ b => b.wf
  | .spareAbort _ _ reason => natsOk 8 [reason]
  | .creditAudit _ _ cons => countsOk cons
  | .resync _ _ rx freed => [rx, freed].all countsOk
  | .standbyPowerOn samples | .mainPowerOnReset samples | .warmReset samples => samplesOk samples
  | .descriptorFetch _ _ _ data => data.all fun b => b.length == 64
  | .linkUp _ up => up.credits.length == 6
  | _ => true

/-- A command that the hardware can be sent: a packet has at most 4,080 bytes of parameters (R386). -/
def Instr.wf (i : Instr) : Bool := decide (i.paramBytes ≤ 4080) && lanesOk i.laneMask && natsOk 32 i.stamps && i.partsOk

end Sys2Proof
end

