-- ==== Sys2Proof/Tests/Slice0.lean ====
section
/-!
SUPPORT. Tests/Slice0.lean: what each check of WellFormed refuses, words and values of the spec's worked examples against the model, and for
every statement with hypotheses a state and operands that meet them, clause by clause.
-/

set_option maxRecDepth 20000
set_option linter.unusedVariables false
-- one proof after the other: each waits for the kernel, and a thread for each would take the memory of its stack
set_option Elab.async false

namespace Sys2Proof.Tests

open Sys2Proof.Machine

/-! ### Ill-formed terms, one for each check -/

theorem test_wf_params_refused : (Instr.fwWrite ⟨0, 0, 0, 0, 0xFFFF, 0, 0⟩ 0 (List.replicate 4077 0)).wf = false := by decide +kernel
theorem test_wf_tlp_refused : (Instr.tlpReceive (.port 0) [] [] { (default : Tlp) with hdr := List.replicate 65 0 }).wf = false := by decide +kernel
theorem test_wf_samples_refused : (Instr.warmReset [0, 0, 0, 0, 0, 0, 0, 1024]).wf = false := by decide
theorem test_wf_lanes_refused : (Instr.receiverDetected 0 (2 ^ 17)).wf = false := by decide
theorem test_wf_counts_refused : (Instr.creditAudit 0 0 [0, 0, 65536, 0]).wf = false := by decide
theorem test_wf_stamps_refused : (Instr.rttProbe 0 (2 ^ 32) 0).wf = false := by decide
theorem test_wf_train_refused : (Instr.seamTrainFlit 0 ⟨0, false, false, false, false, 0, 0, 0, 0, 0, [0, 0, 0], 0, 0, 0⟩).wf = false := by decide
theorem test_wf_bypass_refused : (Instr.seamBypassFlit 0 ⟨0, 0, false, 0, 0, 0, 0, false, []⟩ [(0, .spareAbort 0 256)]).wf = false := by decide
theorem test_wf_carriage_refused :
    (Instr.seamDataFlit 0 ⟨0, 0, false, 0, 0, 0, 0, false, []⟩ [⟨⟨0, 0, 0, 0, 0, 0, 0, false, false, 2048, 0⟩, default⟩] []).wf = false := by decide
theorem test_wf_mailbox_refused : (Instr.mailboxEntry 0 (.entry 0 0 24 (some []) true)).wf = false := by decide
theorem test_wf_descriptor_refused : (Instr.descriptorFetch 0 0 none (some [])).wf = false := by decide
theorem test_wf_credits_refused : (Instr.linkUp 0 ⟨6, 16, 0, true, true, [], []⟩).wf = false := by decide
theorem test_wf_command_accepted : (Instr.mailboxEntry 0 (.entry 0 0 2 (some [1, 2]) true)).wf = true := by decide

/-! ### Bobbin words: the program of Table 7.12, each with its instruction -/

theorem test_program_words :
    [0x60400006, 0x18C40004, 0x510C2000, 0x60800004, 0x588C2001, 0x514C2001, 0x6180000D, 0x19980008, 0x05984C00, 0x89140001, 0xFC000000, 0xC5800001,
      0xFC000001].map (decodeBobbin 64) =
    [some (.ctx 64 1 6), some (.shli 64 3 1 4), some (.ldt 64 4 3 0x2000 0), some (.ctx 64 2 4), some (.addt 64 2 3 0x2001 0),
      some (.ldt 64 5 3 0x2001 0), some (.ctx 64 6 13), some (.shli 64 6 6 8), some (.aluOr 64 6 6 1), some (.bltu 64 4 5 1),
      some (.exitForward 64), some (.evt 64 6 1), some (.exitDrop 64)] := by decide +kernel

/-- That program passes the checker, and its two paths have 11 and 12 instructions. -/
theorem test_program_paths :
    let prog : List (Nat × Instr) := (List.range 13).zip [.ctx 64 1 6, .shli 64 3 1 4, .ldt 64 4 3 0x2000 0, .ctx 64 2 4, .addt 64 2 3 0x2001 0,
      .ldt 64 5 3 0x2001 0, .ctx 64 6 13, .shli 64 6 6 8, .aluOr 64 6 6 1, .bltu 64 4 5 1, .exitForward 64, .evt 64 6 1, .exitDrop 64]
    checkPaths 13 [0, 0xFFFF, 0xFFFF] prog = none ∧ (longest prog).head? = some (0, 12) ∧ (longest prog)[10]? = some (10, 1) := by decide +kernel

/-- Reserved codes spell nothing: OP 0x0B, ALU function 11, and a NOP with a bit set. -/
theorem test_reserved_words : [0x2C000000, 0x04002C00, 0x00000001].map (decodeBobbin 0) = [none, none, none] := by decide +kernel

/-! ### Values of the worked examples -/

/-- Chapter 3: STN_PORT_CFG of P20, built field by field, and of P18; their addresses (R8, Table 3.8). -/
theorem test_port_cfg_word :
    ([(F.STN_PORT_CFG_ROLE 2 2, 2), (F.STN_PORT_CFG_VS 2 2, 3), (F.STN_PORT_CFG_DEVNUM 2 2, 1), (F.STN_PORT_CFG_MAX_RATE 2 2, 6),
      (F.STN_PORT_CFG_FLIT_EN 2 2, 1), (F.STN_PORT_CFG_L0P_EN 2 2, 1), (F.STN_PORT_CFG_ASPM_L1_EN 2 2, 1)].foldl
        (fun (x : B32) (y : Fld × Nat) => y.1.into x y.2) 0) = 0x000D608E
      ∧ (F.STN_PORT_CFG_ROLE 2 2).addr = 0x01220200 := by decide +kernel

/-- Chapter 4: a record of 272 TLP bytes takes 280, and one of 76 takes 84 and needs one cell. -/
theorem test_record_size : recSize { tlp := default, btag := 0, rlen := 272, hfmt := false, pass := false, ing := 0, vs := 0, node := 0, rid0 := 0, cls := 0, vc := 0 } = 280
    ∧ ({} : Queue).need 76 = 1 := by decide +kernel

/-- Chapter 5: virtual function index 5 is 83:15h, and its REAL_BASE0 is 0x0000_2000_4005_0000. -/
theorem test_lent_function :
    let pr : SrIov := { (default : SrIov) with pf := 0x8300, enabled := true, memEnabled := true, numVfs := 8, first := 16, stride := 1, bars := [0x0000200040000000] }
    vfIndex pr 0x8315 = some 5 ∧ ({ w := fun k => if k = 3 then 16 else 0 } : LendReq).real pr 5 0 = 0x0000200040050000 := by decide +kernel

/-- Chapter 14: the STAGE_WINDOW packet of the mailbox of VS3. -/
theorem test_request_packet :
    decodePacket true 6 0 ([0x00, 0x04, 0x00, 0x01, 0x21, 0, 0, 0, 0x24, 0, 0x03, 0x30, 0x04, 0, 0x01, 0, 12, 0, 0, 0, 0x07, 0x60, 0x51, 0] ++ List.replicate 28 0 ++ [0, 0, 0, 0])
      = .stageWindow ⟨6, 0, 0x21, 0x00010004, 0x3003, 0, 0⟩ 12 0 [0x00516007, 0, 0, 0, 0, 0, 0, 0] := by decide +kernel

/-- Chapter 16: SPC_CFG 0x0064_1902 is a legal setting of class 2 and gives V_CB 0x78 and V_LIM 0x96. -/
theorem test_slot_thresholds :
    spcCfgOk 5 0x00641902 = true ∧ (State.reset.setReg (F.SPC_CFG_CLASS 5).addr 0x00641902).spcThrWord 5 = 0x9678 := by decide +kernel

/-- R37: exactly 26 of the 256 BIFURC values are valid. -/
theorem test_bifurc_count : ((List.range 256).filter bifurcValid).length = 26 := by decide +kernel

/-- Chapter 17: S05L09_RXN is ball AW70 and SLOT07_GATE is F72. -/
theorem test_ball_grid : ballAt 37 70 = .lane 5 9 true true ∧ ballAt 6 72 = .slot 7 "GATE" := by decide +kernel

/-! ### One step -/

/-- A command runs with the rest of the queue behind it. -/
theorem test_step_takes_front :
    step { State.reset with pending := [.seamBadFlit 0, .helloRound] } = exec (.seamBadFlit 0) { State.reset with pending := [.helloRound] } := by rfl

/-- An empty queue lets a nanosecond pass. -/
theorem test_idle_step : (match step State.reset with | .next t => t.clk.now | _ => 0) = 1 := by decide +kernel

/-- The table gives no row bits. -/
theorem test_no_table_words : decodeTableWord 32 0 = none ∧ State.reset.withFetchWord 32 0 = State.reset := by constructor <;> rfl

end Sys2Proof.Tests

/-! ### Witnesses: for each statement, states and operands that meet the hypotheses of each of its clauses -/

namespace Sys2Proof.Witness

open Sys2Proof.Machine

/-- Several updates in order. -/
def puts (s : State) (l : List (Fld × Nat)) : State := l.foldl (fun s x => s.put x.1 x.2) s

theorem ok_of {ε α : Type} {e : Except ε α} (h : e.toOption.isSome = true) : e = .ok (e.toOption.get h) := by
  cases e with
  | ok a => rfl
  | error a => simp [Except.toOption] at h

theorem ok_is {ε α : Type} {e : Except ε α} {a : α} (h : e.toOption = some a) : e = .ok a := by
  cases e with
  | ok b => simpa [Except.toOption] using h
  | error b => simp [Except.toOption] at h

theorem error_is {ε α : Type} {e : Except ε α} {a : ε} (h : (match e with | .error k => some k | .ok _ => none) = some a) : e = .error a := by
  cases e with
  | ok b => simp at h
  | error b => simpa using h

/-- Aclia is up, domain 62 is on, and the fabric manager holds the credential 0x0001_0001 on channel 0. -/
def fm : State :=
  let s := State.reset
  let s := { s with acl := { s.acl with up := true }, cmd := { s.cmd with creds := [(1, some ⟨1, .fm, 0xFF, 0, 0, 0⟩)], fresh := 2 },
                    pow := { s.pow with stby := true, sequenced := true } }
  s.put (F.GLB_PD_STATE_STATE 62) 2
/-- The same with every power domain on. -/
def fmAll : State := { fm with regs := (List.range 63).map fun d => ((F.GLB_PD_STATE_STATE d).addr, 2) }

/-- A request's header from the fabric manager for a scope. -/
def hd (scope : B16) : Hdr := { chan := 0, eid := 0, tag := 1, cred := 0x00010001, scope := scope, flags := 0, crc := 0 }
/-- The sender and object of that request. -/
def xs (form : Form) (n : Nat) : Sess := { cls := some .fm, vs := 0xFF, panel := 0, key := 0x00010001, form := form, n := n }
def hdev : Hdr := hd 0xFFFF
def xdev : Sess := xs .dev 0
def hstn : Hdr := hd 0x1000
def xstn : Sess := xs .stn 0
def hport : Hdr := hd 0x2000
def xport : Sess := xs .port 0
def hvs : Hdr := hd 0x3000
def xvs : Sess := xs .vs 0
def hpnl : Hdr := hd 0x4000
def xpnl : Sess := xs .panel 0
def hnode : Hdr := hd 0x50FF
def xnode : Sess := xs .node 0xFF

/-- Aclia is up and nothing of the channel or the core is in the way of a request. -/
abbrev Idle (s : State) (h : Hdr) : Prop :=
  s.acl.up ∧ s.flag F.ACW_FW_STATUS_UART_BOOT = false ∧ s.cmd.via = .arrive ∧ s.owing.length = 0 ∧ (s.chan h.chan.val).held.length = 0
/-- The request itself passes: no repeat, no flag set, its length and its checks good, and this node's to answer. -/
abbrev Passes (s : State) (op : OpInfo) (h : Hdr) (x : Sess) : Prop :=
  s.keptReply .arrive h = none ∧ h.flags = 0 ∧ op.len ∧ (s.checks op h .arrive).toOption = some x ∧ (x.form = .node → x.n = s.nodeId)
/-- An opcode of the manager node reaches a node that is it, or that has none. -/
abbrev Mine (s : State) (op : OpInfo) : Prop :=
  s.get F.FAB_STATE_MGR_NODE = s.nodeId ∨ (op.code ≠ 0x0703 ∧ op.code ≠ 0x0705) ∨ 48 ≤ s.get F.FAB_STATE_MGR_NODE

theorem heard_of {s : State} {op : OpInfo} {h : Hdr} {x : Sess} (k : Idle s h ∧ Passes s op h x ∧ Mine s op) : Heard s op h x where
  up := k.1.1
  booted := k.1.2.1
  arriving := k.1.2.2.1
  quiet := List.eq_nil_of_length_eq_zero k.1.2.2.2.1
  empty := List.eq_nil_of_length_eq_zero k.1.2.2.2.2
  fresh := k.2.1.1
  flags := k.2.1.2.1
  len := k.2.1.2.2.1
  who := ok_is k.2.1.2.2.2.1
  here := (Decidable.em (x.form = .node)).symm.imp_right k.2.1.2.2.2.2
  mine := k.2.2

/-- The fabric manager has an open transaction. -/
def txn (items : List ItemK) : State :=
  { fm with cmd := { fm.cmd with txns := [⟨0x00010001, items.map fun k => ⟨k, 0⟩, 12, 0, 0⟩] } }

/-- The same with the domains of station 0 alone on. -/
def fm0 : State := { fm with regs := [0, 16, 32].map fun d => ((F.GLB_PD_STATE_STATE d).addr, 2) }
def txn0 (items : List ItemK) : State :=
  { fm0 with cmd := { fm0.cmd with txns := [⟨0x00010001, items.map fun k => ⟨k, 0⟩, 12, 0, 0⟩] } }

/-- A checksum, byte by byte as a number. -/
def crcGo : Bytes → Nat → Nat
  | [], n => n
  | b :: bs, n => match (crcByte (BitVec.ofNat 32 n) b).toNat with
    | 0 => crcGo bs 0
    | k + 1 => crcGo bs (k + 1)

theorem crcGo_eq (bs : Bytes) : ∀ n < 2 ^ 32, crcGo bs n = (bs.foldl crcByte (BitVec.ofNat 32 n)).toNat := by
  induction bs with
  | nil => intro n h; simp only [crcGo, List.foldl_nil, BitVec.toNat_ofNat]; omega
  | cons b bs ih =>
    intro n h
    have hl := (crcByte (BitVec.ofNat 32 n) b).isLt
    simp only [crcGo, List.foldl_cons]
    split
    · rename_i e
      have : BitVec.ofNat 32 0 = crcByte (BitVec.ofNat 32 n) b := by simp [← e]
      rw [ih 0 (by omega), this]
    · rename_i k e
      have : BitVec.ofNat 32 (k + 1) = crcByte (BitVec.ofNat 32 n) b := by
        rw [show k + 1 = (crcByte (BitVec.ofNat 32 n) b).toNat from e.symm]; simp
      rw [ih (k + 1) (by omega), this]

/-- Port 0 in a stage. -/
def atStage (g : Nat) : State := fm.put (stageFld 0) g

/-- The record of a frozen panel with no slots. -/
def record : Bytes :=
  leBytes 8 0x0006000143505648 ++ List.replicate 32 0 ++ leBytes 8 0x0000000100000404 ++ List.replicate 716 0 ++ leBytes 4 947746593

theorem record_crc : (crc32c (record.take 764)).toNat = 947746593 := by
  rw [crc32c, BitVec.toNat_not, ← crcGo_eq _ _ (by decide)]
  decide +kernel

theorem recordOk_of (r : Bytes) (c : Nat) (h : (crc32c (r.take 764)).toNat = c)
    (k : (leAt r 0 4 == 0x43505648 && leAt r 4 2 == 1 && leAt r 6 1 == pFrozen && leAt r 764 4 == c
      && ringOk (leAt r 24 8) (leAt r 32 8) (leAt r 40 1) (leAt r 41 1) (leAt r 42 2) (leAt r 44 1) (leAt r 45 1)
      && (slice r 19 1).all (fun b => b == 0) && decide (leAt r 20 4 < 2 ^ 20) && (slice r 46 2).all (fun b => b == 0)
      && (slice r 58 6).all (fun b => b == 0) && (slice r 160 2).all (fun b => b == 0) && (slice r 192 572).all (fun b => b == 0)
      && decide (leAt r 56 1 ≤ 1) && decide (leAt r 57 1 ≤ 1)) = true) : recordOk r = true := by
  subst h
  exact k

theorem record_ok : recordOk record = true := recordOk_of record _ record_crc (by decide +kernel)

/-- A configuration image of one empty section. -/
def cfgImg : Bytes :=
  leBytes 16 0x00000001000000300001000146435648 ++ List.replicate 16 0 ++ leBytes 12 1 ++ leBytes 4 3315014482

/-- The base point of P-384 as an uncompressed point. -/
def keyP : Bytes := (leBytes 97 0x04aa87ca22be8b05378eb1c71ef320ad746e1d3b628ba79b9859f741e082542a385502f25dbf55296c3a545e3872760ab73617de4a96262c6f5d9e98bf9292dc29f8f41dbd289a147ce9da3113b5f0b8c00a60b1ce1d7e819d7a431d7c90ea0e5f).reverse

/-- A panel in a state. -/
def inP (p : Nat) : State := fm.put (F.SHT_PNL_STATE_STATE 0) p

/-- Words of station tables set by key. -/
def puts0 (s : State) (l : List (Nat × B32)) : State := l.foldl (fun s x => s.setKey x.1 x.2) s

/-- Node 3 manages the fabric and every node is this one. -/
def mgr : State := puts fm [(F.FAB_ID_NODE_ID, 3), (F.FAB_STATE_STEP, 10), (F.FAB_STATE_MGR_NODE, 3)]

/-- The manager node has a transaction with a path pin. -/
def txnF : State :=
  { mgr with cmd := { mgr.cmd with txns := [⟨0x00010001, [⟨.regs [(0x02202000, 3, 1)], 0⟩], 12, 0, 0⟩] } }
/-- A record, a destination and a TLP in flight. -/
def rec0 : Rec := { tlp := default, btag := 0, rlen := 12, hfmt := false, pass := false, ing := 0, vs := 0, node := 0xFF, rid0 := 0, cls := 0, vc := 0, destPort := 8 }
def dst0 : Dest := { bank := 0, qid := 0, r := rec0 }
def fl0 : Flight := { id := 1, src := 0, cls := 0, vc := 0, tlp0 := default, dests := [dst0] }
def withFl (s : State) (f : Flight) : State := { s with core := { s.core with flights := [f] } }
/-- A run of engine 0 on that TLP. -/
def run0 : BRun := { fid := 1, cls := 0, vc := 0, win := [], win0 := [], tag := 0, tag0 := 0, hdrLen := 12, npfx := 0, epoch := 0 }
def onRun : State := withFl (fm.modEng 0 fun x => { x with run := some run0 }) fl0
/-- A program image with an entry for each class at word 0. -/
def img0 : Bytes := List.replicate 64 0
/-- A downstream port 8 of virtual switch 0 and, as port 0, its upstream port. -/
def ports : State := puts fm [(F.STN_LANE_MODE_AUX_EN 0, 1), (F.STN_PORT_CFG_ROLE 0 0, 1), (F.STN_PORT_CFG_ROLE 0 8, 2)]

/-- What a probe finds of a physical function at 5:00.0 with virtual functions from 5:00.1 on, and port 8, an ACTIVE downstream port of virtual
switch 0 above them; port 0 is the upstream port of virtual switch 1. -/
def sriov0 : SrIov := { (default : SrIov) with pf := 0x0500, enabled := true, memEnabled := true, numVfs := 8, first := 1, stride := 1, bars := [0x0000200040000000] }
def lendable : State := ((puts ports [(F.STN_PORT_CFG_VS 0 0, 1), (stageFld 8, stACTIVE)]).setCw 8 ofBUS 0x00050500)

/-- A lending in state st at index 0 of station 0, of virtual switch 1's port 8 to virtual switch 0 as device 1, BAR 0 of 4096 bytes. -/
def lent (st : Nat) : State :=
  puts0 ports [(tkey tLend 0 0 0, BitVec.ofNat 32 (0x200809 + 2 * st)), (tkey tLend 0 0 1, 0x900000), (tkey tLend 0 0 3, 12)]
/-- Port 0 is ACTIVE. -/
def portUp : State := ports.put (stageFld 0) stACTIVE
def phys0 : ReadPhys := { lines := [], links := [], sound := true }
def cfg0 : CfgReq := { write := false, type1 := false, target := 0, reg := 0, be := 15, data := 0, rid := 0, tag := 0 }
/-- Entry 31 of station 0's containment queue. -/
def cq (kind st : Nat) : State :=
  puts portUp [(F.STN_CQ_ENTRY0_VALID 0 31, 1), (F.STN_CQ_ENTRY0_STATE 0 31, st), (F.STN_CQ_ENTRY0_KIND 0 31, kind), (F.STN_CQ_ENTRY0_OBJECT 0 31, 0)]
def flE : Flight := { fl0 with entered := true }
def flA : Flight := { fl0 with entered := true, dests := [{ dst0 with admitted := true }] }
def loads (a b : Bytes) : State :=
  { fm with acl := { fm.acl with cfgA := a, cfgB := b }, pow := { fm.pow with running := true } }

/-- An endpoint function that responds, its vector 255 unmasked; and virtual switch 0 with it as one of its functions. -/
def epOn : EpFn := { cfg := [(0x04, 6), (0x50, 0x80000000)], vecs := [(255, { masked := false })] }
def host : State := fm.modVs 0 fun w => { w with f0 := epOn, f1 := epOn }
/-- Window 0 of virtual switch 0's BAR 0 over the registers from a MiB on, and what waits at its proxy. -/
def prox (mib : Nat) (l : List ProxyAcc) : State :=
  (puts host [(F.ACW_EP_WIN_VALID 0 0, 1), (F.ACW_EP_WIN_DBASE 0 0, mib)]).setProxyQ 0 l
/-- Station 0's Seam link is ACTIVE in node 3, the manager. -/
def live : State := (mgr.put (F.STN_LANE_MODE_MODE 0) 1).put (stageFld 0) stACTIVE
def ctl0 : CtlHdr := { stn := 0, src := 5, mseq := 1, tagOk := true }
def hello0 : HelloMsg := { node := 5, uid := 0, mgrCap := false, cand := 0xFF, candUid := 0, mgr := false, epoch := 0, startStep := 0 }
def ev0 : Ev := { id := 1, time := 0, code := 0x1000, sev := 0, src := 31, scope := 0xFFFF, flags := 0, gap := 0, detail := [] }
def late0 : LateRec := { time := 0, rid := 0, ingPort := 0, ingVs := 0, ingNode := 3, discNode := 0, discPort := 0, cause := 0, len := 0, addr := 0 }
def live' (f : Fab → Fab) : State := { live with fab := f live.fab }
def held (f : EvRam) : State := { fm with evs := { fm.evs with ram := [(31, f)] } }

/-- Port 8 is an ACTIVE downstream port. -/
def dspUp : State := ports.put (stageFld 8) stACTIVE
def mainOn : State := { fm with pow := { fm.pow with running := true } }
def flit0 : FlitHdr := { seq := 4095, ack := 0, nak := true, crClass := 3, crCount := 0, back := 0, xoff := 0, onoff := false, flips := [] }
def train0 : TrainBlk := { tstep := 0, seen := false, allow128 := false, spareFit := true, fcMode := false, node := 5, port := 0, fabricId := 0, units := 0, headroom := 0, res := [0, 0, 0, 0], stamp := 0, echo := 0, hold := 0 }
def sl (f : SeamSt → SeamSt) : State := live.modSeam 0 f
def bound : State := puts host [(F.SHT_PNL_BIND_VALID 4095, 1), (F.SHT_PNL_BIND_VS 4095, 0), (F.SHT_PNL_RING_SQ_ORDER 4095, 16), (F.SHT_PNL_RING_CQ_ORDER 4095, 4)]

/-- Mover 0 holds panel 0 with a read outstanding. -/
def rd0 : ShRead := { tag := 255, panel := 0, off := 0, len := 64, src := 0, dst := 0, pages := [] }
def moving (f : PanelSt → PanelSt) : State :=
  ((bound.put (F.SHT_PNL_STATE_STATE 0) pRunning).modMover 0 fun y => { y with panel := some 0, left := 64 }).modPnl 0 f
def descr : Bytes := leBytes 16 0x0000000000000000_0000004000000001 ++ List.replicate 48 0
def meas0 : SlotMeas := { vin := 12000, vout := 12000, iout := 100 }
/-- A slot controller in a state, with its card present and seated. -/
def slotIn (n sp : Nat) : State := puts fm [(F.SPC_STATUS_STATE n, sp), (F.SPC_STATUS_PRESENT n, 1), (F.SPC_STATUS_SEATED n, 1)]
def atP (g : Nat) : State := ports.put (stageFld 8) g
def linkUp0 : LinkUp := { rate := 0, width := 1, failed := 0, flit := true, scaledFc := true, eq := [], credits := [(true, 0, 0)] }
def mailbox (tail order : Nat) : State :=
  (puts host [(F.ACW_MBX_CFG_EN 0, 1), (F.ACW_MBX_TAIL_TAIL 0, tail), (F.ACW_MBX_HEAD_HEAD 0, 0), (F.ACW_MBX_CFG_ORDER 0, order), (F.ACW_MBX_STATUS_FAULT 0, 0)])

theorem addWide_get (s : State) (lo hi f : Fld) (n : Nat) (a : f.addr ≠ lo.addr) (b : f.addr ≠ hi.addr) : (s.addWide lo hi n).get f = s.get f := by
  rw [State.addWide, State.put_get_addr _ _ _ _ b, State.put_get_addr _ _ _ _ a]

theorem nextFree_get (s : State) (f : Fld) : s.nextFree.get f = s.get f := rfl

/-- A second of the spare check leaves its limit alone. -/
theorem limit_kept (s : State) (errs : Nat) :
    (s.spareCount 0 errs).get (F.STN_TRAIN_CTL_SPARE_ERR_LIMIT 0) = s.get (F.STN_TRAIN_CTL_SPARE_ERR_LIMIT 0) := by
  unfold State.spareCount
  generalize (Sys2Proof.Config.prbsBits s.clk.free).toNat = k
  exact (nextFree_get _ _).trans ((addWide_get _ _ _ _ _ (by decide) (by decide)).trans (addWide_get _ _ _ _ _ (by decide) (by decide)))

/-- Port 8 ready to leave EXCHANGE. -/
def exch (role : Nat) : State :=
  (puts (atP stEXCHANGE) [(F.STN_PORT_CFG_ROLE 0 8, role), (F.STN_PORT_STATUS_WIDTH 0 8, 1)]).modPort 8 fun x => { x with target := (1, 6), flitEn := true }

/-- An image with a program of one word, or of two, for header class 0. -/
def prog1 (w : Nat) : Bytes := List.replicate 12 0 ++ leBytes 4 1 ++ leBytes 6 0xFFFFFFFF0000 ++ List.replicate 266 0 ++ leBytes 4 w
def prog2 : Bytes := List.replicate 12 0 ++ leBytes 4 2 ++ leBytes 6 0xFFFFFFFF0000 ++ List.replicate 266 0 ++ leBytes 8 0xFC00000060400006

/-- Engine 0 runs on that TLP in a state, at this instruction. -/
def atIns (s : State) (i : Instr) : State :=
  withFl ((s.modEng 0 fun x => { x with run := some run0 }).modBstn 0 fun b => { b with active := prog1 ((encodeBobbin i).getD 0) }) fl0
/-- The engine's thimble allows every access to the shared table. -/
def inRegion (i : Instr) : State := (atIns fm i).modThm 0 fun t => { t with regions := [[0, 0xFFFFF, 7, 0]] }


/-- `Obligations.InformationOpcodes`. -/
theorem test_witness_InformationOpcodes :
  (∃ (s : State) (h : Hdr) (x : Sess) (op : OpInfo), op = { code := 0x0100, kind := .R, who := anyCls, forms := [.dev], cred0 := true } ∧
    Heard s op h x) ∧
  (∃ (s : State) (h : Hdr) (x : Sess) (op : OpInfo) (addr count : B32) (u : State) (ws : List B32),
    op = { code := 0x0101, kind := .R, who := [.fm, .obs, .pm], forms := [.dev] } ∧ Heard s op h x ∧ addr.toNat % 4 = 0 ∧ 1 ≤ count.toNat ∧
    count.toNat ≤ 1020 ∧ addr.toNat + 4 * count.toNat ≤ 0x04000000 ∧ (∀ i < count.toNat, s.prbsAdvanceAll.regOn (addr.toNat + 4 * i) = true) ∧
    s.prbsAdvanceAll.readWords addr.toNat count.toNat = (u, ws)) ∧
  (∃ (s : State) (h : Hdr) (x : Sess) (op : OpInfo) (table copy : B8) (first count : B32),
    op = { code := 0x0102, kind := .R, who := [.fm, .obs, .pm], forms := [.stn] } ∧ Heard s op h x ∧ table.toNat ≤ 4 ∧ copy.toNat ≤ 1 ∧
    1 ≤ count.toNat ∧ first.toNat + count.toNat ≤ (tableShape table.toNat).2 ∧ 4 * (tableShape table.toNat).1 * count.toNat ≤ 4080 ∧
    s.pdOn (16 + x.n) = true) ∧
  (∃ (s : State) (h : Hdr) (x : Sess) (op : OpInfo) (tag : B32) (a : Async),
    op = { code := 0x0103, kind := .R, who := [.fm, .obs, .pm, .tenant], forms := [.dev, .node] } ∧ Heard s op h x ∧
    ((s.cmd.asyncs.reverse.find? fun a => a.cred == x.key && a.tag == tag) = some a)) :=
  ⟨⟨fm, hdev, xdev, _, rfl, heard_of (by decide +kernel)⟩,
   ⟨fm, hdev, xdev, _, 0, 1, _, _, rfl, heard_of (by decide +kernel), by decide +kernel, by decide +kernel, by decide +kernel, by decide +kernel,
     by decide +kernel, (Prod.eta _).symm⟩,
   ⟨fmAll, hstn, xstn, _, 0, 0, 0, 1, rfl, heard_of (by decide +kernel), by decide +kernel, by decide +kernel, by decide +kernel, by decide +kernel,
     by decide +kernel, by decide +kernel⟩,
   ⟨{ fm with cmd := { fm.cmd with asyncs := [⟨0x00010001, 7, 0x0204, 0, 0, 0, none, none, 0, 0⟩] } }, hdev, xdev, _, 7, _, rfl,
     heard_of (by decide +kernel), (Option.some_get (by decide +kernel)).symm⟩⟩

/-- `Obligations.ConfigurationOpcodes`. -/
theorem test_witness_ConfigurationOpcodes :
  (∃ (s : State) (h : Hdr) (x : Sess) (op : OpInfo) (items : List (B32 × B32 × B32)) (norm : List (Nat × B32 × B32)) (t : State),
    op = { code := 0x0200, kind := .S, who := [.fm, .pm], forms := [.dev], len := decide (1 ≤ items.length ∧ items.length ≤ 340) } ∧ Heard s op h x ∧
    (x.isP = true → ∀ y ∈ items, pmReg x.vs y.1.toNat = none) ∧
    ((s.scratch x.key).tryItems 0 (items.map fun y => (y.1.toNat, y.2.1, y.2.2)) = .ok norm) ∧
    (norm.any (fun y => fabReg y.1) = true → s.get F.FAB_STATE_MGR_NODE ≤ 47) ∧ (s.withItems x [.regs norm]).crossAll = none ∧
    ((s.withItems x [.regs norm]).crossRegs x.key (norm.map fun y => y.1) = none) ∧ s.addItems x.key [.regs norm] (12 * items.length) = some t) ∧
  (∃ (s : State) (h : Hdr) (x : Sess) (op : OpInfo) (t : Txn) (u sc v w : State) (ks : List ItemK) (r : Nat → Async),
    op = { code := 0x0201, kind := .I, who := [.fm, .pm], forms := [.dev, .node] } ∧ Heard s op h x ∧ s.txn x.key = some t ∧ u = s.flipAll ∧
    (ks = (if u.tbl.regShadow.isEmpty then [] else [.regs u.tbl.regShadow]) ++ t.items.map Item.what) ∧ u.tryCommit x.key u 0 ks = .ok sc ∧
    u.commitRefused sc x.key t.items ks = none ∧ (∀ a ∈ addrsOf ks, u.regOn a = true) ∧ (∀ st ∈ ks.flatMap itemStations, u.pdOn (16 + st) = true) ∧
    v = (u.applyCommit sc ks).dropTxn x.key ∧
    (∀ obj, r obj = { cred := x.key, tag := h.tag, opcode := 0x0201, obj := obj, mode := 0, started := u.clk.now, ended := none, evId := none, seq := 0, endTime := 0 }) ∧
    (w = (if imageMask ks = 0 then v else { v with cmd := { v.cmd with asyncs := v.cmd.asyncs ++ [r (2 ^ 16 + imageMask ks)], xfer := [], xferCred := 0 } })) ∧
    imageMask ks = 0 ∧ u.fabWords sc ks = [] ∧ (∀ st < 16, v.flipPending st = false)) ∧
  (∃ (s : State) (h : Hdr) (x : Sess) (op : OpInfo) (t : Txn) (u sc v w : State) (ks : List ItemK) (r : Nat → Async),
    op = { code := 0x0201, kind := .I, who := [.fm, .pm], forms := [.dev, .node] } ∧ Heard s op h x ∧ s.txn x.key = some t ∧ u = s.flipAll ∧
    (ks = (if u.tbl.regShadow.isEmpty then [] else [.regs u.tbl.regShadow]) ++ t.items.map Item.what) ∧ u.tryCommit x.key u 0 ks = .ok sc ∧
    u.commitRefused sc x.key t.items ks = none ∧ (∀ a ∈ addrsOf ks, u.regOn a = true) ∧ (∀ st ∈ ks.flatMap itemStations, u.pdOn (16 + st) = true) ∧
    v = (u.applyCommit sc ks).dropTxn x.key ∧
    (∀ obj, r obj = { cred := x.key, tag := h.tag, opcode := 0x0201, obj := obj, mode := 0, started := u.clk.now, ended := none, evId := none, seq := 0, endTime := 0 }) ∧
    (w = (if imageMask ks = 0 then v else { v with cmd := { v.cmd with asyncs := v.cmd.asyncs ++ [r (2 ^ 16 + imageMask ks)], xfer := [], xferCred := 0 } })) ∧
    imageMask ks = 0 ∧ u.fabWords sc ks = [] ∧ (∃ st < 16, v.flipPending st = true)) ∧
  (∃ (s : State) (h : Hdr) (x : Sess) (op : OpInfo) (t : Txn) (u sc v w : State) (ks : List ItemK) (r : Nat → Async),
    op = { code := 0x0201, kind := .I, who := [.fm, .pm], forms := [.dev, .node] } ∧ Heard s op h x ∧ s.txn x.key = some t ∧ u = s.flipAll ∧
    (ks = (if u.tbl.regShadow.isEmpty then [] else [.regs u.tbl.regShadow]) ++ t.items.map Item.what) ∧ u.tryCommit x.key u 0 ks = .ok sc ∧
    u.commitRefused sc x.key t.items ks = none ∧ (∀ a ∈ addrsOf ks, u.regOn a = true) ∧ (∀ st ∈ ks.flatMap itemStations, u.pdOn (16 + st) = true) ∧
    v = (u.applyCommit sc ks).dropTxn x.key ∧
    (∀ obj, r obj = { cred := x.key, tag := h.tag, opcode := 0x0201, obj := obj, mode := 0, started := u.clk.now, ended := none, evId := none, seq := 0, endTime := 0 }) ∧
    (w = (if imageMask ks = 0 then v else { v with cmd := { v.cmd with asyncs := v.cmd.asyncs ++ [r (2 ^ 16 + imageMask ks)], xfer := [], xferCred := 0 } })) ∧
    imageMask ks ≠ 0 ∧ u.fabWords sc ks = [] ∧ u.asyncLive x.key < 16) ∧
  (∃ (s : State) (h : Hdr) (x : Sess) (op : OpInfo) (t : Txn) (u sc v w : State) (ks : List ItemK) (r : Nat → Async),
    op = { code := 0x0201, kind := .I, who := [.fm, .pm], forms := [.dev, .node] } ∧ Heard s op h x ∧ s.txn x.key = some t ∧ u = s.flipAll ∧
    (ks = (if u.tbl.regShadow.isEmpty then [] else [.regs u.tbl.regShadow]) ++ t.items.map Item.what) ∧ u.tryCommit x.key u 0 ks = .ok sc ∧
    u.commitRefused sc x.key t.items ks = none ∧ (∀ a ∈ addrsOf ks, u.regOn a = true) ∧ (∀ st ∈ ks.flatMap itemStations, u.pdOn (16 + st) = true) ∧
    v = (u.applyCommit sc ks).dropTxn x.key ∧
    (∀ obj, r obj = { cred := x.key, tag := h.tag, opcode := 0x0201, obj := obj, mode := 0, started := u.clk.now, ended := none, evId := none, seq := 0, endTime := 0 }) ∧
    (w = (if imageMask ks = 0 then v else { v with cmd := { v.cmd with asyncs := v.cmd.asyncs ++ [r (2 ^ 16 + imageMask ks)], xfer := [], xferCred := 0 } })) ∧
    u.fabWords sc ks ≠ [] ∧ u.asyncLive x.key < 16) ∧
  (∃ (s : State) (h : Hdr) (x : Sess) (op : OpInfo) (t : Txn), op = { code := 0x0202, kind := .I, who := [.fm, .pm], forms := [.dev, .node] } ∧
    Heard s op h x ∧ s.txn x.key = some t) ∧
  (∃ (s : State) (h : Hdr) (x : Sess) (op : OpInfo) (t : Txn), op = { code := 0x0203, kind := .R, who := [.fm, .pm], forms := [.dev, .node] } ∧
    Heard s op h x ∧ s.txn x.key = some t) ∧
  (∃ (s : State) (h : Hdr) (x : Sess) (op : OpInfo), op = { code := 0x0205, kind := .I, who := [.fm], forms := [.stn, .port] } ∧ Heard s op h x) ∧
  (∃ (s : State) (h : Hdr) (x : Sess) (op : OpInfo) (mode : B8) (limit : B32) (u v : State) (ps : List Nat),
    op = { code := 0x0204, kind := .A, who := [.fm], forms := [.stn] } ∧ Heard s op h x ∧ mode.toNat ≤ 1 ∧ 1 ≤ limit.toNat ∧ limit.toNat ≤ 60000 ∧
    s.asyncLive x.key < 16 ∧ (s.begun op h x).quiesceLeft x.n = false ∧ u = (s.begun op h x).asyncObj x.n mode.toNat ∧
    (ps = (u.stnPorts x.n).filter (fun p => u.hasRole p && !u.quiesced p)) ∧
    (v = ps.foldl (fun s p => s.quiesceStart p x.key h.tag (mode.toNat == 0)) u)) ∧
  (∃ (s : State) (h : Hdr) (x : Sess) (op : OpInfo) (mode : B8) (limit : B32) (u : State),
    op = { code := 0x0301, kind := .A, who := [.fm], forms := [.port] } ∧ Heard s op h x ∧ mode.toNat ≤ 1 ∧ 1 ≤ limit.toNat ∧ limit.toNat ≤ 60000 ∧
    s.asyncLive x.key < 16 ∧ ((s.begun op h x).port x.n).quiescing = none ∧ u = (s.begun op h x).asyncObj x.n mode.toNat) :=
  ⟨⟨fm0, hdev, xdev, _, [(0x1000008, 0xFF, 0x30)], _, _, rfl, heard_of (by decide +kernel), by decide +kernel, ok_of (by decide +kernel),
     by decide +kernel, by decide +kernel, by decide +kernel, (Option.some_get (by decide +kernel)).symm⟩,
   ⟨txn0 [.regs [(0x1000008, 0xFF, 0x30)]], hdev, xdev, _, _, _, _, _, _, _, _, rfl, heard_of (by decide +kernel),
     (Option.some_get (by decide +kernel)).symm, rfl, rfl, ok_of (by decide +kernel), by decide +kernel, by decide +kernel, by decide +kernel, rfl,
     fun _ => rfl, rfl, by decide +kernel, by decide +kernel, by decide +kernel⟩,
   ⟨txn0 [.perm 1 0 0 [1]], hdev, xdev, _, _, _, _, _, _, _, _, rfl, heard_of (by decide +kernel), (Option.some_get (by decide +kernel)).symm, rfl,
     rfl, ok_of (by decide +kernel), by decide +kernel, by decide +kernel, by decide +kernel, rfl, fun _ => rfl, rfl, by decide +kernel,
     by decide +kernel, by decide +kernel⟩,
   ⟨txn0 [.image 1 true (prog1 0xFC000000)], hdev, xdev, _, _, _, _, _, _, _, _, rfl, heard_of (by decide +kernel),
     (Option.some_get (by decide +kernel)).symm, rfl, rfl, ok_of (by decide +kernel), by decide +kernel, by decide +kernel, by decide +kernel, rfl,
     fun _ => rfl, rfl, by decide +kernel, by decide +kernel, by decide +kernel⟩,
   ⟨txnF, hdev, xdev, _, _, _, _, _, _, _, _, rfl, heard_of (by decide +kernel), (Option.some_get (by decide +kernel)).symm, rfl, rfl,
     ok_of (by decide +kernel), by decide +kernel, by decide +kernel, by decide +kernel, rfl, fun _ => rfl, rfl, by decide +kernel,
     by decide +kernel⟩,
   ⟨txn [.regs [(0x1000008, 0xFF, 0x30)]], hdev, xdev, _, _, rfl, heard_of (by decide +kernel), (Option.some_get (by decide +kernel)).symm⟩,
   ⟨txn [.regs [(0x1000008, 0xFF, 0x30)]], hdev, xdev, _, _, rfl, heard_of (by decide +kernel), (Option.some_get (by decide +kernel)).symm⟩,
   ⟨fm, hstn, xstn, _, rfl, heard_of (by decide +kernel)⟩,
   ⟨fm, hstn, xstn, _, 0, 100, _, _, _, rfl, heard_of (by decide +kernel), by decide +kernel, by decide +kernel, by decide +kernel,
     by decide +kernel, by decide +kernel, rfl, rfl, rfl⟩,
   ⟨fm, hport, xport, _, 1, 60000, _, rfl, heard_of (by decide +kernel), by decide +kernel, by decide +kernel, by decide +kernel, by decide +kernel,
     by decide +kernel, rfl⟩⟩

/-- `Obligations.PortOpcodes`. -/
theorem test_witness_PortOpcodes :
  (∃ (s : State) (h : Hdr) (x : Sess) (op : OpInfo), op = { code := 0x0300, kind := .R, who := [.fm, .obs, .pm], forms := [.port] } ∧
    Heard s op h x) ∧
  (∃ (s : State) (h : Hdr) (x : Sess) (op : OpInfo), op = { code := 0x0302, kind := .I, who := [.fm], forms := [.port] } ∧ Heard s op h x ∧
    s.stage x.n = stFAILED) ∧
  (∃ (s : State) (h : Hdr) (x : Sess) (op : OpInfo) (enter : B8), op = { code := 0x0303, kind := .I, who := [.fm], forms := [.port] } ∧
    Heard s op h x ∧ enter.toNat = 1 ∧ (s.stage x.n = stDETECT ∨ s.stage x.n = stFAILED)) ∧
  (∃ (s : State) (h : Hdr) (x : Sess) (op : OpInfo) (enter : B8) (u : State), op = { code := 0x0303, kind := .I, who := [.fm], forms := [.port] } ∧
    Heard s op h x ∧ enter.toNat = 1 ∧ s.stage x.n = stACTIVE ∧
    (u = (if s.seamMode (stnOf x.n) then s.seamLost (stnOf x.n) slAdmin else s).leaveTo x.n stMEASURE ldMeasure lsLink)) ∧
  (∃ (s : State) (h : Hdr) (x : Sess) (op : OpInfo) (enter : B8), op = { code := 0x0303, kind := .I, who := [.fm], forms := [.port] } ∧
    Heard s op h x ∧ enter.toNat = 0 ∧ s.stage x.n = stMEASURE) ∧
  (∃ (s : State) (h : Hdr) (x : Sess) (op : OpInfo) (lane pattern bts rate : B8),
    op = { code := 0x0304, kind := .I, who := [.fm], forms := [.port] } ∧ Heard s op h x ∧ (s.measLanes x.n).contains lane.toNat = true ∧
    s.stage x.n = stMEASURE ∧ bts.toNat < 16 ∧ patternOk pattern.toNat rate.toNat = true) ∧
  (∃ (s : State) (h : Hdr) (x : Sess) (op : OpInfo) (lane eye dwell : B8), op = { code := 0x0305, kind := .I, who := [.fm], forms := [.port] } ∧
    Heard s op h x ∧ (s.measLanes x.n).contains lane.toNat = true ∧ s.stage x.n = stMEASURE ∧ eye.toNat ≤ 2 ∧ dwell.toNat ≤ 15 ∧
    2 ^ (20 + dwell.toNat) ≤ rateMb (s.get (F.STN_LN_PRBS_CTL_MEAS_RATE (stnOf x.n) lane.toNat)) * 1000000 ∧
    s.flag (F.STN_LN_MARGIN_STAT_BUSY (stnOf x.n) lane.toNat) = false) ∧
  (∃ (s : State) (h : Hdr) (x : Sess) (op : OpInfo) (lane : B8), op = { code := 0x0306, kind := .R, who := [.fm, .obs], forms := [.port] } ∧
    Heard s op h x ∧ (s.measLanes x.n).contains lane.toNat = true) ∧
  (∃ (s : State) (h : Hdr) (x : Sess) (op : OpInfo) (off : B16) (size : B8), op = { code := 0x0307, kind := .R, who := [.fm], forms := [.port] } ∧
    Heard s op h x ∧ s.pciRole x.n = 3 ∧ proxyOk off size = true ∧ s.stage x.n = stACTIVE) ∧
  (∃ (s : State) (h : Hdr) (x : Sess) (op : OpInfo) (off : B16) (size : B8), op = { code := 0x0307, kind := .R, who := [.fm], forms := [.port] } ∧
    Heard s op h x ∧ s.pciRole x.n = 3 ∧ proxyOk off size = true ∧ s.stage x.n ≠ stACTIVE) ∧
  (∃ (s : State) (h : Hdr) (x : Sess) (op : OpInfo) (off : B16) (size : B8), op = { code := 0x0308, kind := .I, who := [.fm], forms := [.port] } ∧
    Heard s op h x ∧ s.pciRole x.n = 3 ∧ proxyOk off size = true ∧ s.stage x.n = stACTIVE) ∧
  (∃ (s : State) (h : Hdr) (x : Sess) (op : OpInfo) (off : B16) (size : B8), op = { code := 0x0308, kind := .I, who := [.fm], forms := [.port] } ∧
    Heard s op h x ∧ s.pciRole x.n = 3 ∧ proxyOk off size = true ∧ s.stage x.n ≠ stACTIVE) :=
  ⟨⟨fm, hport, xport, _, rfl, heard_of (by decide +kernel)⟩,
   ⟨atStage stFAILED, hport, xport, _, rfl, heard_of (by decide +kernel), by decide +kernel⟩,
   ⟨atStage stDETECT, hport, xport, _, 1, rfl, heard_of (by decide +kernel), by decide +kernel, by decide +kernel⟩,
   ⟨atStage stACTIVE, hport, xport, _, 1, _, rfl, heard_of (by decide +kernel), by decide +kernel, by decide +kernel, rfl⟩,
   ⟨atStage stMEASURE, hport, xport, _, 0, rfl, heard_of (by decide +kernel), by decide +kernel, by decide +kernel⟩,
   ⟨atStage stMEASURE, hport, xport, _, 0, 3, 7, 6, rfl, heard_of (by decide +kernel), by decide +kernel, by decide +kernel, by decide +kernel,
     by decide +kernel⟩,
   ⟨atStage stMEASURE, hport, xport, _, 15, 2, 10, rfl, heard_of (by decide +kernel), by decide +kernel, by decide +kernel, by decide +kernel,
     by decide +kernel, by decide +kernel, by decide +kernel⟩,
   ⟨fm, hport, xport, _, 0, rfl, heard_of (by decide +kernel), by decide +kernel⟩,
   ⟨(atStage stACTIVE).put (F.STN_PORT_CFG_ROLE 0 0) 3, hport, xport, _, 4, 4, rfl, heard_of (by decide +kernel), by decide +kernel,
     by decide +kernel, by decide +kernel⟩,
   ⟨(atStage stFAILED).put (F.STN_PORT_CFG_ROLE 0 0) 3, hport, xport, _, 4, 4, rfl, heard_of (by decide +kernel), by decide +kernel,
     by decide +kernel, by decide +kernel⟩,
   ⟨(atStage stACTIVE).put (F.STN_PORT_CFG_ROLE 0 0) 3, hport, xport, _, 4, 4, rfl, heard_of (by decide +kernel), by decide +kernel,
     by decide +kernel, by decide +kernel⟩,
   ⟨(atStage stFAILED).put (F.STN_PORT_CFG_ROLE 0 0) 3, hport, xport, _, 4, 4, rfl, heard_of (by decide +kernel), by decide +kernel,
     by decide +kernel, by decide +kernel⟩⟩

/-- `Obligations.RoutingStages`. -/
theorem test_witness_RoutingStages :
  (∃ (s t : State) (h : Hdr) (x : Sess) (op : OpInfo) (idx mask : B16) (entry : List B32) (w : Win) (m : Nat) (sc : State),
    op = { code := 0x0400, kind := .S, who := [.fm, .pm], forms := [.vs], len := entry.length == 8 } ∧ Heard s op h x ∧
    (w = winOf idx.toNat (fun k => (entry.getD k 0).toNat)) ∧
    (m = (if mask.toNat = 0 then (s.vsStations x.n).foldl (fun m st => m + 2 ^ st) 0 else mask.toNat)) ∧ idx.toNat < 4096 ∧
    (entry.getD 1 0).toNat = 0 ∧ w.hw = false ∧ (∀ st ∈ maskStations m, ((s.scratch x.key).win st idx.toNat).hw = false) ∧
    (s.scratch x.key).winRange w x.n (entry.getD 0 0).toNat = true ∧
    (x.isP = true → (w.valid = true → s.winOwn x.n w = true) ∧ ∀ st ∈ maskStations m, st ∈ s.vsStations x.n) ∧
    sc = s.withItems x [.window m idx.toNat entry] ∧ sc.winCross m idx.toNat w = true ∧
    (w.valid = true → w.prog = true → ∀ st ∈ maskStations m, s.imageFor x.key st = true) ∧ sc.validGrants.all sc.grantOk = true ∧
    s.addItems x.key [.window m idx.toNat entry] 36 = some t) ∧
  (∃ (s t : State) (h : Hdr) (x : Sess) (op : OpInfo) (add : B8) (entry : B64), op = { code := 0x0401, kind := .S, who := [.fm], forms := [.stn] } ∧
    Heard s op h x ∧ reqLent entry.toNat = false ∧ entry.toNat < 2 ^ 43 ∧ (reqPort entry.toNat < 144 ∨ reqPort entry.toNat = 0xFF) ∧ add.toNat = 1 ∧
    reqValid entry.toNat = true ∧ (reqProg entry.toNat = true → s.imageFor x.key x.n = true) ∧
    (s.scratch x.key).reqFind x.n (reqRid entry.toNat) (reqPort entry.toNat) = none ∧
    (s.scratch x.key).reqFree x.n (reqRid entry.toNat) (reqPort entry.toNat) ≠ none ∧ s.addItems x.key [.requester x.n true entry] 12 = some t) ∧
  (∃ (s t : State) (h : Hdr) (x : Sess) (op : OpInfo) (add : B8) (entry : B64) (i : Nat),
    op = { code := 0x0401, kind := .S, who := [.fm], forms := [.stn] } ∧ Heard s op h x ∧ reqLent entry.toNat = false ∧ entry.toNat < 2 ^ 43 ∧
    (reqPort entry.toNat < 144 ∨ reqPort entry.toNat = 0xFF) ∧ add.toNat = 0 ∧
    (s.scratch x.key).reqFind x.n (reqRid entry.toNat) (reqPort entry.toNat) = some i ∧ reqLent ((s.scratch x.key).tw64 tReq x.n i 0) = false ∧
    s.addItems x.key [.requester x.n false entry] 12 = some t) ∧
  (∃ (s t : State) (h : Hdr) (x : Sess) (op : OpInfo) (rclass first : B8) (count : B16) (vals : Bytes),
    op = { code := 0x0402, kind := .S, who := [.fm], forms := [.stn, .dev], len := vals.length == (count.toNat + 3) / 4 } ∧ Heard s op h x ∧
    1 ≤ count.toNat ∧ first.toNat + count.toNat ≤ 256 ∧
    (s.addItems x.key [.perm (if x.form == .dev then 0xFFFF else 2 ^ x.n) rclass.toNat first.toNat (permVals vals count.toNat)] (4 + vals.length) = some t)) ∧
  (∃ (s t : State) (h : Hdr) (x : Sess) (op : OpInfo) (rclass prog : B8), op = { code := 0x0403, kind := .S, who := [.fm], forms := [.port] } ∧
    Heard s op h x ∧ prog.toNat ≤ 1 ∧ (prog.toNat = 1 → s.imageFor x.key (stnOf x.n) = true) ∧
    s.addItems x.key [.regs [fldPart (F.STN_CLS_PORT_DEF_DEF_RCLASS (stnOf x.n) (kOf x.n)) rclass.toNat, fldPart (F.STN_CLS_PORT_DEF_DEF_PROG (stnOf x.n) (kOf x.n)) prog.toNat]] 2 = some t) :=
  ⟨⟨fm, _, hvs, xvs, _, 0, 1, [0, 0, 0, 0, 0, 0, 0, 0], _, _, _, rfl, heard_of (by decide +kernel), rfl, rfl, by decide +kernel, by decide +kernel,
     by decide +kernel, by decide +kernel, by decide +kernel, by decide +kernel, rfl, by decide +kernel, by decide +kernel, by decide +kernel,
     (Option.some_get (by decide +kernel)).symm⟩,
   ⟨fm, _, hstn, xstn, _, 1, 0x1FF0000, rfl, heard_of (by decide +kernel), by decide +kernel, by decide +kernel, by decide +kernel,
     by decide +kernel, by decide +kernel, by decide +kernel, by decide +kernel, by decide +kernel, (Option.some_get (by decide +kernel)).symm⟩,
   ⟨puts0 fm [(tkey tReq 0 16320 0, 0x1FF0000)], _, hstn, xstn, _, 0, 0x1FF0000, _, rfl, heard_of (by decide +kernel), by decide +kernel,
     by decide +kernel, by decide +kernel, by decide +kernel, (Option.some_get (by decide +kernel)).symm, by decide +kernel,
     (Option.some_get (by decide +kernel)).symm⟩,
   ⟨fm, _, hstn, xstn, _, 0, 0, 4, [0], rfl, heard_of (by decide +kernel), by decide +kernel, by decide +kernel,
     (Option.some_get (by decide +kernel)).symm⟩,
   ⟨fm, _, hport, xport, _, 0, 0, rfl, heard_of (by decide +kernel), by decide +kernel, by decide +kernel,
     (Option.some_get (by decide +kernel)).symm⟩⟩

/-- `Obligations.LendingOpcodes`. -/
theorem test_witness_LendingOpcodes :
  (∃ (s : State) (h : Hdr) (x : Sess) (op : OpInfo) (words : List B32) (r : LendReq) (idx : Nat) (pr : SrIov) (u : State),
    op = { code := 0x0404, kind := .S, who := [.fm], forms := [.vs], len := words.length == 5 } ∧ Heard s op h x ∧
    (r = { w := fun k => (words.getD k 0).toNat }) ∧ r.ok = true ∧ r.owner = x.n ∧
    (((List.range 256).find? fun i => !(s.nextFree.scratch x.key).lendValid (stnOf r.port) i) = some idx) ∧
    (s.nextFree.scratch x.key).lendClash r pr (99, 0) = false ∧ r.misaligned pr ((vfIndex pr r.rid).getD 0) = false ∧
    (r.prog = true → s.nextFree.imageFor x.key (stnOf r.port) = true) ∧ (s.nextFree.scratch x.key).reqFree (stnOf r.port) r.rid r.port ≠ none ∧
    s.nextFree.addItems x.key [.lend (stnOf r.port) idx (r.words pr ((vfIndex pr r.rid).getD 0)) pr] 20 = some u) ∧
  (∃ (s : State) (h : Hdr) (x : Sess) (op : OpInfo) (idx : B8) (r : LendReq) (pr : SrIov),
    op = { code := 0x0405, kind := .I, who := [.fm], forms := [.stn] } ∧ Heard s op h x ∧ s.lendValid x.n idx.toNat = true ∧
    s.lendState x.n idx.toNat = 2 ∧ r = { w := s.nextFree.lw x.n idx.toNat } ∧ s.nextFree.lendClash r pr (x.n, idx.toNat) = false ∧
    r.misaligned pr ((vfIndex pr r.rid).getD 0) = false) ∧
  (∃ (s : State) (h : Hdr) (x : Sess) (op : OpInfo) (idx mode : B8) (u : State), op = { code := 0x0406, kind := .A, who := [.fm], forms := [.stn] } ∧
    Heard s op h x ∧ s.asyncLive x.key < 16 ∧ (s.begun op h x).lendValid x.n idx.toNat = true ∧ (s.begun op h x).lendState x.n idx.toNat ≠ 3 ∧
    (s.begun op h x).reclaiming x.n idx.toNat = 0 ∧ u = (s.begun op h x).asyncObj (256 * x.n + idx.toNat) mode.toNat ∧ mode.toNat = 1) ∧
  (∃ (s : State) (h : Hdr) (x : Sess) (op : OpInfo) (idx mode : B8) (u v : State),
    op = { code := 0x0406, kind := .A, who := [.fm], forms := [.stn] } ∧ Heard s op h x ∧ s.asyncLive x.key < 16 ∧
    (s.begun op h x).lendValid x.n idx.toNat = true ∧ (s.begun op h x).lendState x.n idx.toNat ≠ 3 ∧ (s.begun op h x).reclaiming x.n idx.toNat = 0 ∧
    u = (s.begun op h x).asyncObj (256 * x.n + idx.toNat) mode.toNat ∧ mode.toNat = 0 ∧
    v = u.setVdp x.n idx.toNat 0 ofSLTCTL (u.vdp x.n idx.toNat 0 ofSLTCTL ||| slAttn)) :=
  ⟨⟨lendable, hvs, xvs, _, [0x210800, 0x900501, 0, 0, 0], _, _, sriov0, _, rfl, heard_of (by decide +kernel), rfl, by decide +kernel,
     by decide +kernel, (Option.some_get (by decide +kernel)).symm, by decide +kernel, by decide +kernel, by decide +kernel, by decide +kernel,
     (Option.some_get (by decide +kernel)).symm⟩,
   ⟨(puts0 lendable [(tkey tLend 0 0 0, 0x210805), (tkey tLend 0 0 1, 0x900501)]), hstn, xstn, _, 0, _, sriov0, rfl, heard_of (by decide +kernel),
     by decide +kernel, by decide +kernel, rfl, by decide +kernel, by decide +kernel⟩,
   ⟨puts0 fm [(tkey tLend 0 0 0, 0x200005), (tkey tLend 0 0 1, 0x900000)], hstn, xstn, _, 0, 1, _, rfl, heard_of (by decide +kernel),
     by decide +kernel, by decide +kernel, by decide +kernel, by decide +kernel, rfl, by decide +kernel⟩,
   ⟨puts0 fm [(tkey tLend 0 0 0, 0x200005), (tkey tLend 0 0 1, 0x900000)], hstn, xstn, _, 0, 0, _, _, rfl, heard_of (by decide +kernel),
     by decide +kernel, by decide +kernel, by decide +kernel, by decide +kernel, rfl, by decide +kernel, rfl⟩⟩

/-- `Obligations.MulticastTraceBobbinOpcodes`. -/
theorem test_witness_MulticastTraceBobbinOpcodes :
  (∃ (s t : State) (h : Hdr) (x : Sess) (op : OpInfo) (group : B8) (entry : List B32) (ws : List (Nat × B32 × B32)),
    op = { code := 0x0500, kind := .S, who := [.fm], forms := [.dev], len := entry.length == 8 } ∧ Heard s op h x ∧
    (ws = ((List.range 5).map fun w => regWhole (groupAddr group.toNat w) (entry.getD w 0).toNat) ++ [regWhole (groupAddr group.toNat 5) ((entry.getD 5 0).toNat % 128)]) ∧
    (s.withItems x [.regs ws]).groupCheck group.toNat = none ∧ s.addItems x.key [.regs ws] 36 = some t) ∧
  (∃ (s t : State) (h : Hdr) (x : Sess) (op : OpInfo) (rule : B8) (ctl mtch rate : B32) (ws : List (Nat × B32 × B32)),
    op = { code := 0x0501, kind := .S, who := [.fm], forms := [.dev] } ∧ Heard s op h x ∧ rule.toNat < 16 ∧ bits ctl.toNat 12 8 ≤ 143 ∧
    ws = [((F.MCT_TR_CTL_EN rule.toNat).addr, 0x000FFFF7#32, ctl), ((F.MCT_TR_MATCH_ING_PORT rule.toNat).addr, 0x007FFFFF#32, mtch), ((F.MCT_TR_RATE_N_M1 rule.toNat).addr, 0x0000FFFF#32, rate)] ∧
    (s.withItems x [.regs ws]).traceOk = true ∧ s.addItems x.key [.regs ws] 16 = some t) ∧
  (∃ (s : State) (h : Hdr) (x : Sess) (op : OpInfo) (first count : B32) (es : List Sample),
    op = { code := 0x0502, kind := .R, who := [.fm, .obs], forms := [.dev] } ∧ Heard s op h x ∧ 1 ≤ count.toNat ∧ count.toNat ≤ 63 ∧
    (es = (s.core.samples.filter fun e => seqGe e.seq first.toNat).take count.toNat)) ∧
  (∃ (s : State) (h : Hdr) (x : Sess) (op : OpInfo) (off : B32) (piece old : Bytes),
    op = { code := 0x0600, kind := .I, who := [.fm], forms := [.dev], len := decide (piece.length ≤ 4076) } ∧ Heard s op h x ∧
    (s.cmd.xfer = [] ∨ s.cmd.xferCred = x.key ∨ s.cred s.cmd.xferCred = none) ∧ (old = (if off.toNat = 0 then [] else s.cmd.xfer)) ∧
    old.length = off.toNat ∧ off.toNat + piece.length ≤ 65920 ∧ (off.toNat ≠ 0 → s.cmd.xferCred = x.key)) ∧
  (∃ (s t : State) (h : Hdr) (x : Sess) (op : OpInfo) (len : B32) (mask : B16) (mode : B8),
    op = { code := 0x0601, kind := .S, who := [.fm], forms := [.dev] } ∧ Heard s op h x ∧ mode.toNat ≤ 1 ∧ s.cmd.xferCred = x.key ∧
    (s.cmd.xfer.take len.toNat).length = len.toNat ∧ (∀ st ∈ maskStations mask.toNat, s.swapBusy st = false) ∧
    s.addItems x.key [.image mask.toNat (mode.toNat == 1) (s.cmd.xfer.take len.toNat)] 8 = some t) ∧
  (∃ (s t : State) (h : Hdr) (x : Sess) (op : OpInfo) (mask : B16) (nreg : B8) (recs : List (List B32)),
    (op = { code := 0x0602, kind := .S, who := [.fm], forms := [.dev], len := recs.length == nreg.toNat && recs.all fun r => r.length == 4 }) ∧
    Heard s op h x ∧ nreg.toNat ≤ 16 ∧ recs.all (regionFmt (2 ^ 20) 3) = true ∧ (∀ st ∈ maskStations mask.toNat, s.rulesBusy st = false) ∧
    regionsOverlap recs = false ∧ s.addItems x.key [.regions mask.toNat recs] (4 + 16 * recs.length) = some t) ∧
  (∃ (s : State) (h : Hdr) (x : Sess) (op : OpInfo) (mask : B16) (off : B32) (words : List B64),
    op = { code := 0x0603, kind := .I, who := [.fm], forms := [.dev], len := decide (words.length ≤ 509) } ∧ Heard s op h x ∧ off.toNat % 8 = 0 ∧
    off.toNat + 8 * words.length ≤ 0x100000 ∧ (∀ st ∈ maskStations mask.toNat, s.bobOn st = true)) ∧
  (∃ (s : State) (h : Hdr) (x : Sess) (op : OpInfo) (off count : B32), op = { code := 0x0604, kind := .R, who := [.fm, .obs], forms := [.stn] } ∧
    Heard s op h x ∧ off.toNat % 8 = 0 ∧ 1 ≤ count.toNat ∧ count.toNat ≤ 510 ∧ off.toNat + 8 * count.toNat ≤ 0x100000 ∧ s.bobOn x.n = true ∧
    (∀ i < count.toNat, sharedKey x.n (off.toNat + 8 * i) ∉ s.bob.bad)) ∧
  (∃ (s : State) (h : Hdr) (x : Sess) (op : OpInfo), op = { code := 0x0605, kind := .R, who := [.fm, .obs], forms := [.stn] } ∧ Heard s op h x) :=
  ⟨⟨fm, _, hdev, xdev, _, 0, [0, 0, 0, 0, 0, 0, 0, 0], _, rfl, heard_of (by decide +kernel), rfl, by decide +kernel,
     (Option.some_get (by decide +kernel)).symm⟩,
   ⟨fm, _, hdev, xdev, _, 15, 0, 0, 0, _, rfl, heard_of (by decide +kernel), by decide +kernel, by decide +kernel, rfl, by decide +kernel,
     (Option.some_get (by decide +kernel)).symm⟩,
   ⟨fm, hdev, xdev, _, 0, 63, _, rfl, heard_of (by decide +kernel), by decide +kernel, by decide +kernel, rfl⟩,
   ⟨fm, hdev, xdev, _, 0, [1], _, rfl, heard_of (by decide +kernel), by decide +kernel, rfl, by decide +kernel, by decide +kernel,
     by decide +kernel⟩,
   ⟨{ fm with cmd := { fm.cmd with xfer := [1], xferCred := 0x00010001 } }, _, hdev, xdev, _, 1, 1, 1, rfl, heard_of (by decide +kernel),
     by decide +kernel, by decide +kernel, by decide +kernel, by decide +kernel, (Option.some_get (by decide +kernel)).symm⟩,
   ⟨fm, _, hdev, xdev, _, 1, 1, [[0, 63, 3, 0]], rfl, heard_of (by decide +kernel), by decide +kernel, by decide +kernel, by decide +kernel,
     by decide +kernel, (Option.some_get (by decide +kernel)).symm⟩,
   ⟨fmAll, hdev, xdev, _, 1, 0xFFFF8, [5], rfl, heard_of (by decide +kernel), by decide +kernel, by decide +kernel, by decide +kernel⟩,
   ⟨fmAll, hstn, xstn, _, 0xFFFF8, 1, rfl, heard_of (by decide +kernel), by decide +kernel, by decide +kernel, by decide +kernel, by decide +kernel,
     by decide +kernel, by decide +kernel⟩,
   ⟨fm, hstn, xstn, _, rfl, heard_of (by decide +kernel)⟩⟩

/-- `Obligations.FabricOpcodes`. -/
theorem test_witness_FabricOpcodes :
  (∃ (s : State) (h : Hdr) (x : Sess) (op : OpInfo), op = { code := 0x0700, kind := .R, who := [.fm, .obs], forms := [.node] } ∧ Heard s op h x) ∧
  (∃ (s : State) (h : Hdr) (x : Sess) (op : OpInfo), op = { code := 0x0701, kind := .R, who := [.fm, .obs], forms := [.dev] } ∧ Heard s op h x ∧
    s.nodeId ≠ 0xFF ∧ 10 ≤ s.get F.FAB_STATE_STEP) ∧
  (∃ (s t : State) (h : Hdr) (x : Sess) (op : OpInfo) (ing : B16) (vc node pin : B8) (f : Fld),
    op = { code := 0x0702, kind := .S, who := [.fm], forms := [.node] } ∧ Heard s op h x ∧ ing.toNat ≤ 159 ∧ vc.toNat ≤ 1 ∧ node.toNat ≤ 47 ∧
    pin.toNat ≤ 3 ∧ s.managed = true ∧ f = F.FAB_PIN_PINS (3 * (2 * ing.toNat + vc.toNat) + node.toNat / 16) ∧
    s.addItems x.key [.regs [fldPart { f with lo := 2 * (node.toNat % 16), w := 2 } pin.toNat]] 8 = some t) ∧
  (∃ (s t : State) (h : Hdr) (x : Sess) (op : OpInfo) (hi fi : B8) (home far : List B32),
    op = { code := 0x0703, kind := .S, who := [.fm], forms := [.dev], len := home.length == 4 && far.length == 4 } ∧ Heard s op h x ∧ hi.toNat ≤ 63 ∧
    fi.toNat ≤ 63 ∧ s.managed = true ∧ (s.withItems x [.binding hi.toNat fi.toNat home far]).bindingOk hi.toNat fi.toNat home far = none ∧
    s.addItems x.key [.binding hi.toNat fi.toNat home far] 36 = some t) ∧
  (∃ (s t : State) (h : Hdr) (x : Sess) (op : OpInfo) (idx : B8) (entry : List B32),
    op = { code := 0x0704, kind := .S, who := [.fm], forms := [.node], len := entry.length == 4 } ∧ Heard s op h x ∧ s.managed = true ∧
    (s.addItems x.key [.regs ((entry.zip (List.range 4)).map fun w => regWhole (exportAddr idx.toNat w.2) w.1.toNat)] 20 = some t)) ∧
  (∃ (s : State) (h : Hdr) (x : Sess) (op : OpInfo), op = { code := 0x0705, kind := .A, who := [.fm], forms := [.dev] } ∧ Heard s op h x ∧
    s.asyncLive x.key < 16 ∧ s.nodeId ≠ 0xFF ∧ s.managed = true ∧ s.fab.hold = none ∧ s.fab.publishing = false ∧ s.fab.goAt = none) :=
  ⟨⟨fm, hnode, xnode, _, rfl, heard_of (by decide +kernel)⟩,
   ⟨puts fm [(F.FAB_ID_NODE_ID, 3), (F.FAB_STATE_STEP, 10)], hdev, xdev, _, rfl, heard_of (by decide +kernel), by decide +kernel, by decide +kernel⟩,
   ⟨mgr, _, hd 0x5003, xs .node 3, _, 159, 1, 47, 3, _, rfl, heard_of (by decide +kernel), by decide +kernel, by decide +kernel, by decide +kernel,
     by decide +kernel, by decide +kernel, rfl, (Option.some_get (by decide +kernel)).symm⟩,
   ⟨mgr, _, hdev, xdev, _, 63, 63, [0, 0, 0, 0], [0, 0, 0, 0], rfl, heard_of (by decide +kernel), by decide +kernel, by decide +kernel,
     by decide +kernel, by decide +kernel, (Option.some_get (by decide +kernel)).symm⟩,
   ⟨mgr, _, hd 0x5003, xs .node 3, _, 255, [0, 0, 0, 0], rfl, heard_of (by decide +kernel), by decide +kernel,
     (Option.some_get (by decide +kernel)).symm⟩,
   ⟨mgr, hdev, xdev, _, rfl, heard_of (by decide +kernel), by decide +kernel, by decide +kernel, by decide +kernel, by decide +kernel,
     by decide +kernel, by decide +kernel⟩⟩

/-- `Obligations.PanelOpcodesAtOnce`. -/
theorem test_witness_PanelOpcodesAtOnce :
  (∃ (s : State) (h : Hdr) (x : Sess) (op : OpInfo) (first count : B16), op = { code := 0x0800, kind := .I, who := [.fm], forms := [.vs] } ∧
    Heard s op h x ∧ first.toNat + count.toNat ≤ 4096 ∧
    (∀ a ∈ s.cmd.allot, a.2.2 ≠ x.n → first.toNat + count.toNat ≤ a.1 ∨ a.1 + a.2.1 ≤ first.toNat) ∧
    (∀ n ∈ s.boundPanels x.n, first.toNat ≤ n ∧ n < first.toNat + count.toNat)) ∧
  (∃ (s : State) (h : Hdr) (x : Sess) (op : OpInfo), op = { code := 0x0803, kind := .I, who := [.fm, .pm, .tenant], forms := [.panel] } ∧
    Heard s op h x ∧ s.pState x.n = pStopped) ∧
  (∃ (s : State) (h : Hdr) (x : Sess) (op : OpInfo), op = { code := 0x0803, kind := .I, who := [.fm, .pm, .tenant], forms := [.panel] } ∧
    Heard s op h x ∧ s.pState x.n = pHalted) ∧
  (∃ (s : State) (h : Hdr) (x : Sess) (op : OpInfo) (v : B8) (pasid : B32) (grants : List B16) (rec : Bytes) (given : List (Nat × Nat)),
    op = { code := 0x0807, kind := .I, who := [.fm, .pm], forms := [.panel], len := grants.length == 16 && rec.length == 768 } ∧ Heard s op h x ∧
    (given = (((List.range 16).zip (grants.map BitVec.toNat)).filter fun g => g.1 != 0 && bit g.2 15)) ∧
    (x.isP = true → given = [] ∧ v.toNat = x.vs) ∧ v.toNat < 32 ∧ pasid.toNat < 2 ^ 20 ∧ recordOk rec = true ∧
    (s.pState x.n = pUnbound ∨ s.pState x.n = pStopped ∧ s.sqHead x.n = (s.pnl x.n).sqTail) ∧ s.pasidTaken x.n v.toNat pasid.toNat = false ∧
    (∀ g ∈ given, s.get (F.SHT_GNT_CTL_VS (g.2 % 1024)) = v.toNat)) ∧
  (∃ (s : State) (h : Hdr) (x : Sess) (op : OpInfo), op = { code := 0x0808, kind := .I, who := [.fm, .pm], forms := [.panel] } ∧ Heard s op h x ∧
    s.pState x.n = pFrozen) ∧
  (∃ (s : State) (h : Hdr) (x : Sess) (op : OpInfo), op = { code := 0x0808, kind := .I, who := [.fm, .pm], forms := [.panel] } ∧ Heard s op h x ∧
    s.pState x.n = pHalted) ∧
  (∃ (s : State) (h : Hdr) (x : Sess) (op : OpInfo) (word : B32) (v w : Nat),
    op = { code := 0x080A, kind := .I, who := [.fm, .pm], forms := [.panel] } ∧ Heard s op h x ∧ s.panelVs x.n = some v ∧
    (w = word.toNat % 2 ^ 31 + (if (s.pnl x.n).mmsg.getLsbD 31 then 0 else 2 ^ 31))) ∧
  (∃ (s : State) (h : Hdr) (x : Sess) (op : OpInfo), op = { code := 0x080B, kind := .R, who := [.fm, .obs, .pm, .tenant], forms := [.panel] } ∧
    Heard s op h x) :=
  ⟨⟨fm, hvs, xvs, _, 4095, 1, rfl, heard_of (by decide +kernel), by decide +kernel, by decide +kernel, by decide +kernel⟩,
   ⟨inP pStopped, hpnl, xpnl, _, rfl, heard_of (by decide +kernel), by decide +kernel⟩,
   ⟨inP pHalted, hpnl, xpnl, _, rfl, heard_of (by decide +kernel), by decide +kernel⟩,
   ⟨fm, hpnl, xpnl, _, 31, 0xFFFFF, List.replicate 16 0x7FFF, record, _, rfl, heard_of (by decide +kernel), rfl, by decide +kernel,
     by decide +kernel, by decide +kernel, record_ok, by decide +kernel, by decide +kernel, by decide +kernel⟩,
   ⟨inP pFrozen, hpnl, xpnl, _, rfl, heard_of (by decide +kernel), by decide +kernel⟩,
   ⟨inP pHalted, hpnl, xpnl, _, rfl, heard_of (by decide +kernel), by decide +kernel⟩,
   ⟨puts fm [(F.SHT_PNL_BIND_VALID 0, 1), (F.SHT_PNL_BIND_VS 0, 5)], hpnl, xpnl, _, 7, _, _, rfl, heard_of (by decide +kernel),
     (Option.some_get (by decide +kernel)).symm, rfl⟩,
   ⟨fm, hpnl, xpnl, _, rfl, heard_of (by decide +kernel)⟩⟩

/-- `Obligations.PanelOpcodesStagedAndAsync`. -/
theorem test_witness_PanelOpcodesStagedAndAsync :
  (∃ (s t : State) (h : Hdr) (x : Sess) (op : OpInfo) (pasid : B32) (sqb cqb : B64) (sqo cqo : B8) (vec : B16) (weight holdoff : B8) (v : Nat) (ws : List (Nat × B32 × B32)),
    op = { code := 0x0801, kind := .S, who := [.fm, .pm], forms := [.panel] } ∧ Heard s op h x ∧ pasid.toNat < 2 ^ 20 ∧
    ringOk sqb.toNat cqb.toNat sqo.toNat cqo.toNat vec.toNat weight.toNat holdoff.toNat = true ∧ s.panelBindVs x = some v ∧
    ws = bindParts x.n v pasid.toNat sqb.toNat cqb.toNat sqo.toNat cqo.toNat vec.toNat weight.toNat holdoff.toNat ∧
    (s.withItems x [.bind x.n v ws]).pasidTaken x.n v pasid.toNat = false ∧ s.addItems x.key [.bind x.n v ws] 28 = some t) ∧
  (∃ (s t : State) (h : Hdr) (x : Sess) (op : OpInfo), op = { code := 0x0802, kind := .S, who := [.fm, .pm], forms := [.panel] } ∧ Heard s op h x ∧
    s.pState x.n = pStopped ∧ s.addItems x.key [.unbind x.n] 0 = some t) ∧
  (∃ (s t : State) (h : Hdr) (x : Sess) (op : OpInfo) (grant : B16) (ctl lo hi size : B32) (ws : List (Nat × B32 × B32)),
    op = { code := 0x080C, kind := .S, who := [.fm], forms := [.dev] } ∧ Heard s op h x ∧ grant.toNat < 1024 ∧ size.toNat ≠ 0 ∧
    ws = [regWhole (F.SHT_GNT_CTL_VALID grant.toNat).addr (ctl.toNat % 256), regWhole (F.SHT_GNT_BASE_LO_BASE_LO grant.toNat).addr (lo.toNat / 4096 * 4096), regWhole (F.SHT_GNT_BASE_HI_BASE_HI grant.toNat).addr hi.toNat, regWhole (F.SHT_GNT_SIZE_SIZE grant.toNat).addr size.toNat] ∧
    (s.withItems x [.regs ws]).grantOk grant.toNat = true ∧ s.addItems x.key [.regs ws] 20 = some t) ∧
  (∃ (s t : State) (h : Hdr) (x : Sess) (op : OpInfo) (slot valid : B8) (grant : B16) (ws : List (Nat × B32 × B32)),
    op = { code := 0x080D, kind := .S, who := [.fm], forms := [.panel] } ∧ Heard s op h x ∧ 1 ≤ slot.toNat ∧ slot.toNat ≤ 15 ∧ valid.toNat ≤ 1 ∧
    grant.toNat < 1024 ∧
    (ws = (if slot.toNat % 2 = 0 then [fldPart (F.SHT_PNL_SLOT_GRANT0 x.n (slot.toNat / 2)) grant.toNat, fldPart (F.SHT_PNL_SLOT_VALID0 x.n (slot.toNat / 2)) valid.toNat] else [fldPart (F.SHT_PNL_SLOT_GRANT1 x.n (slot.toNat / 2)) grant.toNat, fldPart (F.SHT_PNL_SLOT_VALID1 x.n (slot.toNat / 2)) valid.toNat])) ∧
    (s.withItems x [.regs ws]).slotOk x.n slot.toNat = true ∧ s.addItems x.key [.regs ws] 4 = some t) ∧
  (∃ (s : State) (h : Hdr) (x : Sess) (op : OpInfo) (u : State), op = { code := 0x0804, kind := .A, who := [.fm, .pm, .tenant], forms := [.panel] } ∧
    Heard s op h x ∧ s.asyncLive x.key < 16 ∧ u = ((s.begun op h x).asyncObj x.n 0).setP x.n pQuiescing ∧ (s.begun op h x).pState x.n = pRunning) ∧
  (∃ (s : State) (h : Hdr) (x : Sess) (op : OpInfo) (u v : State),
    op = { code := 0x0804, kind := .A, who := [.fm, .pm, .tenant], forms := [.panel] } ∧ Heard s op h x ∧ s.asyncLive x.key < 16 ∧
    u = ((s.begun op h x).asyncObj x.n 0).setP x.n pQuiescing ∧ (s.begun op h x).pState x.n = pHalted ∧
    (v = u.modPnl x.n (fun y => { y with fetched := [], cause := pcQuiesce, ending := none, wr := y.done, rd := y.done }))) ∧
  (∃ (s : State) (h : Hdr) (x : Sess) (op : OpInfo) (u : State), op = { code := 0x0805, kind := .A, who := [.fm, .pm], forms := [.panel] } ∧
    Heard s op h x ∧ s.asyncLive x.key < 16 ∧ u = ((s.begun op h x).asyncObj x.n 0).setP x.n pFreezing ∧
    ((s.begun op h x).pState x.n = pRunning ∨ (s.begun op h x).pState x.n = pStopped)) ∧
  (∃ (s : State) (h : Hdr) (x : Sess) (op : OpInfo) (u : State), op = { code := 0x0805, kind := .A, who := [.fm, .pm], forms := [.panel] } ∧
    Heard s op h x ∧ s.asyncLive x.key < 16 ∧ u = ((s.begun op h x).asyncObj x.n 0).setP x.n pFreezing ∧ (s.begun op h x).pState x.n = pHalted) ∧
  (∃ (s : State) (h : Hdr) (x : Sess) (op : OpInfo), op = { code := 0x0809, kind := .A, who := [.fm, .pm], forms := [.panel] } ∧ Heard s op h x ∧
    s.asyncLive x.key < 16 ∧ (s.begun op h x).pState x.n ≠ pUnbound) :=
  ⟨⟨puts fm [(F.SHT_PNL_BIND_VALID 0, 1), (F.SHT_PNL_BIND_VS 0, 5)], _, hpnl, xpnl, _, 0xFFFFF, 0, 0, 4, 16, 2047, 16, 127, _, _, rfl,
     heard_of (by decide +kernel), by decide +kernel, by decide +kernel, (Option.some_get (by decide +kernel)).symm, rfl, by decide +kernel,
     (Option.some_get (by decide +kernel)).symm⟩,
   ⟨inP pStopped, _, hpnl, xpnl, _, rfl, heard_of (by decide +kernel), by decide +kernel, (Option.some_get (by decide +kernel)).symm⟩,
   ⟨fm, _, hdev, xdev, _, 1023, 0, 0, 0, 1, _, rfl, heard_of (by decide +kernel), by decide +kernel, by decide +kernel, rfl, by decide +kernel,
     (Option.some_get (by decide +kernel)).symm⟩,
   ⟨fm, _, hpnl, xpnl, _, 14, 0, 1023, _, rfl, heard_of (by decide +kernel), by decide +kernel, by decide +kernel, by decide +kernel,
     by decide +kernel, rfl, by decide +kernel, (Option.some_get (by decide +kernel)).symm⟩,
   ⟨inP pRunning, hpnl, xpnl, _, _, rfl, heard_of (by decide +kernel), by decide +kernel, rfl, by decide +kernel⟩,
   ⟨inP pHalted, hpnl, xpnl, _, _, _, rfl, heard_of (by decide +kernel), by decide +kernel, rfl, by decide +kernel, rfl⟩,
   ⟨inP pRunning, hpnl, xpnl, _, _, rfl, heard_of (by decide +kernel), by decide +kernel, rfl, by decide +kernel⟩,
   ⟨inP pHalted, hpnl, xpnl, _, _, rfl, heard_of (by decide +kernel), by decide +kernel, rfl, by decide +kernel⟩,
   ⟨inP pRunning, hpnl, xpnl, _, rfl, heard_of (by decide +kernel), by decide +kernel, by decide +kernel⟩⟩

/-- `Obligations.ContainmentAndSlotOpcodes`. -/
theorem test_witness_ContainmentAndSlotOpcodes :
  (∃ (s : State) (h : Hdr) (x : Sess) (op : OpInfo), op = { code := 0x0900, kind := .R, who := [.fm, .obs], forms := [.stn] } ∧ Heard s op h x) ∧
  (∃ (s : State) (h : Hdr) (x : Sess) (op : OpInfo), op = { code := 0x0901, kind := .I, who := [.fm], forms := [.stn] } ∧ Heard s op h x) ∧
  (∃ (s : State) (h : Hdr) (x : Sess) (op : OpInfo), op = { code := 0x0902, kind := .I, who := [.fm], forms := [.stn] } ∧ Heard s op h x ∧
    s.fenced x.n = true ∧ s.get (F.STN_OB_FLUSH_FLUSHING x.n) = 0) ∧
  (∃ (s : State) (h : Hdr) (x : Sess) (op : OpInfo) (first count : B32) (es : List LateEnt),
    op = { code := 0x0903, kind := .R, who := [.fm, .pm], forms := [.dev] } ∧ Heard s op h x ∧ 1 ≤ count.toNat ∧ count.toNat ≤ 127 ∧
    (es = (s.late.log.filter fun e => seqGe e.seq first.toNat && (!x.isP || e.vs == x.vs)).take count.toNat)) ∧
  (∃ (s : State) (h : Hdr) (x : Sess) (op : OpInfo), op = { code := 0x0904, kind := .I, who := [.fm], forms := [.dev] } ∧ Heard s op h x) ∧
  (∃ (s : State) (h : Hdr) (x : Sess) (op : OpInfo) (slot : B8), op = { code := 0x0A00, kind := .R, who := [.fm, .obs, .pm], forms := [.dev] } ∧
    Heard s op h x ∧ slot.toNat ≤ 16 ∧
    (x.isP = true → slot.toNat ≠ 16 ∧ ∃ p, s.portOfSlot slot.toNat = some p ∧ s.pciRole p = 2 ∧ s.vsOf p = x.vs)) ∧
  (∃ (s : State) (h : Hdr) (x : Sess) (op : OpInfo) (slot on : B8) (u : State), op = { code := 0x0A01, kind := .I, who := [.fm], forms := [.dev] } ∧
    Heard s op h x ∧ slot.toNat ≤ 15 ∧ on.toNat ≤ 1 ∧ (u = (if on.toNat = 1 then s.commandOn slot.toNat else s.commandOff slot.toNat)) ∧
    (∀ p, s.portOfSlot slot.toNat = some p → s.pciRole p = 2 → s.flag (F.STN_PORT_CFG_HP_OWNER (stnOf p) (kOf p)) = true)) ∧
  (∃ (s t : State) (h : Hdr) (x : Sess) (op : OpInfo) (slot : B8) (cfg : B32), op = { code := 0x0A02, kind := .S, who := [.fm], forms := [.dev] } ∧
    Heard s op h x ∧ slot.toNat ≤ 16 ∧ spcCfgOk slot.toNat cfg.toNat = true ∧
    (s.addItems x.key [.regs [((F.SPC_CFG_CLASS slot.toNat).addr, if slot.toNat = 16 then 0x0000FFF7#32 else 0x03FFFFFF#32, cfg)]] 8 = some t)) ∧
  (∃ (s t : State) (h : Hdr) (x : Sess) (op : OpInfo) (budget : B32), op = { code := 0x0A03, kind := .S, who := [.fm], forms := [.dev] } ∧
    Heard s op h x ∧ 5 ≤ bits budget.toNat 16 8 ∧ bits budget.toNat 16 8 ≤ 100 ∧
    s.addItems x.key [.regs [(F.SPC_BUDGET_BUDGET_W.addr, 0x007FFFFF#32, budget)]] 4 = some t) :=
  ⟨⟨fm, hstn, xstn, _, rfl, heard_of (by decide +kernel)⟩,
   ⟨fm, hstn, xstn, _, rfl, heard_of (by decide +kernel)⟩,
   ⟨fm.put (F.STN_CQ_STATUS_FENCED 0) 1, hstn, xstn, _, rfl, heard_of (by decide +kernel), by decide +kernel, by decide +kernel⟩,
   ⟨fm, hdev, xdev, _, 0, 127, _, rfl, heard_of (by decide +kernel), by decide +kernel, by decide +kernel, rfl⟩,
   ⟨fm, hdev, xdev, _, rfl, heard_of (by decide +kernel)⟩,
   ⟨fm, hdev, xdev, _, 16, rfl, heard_of (by decide +kernel), by decide +kernel, by decide +kernel⟩,
   ⟨fm, hdev, xdev, _, 15, 1, _, rfl, heard_of (by decide +kernel), by decide +kernel, by decide +kernel, rfl,
     fun p h => nomatch (show fm.portOfSlot 15 = none from by decide +kernel).symm.trans h⟩,
   ⟨fm, _, hdev, xdev, _, 5, 0x00641902, rfl, heard_of (by decide +kernel), by decide +kernel, by decide +kernel,
     (Option.some_get (by decide +kernel)).symm⟩,
   ⟨fm, _, hdev, xdev, _, 0x640000, rfl, heard_of (by decide +kernel), by decide +kernel, by decide +kernel,
     (Option.some_get (by decide +kernel)).symm⟩⟩

/-- `Obligations.SensorLogCounterOpcodes`. -/
theorem test_witness_SensorLogCounterOpcodes :
  (∃ (s : State) (h : Hdr) (x : Sess) (op : OpInfo), op = { code := 0x0B00, kind := .R, who := [.fm, .obs, .pm], forms := [.dev] } ∧
    Heard s op h x) ∧
  (∃ (s : State) (h : Hdr) (x : Sess) (op : OpInfo) (first : B32) (count : B16) (minsev : B8) (l : List (Nat × Ev)),
    op = { code := 0x0B01, kind := .R, who := [.fm, .obs, .pm], forms := [.dev] } ∧ Heard s op h x ∧ 1 ≤ count.toNat ∧ count.toNat ≤ 127 ∧
    minsev.toNat ≤ 5 ∧
    (l = (s.evs.log.filter fun r => decide (first.toNat ≤ r.1) && decide (minsev.toNat ≤ r.2.sev) && (!x.isP || s.scopeVs r.2.scope == some x.vs)).take count.toNat)) ∧
  (∃ (s : State) (h : Hdr) (x : Sess) (op : OpInfo) (idx : B32) (count : B16),
    op = { code := 0x0B02, kind := .R, who := [.fm, .obs], forms := [.dev] } ∧ Heard s op h x ∧ 1 ≤ count.toNat ∧ count.toNat ≤ 127 ∧
    idx.toNat < 2176) ∧
  (∃ (s : State) (h : Hdr) (x : Sess) (op : OpInfo), op = { code := 0x0B03, kind := .R, who := [.fm, .obs], forms := [.dev] } ∧ Heard s op h x) ∧
  (∃ (s : State) (h : Hdr) (x : Sess) (op : OpInfo) (addr : B32) (mine : Nat → Bool),
    op = { code := 0x0C00, kind := .I, who := [.fm], forms := [.dev, .stn] } ∧ Heard s op h x ∧
    (mine = (fun a => x.form == .dev || (decide (0x01000000 + 0x100000 * x.n ≤ a) && decide (a < 0x01100000 + 0x100000 * x.n)))) ∧ addr.toNat = 0) ∧
  (∃ (s : State) (h : Hdr) (x : Sess) (op : OpInfo) (addr : B32) (mine : Nat → Bool),
    op = { code := 0x0C00, kind := .I, who := [.fm], forms := [.dev, .stn] } ∧ Heard s op h x ∧
    (mine = (fun a => x.form == .dev || (decide (0x01000000 + 0x100000 * x.n ≤ a) && decide (a < 0x01100000 + 0x100000 * x.n)))) ∧ addr.toNat ≠ 0 ∧
    counterMask addr.toNat ≠ 0 ∧ mine addr.toNat = true) ∧
  (∃ (s t : State) (h : Hdr) (x : Sess) (op : OpInfo) (unit v en : B8) (mask : B32),
    op = { code := 0x0C01, kind := .S, who := [.fm], forms := [.dev] } ∧ Heard s op h x ∧ unit.toNat ≤ 21 ∧ v.toNat < 32 ∧ en.toNat ≤ 1 ∧
    s.addItems x.key [.regs [regWhole (F.PMC_GRANT_CTL_VS unit.toNat).addr (v.toNat + en.toNat * 32), regWhole (F.PMC_READ_MASK_READ_MASK unit.toNat).addr mask.toNat]] 8 = some t) ∧
  (∃ (s : State) (h : Hdr) (x : Sess) (op : OpInfo) (unit : B8), op = { code := 0x0C02, kind := .R, who := [.fm, .obs], forms := [.dev] } ∧
    Heard s op h x ∧ unit.toNat ≤ 21) :=
  ⟨⟨fm, hdev, xdev, _, rfl, heard_of (by decide +kernel)⟩,
   ⟨fm, hdev, xdev, _, 0, 127, 5, _, rfl, heard_of (by decide +kernel), by decide +kernel, by decide +kernel, by decide +kernel, rfl⟩,
   ⟨fm, hdev, xdev, _, 2175, 127, rfl, heard_of (by decide +kernel), by decide +kernel, by decide +kernel, by decide +kernel⟩,
   ⟨fm, hdev, xdev, _, rfl, heard_of (by decide +kernel)⟩,
   ⟨fm, hdev, xdev, _, 0, _, rfl, heard_of (by decide +kernel), rfl, by decide +kernel⟩,
   ⟨fm, hdev, xdev, _, BitVec.ofNat 32 F.FAB_CNT_REROUTES.addr, _, rfl, heard_of (by decide +kernel), rfl, by decide +kernel, by decide +kernel,
     by decide +kernel⟩,
   ⟨fm, _, hdev, xdev, _, 21, 31, 1, 3, rfl, heard_of (by decide +kernel), by decide +kernel, by decide +kernel, by decide +kernel,
     (Option.some_get (by decide +kernel)).symm⟩,
   ⟨fm, hdev, xdev, _, 21, rfl, heard_of (by decide +kernel), by decide +kernel⟩⟩

/-- `Obligations.ResetAndPowerOpcodes`. -/
theorem test_witness_ResetAndPowerOpcodes :
  (∃ (s : State) (h : Hdr) (x : Sess) (op : OpInfo), op = { code := 0x0D00, kind := .R, who := [.fm, .obs], forms := [.dev] } ∧ Heard s op h x) ∧
  (∃ (s : State) (h : Hdr) (x : Sess) (op : OpInfo) (dom on : B8) (d : Nat) (u v w : State) (mine : Async → Bool),
    op = { code := 0x0D01, kind := .A, who := [.fm], forms := [.dev] } ∧ Heard s op h x ∧ s.asyncLive x.key < 16 ∧ u = s.begun op h x ∧
    d = dom.toNat ∧ d ≤ 61 ∧ u.flag F.GLB_STATUS_THERMTRIP = false ∧ (d < 16 ∨ 32 ≤ d ∧ d < 48 → u.hold (d % 16) = false) ∧
    u.flag (F.GLB_PD_STATE_REQ d) = (u.pdState d == 2) ∧ (v = (if u.pdState d = 3 then u.put (F.GLB_PD_STATE_STATE d) 0 else u)) ∧
    (mine = (fun a => a.opcode == 0x0D01 && a.obj == d)) ∧ on.toNat = 1 ∧
    w = { v.pdAsk d true with pow := { (v.pdAsk d true).pow with offBySet := u.pow.offBySet.filter (· != d) } }) ∧
  (∃ (s : State) (h : Hdr) (x : Sess) (op : OpInfo) (dom on : B8) (d : Nat) (u v w : State) (mine : Async → Bool),
    op = { code := 0x0D01, kind := .A, who := [.fm], forms := [.dev] } ∧ Heard s op h x ∧ s.asyncLive x.key < 16 ∧ u = s.begun op h x ∧
    d = dom.toNat ∧ d ≤ 61 ∧ u.flag F.GLB_STATUS_THERMTRIP = false ∧ (d < 16 ∨ 32 ≤ d ∧ d < 48 → u.hold (d % 16) = false) ∧
    u.flag (F.GLB_PD_STATE_REQ d) = (u.pdState d == 2) ∧ (v = (if u.pdState d = 3 then u.put (F.GLB_PD_STATE_STATE d) 0 else u)) ∧
    (mine = (fun a => a.opcode == 0x0D01 && a.obj == d)) ∧ on.toNat = 0 ∧
    (u.noneNeeds d = true ∧ u.pdMayOff d = true ∨ 56 ≤ d ∧ d < 60 ∧ bit (u.get F.CORE_STALL_STATUS_FAILED) (d - 56) = true) ∧
    w = { v.pdAsk d false with pow := { (v.pdAsk d false).pow with offBySet := d :: u.pow.offBySet.filter (· != d) } }) ∧
  (∃ (s : State) (h : Hdr) (x : Sess) (op : OpInfo) (code : B8), op = { code := 0x0D02, kind := .I, who := [.fm], forms := [.dev, .stn] } ∧
    Heard s op h x ∧ (1 ≤ code.toNat ∧ code.toNat ≤ 3 ∧ x.form = .stn ∨ 0x10 ≤ code.toNat ∧ code.toNat ≤ 0x12 ∧ x.form = .dev) ∧ s.pow.block = none ∧
    s.flag (F.GLB_PD_STATE_REQ (blockDomain code.toNat x.n)) = s.pdIsOn (blockDomain code.toNat x.n) ∧ s.blockBusy code.toNat x.n = none) ∧
  (∃ (s : State) (h : Hdr) (x : Sess) (op : OpInfo) (kind : B8), op = { code := 0x0D03, kind := .I, who := [.fm], forms := [.dev] } ∧
    Heard s op h x ∧ kind.toNat ≤ 1) ∧
  (∃ (s : State) (h : Hdr) (x : Sess) (op : OpInfo), op = { code := 0x0D04, kind := .R, who := [.fm, .obs], forms := [.dev] } ∧ Heard s op h x) :=
  ⟨⟨fm, hdev, xdev, _, rfl, heard_of (by decide +kernel)⟩,
   ⟨fm, hdev, xdev, _, 61, 1, _, _, _, _, _, rfl, heard_of (by decide +kernel), by decide +kernel, rfl, rfl, by decide +kernel, by decide +kernel,
     by decide +kernel, by decide +kernel, rfl, rfl, by decide +kernel, rfl⟩,
   ⟨fm, hdev, xdev, _, 61, 0, _, _, _, _, _, rfl, heard_of (by decide +kernel), by decide +kernel, rfl, rfl, by decide +kernel, by decide +kernel,
     by decide +kernel, by decide +kernel, rfl, rfl, by decide +kernel, by decide +kernel, rfl⟩,
   ⟨fm, hstn, xstn, _, 3, rfl, heard_of (by decide +kernel), by decide +kernel, by decide +kernel, by decide +kernel, by decide +kernel⟩,
   ⟨fm, hdev, xdev, _, 1, rfl, heard_of (by decide +kernel), by decide +kernel⟩,
   ⟨fm, hdev, xdev, _, rfl, heard_of (by decide +kernel)⟩⟩

/-- `Obligations.FirmwareOpcodes`. -/
theorem test_witness_FirmwareOpcodes :
  (∃ (s : State) (h : Hdr) (x : Sess) (op : OpInfo) (off : B32) (piece : Bytes) (nb : Nat) (u : State),
    op = { code := 0x0E00, kind := .I, who := [.fm], forms := [.dev], len := decide (piece.length ≤ 4076) } ∧ Heard s op h x ∧
    (s.get F.ACW_FW_STATUS_UPD_STATE = 0 ∧ off.toNat = 0 ∨ s.get F.ACW_FW_STATUS_UPD_STATE = 1 ∧ s.acl.fwCred = x.key ∧ (off.toNat = 0 ∨ off.toNat = s.acl.fwBytes)) ∧
    off.toNat + piece.length ≤ 8388608 ∧ nb = 1 - s.get F.ACW_FW_STATUS_RUN_BANK ∧ u = s.setBankOf nb (flashWrite (s.bankOf nb) off.toNat piece)) ∧
  (∃ (s : State) (h : Hdr) (x : Sess) (op : OpInfo) (img : Bytes) (u : State), op = { code := 0x0E01, kind := .I, who := [.fm], forms := [.dev] } ∧
    Heard s op h x ∧ (s.get F.ACW_FW_STATUS_UPD_STATE = 1 ∨ s.get F.ACW_FW_STATUS_UPD_STATE = 2) ∧
    img = s.bankOf (1 - s.get F.ACW_FW_STATUS_RUN_BANK) ∧ u = s.put F.ACW_FW_STATUS_UPD_STATE 0) ∧
  (∃ (s : State) (h : Hdr) (x : Sess) (op : OpInfo), op = { code := 0x0E02, kind := .A, who := [.fm], forms := [.dev] } ∧ Heard s op h x ∧
    s.asyncLive x.key < 16 ∧ (s.begun op h x).get F.ACW_FW_STATUS_UPD_STATE = 2) ∧
  (∃ (s : State) (h : Hdr) (x : Sess) (op : OpInfo) (u : State), op = { code := 0x0E03, kind := .I, who := [.fm], forms := [.dev] } ∧
    Heard s op h x ∧ s.flag F.ACW_FW_STATUS_TRIAL = true ∧
    u = (((s.writeBootRec (s.get F.ACW_FW_STATUS_RUN_BANK == 1) false false).putB F.ACW_FW_STATUS_TRIAL false).putB F.ACW_FW_STATUS_CONFIRMED true).put F.ACW_FW_STATUS_UPD_STATE 0) ∧
  (∃ (s : State) (h : Hdr) (x : Sess) (op : OpInfo) (off : B32) (piece : Bytes) (u : State),
    op = { code := 0x0E04, kind := .I, who := [.fm], forms := [.dev], len := decide (piece.length ≤ 4076) } ∧ Heard s op h x ∧
    (off.toNat = 0 ∧ 16 ≤ piece.length ∧ leAt piece 12 4 = (s.get F.ACW_CFG_SEQ_SEQ + 1) % 2 ^ 32 ∨ off.toNat ≠ 0 ∧ s.acl.cfgBusy = true ∧ off.toNat = s.acl.cfgBytes) ∧
    off.toNat + piece.length ≤ 1048576 ∧ (s.acl.cfgBusy = true → s.acl.cfgCred = x.key) ∧
    u = s.setCfgOf s.cfgSpare (flashWrite (s.cfgOf s.cfgSpare) off.toNat piece)) ∧
  (∃ (s : State) (h : Hdr) (x : Sess) (op : OpInfo) (len : B32) (img : Bytes) (u : State),
    op = { code := 0x0E05, kind := .I, who := [.fm], forms := [.dev] } ∧ Heard s op h x ∧ s.acl.cfgBusy = true ∧ len.toNat = s.acl.cfgBytes ∧
    s.acl.cfgCred = x.key ∧ img = s.cfgOf s.cfgSpare ∧ u = { s with acl := { s.acl with cfgBusy := false } } ∧ leAt img 8 4 = len.toNat ∧
    cfgTest img = none) ∧
  (∃ (s : State) (h : Hdr) (x : Sess) (op : OpInfo) (len : B32) (img : Bytes) (u : State),
    op = { code := 0x0E05, kind := .I, who := [.fm], forms := [.dev] } ∧ Heard s op h x ∧ s.acl.cfgBusy = true ∧ len.toNat = s.acl.cfgBytes ∧
    s.acl.cfgCred = x.key ∧ img = s.cfgOf s.cfgSpare ∧ u = { s with acl := { s.acl with cfgBusy := false } } ∧
    (leAt img 8 4 ≠ len.toNat ∨ cfgTest img ≠ none)) ∧
  (∃ (s : State) (h : Hdr) (x : Sess) (op : OpInfo), op = { code := 0x0E06, kind := .R, who := [.fm, .obs], forms := [.dev] } ∧ Heard s op h x) ∧
  (∃ (s : State) (h : Hdr) (off total : B32) (piece got : Bytes), h.chan = 0 ∧ h.scope = 0xFFFF ∧ h.cred = 0 ∧ h.flags = 0 ∧ s.acl.romWaits = true ∧
    s.acl.up = false ∧ s.cmd.via = .arrive ∧ s.owing = [] ∧ (s.chan 0).held = [] ∧ s.keptReply .arrive h = none ∧
    s.flag F.ACW_FW_STATUS_UART_BOOT = false ∧ piece.length ≤ 4072 ∧ (off.toNat = 0 ∨ off.toNat = s.acl.sram.length) ∧
    off.toNat + piece.length ≤ total.toNat ∧ total.toNat ≤ 2097152 ∧ (got = (if off.toNat = 0 then [] else s.acl.sram) ++ piece)) :=
  ⟨⟨fm, hdev, xdev, _, 0, [1, 2], _, _, rfl, heard_of (by decide +kernel), by decide +kernel, by decide +kernel, rfl, rfl⟩,
   ⟨{ fm.put F.ACW_FW_STATUS_UPD_STATE 1 with acl := { fm.acl with fwBytes := 160, bankB := List.replicate 160 0 } }, hdev, xdev, _, _, _, rfl,
     heard_of (by decide +kernel), by decide +kernel, rfl, rfl⟩,
   ⟨fm.put F.ACW_FW_STATUS_UPD_STATE 2, hdev, xdev, _, rfl, heard_of (by decide +kernel), by decide +kernel, by decide +kernel⟩,
   ⟨fm.put F.ACW_FW_STATUS_TRIAL 1, hdev, xdev, _, _, rfl, heard_of (by decide +kernel), by decide +kernel, rfl⟩,
   ⟨fm, hdev, xdev, _, 0, cfgImg, _, rfl, heard_of (by decide +kernel), by decide +kernel, by decide +kernel, by decide +kernel, rfl⟩,
   ⟨{ fm with acl := { fm.acl with cfgBusy := true, cfgBytes := 48, cfgCred := 0x00010001, cfgA := cfgImg, cfgB := cfgImg } }, hdev, xdev, _, 48, _,
     _, rfl, heard_of (by decide +kernel), by decide +kernel, by decide +kernel, by decide +kernel, rfl, rfl, by decide +kernel, by decide +kernel⟩,
   ⟨{ fm with acl := { fm.acl with cfgBusy := true, cfgBytes := 47, cfgCred := 0x00010001, cfgA := cfgImg, cfgB := cfgImg } }, hdev, xdev, _, 47, _,
     _, rfl, heard_of (by decide +kernel), by decide +kernel, by decide +kernel, by decide +kernel, rfl, rfl, by decide +kernel⟩,
   ⟨fm, hdev, xdev, _, rfl, heard_of (by decide +kernel)⟩,
   ⟨{ State.reset with acl := { State.reset.acl with romWaits := true } }, { hdev with cred := 0 }, 0, 2, [1], _, by decide +kernel,
     by decide +kernel, by decide +kernel, by decide +kernel, by decide +kernel, by decide +kernel, by decide +kernel, by decide +kernel,
     by decide +kernel, by decide +kernel, by decide +kernel, by decide +kernel, by decide +kernel, by decide +kernel, by decide +kernel, rfl⟩⟩

/-- `Obligations.CredentialOpcodes`. -/
theorem test_witness_CredentialOpcodes :
  (∃ (s t : State) (h : Hdr) (x : Sess) (id : B32) (op : OpInfo) (cls v : B8) (k : Cls),
    op = { code := 0x0F00, kind := .I, who := anyCls, forms := [.dev], cred0 := true } ∧ Heard s op h x ∧ cls.toNat ≤ 3 ∧
    Cls.ofCode cls.toNat = some k ∧ (k = .pm → v.toNat < 32 ∧ (3 ≤ h.chan.val → chanVs h.chan.val = some v.toNat)) ∧
    cls.toNat ≤ (s.disarm 0x0F00).maxClass h.chan.val ∧
    ((s.disarm 0x0F00).openCred (fun g => { gen := g, cls := k, vs := if k = .pm then v.toNat else 0xFF, panel := 0, chan := h.chan.val, eid := bindEid h.chan.val h.eid.toNat }) = some (id, t))) ∧
  (∃ (s : State) (h : Hdr) (x : Sess) (op : OpInfo), op = { code := 0x0F01, kind := .I, who := anyCls, forms := [.dev] } ∧ Heard s op h x) ∧
  (∃ (s t : State) (h : Hdr) (x : Sess) (id : B32) (op : OpInfo) (v : Nat),
    op = { code := 0x0F02, kind := .I, who := [.fm, .pm], forms := [.panel] } ∧ Heard s op h x ∧ (s.disarm 0x0F02).panelVs x.n = some v ∧
    (x.isP = false ∨ v = x.vs) ∧
    ((s.disarm 0x0F02).openCred (fun g => { gen := g, cls := .tenant, vs := v, panel := x.n, chan := h.chan.val, eid := bindEid h.chan.val h.eid.toNat }) = some (id, t))) ∧
  (∃ (s t : State) (h : Hdr) (x : Sess) (op : OpInfo) (ch cls : B8), op = { code := 0x0F09, kind := .S, who := [.fm], forms := [.dev] } ∧
    Heard s op h x ∧ ch.toNat ≤ 66 ∧ cls.toNat ≤ 3 ∧
    (s.disarm 0x0F09).addItems x.key [.regs [fldPart (F.ACW_CHAN_CFG_MAX_CLASS ch.toNat) cls.toNat]] 4 = some t) ∧
  (∃ (s : State) (h : Hdr) (x : Sess) (op : OpInfo), op = { code := 0x0F0A, kind := .R, who := [.fm, .obs], forms := [.dev] } ∧ Heard s op h x) ∧
  (∃ (s t : State) (h : Hdr) (x : Sess) (op : OpInfo) (nreg : B8) (recs : List (List B32)),
    (op = { code := 0x0F08, kind := .S, who := [.fm], forms := [.dev], len := recs.length == nreg.toNat && recs.all fun r => r.length == 4 }) ∧
    Heard s op h x ∧ nreg.toNat ≤ 16 ∧ recs.all (regionFmt (2 ^ 26) 2) = true ∧ regionsOverlap recs = false ∧
    (s.disarm 0x0F08).addItems x.key [.proxyRegions recs] (4 + 16 * recs.length) = some t) :=
  ⟨⟨fm.put (F.ACW_CHAN_CFG_MAX_CLASS 0) 3, _, hdev, xdev, _, _, 3, 0, .fm, rfl, heard_of (by decide +kernel), by decide +kernel, by decide +kernel,
     by decide +kernel, by decide +kernel, Option.eq_some_of_isSome (by decide +kernel)⟩,
   ⟨fm, hdev, xdev, _, rfl, heard_of (by decide +kernel)⟩,
   ⟨puts fm [(F.SHT_PNL_BIND_VALID 0, 1), (F.SHT_PNL_BIND_VS 0, 5)], _, hpnl, xpnl, _, _, _, rfl, heard_of (by decide +kernel),
     (Option.some_get (by decide +kernel)).symm, by decide +kernel, Option.eq_some_of_isSome (by decide +kernel)⟩,
   ⟨fm, _, hdev, xdev, _, 66, 3, rfl, heard_of (by decide +kernel), by decide +kernel, by decide +kernel,
     (Option.some_get (by decide +kernel)).symm⟩,
   ⟨fm, hdev, xdev, _, rfl, heard_of (by decide +kernel)⟩,
   ⟨fm, _, hdev, xdev, _, 1, [[0, 63, 3, 0]], rfl, heard_of (by decide +kernel), by decide +kernel, by decide +kernel, by decide +kernel,
     (Option.some_get (by decide +kernel)).symm⟩⟩

/-- `Obligations.FuseOpcodes`. -/
theorem test_witness_FuseOpcodes :
  (∃ (s d b : State) (h : Hdr) (x : Sess) (op : OpInfo) (slot : B8) (key pad : Bytes),
    op = { code := 0x0F03, kind := .I, who := [.fm], forms := [.dev], len := key.length == 97 && pad.length == 3 } ∧ Heard s op h x ∧
    d = s.disarm 0x0F03 ∧ b = d.nextFree.emit (.fuse fzKey slot.toNat) ∧ 1 ≤ slot.toNat ∧ slot.toNat ≤ 4 ∧ keyOk key = true ∧
    pad.any (· != 0) = false ∧ (d.keySlot slot.toNat).enrolled = false ∧ (d.keySlot slot.toNat).revoked = false) ∧
  (∃ (s d b : State) (h : Hdr) (x : Sess) (op : OpInfo) (slot : B8), op = { code := 0x0F04, kind := .I, who := [.fm], forms := [.dev] } ∧
    Heard s op h x ∧ d = s.disarm 0x0F04 ∧ b = d.nextFree.emit (.fuse fzRevoke slot.toNat) ∧ 1 ≤ slot.toNat ∧ slot.toNat ≤ 4 ∧
    (d.keySlot slot.toNat).revoked = false) ∧
  (∃ (s d b : State) (h : Hdr) (x : Sess) (op : OpInfo) (n : Nat), op = { code := 0x0F05, kind := .I, who := [.fm], forms := [.dev] } ∧
    Heard s op h x ∧ d = s.disarm 0x0F05 ∧ n = d.get F.ACW_SEC_STATUS_RUN_SVN ∧ b = d.nextFree.emit (.fuse fzRollback n) ∧
    d.flag F.ACW_FW_STATUS_TRIAL = false ∧ d.flag F.ACW_FW_STATUS_UART_BOOT = false) ∧
  (∃ (s : State) (h : Hdr) (x : Sess) (op : OpInfo), op = { code := 0x0F06, kind := .I, who := [.fm], forms := [.dev] } ∧ Heard s op h x ∧
    s.acl.debugLocked = false ∧ s.acl.arm = none) ∧
  (∃ (s d b : State) (h : Hdr) (x : Sess) (op : OpInfo) (chal : B32), op = { code := 0x0F07, kind := .I, who := [.fm], forms := [.dev] } ∧
    Heard s op h x ∧ s.acl.debugLocked = false ∧ s.acl.arm = some { challenge := chal, chan := h.chan.val, cred := x.key } ∧
    d = ({ s with acl := { s.acl with arm := none } }).putB F.ACW_SEC_STATUS_ARMED false ∧ b = d.nextFree.emit (.fuse fzDebug 0)) :=
  ⟨⟨fm, _, _, hdev, xdev, _, 4, keyP, [0, 0, 0], rfl, heard_of (by decide +kernel), rfl, rfl, by decide +kernel, by decide +kernel,
     by decide +kernel, by decide +kernel, by decide +kernel, by decide +kernel⟩,
   ⟨fm, _, _, hdev, xdev, _, 4, rfl, heard_of (by decide +kernel), rfl, rfl, by decide +kernel, by decide +kernel, by decide +kernel⟩,
   ⟨fm, _, _, hdev, xdev, _, _, rfl, heard_of (by decide +kernel), rfl, rfl, rfl, by decide +kernel, by decide +kernel⟩,
   ⟨fm, hdev, xdev, _, rfl, heard_of (by decide +kernel), by decide +kernel, by decide +kernel⟩,
   ⟨{ fm with acl := { fm.acl with arm := some { challenge := 9, chan := 0, cred := 0x00010001 } } }, _, _, hdev, xdev, _, 9, rfl,
     heard_of (by decide +kernel), by decide +kernel, by decide +kernel, rfl, rfl⟩⟩

/-- `Obligations.EngineAlu`. -/
theorem test_witness_EngineAlu :
  (∃ (s : State) (e : Eng) (r : BRun) (d a b : Fin 16) (x y : B64), x = s.regIn e r a ∧ y = s.regIn e r b ∧ Stands s e r (.aluAdd e d a b)) ∧
  (∃ (s : State) (e : Eng) (r : BRun) (d a b : Fin 16) (x y : B64), x = s.regIn e r a ∧ y = s.regIn e r b ∧ Stands s e r (.aluSub e d a b)) ∧
  (∃ (s : State) (e : Eng) (r : BRun) (d a b : Fin 16) (x y : B64), x = s.regIn e r a ∧ y = s.regIn e r b ∧ Stands s e r (.aluAnd e d a b)) ∧
  (∃ (s : State) (e : Eng) (r : BRun) (d a b : Fin 16) (x y : B64), x = s.regIn e r a ∧ y = s.regIn e r b ∧ Stands s e r (.aluOr e d a b)) ∧
  (∃ (s : State) (e : Eng) (r : BRun) (d a b : Fin 16) (x y : B64), x = s.regIn e r a ∧ y = s.regIn e r b ∧ Stands s e r (.aluXor e d a b)) ∧
  (∃ (s : State) (e : Eng) (r : BRun) (d a b : Fin 16) (x y : B64), x = s.regIn e r a ∧ y = s.regIn e r b ∧ Stands s e r (.aluShl e d a b)) ∧
  (∃ (s : State) (e : Eng) (r : BRun) (d a b : Fin 16) (x y : B64), x = s.regIn e r a ∧ y = s.regIn e r b ∧ Stands s e r (.aluShr e d a b)) ∧
  (∃ (s : State) (e : Eng) (r : BRun) (d a b : Fin 16) (x y : B64), x = s.regIn e r a ∧ y = s.regIn e r b ∧ Stands s e r (.aluMinu e d a b)) ∧
  (∃ (s : State) (e : Eng) (r : BRun) (d a b : Fin 16) (x y : B64), x = s.regIn e r a ∧ y = s.regIn e r b ∧ Stands s e r (.aluMaxu e d a b)) ∧
  (∃ (s : State) (e : Eng) (r : BRun) (d a b : Fin 16) (x y : B64), x = s.regIn e r a ∧ y = s.regIn e r b ∧ Stands s e r (.aluSeq e d a b)) ∧
  (∃ (s : State) (e : Eng) (r : BRun) (d a b : Fin 16) (x y : B64), x = s.regIn e r a ∧ y = s.regIn e r b ∧ Stands s e r (.aluSltu e d a b)) ∧
  (∃ (s : State) (e : Eng) (r : BRun) (d a b : Fin 16) (x y : B64), x = s.regIn e r a ∧ y = s.regIn e r b ∧ Stands s e r (.hash e d a b)) :=
  ⟨⟨atIns fm (.aluAdd 0 15 14 15), 0, run0, 15, 14, 15, _, _, rfl, rfl, ⟨by decide +kernel, by decide +kernel, rfl⟩⟩,
   ⟨atIns fm (.aluSub 0 15 14 15), 0, run0, 15, 14, 15, _, _, rfl, rfl, ⟨by decide +kernel, by decide +kernel, rfl⟩⟩,
   ⟨atIns fm (.aluAnd 0 15 14 15), 0, run0, 15, 14, 15, _, _, rfl, rfl, ⟨by decide +kernel, by decide +kernel, rfl⟩⟩,
   ⟨atIns fm (.aluOr 0 15 14 15), 0, run0, 15, 14, 15, _, _, rfl, rfl, ⟨by decide +kernel, by decide +kernel, rfl⟩⟩,
   ⟨atIns fm (.aluXor 0 15 14 15), 0, run0, 15, 14, 15, _, _, rfl, rfl, ⟨by decide +kernel, by decide +kernel, rfl⟩⟩,
   ⟨atIns fm (.aluShl 0 15 14 15), 0, run0, 15, 14, 15, _, _, rfl, rfl, ⟨by decide +kernel, by decide +kernel, rfl⟩⟩,
   ⟨atIns fm (.aluShr 0 15 14 15), 0, run0, 15, 14, 15, _, _, rfl, rfl, ⟨by decide +kernel, by decide +kernel, rfl⟩⟩,
   ⟨atIns fm (.aluMinu 0 15 14 15), 0, run0, 15, 14, 15, _, _, rfl, rfl, ⟨by decide +kernel, by decide +kernel, rfl⟩⟩,
   ⟨atIns fm (.aluMaxu 0 15 14 15), 0, run0, 15, 14, 15, _, _, rfl, rfl, ⟨by decide +kernel, by decide +kernel, rfl⟩⟩,
   ⟨atIns fm (.aluSeq 0 15 14 15), 0, run0, 15, 14, 15, _, _, rfl, rfl, ⟨by decide +kernel, by decide +kernel, rfl⟩⟩,
   ⟨atIns fm (.aluSltu 0 15 14 15), 0, run0, 15, 14, 15, _, _, rfl, rfl, ⟨by decide +kernel, by decide +kernel, rfl⟩⟩,
   ⟨atIns fm (.hash 0 15 14 15), 0, run0, 15, 14, 15, _, _, rfl, rfl, ⟨by decide +kernel, by decide +kernel, rfl⟩⟩⟩

/-- `Obligations.EngineImmediates`. -/
theorem test_witness_EngineImmediates :
  (∃ (s : State) (e : Eng) (r : BRun) (d a : Fin 16) (x : B64) (imm : BitVec 18), x = s.regIn e r a ∧ Stands s e r (.addi e d a imm)) ∧
  (∃ (s : State) (e : Eng) (r : BRun) (d a : Fin 16) (x : B64) (imm : BitVec 18), x = s.regIn e r a ∧ Stands s e r (.andi e d a imm)) ∧
  (∃ (s : State) (e : Eng) (r : BRun) (d a : Fin 16) (x : B64) (imm : BitVec 18), x = s.regIn e r a ∧ Stands s e r (.ori e d a imm)) ∧
  (∃ (s : State) (e : Eng) (r : BRun) (d a : Fin 16) (x : B64) (imm : BitVec 18), x = s.regIn e r a ∧ Stands s e r (.xori e d a imm)) ∧
  (∃ (s : State) (e : Eng) (r : BRun) (d a : Fin 16) (x : B64) (sh : BitVec 6), x = s.regIn e r a ∧ Stands s e r (.shli e d a sh)) ∧
  (∃ (s : State) (e : Eng) (r : BRun) (d a : Fin 16) (x : B64) (sh : BitVec 6), x = s.regIn e r a ∧ Stands s e r (.shri e d a sh)) ∧
  (∃ (s : State) (e : Eng) (r : BRun) (d a : Fin 16) (x : B64) (imm : BitVec 22), x = s.regIn e r a ∧ Stands s e r (.li e d imm)) ∧
  (∃ (s : State) (e : Eng) (r : BRun) (d a : Fin 16) (x : B64) (hw : Fin 4) (imm : B16), x = s.regIn e r a ∧ Stands s e r (.movk e d hw imm)) :=
  ⟨⟨atIns fm (.addi 0 15 14 0x3FFFF), 0, run0, 15, 14, _, 0x3FFFF, rfl, ⟨by decide +kernel, by decide +kernel, rfl⟩⟩,
   ⟨atIns fm (.andi 0 15 14 0x3FFFF), 0, run0, 15, 14, _, 0x3FFFF, rfl, ⟨by decide +kernel, by decide +kernel, rfl⟩⟩,
   ⟨atIns fm (.ori 0 15 14 0x3FFFF), 0, run0, 15, 14, _, 0x3FFFF, rfl, ⟨by decide +kernel, by decide +kernel, rfl⟩⟩,
   ⟨atIns fm (.xori 0 15 14 0x3FFFF), 0, run0, 15, 14, _, 0x3FFFF, rfl, ⟨by decide +kernel, by decide +kernel, rfl⟩⟩,
   ⟨atIns fm (.shli 0 15 14 63), 0, run0, 15, 14, _, 63, rfl, ⟨by decide +kernel, by decide +kernel, rfl⟩⟩,
   ⟨atIns fm (.shri 0 15 14 63), 0, run0, 15, 14, _, 63, rfl, ⟨by decide +kernel, by decide +kernel, rfl⟩⟩,
   ⟨atIns fm (.li 0 15 0x3FFFFF), 0, run0, 15, 0, _, 0x3FFFFF, rfl, ⟨by decide +kernel, by decide +kernel, rfl⟩⟩,
   ⟨atIns fm (.movk 0 15 3 0xFFFF), 0, run0, 15, 0, _, 3, 0xFFFF, rfl, ⟨by decide +kernel, by decide +kernel, rfl⟩⟩⟩

/-- `Obligations.EngineBranches`. -/
theorem test_witness_EngineBranches :
  (∃ (s : State) (e : Eng) (r : BRun) (d a : Fin 16) (off : BitVec 12) (x y : B64) (n : Bool → Nat), x = s.regIn e r d ∧ y = s.regIn e r a ∧
    (∀ c, n c = (s.eng e).pc + 1 + if c then off.toNat else 0) ∧ Stands s e r (.nop e)) ∧
  (∃ (s : State) (e : Eng) (r : BRun) (d a : Fin 16) (off : BitVec 12) (x y : B64) (n : Bool → Nat), x = s.regIn e r d ∧ y = s.regIn e r a ∧
    (∀ c, n c = (s.eng e).pc + 1 + if c then off.toNat else 0) ∧ Stands s e r (.beq e d a off)) ∧
  (∃ (s : State) (e : Eng) (r : BRun) (d a : Fin 16) (off : BitVec 12) (x y : B64) (n : Bool → Nat), x = s.regIn e r d ∧ y = s.regIn e r a ∧
    (∀ c, n c = (s.eng e).pc + 1 + if c then off.toNat else 0) ∧ Stands s e r (.bne e d a off)) ∧
  (∃ (s : State) (e : Eng) (r : BRun) (d a : Fin 16) (off : BitVec 12) (x y : B64) (n : Bool → Nat), x = s.regIn e r d ∧ y = s.regIn e r a ∧
    (∀ c, n c = (s.eng e).pc + 1 + if c then off.toNat else 0) ∧ Stands s e r (.bltu e d a off)) ∧
  (∃ (s : State) (e : Eng) (r : BRun) (d a : Fin 16) (off : BitVec 12) (x y : B64) (n : Bool → Nat), x = s.regIn e r d ∧ y = s.regIn e r a ∧
    (∀ c, n c = (s.eng e).pc + 1 + if c then off.toNat else 0) ∧ Stands s e r (.bgeu e d a off)) ∧
  (∃ (s : State) (e : Eng) (r : BRun) (d a : Fin 16) (off : BitVec 12) (x y : B64) (n : Bool → Nat) (imm : B8), x = s.regIn e r d ∧
    y = s.regIn e r a ∧ (∀ c, n c = (s.eng e).pc + 1 + if c then off.toNat else 0) ∧ Stands s e r (.beqi e d imm off)) ∧
  (∃ (s : State) (e : Eng) (r : BRun) (d a : Fin 16) (off : BitVec 12) (x y : B64) (n : Bool → Nat) (imm : B8), x = s.regIn e r d ∧
    y = s.regIn e r a ∧ (∀ c, n c = (s.eng e).pc + 1 + if c then off.toNat else 0) ∧ Stands s e r (.bnei e d imm off)) ∧
  (∃ (s : State) (e : Eng) (r : BRun) (d a : Fin 16) (off : BitVec 12) (x y : B64) (n : Bool → Nat) (k : BitVec 6), x = s.regIn e r d ∧
    y = s.regIn e r a ∧ (∀ c, n c = (s.eng e).pc + 1 + if c then off.toNat else 0) ∧ Stands s e r (.bbs e d k off)) ∧
  (∃ (s : State) (e : Eng) (r : BRun) (d a : Fin 16) (off : BitVec 12) (x y : B64) (n : Bool → Nat) (k : BitVec 6), x = s.regIn e r d ∧
    y = s.regIn e r a ∧ (∀ c, n c = (s.eng e).pc + 1 + if c then off.toNat else 0) ∧ Stands s e r (.bbc e d k off)) ∧
  (∃ (s : State) (e : Eng) (r : BRun) (d a : Fin 16) (off : BitVec 12) (x y : B64) (n : Bool → Nat), x = s.regIn e r d ∧ y = s.regIn e r a ∧
    (∀ c, n c = (s.eng e).pc + 1 + if c then off.toNat else 0) ∧ Stands s e r (.jmp e off)) :=
  ⟨⟨atIns fm (.nop 0), 0, run0, 0, 0, 0, _, _, _, rfl, rfl, fun _ => rfl, ⟨by decide +kernel, by decide +kernel, rfl⟩⟩,
   ⟨atIns fm (.beq 0 15 14 0xFFF), 0, run0, 15, 14, 0xFFF, _, _, _, rfl, rfl, fun _ => rfl, ⟨by decide +kernel, by decide +kernel, rfl⟩⟩,
   ⟨atIns fm (.bne 0 15 14 0xFFF), 0, run0, 15, 14, 0xFFF, _, _, _, rfl, rfl, fun _ => rfl, ⟨by decide +kernel, by decide +kernel, rfl⟩⟩,
   ⟨atIns fm (.bltu 0 15 14 0xFFF), 0, run0, 15, 14, 0xFFF, _, _, _, rfl, rfl, fun _ => rfl, ⟨by decide +kernel, by decide +kernel, rfl⟩⟩,
   ⟨atIns fm (.bgeu 0 15 14 0xFFF), 0, run0, 15, 14, 0xFFF, _, _, _, rfl, rfl, fun _ => rfl, ⟨by decide +kernel, by decide +kernel, rfl⟩⟩,
   ⟨atIns fm (.beqi 0 15 0xFF 0xFFF), 0, run0, 15, 0, 0xFFF, _, _, _, 0xFF, rfl, rfl, fun _ => rfl, ⟨by decide +kernel, by decide +kernel, rfl⟩⟩,
   ⟨atIns fm (.bnei 0 15 0xFF 0xFFF), 0, run0, 15, 0, 0xFFF, _, _, _, 0xFF, rfl, rfl, fun _ => rfl, ⟨by decide +kernel, by decide +kernel, rfl⟩⟩,
   ⟨atIns fm (.bbs 0 15 63 0xFFF), 0, run0, 15, 0, 0xFFF, _, _, _, 63, rfl, rfl, fun _ => rfl, ⟨by decide +kernel, by decide +kernel, rfl⟩⟩,
   ⟨atIns fm (.bbc 0 15 63 0xFFF), 0, run0, 15, 0, 0xFFF, _, _, _, 63, rfl, rfl, fun _ => rfl, ⟨by decide +kernel, by decide +kernel, rfl⟩⟩,
   ⟨atIns fm (.jmp 0 0xFFF), 0, run0, 0, 0, 0xFFF, _, _, _, rfl, rfl, fun _ => rfl, ⟨by decide +kernel, by decide +kernel, rfl⟩⟩⟩

/-- `Obligations.EngineMemory`. -/
theorem test_witness_EngineMemory :
  (∃ (s u : State) (e : Eng) (r : BRun) (d : Fin 16) (n : Nat) (sz : Fin 4) (off : BitVec 6), n = (s.eng e).pc + 1 ∧ u = s.instrStart e r ∧
    Stands s e r (.ldh e d sz off)) ∧
  (∃ (s u : State) (e : Eng) (r : BRun) (a : Fin 16) (n : Nat) (sz : Fin 4) (off : BitVec 6) (w : Bytes), n = (s.eng e).pc + 1 ∧
    u = s.instrStart e r ∧ Stands s e r (.sth e a sz off) ∧ w = winStore r off.toNat (2 ^ sz.val) (s.regIn e r a)) ∧
  (∃ (s u : State) (e : Eng) (r : BRun) (d a : Fin 16) (n : Nat) (sz : Fin 4) (imm : B16) (ecc : Fin 3) (addr : Nat), n = (s.eng e).pc + 1 ∧
    u = s.instrStart e r ∧ addr = (s.regIn e r a + imm.setWidth 64).toNat ∧ addr % 2 ^ sz.val = 0 ∧ addr + 2 ^ sz.val ≤ 0xC000 ∧ ecc.val ≤ 1 ∧
    Stands s e r (.ldl e d a sz imm 0)) ∧
  (∃ (s u : State) (e : Eng) (r : BRun) (d a : Fin 16) (n : Nat) (sz : Fin 4) (imm : B16) (ecc : Fin 3) (addr : Nat), n = (s.eng e).pc + 1 ∧
    u = s.instrStart e r ∧ addr = (s.regIn e r a + imm.setWidth 64).toNat ∧ addr % 2 ^ sz.val = 0 ∧ addr + 2 ^ sz.val ≤ 0xC000 ∧ ecc.val ≤ 1 ∧
    Stands s e r (.stl e d a sz imm 0)) ∧
  (∃ (s u : State) (e : Eng) (r : BRun) (d a : Fin 16) (n : Nat) (sz : Fin 4) (imm : B16) (ecc : Fin 3) (addr : Nat), n = (s.eng e).pc + 1 ∧
    u = s.instrStart e r ∧ addr = (s.regIn e r a + imm.setWidth 64).toNat ∧ addr % 2 ^ sz.val = 0 ∧ addr + 2 ^ sz.val ≤ 0xC000 ∧ ecc.val = 2 ∧
    Stands s e r (.ldl e d a sz imm 0)) ∧
  (∃ (s u : State) (e : Eng) (r : BRun) (d a : Fin 16) (n : Nat) (sz : Fin 4) (imm : B16) (ecc : Fin 3) (addr : Nat), n = (s.eng e).pc + 1 ∧
    u = s.instrStart e r ∧ addr = (s.regIn e r a + imm.setWidth 64).toNat ∧ addr % 2 ^ sz.val = 0 ∧ addr + 2 ^ sz.val ≤ 0xC000 ∧ ecc.val = 2 ∧
    Stands s e r (.stl e d a sz imm 0)) ∧
  (∃ (s u : State) (e : Eng) (r : BRun) (d a : Fin 16) (n : Nat) (sz : Fin 4) (imm : B16) (addr : Nat), n = (s.eng e).pc + 1 ∧ u = s.instrStart e r ∧
    addr = (s.regIn e r a + imm.setWidth 64).toNat ∧ (addr % 2 ^ sz.val ≠ 0 ∨ 0xC000 < addr + 2 ^ sz.val) ∧ Stands s e r (.ldl e d a sz imm 0)) ∧
  (∃ (s u : State) (e : Eng) (r : BRun) (d a : Fin 16) (n : Nat) (sz : Fin 4) (imm : B16) (addr : Nat), n = (s.eng e).pc + 1 ∧ u = s.instrStart e r ∧
    addr = (s.regIn e r a + imm.setWidth 64).toNat ∧ (addr % 2 ^ sz.val ≠ 0 ∨ 0xC000 < addr + 2 ^ sz.val) ∧ Stands s e r (.stl e d a sz imm 0)) ∧
  (∃ (s u : State) (e : Eng) (r : BRun) (d a : Fin 16) (n : Nat) (imm : BitVec 17) (ecc : Fin 3) (addr k : Nat) (ok : Nat → Prop),
    n = (s.eng e).pc + 1 ∧ u = s.instrStart e r ∧ addr = (s.regIn e r a + (imm.setWidth 64 : B64) * 8).toNat ∧ addr % 8 = 0 ∧ addr ≤ 0xFFFF8 ∧
    k = sharedKey (e.val / 16) addr ∧ ecc.val ≤ 1 ∧ k ∉ s.bob.bad ∧
    (∀ kind, ok kind ↔ thmCheck (if r.epoch = (s.thm e).epoch then (s.thm e).regions else (s.thm e).old) (if r.epoch = (s.thm e).epoch then (s.thm e).bad else []) addr 8 kind = .allowed) ∧
    ok 0 ∧ Stands s e r (.ldt e d a imm 0)) ∧
  (∃ (s u : State) (e : Eng) (r : BRun) (d a : Fin 16) (n : Nat) (imm : BitVec 17) (ecc : Fin 3) (addr k : Nat) (ok : Nat → Prop),
    n = (s.eng e).pc + 1 ∧ u = s.instrStart e r ∧ addr = (s.regIn e r a + (imm.setWidth 64 : B64) * 8).toNat ∧ addr % 8 = 0 ∧ addr ≤ 0xFFFF8 ∧
    k = sharedKey (e.val / 16) addr ∧ ecc.val ≤ 1 ∧ k ∉ s.bob.bad ∧
    (∀ kind, ok kind ↔ thmCheck (if r.epoch = (s.thm e).epoch then (s.thm e).regions else (s.thm e).old) (if r.epoch = (s.thm e).epoch then (s.thm e).bad else []) addr 8 kind = .allowed) ∧
    ok 1 ∧ Stands s e r (.stt e d a imm)) ∧
  (∃ (s u : State) (e : Eng) (r : BRun) (d a : Fin 16) (n : Nat) (imm : BitVec 17) (ecc : Fin 3) (addr k : Nat) (ok : Nat → Prop),
    n = (s.eng e).pc + 1 ∧ u = s.instrStart e r ∧ addr = (s.regIn e r a + (imm.setWidth 64 : B64) * 8).toNat ∧ addr % 8 = 0 ∧ addr ≤ 0xFFFF8 ∧
    k = sharedKey (e.val / 16) addr ∧ ecc.val ≤ 1 ∧ k ∉ s.bob.bad ∧
    (∀ kind, ok kind ↔ thmCheck (if r.epoch = (s.thm e).epoch then (s.thm e).regions else (s.thm e).old) (if r.epoch = (s.thm e).epoch then (s.thm e).bad else []) addr 8 kind = .allowed) ∧
    ok 2 ∧ Stands s e r (.addt e d a imm 0)) ∧
  (∃ (s u : State) (e : Eng) (r : BRun) (d a : Fin 16) (n : Nat) (imm : BitVec 17) (ecc : Fin 3) (addr kind : Nat) (x : State) (i j : Instr),
    n = (s.eng e).pc + 1 ∧ u = s.instrStart e r ∧ addr = (s.regIn e r a + (imm.setWidth 64 : B64) * 8).toNat ∧
    (kind = 0 ∧ i = .ldt e d a imm 0 ∧ j = .ldt e d a imm ecc ∧ x = u.smpEvent e 2 (u.eng e).pc r.cls ∨ kind = 1 ∧ i = .stt e d a imm ∧ j = i ∧ x = u ∨ kind = 2 ∧ i = .addt e d a imm 0 ∧ j = .addt e d a imm ecc ∧ x = u) ∧
    Stands s e r i ∧
    (addr % 8 ≠ 0 ∨ 0xFFFF8 < addr ∨ thmCheck (if r.epoch = (s.thm e).epoch then (s.thm e).regions else (s.thm e).old) (if r.epoch = (s.thm e).epoch then (s.thm e).bad else []) addr 8 kind = .denied)) ∧
  (∃ (s u : State) (e : Eng) (r : BRun) (d a : Fin 16) (n : Nat) (imm : BitVec 17) (ecc : Fin 3) (addr k kind : Nat) (x y : State) (i j : Instr),
    n = (s.eng e).pc + 1 ∧ u = s.instrStart e r ∧ addr = (s.regIn e r a + (imm.setWidth 64 : B64) * 8).toNat ∧
    (kind = 0 ∧ i = .ldt e d a imm 0 ∧ j = .ldt e d a imm ecc ∧ x = u.smpEvent e 2 (u.eng e).pc r.cls ∨ kind = 2 ∧ i = .addt e d a imm 0 ∧ j = .addt e d a imm ecc ∧ x = u) ∧
    Stands s e r i ∧ addr % 8 = 0 ∧ addr ≤ 0xFFFF8 ∧
    (thmCheck (if r.epoch = (s.thm e).epoch then (s.thm e).regions else (s.thm e).old) (if r.epoch = (s.thm e).epoch then (s.thm e).bad else []) addr 8 kind = .allowed) ∧
    k = sharedKey (e.val / 16) addr ∧
    (k ∈ s.bob.bad ∧ y = x ∨ k ∉ s.bob.bad ∧ ecc.val = 2 ∧ y = State.bump { x with bob := { x.bob with bad := x.bob.bad ++ [k] } } (F.STN_CLS_ECC_UNCORR (e.val / 16)))) ∧
  (∃ (s u : State) (e : Eng) (r : BRun) (d : Fin 16) (n : Nat) (sel : BitVec 6) (f : Flight), n = (s.eng e).pc + 1 ∧ u = s.instrStart e r ∧
    sel.toNat ≤ 18 ∧ s.flight r.fid = some f ∧ Stands s e r (.ctx e d sel)) :=
  ⟨⟨atIns fm (.ldh 0 15 3 63), _, 0, run0, 15, _, 3, 63, rfl, rfl, ⟨by decide +kernel, by decide +kernel, rfl⟩⟩,
   ⟨atIns fm (.sth 0 15 3 56), _, 0, run0, 15, _, 3, 56, _, rfl, rfl, ⟨by decide +kernel, by decide +kernel, rfl⟩, rfl⟩,
   ⟨atIns fm (.ldl 0 15 0 3 0xBFF8 0), _, 0, run0, 15, 0, _, 3, 0xBFF8, 1, _, rfl, rfl, rfl, by decide +kernel, by decide +kernel, by decide +kernel,
     ⟨by decide +kernel, by decide +kernel, rfl⟩⟩,
   ⟨atIns fm (.stl 0 15 0 3 0xBFF8 0), _, 0, run0, 15, 0, _, 3, 0xBFF8, 1, _, rfl, rfl, rfl, by decide +kernel, by decide +kernel, by decide +kernel,
     ⟨by decide +kernel, by decide +kernel, rfl⟩⟩,
   ⟨atIns fm (.ldl 0 15 0 3 0xBFF8 0), _, 0, run0, 15, 0, _, 3, 0xBFF8, 2, _, rfl, rfl, rfl, by decide +kernel, by decide +kernel, by decide +kernel,
     ⟨by decide +kernel, by decide +kernel, rfl⟩⟩,
   ⟨atIns fm (.stl 0 15 0 3 0xBFF8 0), _, 0, run0, 15, 0, _, 3, 0xBFF8, 2, _, rfl, rfl, rfl, by decide +kernel, by decide +kernel, by decide +kernel,
     ⟨by decide +kernel, by decide +kernel, rfl⟩⟩,
   ⟨atIns fm (.ldl 0 15 0 3 0xBFF9 0), _, 0, run0, 15, 0, _, 3, 0xBFF9, _, rfl, rfl, rfl, by decide +kernel,
     ⟨by decide +kernel, by decide +kernel, rfl⟩⟩,
   ⟨atIns fm (.stl 0 15 0 3 0xC000 0), _, 0, run0, 15, 0, _, 3, 0xC000, _, rfl, rfl, rfl, by decide +kernel,
     ⟨by decide +kernel, by decide +kernel, rfl⟩⟩,
   ⟨inRegion (.ldt 0 15 0 0x1FFFF 0), _, 0, run0, 15, 0, _, 0x1FFFF, 1, _, _, _, rfl, rfl, rfl, by decide +kernel, by decide +kernel, rfl,
     by decide +kernel, by decide +kernel, fun _ => Iff.rfl, by decide +kernel, ⟨by decide +kernel, by decide +kernel, rfl⟩⟩,
   ⟨inRegion (.stt 0 15 0 0x1FFFF), _, 0, run0, 15, 0, _, 0x1FFFF, 1, _, _, _, rfl, rfl, rfl, by decide +kernel, by decide +kernel, rfl,
     by decide +kernel, by decide +kernel, fun _ => Iff.rfl, by decide +kernel, ⟨by decide +kernel, by decide +kernel, rfl⟩⟩,
   ⟨inRegion (.addt 0 15 0 0x1FFFF 0), _, 0, run0, 15, 0, _, 0x1FFFF, 1, _, _, _, rfl, rfl, rfl, by decide +kernel, by decide +kernel, rfl,
     by decide +kernel, by decide +kernel, fun _ => Iff.rfl, by decide +kernel, ⟨by decide +kernel, by decide +kernel, rfl⟩⟩,
   ⟨atIns fm (.stt 0 15 0 0x1FFFF), _, 0, run0, 15, 0, _, 0x1FFFF, 0, _, 1, _, .stt 0 15 0 0x1FFFF, _, rfl, rfl, rfl,
     .inr (.inl ⟨rfl, rfl, rfl, rfl⟩), ⟨by decide +kernel, by decide +kernel, rfl⟩, by decide +kernel⟩,
   ⟨(let s := inRegion (.addt 0 15 0 0x1FFFF 0); { s with bob := { s.bob with bad := [sharedKey 0 0xFFFF8] } }), _, 0, run0, 15, 0, _, 0x1FFFF, 0, _,
     _, 2, _, _, .addt 0 15 0 0x1FFFF 0, _, rfl, rfl, rfl, .inr ⟨rfl, rfl, rfl, rfl⟩, ⟨by decide +kernel, by decide +kernel, rfl⟩, by decide +kernel,
     by decide +kernel, by decide +kernel, rfl, .inl ⟨by decide +kernel, rfl⟩⟩,
   ⟨atIns fm (.ctx 0 15 18), _, 0, run0, 15, _, 18, _, rfl, rfl, by decide +kernel, (Option.some_get (by decide +kernel)).symm,
     ⟨by decide +kernel, by decide +kernel, rfl⟩⟩⟩

/-- `Obligations.EngineActions`. -/
theorem test_witness_EngineActions :
  (∃ (s u v : State) (e : Eng) (r r' : BRun) (f : Flight) (st : Nat) (rule : Fin 16), r' = { r with loads := r.aged } ∧ u = s.instrStart e r ∧
    st = e.val / 16 ∧ s.flight r.fid = some f ∧ v = u.retire e r' ∧ s.traceOn rule.val = true ∧ Stands s e r (.trace e rule)) ∧
  (∃ (s u v : State) (e : Eng) (r r' : BRun) (f : Flight) (st : Nat) (rule : Fin 16), r' = { r with loads := r.aged } ∧ u = s.instrStart e r ∧
    st = e.val / 16 ∧ s.flight r.fid = some f ∧ v = u.retire e r' ∧ s.traceOn rule.val = false ∧ Stands s e r (.trace e rule)) ∧
  (∃ (s u v : State) (e : Eng) (r r' : BRun) (f : Flight) (st : Nat) (a : Fin 16) (sub : B8) (w : State), r' = { r with loads := r.aged } ∧
    u = s.instrStart e r ∧ st = e.val / 16 ∧ s.flight r.fid = some f ∧ v = u.retire e r' ∧
    w = u.raiseLim ms100 st (srcStn st) (0x4800 + sub.toNat) 1 (scStn st) 0 [sub.toNat, e.val, (s.regIn e r a).toNat] ∧
    Stands s e r (.evt e a sub)) ∧
  (∃ (s u v : State) (e : Eng) (r r' : BRun) (f : Flight) (st : Nat), r' = { r with loads := r.aged } ∧ u = s.instrStart e r ∧ st = e.val / 16 ∧
    s.flight r.fid = some f ∧ v = u.retire e r' ∧ Stands s e r (.exitForward e)) ∧
  (∃ (s u v : State) (e : Eng) (r r' : BRun) (f : Flight) (st : Nat), r' = { r with loads := r.aged } ∧ u = s.instrStart e r ∧ st = e.val / 16 ∧
    s.flight r.fid = some f ∧ v = u.retire e r' ∧ Stands s e r (.exitDrop e)) ∧
  (∃ (s u v : State) (e : Eng) (r r' : BRun) (f : Flight) (st : Nat), r' = { r with loads := r.aged } ∧ u = s.instrStart e r ∧ st = e.val / 16 ∧
    s.flight r.fid = some f ∧ v = u.retire e r' ∧ Stands s e r (.exitAbort e)) ∧
  (∃ (s u v : State) (e : Eng) (r r' : BRun) (f : Flight) (st : Nat) (a : Fin 16) (p : Nat) (d : Dest), r' = { r with loads := r.aged } ∧
    u = s.instrStart e r ∧ st = e.val / 16 ∧ s.flight r.fid = some f ∧ v = u.retire e r' ∧ p = (s.regIn e r a).toNat % 256 ∧
    Stands s e r (.exitRedirect e a) ∧ u.redirect (returned f r') p = some d) ∧
  (∃ (s u v : State) (e : Eng) (r r' : BRun) (f : Flight) (st : Nat) (a : Fin 16) (p : Nat), r' = { r with loads := r.aged } ∧ u = s.instrStart e r ∧
    st = e.val / 16 ∧ s.flight r.fid = some f ∧ v = u.retire e r' ∧ p = (s.regIn e r a).toNat % 256 ∧ Stands s e r (.exitRedirect e a) ∧
    u.redirect (returned f r') p = none) :=
  ⟨⟨atIns (fm.put (F.MCT_TR_CTL_EN 15) 1) (.trace 0 15), _, _, 0, run0, _, _, _, 15, rfl, rfl, rfl, (Option.some_get (by decide +kernel)).symm, rfl,
     by decide +kernel, ⟨by decide +kernel, by decide +kernel, rfl⟩⟩,
   ⟨atIns fm (.trace 0 15), _, _, 0, run0, _, _, _, 15, rfl, rfl, rfl, (Option.some_get (by decide +kernel)).symm, rfl, by decide +kernel,
     ⟨by decide +kernel, by decide +kernel, rfl⟩⟩,
   ⟨atIns fm (.evt 0 15 0xFF), _, _, 0, run0, _, _, _, 15, 0xFF, _, rfl, rfl, rfl, (Option.some_get (by decide +kernel)).symm, rfl, rfl,
     ⟨by decide +kernel, by decide +kernel, rfl⟩⟩,
   ⟨atIns fm (.exitForward 0), _, _, 0, run0, _, _, _, rfl, rfl, rfl, (Option.some_get (by decide +kernel)).symm, rfl,
     ⟨by decide +kernel, by decide +kernel, rfl⟩⟩,
   ⟨atIns fm (.exitDrop 0), _, _, 0, run0, _, _, _, rfl, rfl, rfl, (Option.some_get (by decide +kernel)).symm, rfl,
     ⟨by decide +kernel, by decide +kernel, rfl⟩⟩,
   ⟨atIns fm (.exitAbort 0), _, _, 0, run0, _, _, _, rfl, rfl, rfl, (Option.some_get (by decide +kernel)).symm, rfl,
     ⟨by decide +kernel, by decide +kernel, rfl⟩⟩,
   ⟨atIns ports (.exitRedirect 0 0), _, _, 0, run0, _, _, _, 0, _, _, rfl, rfl, rfl, (Option.some_get (by decide +kernel)).symm, rfl, rfl,
     ⟨by decide +kernel, by decide +kernel, rfl⟩, (Option.some_get (by decide +kernel)).symm⟩,
   ⟨withFl (atIns fm (.exitRedirect 0 0)) { fl0 with repl := true }, _, _, 0, run0, _, _, _, 0, _, rfl, rfl, rfl,
     (Option.some_get (by decide +kernel)).symm, rfl, rfl, ⟨by decide +kernel, by decide +kernel, rfl⟩, by decide +kernel⟩⟩

/-- `Obligations.EngineEvents`. -/
theorem test_witness_EngineEvents :
  (∃ (s u : State) (e : Eng) (st : Stn) (f : Flight) (k : Nat), st.val = e.val / 16 ∧ (s.bstn st).swap ≠ 1 ∧ s.nextQueue st = some k ∧
    ((SMap.get (fun _ => []) (s.bstn st).queues k).head?.bind s.flight = some f) ∧ u = s.takeHead st k ∧ s.engState e = 0 ∧ s.running e = false) ∧
  (∃ (s u : State) (e : Eng) (st : Stn) (f : Flight) (k : Nat), st.val = e.val / 16 ∧ (s.bstn st).swap ≠ 1 ∧ s.nextQueue st = some k ∧
    ((SMap.get (fun _ => []) (s.bstn st).queues k).head?.bind s.flight = some f) ∧ u = s.takeHead st k ∧ s.serving st = false) ∧
  (∃ (s u : State) (e : Eng) (st : Stn) (r : BRun) (ecc : Nat) (v : State), st.val = e.val / 16 ∧ (s.eng e).run = some r ∧
    s.fetch e = some (.nop e) ∧ r.bad = some (((s.eng e).pc + 1) % 4096, ecc) ∧
    (u = (s.instrStart e r).modEng e (fun x => { x with pc := ((s.eng e).pc + 1) % 4096, run := some { r with loads := r.aged, bad := none } })) ∧
    v = u.localEcc e 0 (((s.eng e).pc + 1) % 4096 / 2) ecc) ∧
  (∃ (s u : State) (e : Eng) (st : Stn), st.val = e.val / 16 ∧ s.engState e = 2 ∧ (s.engImage e).isEmpty = false ∧
    (u = (s.setEngState e 0).modEng e (fun x => { x with data := imgData (s.engImage e), restoredAt := some s.clk.now, due := none }))) ∧
  (∃ (s : State) (e : Eng) (st : Stn) (pc cls n : Nat) (b : B64), st.val = e.val / 16 ∧ (s.eng e).due = some (pc, cls, n) ∧
    b = BitVec.ofNat 64 (pc % 4096 + cls % 4 * 2 ^ 12 + bits (s.eng e).smp 1 2 * 2 ^ 14 + (s.eng e).seq % 65536 * 2 ^ 16 + s.fabNow % 2 ^ 32 * 2 ^ 32)) ∧
  (∃ (s : State) (e : Eng) (st : Stn) (f : Flight) (id : Nat), st.val = e.val / 16 ∧ s.flight id = some f ∧ f.stn = st.val ∧
    (s.bstn st).rejoin.contains id = true ∧ (∀ g ∈ s.before f, sameClass f g = true → g.ready = true)) ∧
  (∃ (s : State) (e : Eng) (st : Stn), st.val = e.val / 16 ∧ s.mayCopy e = true ∧ (s.eng e).copied = false) ∧
  (∃ (s u : State) (e : Eng) (st : Stn), st.val = e.val / 16 ∧ s.mayCopy e = true ∧ (s.eng e).copied = true ∧
    u = s.engFail e (s.get (F.STN_BE_STATE_LAST_CAUSE st (e.val % 16)))) ∧
  (∃ (s : State) (e : Eng) (st : Stn) (img : Bytes) (ep : Nat) (w x : State), st.val = e.val / 16 ∧ s.mayCopy e = true ∧ img = (s.bstn st).staging ∧
    (w = (if (s.bstn st).stepped then s else (s.bumpWrap (F.STN_BB_EPOCH_EPOCH st) 1).modBstn st fun b => { b with stepped := true })) ∧
    ep = w.get (F.STN_BB_EPOCH_EPOCH st) ∧
    (x = w.modThm e (fun t => { t with regions := imgRegions img, old := t.regions, epoch := ep, bad := [] }))) ∧
  (∃ (s : State) (e : Eng) (st : Stn) (w : Nat), st.val = e.val / 16 ∧ (s.bstn st).swap = w ∧ w ≠ 0 ∧ (∀ e ∈ engsOf st, (s.eng e).newImage = true)) :=
  ⟨⟨withFl ((fm.modBstn 0 fun b => { b with queues := [(5, [1])], active := img0 }).put (F.STN_BE_STATE_STATE 0 0) 0) fl0, _, 0, 0, _, _,
     by decide +kernel, by decide +kernel, (Option.some_get (by decide +kernel)).symm, (Option.some_get (by decide +kernel)).symm, rfl,
     by decide +kernel, by decide +kernel⟩,
   ⟨(List.range 16).foldl (fun s e => s.put (F.STN_BE_STATE_STATE 0 e) 2) (withFl ((fm.modBstn 0 fun b => { b with queues := [(5, [1])], active := img0 }).put (F.STN_BE_STATE_STATE 0 0) 0) fl0),
     _, 0, 0, _, _, by decide +kernel, by decide +kernel, (Option.some_get (by decide +kernel)).symm, (Option.some_get (by decide +kernel)).symm,
     rfl, by decide +kernel⟩,
   ⟨(atIns fm (.nop 0)).modEng 0 fun x => { x with run := some { run0 with bad := some (1, 2) } }, _, 0, 0, { run0 with bad := some (1, 2) }, 2, _,
     by decide +kernel, by decide +kernel, by decide +kernel, by decide +kernel, rfl, rfl⟩,
   ⟨(fm.put (F.STN_BE_STATE_STATE 0 15) 2).modBstn 0 fun b => { b with active := img0 }, _, 15, 0, by decide +kernel, by decide +kernel,
     by decide +kernel, rfl⟩,
   ⟨fm.modEng 0 fun x => { x with due := some (4095, 3, 0) }, 0, 0, 4095, 3, 0, _, by decide +kernel, by decide +kernel, rfl⟩,
   ⟨withFl (fm.modBstn 0 fun b => { b with rejoin := [1] }) fl0, 0, 0, _, 1, by decide +kernel, (Option.some_get (by decide +kernel)).symm,
     by decide +kernel, by decide +kernel, by decide +kernel⟩,
   ⟨fm.modBstn 0 (fun b => { b with swap := 1, staging := img0 }), 15, 0, by decide +kernel, by decide +kernel, by decide +kernel⟩,
   ⟨(fm.modBstn 0 (fun b => { b with swap := 1, staging := img0 })).modEng 15 fun x => { x with copied := true }, _, 15, 0, by decide +kernel,
     by decide +kernel, by decide +kernel, rfl⟩,
   ⟨fm.modBstn 0 (fun b => { b with swap := 1, staging := img0 }), 15, 0, _, _, _, _, by decide +kernel, by decide +kernel, rfl, rfl, rfl, rfl⟩,
   ⟨(List.range 16).foldl (fun s e => s.modEng e fun x => { x with newImage := true }) (fm.modBstn 0 (fun b => { b with swap := 1 })), 0, 0, 1,
     by decide +kernel, by decide +kernel, by decide +kernel, by decide +kernel⟩⟩

/-- `Obligations.RuleFences`. -/
theorem test_witness_RuleFences :
  (∃ (s u v : State) (st : Stn) (th : Fin 293) (bad : List (Fin 16)), v = s.thmBad th bad ∧ s.flag (F.STN_BB_EPOCH_FENCE_PEND st) = true ∧
    (∀ e ∈ engsOf st, s.oldRun e = false) ∧
    (u = (engsOf st).foldl (fun s e => s.modThm e fun t => { t with old := [], fence := false }) (s.putB (F.STN_BB_EPOCH_FENCE_PEND st) false))) ∧
  (∃ (s u v : State) (st : Stn) (th : Fin 293) (bad : List (Fin 16)), v = s.thmBad th bad ∧ th.val / 16 = st.val ∧ th.val < 256 ∧
    v.flag (F.STN_BB_EPOCH_FENCE_PEND st) = true ∧ (∀ e ∈ engsOf st, v.oldRun e = false) ∧
    (u = (engsOf st).foldl (fun s e => s.modThm e fun t => { t with old := [], fence := false }) (v.putB (F.STN_BB_EPOCH_FENCE_PEND st) false))) ∧
  (∃ (s u v w : State) (th : Fin 293) (bad : List (Fin 16)), v = s.thmBad th bad ∧ 256 ≤ th.val ∧ (v.thm th).fence = true ∧
    (u = v.modThm th (fun t => { t with old := [], fence := false })) ∧
    (w = (if th.val = 292 then u.putB F.ACW_EP_PROXY_THM_FENCE_PEND false else u))) ∧
  (∃ (s u v : State) (st : Stn) (th : Fin 293) (bad : List (Fin 16)), v = s.thmBad th bad ∧ s.flag (F.STN_BB_EPOCH_FENCE_PEND st) = true ∧
    (u = (engsOf st).foldl (fun s e => if s.oldRun e then (s.runFault e 7 true).modBstn st fun b => { b with ended := b.ended + 1 } else s) s) ∧
    th.val / 16 = st.val ∧ th.val < 256) :=
  ⟨⟨fm.put (F.STN_BB_EPOCH_FENCE_PEND 0) 1, _, _, 0, 15, [], rfl, by decide +kernel, by decide +kernel, rfl⟩,
   ⟨fm.put (F.STN_BB_EPOCH_FENCE_PEND 0) 1, _, _, 0, 15, [], rfl, by decide +kernel, by decide +kernel, by decide +kernel, by decide +kernel, rfl⟩,
   ⟨fm.modThm 292 fun t => { t with fence := true }, _, _, _, 292, [], rfl, by decide +kernel, by decide +kernel, rfl, rfl⟩,
   ⟨fm.put (F.STN_BB_EPOCH_FENCE_PEND 0) 1, _, _, 0, 15, [], rfl, by decide +kernel, rfl, by decide +kernel, by decide +kernel⟩⟩

/-- `Obligations.ConfigurationEvents`. -/
theorem test_witness_ConfigurationEvents :
  (∃ (s u : State) (p : Port), s.pciRole p = 2 ∧ s.guard p = none ∧ (u = (if (s.lentOn p).isSome then s.suspendPort p lsOwner else s))) ∧
  (∃ (s : State) (p : Port) (i : Nat), s.pciRole p = 2 ∧ s.guard p = some i) ∧
  (∃ (s : State) (p : Port) (val : B16), s.pciRole p = 2 ∧
    (bit val.toNat 10 = false ∨ s.flag (F.STN_PORT_HP_STATUS_PCC (stnOf p) (kOf p)) = true ∨ s.hasSlot p = false)) ∧
  (∃ (s : State) (p : Port) (val : B16), s.pciRole p = 2 ∧ bit val.toNat 10 = true ∧ s.flag (F.STN_PORT_HP_STATUS_PCC (stnOf p) (kOf p)) = false ∧
    s.hasSlot p = true ∧ s.guard p = none) ∧
  (∃ (s : State) (p : Port) (val : B16) (i : _), s.pciRole p = 2 ∧ bit val.toNat 10 = true ∧
    s.flag (F.STN_PORT_HP_STATUS_PCC (stnOf p) (kOf p)) = false ∧ s.hasSlot p = true ∧ s.guard p = some i) ∧
  (∃ (s : State) (st : Stn) (idx : Fin 256) (bar : Fin 6) (o : Nat), s.lendValid st idx = true ∧ o = s.lendOrd st idx bar ∧ o ≠ 0) ∧
  (∃ (s : State) (st : Stn) (idx : Fin 256) (bar : Fin 6) (k o : Nat), s.lendValid st idx = true ∧ bar.val = k + 1 ∧ s.lendOrd st idx bar = 0 ∧
    s.lendM64 st idx k = true ∧ o = s.lendOrd st idx k ∧ o ≠ 0) ∧
  (∃ (s u : State) (p : Port) (v : VsId) (a b c d e : State), (s.usp v).isSome = true ∧ (s.vs v).sbr = false ∧
    (u = s.modVs v (fun w => { w with sbr := true })) ∧ a = (u.dsps v).foldl State.cfgReset u ∧
    (b = (u.dsps v).foldl (fun s p => (s.modPort p fun x => { x with dis := { x.dis with sbr := true, link := false } }).goOff p ldHot lsOwner) a) ∧
    c = (b.epReset0 v).epReset1 v pcVsReset ∧ (d = (c.borrowed v).foldl (fun s x => if s.lendState x.1 x.2 = 1 then s.sendFlr x.1 x.2 else s) c) ∧
    (e = (d.homes v).foldl (fun s i => s.farAct i 0 true) d)) ∧
  (∃ (s u : State) (p : Port) (v : VsId) (b : State), (s.usp v).isSome = true ∧ (s.vs v).sbr = true ∧
    (u = s.modVs v (fun w => { w with sbr := false })) ∧
    (b = (u.dsps v).foldl (fun s p => (s.modPort p fun x => { x with dis := { x.dis with sbr := false } }).kick p) u)) ∧
  (∃ (s u : State) (p : Port) (r : CfgReq) (t : Tlp) (bare : Cx), u = s.pmWake p ∧ u.pciRole p = 1 ∧
    t = cfgTlp (s.flag (F.STN_PORT_STATUS_FLIT (stnOf p) (kOf p))) r ∧
    bare = bareCx p (stnOf p) (.usp p) (u.vsOf p) p u.nodeId (u.vcOf p t.tc.val) t ∧
    ((u.vs (u.vsOf p)).published = false ∨ (u.vs (u.vsOf p)).rrs = true)) ∧
  (∃ (s u : State) (p : Port) (r : CfgReq) (t : Tlp) (bare cx : Cx), u = s.pmWake p ∧ u.pciRole p = 1 ∧
    t = cfgTlp (s.flag (F.STN_PORT_STATUS_FLIT (stnOf p) (kOf p))) r ∧
    bare = bareCx p (stnOf p) (.usp p) (u.vsOf p) p u.nodeId (u.vcOf p t.tc.val) t ∧ (u.vs (u.vsOf p)).published = true ∧
    (u.vs (u.vsOf p)).rrs = false ∧ u.context p (stnOf p) (.usp p) (u.vsOf p) p u.nodeId (u.vcOf p t.tc.val) p p t = .ok cx ∧ r.type1 = false ∧
    r.target.toNat % 8 = 0 ∧ r.write = false) ∧
  (∃ (s u : State) (p : Port) (r : CfgReq) (t : Tlp) (bare cx : Cx), u = s.pmWake p ∧ u.pciRole p = 1 ∧
    t = cfgTlp (s.flag (F.STN_PORT_STATUS_FLIT (stnOf p) (kOf p))) r ∧
    bare = bareCx p (stnOf p) (.usp p) (u.vsOf p) p u.nodeId (u.vcOf p t.tc.val) t ∧ (u.vs (u.vsOf p)).published = true ∧
    (u.vs (u.vsOf p)).rrs = false ∧ u.context p (stnOf p) (.usp p) (u.vsOf p) p u.nodeId (u.vcOf p t.tc.val) p p t = .ok cx ∧ r.type1 = false ∧
    r.target.toNat % 8 = 0 ∧ r.write = true) ∧
  (∃ (s u : State) (p : Port) (r : CfgReq) (t : Tlp) (bare cx : Cx), u = s.pmWake p ∧ u.pciRole p = 1 ∧
    t = cfgTlp (s.flag (F.STN_PORT_STATUS_FLIT (stnOf p) (kOf p))) r ∧
    bare = bareCx p (stnOf p) (.usp p) (u.vsOf p) p u.nodeId (u.vcOf p t.tc.val) t ∧ (u.vs (u.vsOf p)).published = true ∧
    (u.vs (u.vsOf p)).rrs = false ∧ u.context p (stnOf p) (.usp p) (u.vsOf p) p u.nodeId (u.vcOf p t.tc.val) p p t = .ok cx ∧ r.type1 = true ∧
    inBuses (u.secBus p) (u.subBus p) (r.target.toNat / 256) = true) ∧
  (∃ (s u : State) (p : Port) (r : CfgReq) (t : Tlp), u = s.pmWake p ∧ t = cfgTlp (s.flag (F.STN_PORT_STATUS_FLIT (stnOf p) (kOf p))) r ∧
    u.pciRole p = 2) ∧
  (∃ (s u : State) (p : Port) (r : CfgReq) (t : Tlp), u = s.pmWake p ∧ t = cfgTlp (s.flag (F.STN_PORT_STATUS_FLIT (stnOf p) (kOf p))) r ∧
    u.pciRole p = 3) :=
  ⟨⟨ports, _, 8, by decide +kernel, by decide +kernel, rfl⟩,
   ⟨lent 1, 8, _, by decide +kernel, (Option.some_get (by decide +kernel)).symm⟩,
   ⟨ports, 8, 0xFBFF, by decide +kernel, by decide +kernel⟩,
   ⟨puts ports [(F.STN_PORT_SLOT_SLOT 0 8, 1), (F.STN_PORT_HP_STATUS_PCC 0 8, 0)], 8, 0x0400, by decide +kernel, by decide +kernel,
     by decide +kernel, by decide +kernel, by decide +kernel⟩,
   ⟨puts (lent 1) [(F.STN_PORT_SLOT_SLOT 0 8, 1), (F.STN_PORT_HP_STATUS_PCC 0 8, 0)], 8, 0x0400, _, by decide +kernel, by decide +kernel,
     by decide +kernel, by decide +kernel, (Option.some_get (by decide +kernel)).symm⟩,
   ⟨lent 1, 0, 0, 0, _, by decide +kernel, rfl, by decide +kernel⟩,
   ⟨puts0 (lent 1) [(tkey tLend 0 0 4, 0x40)], 0, 0, 1, 0, _, by decide +kernel, by decide +kernel, by decide +kernel, by decide +kernel, rfl,
     by decide +kernel⟩,
   ⟨ports, _, 8, 0, _, _, _, _, _, by decide +kernel, by decide +kernel, rfl, rfl, rfl, rfl, rfl, rfl⟩,
   ⟨ports.modVs 0 (fun w => { w with sbr := true }), _, 8, 0, _, by decide +kernel, by decide +kernel, rfl, rfl⟩,
   ⟨ports, _, 0, cfg0, _, _, rfl, by decide +kernel, rfl, rfl, by decide +kernel⟩,
   ⟨ports.modVs 0 fun w => { w with published := true }, _, 0, cfg0, _, _, _, rfl, by decide +kernel, rfl, rfl, by decide +kernel, by decide +kernel,
     ok_of (by decide +kernel), by decide +kernel, by decide +kernel, by decide +kernel⟩,
   ⟨ports.modVs 0 fun w => { w with published := true }, _, 0, { cfg0 with write := true }, _, _, _, rfl, by decide +kernel, rfl, rfl,
     by decide +kernel, by decide +kernel, ok_of (by decide +kernel), by decide +kernel, by decide +kernel, by decide +kernel⟩,
   ⟨(ports.modVs 0 fun w => { w with published := true }).setCw 0 ofBUS 0x00050500, _, 0, { cfg0 with type1 := true, target := 0x0500 }, _, _, _,
     rfl, by decide +kernel, rfl, rfl, by decide +kernel, by decide +kernel, ok_of (by decide +kernel), by decide +kernel, by decide +kernel⟩,
   ⟨ports, _, 8, cfg0, _, rfl, rfl, by decide +kernel⟩,
   ⟨ports.put (F.STN_PORT_CFG_ROLE 0 0) 3, _, 0, cfg0, _, rfl, rfl, by decide +kernel⟩⟩

/-- `Obligations.ClassificationAndReturns`. -/
theorem test_witness_ClassificationAndReturns :
  (∃ (s u : State) (p : Port) (fixed : List (Fin 5 × Nat)) (bad : List (Fin 5 × Nat × Nat)) (t : Tlp) (vc : Nat), s.stage p = stACTIVE ∧
    s.pciRole p ≠ 0 ∧ vc = s.vcOf p t.tc.val ∧
    u = (((s.tableEcc (stnOf p) (scPort p) fixed bad).count (stnOf p) 0x01 (kOf p) (tlpClass t) vc 1).count (stnOf p) 0x02 (kOf p) (tlpClass t) vc t.len).pmWake p) ∧
  (∃ (s : State) (p : Port), (s.stage p ≠ stACTIVE ∨ s.pciRole p = 0) ∧ s.cqFind (stnOf p) 0 p = none) ∧
  (∃ (s u : State) (v : VsId) (fn : Bool) (fixed : List (Fin 5 × Nat)) (bad : List (Fin 5 × Nat × Nat)) (t : Tlp) (p : Nat) (cx : Cx),
    s.usp v = some p ∧ u = s.tableEcc (stnOf p) (scStn (stnOf p)) fixed bad ∧
    u.context (256 + v) (stnOf p) (.ep fn) v 0xFE u.nodeId (u.vcOf p t.tc.val) 0xFF 0xFF t = .ok cx) ∧
  (∃ (s u : State) (v : VsId) (fn : Bool) (fixed : List (Fin 5 × Nat)) (bad : List (Fin 5 × Nat × Nat)) (t : Tlp) (p : Nat) (e : Stop) (cx : Cx),
    s.usp v = some p ∧ u = s.tableEcc (stnOf p) (scStn (stnOf p)) fixed bad ∧
    u.context (256 + v) (stnOf p) (.ep fn) v 0xFE u.nodeId (u.vcOf p t.tc.val) 0xFF 0xFF t = .error e ∧
    cx = bareCx (256 + v) (stnOf p) (.ep fn) v 0xFE u.nodeId (u.vcOf p t.tc.val) t) ∧
  (∃ (s u : State) (st : Stn) (table : Fin 5) (idx : Nat), s.acl.up = true ∧ s.entryBad table.val st idx 32 = true ∧
    (u = (if table.val = tCrt then s.crtRelease (9 * st.val + idx / 256) (idx % 256) else s))) ∧
  (∃ (s : State) (st : Stn) (port : Port) (tag : Nat), tag < 256 ∧ stnOf port = st.val ∧ crtValid (s.crt port tag) = true) ∧
  (∃ (s : State) (st : Stn) (tag : Nat) (f : Fret), s.fret st tag = some f) ∧
  (∃ (s : State) (st : Stn) (idx : Fin 256) (a b c : State) (k : Nat), s.lendValid st idx = true ∧ s.lendState st idx = 3 ∧
    k = 256 * st.val + idx.val ∧ a = s.hwDrop st idx ∧
    (b = (match a.reqFind st (a.lendRid st idx) (a.lendPort st idx) with | some j => a.setTw64 tReq st j 0 0 | none => a)) ∧
    c = (b.setEntry tLend st idx 0 (List.replicate 32 0)).vdpClear st idx) ∧
  (∃ (s : State) (cred tag : B32) (a : Async) (mine : Async → Bool),
    (mine = (fun a => a.opcode == 0x0406 && a.cred == cred && a.tag == tag && a.ended == none)) ∧ s.cmd.asyncs.find? mine = some a ∧
    s.lendState (a.obj / 256) (a.obj % 256) ≠ 3) :=
  ⟨⟨portUp, _, 0, [], [], default, _, by decide +kernel, by decide +kernel, rfl, rfl⟩,
   ⟨ports, 0, by decide +kernel, by decide +kernel⟩,
   ⟨portUp, _, 0, true, [], [], default, _, _, (Option.some_get (by decide +kernel)).symm, rfl, ok_of (by decide +kernel)⟩,
   ⟨{ portUp with tbl := { portUp.tbl with bad := [tkey tReq 0 16320 0] } }, _, 0, true, [], [], default, _, .bad tReq 16320, _,
     (Option.some_get (by decide +kernel)).symm, rfl, error_is (by decide +kernel), rfl⟩,
   ⟨{ fm with tbl := { fm.tbl with bad := [tkey tWin 0 4095 0] } }, _, 0, 0, 4095, by decide +kernel, by decide +kernel, rfl⟩,
   ⟨puts0 fm [(tkey tCrt 0 (crtIdx 0 255) 1, 0x40)], 0, 0, 255, by decide +kernel, by decide +kernel, by decide +kernel⟩,
   ⟨fm.setFret 0 255 (some { origRid := 0, origTag := 0, origNode := 3, origVs := 0, proxy := 0 }), 0, 255, _,
     (Option.some_get (by decide +kernel)).symm⟩,
   ⟨lent 3, 0, 0, _, _, _, _, by decide +kernel, by decide +kernel, rfl, rfl, rfl, rfl⟩,
   ⟨{ fm with cmd := { fm.cmd with asyncs := [⟨0x00010001, 7, 0x0406, 0, 1, 0, none, none, 0, 0⟩] } }, 0x00010001, 7, _, _, rfl,
     (Option.some_get (by decide +kernel)).symm, by decide +kernel⟩⟩

/-- `Obligations.CommitsAndImages`. -/
theorem test_witness_CommitsAndImages :
  (∃ (s u : State) (st : Stn), s.flipPending st = true ∧ u = s.flipStn st) ∧
  (∃ (s : State) (cred : B32) (t : Txn), s.txn cred = some t) ∧
  (∃ (s u : State) (a b : Option Nat) (newer : Bool) (pick : Nat) (n w : State), s.acl.up = true ∧ s.pow.running = true ∧ s.pow.loaded = false ∧
    a = cfgTest s.acl.cfgA ∧ b = cfgTest s.acl.cfgB ∧ n = (s.noteCopy 0 a).noteCopy 1 b ∧
    newer = decide (0 < (BitVec.ofNat 32 (leAt s.acl.cfgB 12 4) - BitVec.ofNat 32 (leAt s.acl.cfgA 12 4)).toInt) ∧
    (pick = (if a = none ∧ b = none then (if newer then 1 else 0) else if a = none then 0 else if b = none then 1 else 3)) ∧
    u = ((n.putB F.ACW_CFG_STATUS_A_VALID a.isNone).putB F.ACW_CFG_STATUS_B_VALID b.isNone).put F.ACW_CFG_STATUS_COPY pick ∧
    (w = (if pick = 3 then u.loadDefaults 1 else (u.put F.ACW_CFG_SEQ_SEQ (leAt (s.cfgOf pick) 12 4)).applyImage (s.cfgOf pick)))) :=
  ⟨⟨fm.put (F.STN_CLS_STATUS_FLIP_PENDING 0) 1, _, 0, by decide +kernel, rfl⟩,
   ⟨txn [], 0x00010001, _, (Option.some_get (by decide +kernel)).symm⟩,
   ⟨loads cfgImg [], _, _, _, _, _, _, _, by decide +kernel, by decide +kernel, by decide +kernel, rfl, rfl, rfl, rfl, rfl, rfl, rfl⟩⟩

/-- `Obligations.ContainmentEvents`. -/
theorem test_witness_ContainmentEvents :
  (∃ (s u : State) (st : Stn) (i : Fin 32) (x : PortSt) (port : Bool) (r : State), s.cqValid st i = true ∧ s.cqState st i = 1 ∧
    s.cqDone st i = true ∧ u = s.put (F.STN_CQ_ENTRY0_STATE st i) 2 ∧ x = u.port (u.cqObject st i) ∧ port = (u.cqKind st i == 0) ∧
    (r = u.raise (srcStn st) 0x2703 1 (scStn st) [st.val, i.val, (u.fabNow % 2 ^ 32 + 2 ^ 32 - u.get (F.STN_CQ_ENTRY2_TIME st i)) % 2 ^ 32, if port then x.flushed else 0, if port then x.suspended else 0])) ∧
  (∃ (s : State) (st : Stn) (i : Fin 32) (c : Nat), s.cqValid st i = true ∧ s.cqState st i = 2 ∧ s.cqOver st i = some c) ∧
  (∃ (s u : State) (p : Port), (s.port p).surprise = true ∧ (u = s.modPort p (fun x => { x with surprise := false })) ∧ u.slotAbsent p = true) ∧
  (∃ (s u : State) (i : Fin 32) (p : Port) (dpc done : Bool) (w : State), (s.port p).surprise = true ∧
    (u = s.modPort p (fun x => { x with surprise := false })) ∧ u.slotAbsent p = false ∧
    dpc = (!bit (u.cw p 0x108) aeSD && (u.dpcEnable p == 2 || (u.dpcEnable p == 1 && bit (u.cw p 0x10C) aeSD)) && !u.flag (F.STN_PORT_STATUS_DPC_TRIG (stnOf p) (kOf p))) ∧
    (done = (match u.cqFind (stnOf p) 0 p with | some i => u.cqState (stnOf p) i == 2 | none => true)) ∧
    (w = (if dpc then ((u.aer p aeSD).dpcSet p 0 0).suspendPort p lsDpc else u.aer p aeSD))) ∧
  (∃ (s u : State) (p : Port), s.flag (F.STN_PORT_STATUS_DPC_TRIG (stnOf p) (kOf p)) = true ∧
    u = s.putB (F.STN_PORT_STATUS_DPC_TRIG (stnOf p) (kOf p)) false) ∧
  (∃ (s u : State) (p : Port) (err : PortErr) (b c : Nat), (s.pciRole p = 1 ∨ s.pciRole p = 2) ∧
    (err = .linkProtocol ∧ b = aeDLP ∧ c = 0x05 ∨ err = .flowProtocol ∧ b = aeFCP ∧ c = 0x06) ∧ u = s.aer p b) :=
  ⟨⟨cq 0 1, _, 0, 31, _, _, _, by decide +kernel, by decide +kernel, by decide +kernel, rfl, rfl, rfl, rfl⟩,
   ⟨cq 0 2, 0, 31, _, by decide +kernel, by decide +kernel, (Option.some_get (by decide +kernel)).symm⟩,
   ⟨(fm.put (F.STN_PORT_SLOT_SLOT 0 0) 1).modPort 0 (fun x => { x with surprise := true }), _, 0, by decide +kernel, rfl, by decide +kernel⟩,
   ⟨fm.modPort 0 (fun x => { x with surprise := true }), _, 31, 0, _, _, _, by decide +kernel, rfl, by decide +kernel, rfl, rfl, rfl⟩,
   ⟨fm.put (F.STN_PORT_STATUS_DPC_TRIG 0 8) 1, _, 8, by decide +kernel, rfl⟩,
   ⟨ports, _, 8, .flowProtocol, aeFCP, 0x06, by decide +kernel, by decide +kernel, rfl⟩⟩

/-- `Obligations.CrossbarAndQueues`. -/
theorem test_witness_CrossbarAndQueues :
  (∃ (s : State) (id : Nat) (f g : Flight), s.flight id = some f ∧ f.entered = false ∧ s.mayEnter f = true ∧
    (g = { f with entered := true, dests := (if s.transit f then f.dests else f.dests.map (s.repath f)) ++ ((s.traceRule f).bind (s.traceDest f)).toList })) ∧
  (∃ (s u : State) (bank : Stn) (id : Nat) (f : Flight), s.flight id = some f ∧ f.entered = true ∧
    (∃ d ∈ f.dests, d.bank = bank.val ∧ d.admitted = false) ∧ (∀ x ∈ s.before f, sameClass f x = true → x.dests.all Dest.admitted = true) ∧
    u = s.refuseShut f ∧ u.flight id = none) ∧
  (∃ (s u : State) (bank : Stn) (id : Nat) (f g : Flight), s.flight id = some f ∧ f.entered = true ∧
    (∃ d ∈ f.dests, d.bank = bank.val ∧ d.admitted = false) ∧ (∀ x ∈ s.before f, sameClass f x = true → x.dests.all Dest.admitted = true) ∧
    u = s.refuseShut f ∧ u.flight id = some g ∧ u.admitAll g g.dests = none) ∧
  (∃ (s u : State) (bank : Stn) (id : Nat) (f g k : Flight) (w x : State) (ds : List Dest), s.flight id = some f ∧ f.entered = true ∧
    (∃ d ∈ f.dests, d.bank = bank.val ∧ d.admitted = false) ∧ (∀ x ∈ s.before f, sameClass f x = true → x.dests.all Dest.admitted = true) ∧
    u = s.refuseShut f ∧ u.flight id = some g ∧ u.admitAll g g.dests = some (w, ds) ∧
    x = (w.setFlight { g with dests := ds }).admitTrace { g with dests := ds } ∧ x.flight id = some k) ∧
  (∃ (s u : State) (bank : Stn) (id : Nat) (f : Flight) (mine : Dest → Bool) (g : Flight) (v : State), s.flight id = some f ∧
    (mine = (fun d => d.bank == bank.val && d.admitted && !d.committed)) ∧ s.recovering bank = false ∧ f.dests.any mine = true ∧
    (∃ d ∈ f.dests, d.trace = 0 ∧ d.admitted = true) ∧ v = s.writeUntil bank id (f.dests.length * 17 + s.core.flights.length * 170) ∧
    (u = (f.dests.filter mine).foldl (fun s d => (s.count (16 + bank.val / 4) 0x21 16 0 0 ((d.r.rlen + 127) / 128)).modBank bank fun b => if d.residue then b.setChain d.qid f.key ((b.chain d.qid f.key).commit id) else b.setQ d.qid ((b.q d.qid).commit id)) v) ∧
    u.flight id = some g) ∧
  (∃ (s u : State) (bank : Stn) (id : Nat) (f : Flight) (q : Fin 64) (ing : Fin 256) (r : Rec) (rest : Queue), s.flight id = some f ∧
    ((s.bank bank).chain q ing).pop = some (r, rest) ∧ (((s.bank bank).arrivals.find? fun a => a.1 == q.val) = some (q.val, ing.val)) ∧
    s.recovering bank = false ∧ s.quadFailed bank = false ∧ (qPort bank q = 0xFF ∨ (s.port (qPort bank q)).closed = false) ∧
    s.admits bank q r.rlen = .yes ∧
    (u = ((s.modBank bank fun b => { b.setChain q ing rest with arrivals := dropArrival (q.val, ing.val) b.arrivals }).freeCells bank (((s.bank bank).chain q ing).cells.take (((s.bank bank).chain q ing).occ - rest.occ))).resCount bank)) ∧
  (∃ (s : State) (id : Nat) (f : Flight) (p : Port), s.flight id = some f ∧ s.stage p = stACTIVE) :=
  ⟨⟨withFl ports fl0, 1, _, _, (Option.some_get (by decide +kernel)).symm, by decide +kernel, by decide +kernel, rfl⟩,
   ⟨withFl (ports.modPort 0 fun x => { x with closed := true }) flE, _, 0, 1, _, (Option.some_get (by decide +kernel)).symm, by decide +kernel,
     by decide +kernel, by decide +kernel, rfl, by decide +kernel⟩,
   ⟨withFl portUp { flE with dests := [{ dst0 with qid := 24 }] }, _, 0, 1, _, _, (Option.some_get (by decide +kernel)).symm, by decide +kernel,
     by decide +kernel, by decide +kernel, rfl, (Option.some_get (by decide +kernel)).symm, by decide +kernel⟩,
   ⟨withFl ports flE, _, 0, 1, _, _, _, _, _, _, (Option.some_get (by decide +kernel)).symm, by decide +kernel, by decide +kernel, by decide +kernel,
     rfl, (Option.some_get (by decide +kernel)).symm, (Option.some_get (by decide +kernel)).symm, rfl, (Option.some_get (by decide +kernel)).symm⟩,
   ⟨withFl ports flA, _, 0, 1, _, _, _, _, (Option.some_get (by decide +kernel)).symm, rfl, by decide +kernel, by decide +kernel, by decide +kernel,
     rfl, rfl, (Option.some_get (by decide +kernel)).symm⟩,
   ⟨(withFl ports fl0).modBank 0 (fun b => { b with chains := [(3, { recs := [rec0] })], arrivals := [(0, 3)] }), _, 0, 1, _, 0, 3, _, _,
     (Option.some_get (by decide +kernel)).symm, (Option.some_get (by decide +kernel)).symm, by decide +kernel, by decide +kernel, by decide +kernel,
     by decide +kernel, by decide +kernel, rfl⟩,
   ⟨withFl portUp fl0, 1, _, 0, (Option.some_get (by decide +kernel)).symm, by decide +kernel⟩⟩

/-- `Obligations.DeparturesAndSieve`. -/
theorem test_witness_DeparturesAndSieve :
  (∃ (s : State) (bank : Stn) (q : Fin 64) (r : Rec) (phys : ReadPhys) (x : State × HeadRead), s.headReady bank q = some r ∧
    s.depTurn bank q = true ∧ x = (s.takeTurn bank q).readHead bank q phys) ∧
  (∃ (s u : State) (bank : Stn) (q : Fin 64) (p : Port) (links : List (Fin 64 × LinkHit)) (drop : Bool) (qs : List Nat) (n : Nat) (a b w y z : State) (x : State × Nat),
    stnOf p = bank.val ∧ bit (s.get (F.STN_OB_FLUSH_FLUSHING bank)) (kOf p) = true ∧ s.recovering bank = false ∧ drop = (s.port p).flushDrop ∧
    u = s.flushWalk p drop links ∧ qs = u.portQs p ∧ (n = qs.foldl (fun n q => n + ((u.bank bank).q q).recs.length) 0) ∧
    (a = qs.foldl (fun s q => s.flushQueue bank q drop) u) ∧
    (b = (if drop then a.modBank bank (fun b => { b with lastDrop := some a.clk.now }) else a)) ∧
    (x = qs.foldl (fun (x : State × Nat) q => ((x.1.flushChains bank q).1, x.2 + (x.1.flushChains bank q).2)) (b, 0)) ∧
    (y = (if x.2 = 0 then x.1 else (x.1.bumpN (F.STN_OB_RES_DISCARD_RES_DISCARD bank) x.2).raise 0x04 0x2503 1 (scStn bank) [bank.val, p.val, x.2])) ∧
    w = y.put (F.STN_OB_FLUSH_FLUSHING bank) (setBit (y.get (F.STN_OB_FLUSH_FLUSHING bank)) (kOf p) false) ∧
    (z = (w.modPort p fun v => { v with flushed := v.flushed + n + x.2, closed := w.stage p != stACTIVE }).count bank 0x0B (kOf p) 0 0 (n + x.2))) ∧
  (∃ (s : State) (bank : Stn), s.sieveOn = true ∧ s.flag (F.STN_OB_SIEVE_STAT_ACTIVE bank) = false ∧
    s.flag (F.STN_OB_SIEVE_STAT_PAUSED bank) = false ∧ s.recovering bank = false) ∧
  (∃ (s u : State) (bank : Stn) (find : SieveFind) (a b c : State), s.flag (F.STN_OB_SIEVE_STAT_ACTIVE bank) = true ∧
    u = s.putB (F.STN_OB_SIEVE_STAT_ACTIVE bank) false ∧ (a = find.loops.foldl (fun s l => s.cutAt bank l.1.q (l.1.ing.map Fin.val) l.2 false) u) ∧
    (b = find.links.foldl (fun s l => s.sieveLink bank l.1 l.2) a) ∧ (c = find.corrupt.foldl (fun s i => s.corruptCell bank i.val) b)) :=
  ⟨⟨ports.modBank 0 (fun b => { b with qs := [(54, { recs := [{ rec0 with committed := true }] })] }), 0, 54, _, phys0, _,
     (Option.some_get (by decide +kernel)).symm, by decide +kernel, rfl⟩,
   ⟨portUp.put (F.STN_OB_FLUSH_FLUSHING 0) 1, _, 0, 0, 0, [], _, _, _, _, _, _, _, _, _, by decide +kernel, by decide +kernel, by decide +kernel,
     rfl, rfl, rfl, rfl, rfl, rfl, rfl, rfl, rfl, rfl⟩,
   ⟨fm.put F.CORE_SIEVE_CTL_EN 1, 0, by decide +kernel, by decide +kernel, by decide +kernel, by decide +kernel⟩,
   ⟨fm.put (F.STN_OB_SIEVE_STAT_ACTIVE 0) 1, _, 0, {}, _, _, _, by decide +kernel, rfl, rfl, rfl, rfl⟩⟩

/-- `Obligations.QuadrantsAndMonitors`. -/
theorem test_witness_QuadrantsAndMonitors :
  (∃ (s u : State) (q : Quad) (v : State) (n : Nat), s.pendingAt q ≠ [] ∧ bit (s.get F.CORE_STALL_STATUS_RECOVERING) q = false ∧
    bit (s.get F.CORE_STALL_STATUS_FAILED) q = false ∧ v = s.bump (F.CORE_STALL_CNT_STALLS q) ∧
    (n = ((List.range 16).filter fun st => (s.pendingAt q).any fun f => f.stn == st).length) ∧
    (u = (quadBanks q).foldl (fun s b => (s.putB (F.STN_OB_SIEVE_STAT_ACTIVE b) false).rollBack b) (v.raise 0x04 0x2401 3 scDev [q.val, n, v.get (F.CORE_PACE_M_HS (16 + q.val))])) ∧
    (∀ t, (u.quadSt q).recoveredAt = some t → t + 10 * msec < u.clk.now)) ∧
  (∃ (s u : State) (q : Quad) (v : State) (n : Nat) (t : _), s.pendingAt q ≠ [] ∧ bit (s.get F.CORE_STALL_STATUS_RECOVERING) q = false ∧
    bit (s.get F.CORE_STALL_STATUS_FAILED) q = false ∧ v = s.bump (F.CORE_STALL_CNT_STALLS q) ∧
    (n = ((List.range 16).filter fun st => (s.pendingAt q).any fun f => f.stn == st).length) ∧
    (u = (quadBanks q).foldl (fun s b => (s.putB (F.STN_OB_SIEVE_STAT_ACTIVE b) false).rollBack b) (v.raise 0x04 0x2401 3 scDev [q.val, n, v.get (F.CORE_PACE_M_HS (16 + q.val))])) ∧
    (u.quadSt q).recoveredAt = some t ∧ u.clk.now ≤ t + 10 * msec) ∧
  (∃ (s u : State) (q : Quad) (a b : State) (finds : List SieveFind), bit (s.get F.CORE_STALL_STATUS_RECOVERING) q = true ∧
    (a = (quadBanks q).foldl (fun s b => ((s.toggleEpoch b).sievePass b (finds.getD (b % 4) {})).putB (F.STN_OB_SIEVE_STAT_PAUSED b) false) s) ∧
    b = a.put F.CORE_STALL_STATUS_RECOVERING (setBit (a.get F.CORE_STALL_STATUS_RECOVERING) q false) ∧
    u = b.setQuad q { since := 0, recoveredAt := some b.clk.now }) ∧
  (∃ (s : State) (st : Stn) (rule : Fin 16) (id : Nat) (f g : Flight), s.flight id = some f ∧ f.stn = st.val ∧ f.fired.contains rule.val = true ∧
    f.ready = true ∧ g = { f with fired := f.fired.filter (· != rule.val) } ∧ s.flag (F.MCT_TR_CTL_DEST rule) = false) ∧
  (∃ (s : State) (st : Stn) (rule : Fin 16) (id : Nat) (f g : Flight), s.flight id = some f ∧ f.stn = st.val ∧ f.fired.contains rule.val = true ∧
    f.ready = true ∧ g = { f with fired := f.fired.filter (· != rule.val) } ∧ s.flag (F.MCT_TR_CTL_DEST rule) = true ∧
    (∀ r ∈ f.firedAll, r < rule.val → s.flag (F.MCT_TR_CTL_DEST r) = false)) ∧
  (∃ (s : State) (st : Stn) (rule : Fin 16) (id : Nat) (f g : Flight), s.flight id = some f ∧ f.stn = st.val ∧ f.fired.contains rule.val = true ∧
    f.ready = true ∧ g = { f with fired := f.fired.filter (· != rule.val) } ∧ s.flag (F.MCT_TR_CTL_DEST rule) = true ∧
    (∃ r ∈ f.firedAll, r < rule.val ∧ s.flag (F.MCT_TR_CTL_DEST r) = true)) :=
  ⟨⟨withFl ports flE, _, 0, _, _, by decide +kernel, by decide +kernel, by decide +kernel, rfl, rfl, rfl, by decide +kernel⟩,
   ⟨(withFl ports flE).setQuad 0 { recoveredAt := some 0 }, _, 0, _, _, _, by decide +kernel, by decide +kernel, by decide +kernel, rfl, rfl, rfl,
     (Option.some_get (by decide +kernel)).symm, by decide +kernel⟩,
   ⟨fm.put F.CORE_STALL_STATUS_RECOVERING 8, _, 3, _, _, [], by decide +kernel, rfl, rfl, rfl⟩,
   ⟨withFl ports { fl0 with fired := [15] }, 0, 15, 1, _, _, (Option.some_get (by decide +kernel)).symm, by decide +kernel, by decide +kernel,
     by decide +kernel, rfl, by decide +kernel⟩,
   ⟨withFl (ports.put (F.MCT_TR_CTL_DEST 15) 1) { fl0 with fired := [15], firedAll := [15] }, 0, 15, 1, _, _,
     (Option.some_get (by decide +kernel)).symm, by decide +kernel, by decide +kernel, by decide +kernel, rfl, by decide +kernel, by decide +kernel⟩,
   ⟨withFl (puts ports [(F.MCT_TR_CTL_DEST 15, 1), (F.MCT_TR_CTL_DEST 0, 1)]) { fl0 with fired := [15], firedAll := [0, 15] }, 0, 15, 1, _, _,
     (Option.some_get (by decide +kernel)).symm, by decide +kernel, by decide +kernel, by decide +kernel, rfl, by decide +kernel, by decide +kernel⟩⟩

/-- `Obligations.HostAccesses`. -/
theorem test_witness_HostAccesses :
  (∃ (s : State) (v : VsId), (s.vs v).sbr = false) ∧
  (∃ (s : State) (v : VsId), (s.vs v).f0.responds = true ∧ s.proxyReads v < 4) ∧
  (∃ (s : State) (v : VsId), (s.vs v).f0.responds = true ∧ s.proxyWrites v < 16) ∧
  (∃ (s : State) (v : VsId), (s.vs v).f0.responds = false) ∧
  (∃ (s : State) (v : VsId) (off len : Nat) (tag : B16) (rest : List ProxyAcc) (u : _), s.proxyQ v = .read off len tag :: rest ∧
    u = s.setProxyQ v rest ∧ (shapeOk off len = false ∨ u.bar0Addr v off = none)) ∧
  (∃ (s : State) (v : VsId) (off len a : Nat) (tag : B16) (rest : List ProxyAcc) (u w : _), s.proxyQ v = .read off len tag :: rest ∧
    u = s.setProxyQ v rest ∧ shapeOk off len = true ∧ u.bar0Addr v off = some a ∧
    (((List.range (len / 4)).map (a + 4 * ·)).find? (fun w => u.proxyThm w 4 0 != .allowed) = some w)) ∧
  (∃ (s : State) (v : VsId) (off len a : Nat) (tag : B16) (rest : List ProxyAcc) (u w : _), s.proxyQ v = .read off len tag :: rest ∧
    u = s.setProxyQ v rest ∧ shapeOk off len = true ∧ u.bar0Addr v off = some a ∧ (∀ i < len / 4, u.proxyThm (a + 4 * i) 4 0 = .allowed) ∧
    (((List.range (len / 4)).map (a + 4 * ·)).find? (fun w => !u.regOn w) = some w)) ∧
  (∃ (s : State) (v : VsId) (off len a : Nat) (tag : B16) (rest : List ProxyAcc) (u : _), s.proxyQ v = .read off len tag :: rest ∧
    u = s.setProxyQ v rest ∧ shapeOk off len = true ∧ u.bar0Addr v off = some a ∧ (∀ i < len / 4, u.proxyThm (a + 4 * i) 4 0 = .allowed) ∧
    (∀ i < len / 4, u.regOn (a + 4 * i) = true)) ∧
  (∃ (s : State) (v : VsId) (off : Nat) (data : List B32) (full : Bool) (rest : List ProxyAcc) (u : _), s.proxyQ v = .write off data full :: rest ∧
    u = s.setProxyQ v rest ∧ (full = false ∨ shapeOk off (4 * data.length) = false)) ∧
  (∃ (s : State) (v : VsId) (off : Nat) (data : List B32) (full : Bool) (rest : List ProxyAcc) (u : _), s.proxyQ v = .write off data full :: rest ∧
    u = s.setProxyQ v rest ∧ full = true ∧ shapeOk off (4 * data.length) = true ∧ u.bar0Addr v off = none) ∧
  (∃ (s : State) (v : VsId) (off a : Nat) (data : List B32) (full : Bool) (rest : List ProxyAcc) (u : _), s.proxyQ v = .write off data full :: rest ∧
    u = s.setProxyQ v rest ∧ full = true ∧ shapeOk off (4 * data.length) = true ∧ u.bar0Addr v off = some a) ∧
  (∃ (s : State) (v : VsId) (off : Nat) (tag : B16) (rest : List ProxyAcc) (u : _), takeRead (s.proxyQ v) = some ((off, tag), rest) ∧
    u = s.setProxyQ v rest) :=
  ⟨⟨fm, 31, by decide +kernel⟩,
   ⟨host, 0, by decide +kernel, by decide +kernel⟩,
   ⟨host, 0, by decide +kernel, by decide +kernel⟩,
   ⟨fm, 0, by decide +kernel⟩,
   ⟨prox 0 [.read 2 64 7], 0, 2, 64, 7, [], _, by decide +kernel, rfl, by decide +kernel⟩,
   ⟨(prox 0 [.read 0 64 7]).modThm 292 fun t => { t with regions := [] }, 0, 0, 64, 0, 7, [], _, 0, by decide +kernel, rfl, by decide +kernel,
     by decide +kernel, by decide +kernel⟩,
   ⟨prox 16 [.read 0 64 7], 0, 0, 64, 0x1000000, 7, [], _, 0x1000000, by decide +kernel, rfl, by decide +kernel, by decide +kernel,
     by decide +kernel, by decide +kernel⟩,
   ⟨prox 0 [.read 0 64 7], 0, 0, 64, 0, 7, [], _, by decide +kernel, rfl, by decide +kernel, by decide +kernel, by decide +kernel,
     by decide +kernel⟩,
   ⟨prox 0 [.write 2 [9] true], 0, 2, [9], true, [], _, by decide +kernel, rfl, by decide +kernel⟩,
   ⟨(host.put (F.ACW_EP_WIN_VALID 0 0) 0).setProxyQ 0 [.write 0 [9] true], 0, 0, [9], true, [], _, by decide +kernel, rfl, by decide +kernel,
     by decide +kernel, by decide +kernel⟩,
   ⟨prox 1 [.write ((F.ACW_MBX_TAIL_TAIL 0).addr - 0x100000) [9] true], 0, ((F.ACW_MBX_TAIL_TAIL 0).addr - 0x100000), (F.ACW_MBX_TAIL_TAIL 0).addr,
     [9], true, [], _, by decide +kernel, rfl, rfl, by decide +kernel, by decide +kernel⟩,
   ⟨prox 0 [.read 0 64 7], 0, 0, 7, [], _, by decide +kernel, rfl⟩⟩

/-- `Obligations.MessagesAndCounters`. -/
theorem test_witness_MessagesAndCounters :
  (∃ (s : State) (v : VsId) (fn : Bool) (vec : Fin 2048), vec.val < vecCount fn ∧ ((s.vs v).fn fn).maySend vec = false) ∧
  (∃ (s u : State) (v : VsId) (fn : Bool) (vec : Fin 2048), vec.val < vecCount fn ∧ ((s.vs v).fn fn).maySend vec = true ∧
    (u = s.modVs v (fun w => w.modFn fn fun g => g.setVec vec { ((s.vs v).fn fn).vec vec with pending := false }))) ∧
  (∃ (s : State) (v : VsId) (fn : Bool) (vec : Fin 2048), ((s.vs v).fn fn).responds = true ∧ vec.val < vecCount fn) ∧
  (∃ (s : State) (m : Pmu) (c : Fin 8), s.cntRuns m c = true ∧ s.flag (F.PMU_CNT_CTL_SMP m c) = false) ∧
  (∃ (s : State) (m : Pmu) (c : Fin 8), s.cntRuns m c = true ∧ s.flag (F.PMU_CNT_CTL_SMP m c) = true) ∧
  (∃ (s u : State) (c : Fin 8), s.flag F.PMC_CTL_READER_EN = true ∧
    (u = (((List.range 22).filter fun k => s.pdOn (domainOf (pmuBase k))).foldl (fun s k => (List.range 8).foldl (fun s c => s.sweepCnt k c) s) s).bumpWrap F.PMC_SWEEPS_SWEEPS 1)) :=
  ⟨⟨fm, 31, true, 2047, by decide +kernel, by decide +kernel⟩,
   ⟨host, _, 0, false, 255, by decide +kernel, by decide +kernel, rfl⟩,
   ⟨host, 0, true, 2047, by decide +kernel, by decide +kernel⟩,
   ⟨puts fm [(F.PMU_UNIT_CTL_RUN 21, 1), (F.PMU_CNT_CTL_EVSEL 21 7, 1)], 21, 7, by decide +kernel, by decide +kernel⟩,
   ⟨puts fm [(F.PMU_UNIT_CTL_RUN 21, 1), (F.PMU_CNT_CTL_EVSEL 21 7, 1), (F.PMU_CNT_CTL_SMP 21 7, 1)], 21, 7, by decide +kernel, by decide +kernel⟩,
   ⟨fm.put F.PMC_CTL_READER_EN 1, _, 0, by decide +kernel, rfl⟩⟩

/-- `Obligations.RegisterAccesses`. -/
theorem test_witness_RegisterAccesses :
  (∃ (s u : State) (addr : Nat), s.wideLow addr = true ∧ s.regOn addr = true ∧ u = s.prbsAdvanceAll ∧ u.wideLow addr = true) ∧
  (∃ (s : State) (init : Fin 37) (addr : Nat), addr % 4 = 0 ∧ s.regOn addr = true ∧ (init.val < 5 ∨ s.hostWritable (init.val - 5) addr = true)) ∧
  (∃ (s : State) (init : Fin 37) (addr : Nat), addr % 4 = 0 ∧ 5 ≤ init.val ∧ s.hostWritable (init.val - 5) addr = false) ∧
  (∃ (s : State) (init : Fin 37) (addr : Nat) (now clr : B32), addr % 4 = 0 ∧ s.regOn addr = true ∧ init.val < 5 ∧ 0x02000000 ≤ addr ∧
    pmuOf addr = none ∧ (now = regMask (fun c => c == .rw || c == .rws) addr) ∧ clr = regMask (· == .rw1c) addr ∧
    (regMask (fun c => c == .rwc || c == .qo) addr = 0)) ∧
  (∃ (s : State) (val : B32) (v : VsId), s.flag (F.ACW_MBX_CFG_EN v) = false ∧ bit val.toNat 0 = true) ∧
  (∃ (s u : State) (val : B32) (v : VsId), s.flag (F.ACW_MBX_CFG_EN v) = false ∧ bit val.toNat 0 = false ∧
    u = (s.putB (F.ACW_MBX_CFG_VEC_EN v) (bit val.toNat 16)).put (F.ACW_MBX_CFG_VEC v) (bits val.toNat 8 8)) ∧
  (∃ (s : State) (v : VsId), s.flag (F.ACW_MBX_CFG_EN v) = true) ∧
  (∃ (s u : State) (v : VsId) (tail : B8), s.acl.up = true ∧ s.flag (F.ACW_MBX_CFG_EN v) = true ∧ s.flag (F.ACW_MBX_STATUS_FAULT v) = false ∧
    2 ^ s.get (F.ACW_MBX_CFG_ORDER v) ≤ tail.toNat ∧ u = s.put (F.ACW_MBX_TAIL_TAIL v) tail.toNat) ∧
  (∃ (s : State) (v : VsId) (tail : B8),
    (s.acl.up = false ∨ s.flag (F.ACW_MBX_CFG_EN v) = false ∨ s.flag (F.ACW_MBX_STATUS_FAULT v) = true ∨ tail.toNat < 2 ^ s.get (F.ACW_MBX_CFG_ORDER v))) :=
  ⟨⟨fmAll, _, 0x01001000, by decide +kernel, by decide +kernel, rfl, by decide +kernel⟩,
   ⟨fm, 4, 0, by decide +kernel, by decide +kernel, by decide +kernel⟩,
   ⟨fm, 5, 0, by decide +kernel, by decide +kernel, by decide +kernel⟩,
   ⟨fm, 4, 0x02000000, _, _, by decide +kernel, by decide +kernel, by decide +kernel, by decide +kernel, by decide +kernel, rfl, rfl,
     by decide +kernel⟩,
   ⟨fm, 1, 31, by decide +kernel, by decide +kernel⟩,
   ⟨fm, _, 0, 31, by decide +kernel, by decide +kernel, rfl⟩,
   ⟨(fm.put (F.ACW_MBX_CFG_EN 31) 1), 31, by decide +kernel⟩,
   ⟨(fm.put (F.ACW_MBX_CFG_EN 31) 1), _, 31, 255, by decide +kernel, by decide +kernel, by decide +kernel, by decide +kernel, rfl⟩,
   ⟨fm, 31, 255, by decide +kernel⟩⟩

/-- `Obligations.FabricFormation`. -/
theorem test_witness_FabricFormation :
  (∃ (s u : State) (c : CtlHdr), s.nodeId ≠ 0xFF ∧ s.seamLive c.stn = true ∧ c.tagOk = false ∧ u = s.bump F.FAB_ROUTE_ERR_ROUTE_ERR) ∧
  (∃ (s u : State) (c : CtlHdr) (m : HelloMsg) (n k : Nat) (a b d e : State), Taken s c ∧ n = m.node.toNat ∧ k = m.cand.toNat ∧ n < 48 ∧
    (a = (s.learn n m.uid).modNode n (fun x => { x with mgrCap := m.mgrCap, heard := (s.learn n m.uid).fab.round, startStep := m.startStep.val })) ∧
    (b = (if a.fab.dropped = n then { a with fab := { a.fab with dropped := 0xFF } } else a)) ∧
    (d = (if k < 48 ∧ k ≠ n ∧ k ≠ b.nodeId ∧ k ≠ b.fab.dropped then (b.learn k m.candUid).modNode k (fun x => { x with mgrCap := true, heard := b.fab.round }) else if k = b.nodeId ∧ k ≠ n then b.learn k m.candUid else b)) ∧
    (u = { d with fab := { d.fab with cand := d.candidate, ownRounds := if d.candidate = d.nodeId then d.fab.ownRounds else 0 } }) ∧
    (e = (if m.mgr = true ∧ k = d.candidate ∧ d.candidate < 48 ∧ d.candidate ≠ u.nodeId then (if u.get F.FAB_STATE_MGR_NODE = d.candidate then { u with fab := { u.fab with silent := 0 } } else u.setMgr d.candidate) else u))) ∧
  (∃ (s u a b d : State) (own : Nat), Acts s ∧ s.nodeId ≠ 0xFF ∧ a = { s with fab := { s.fab with round := s.fab.round + 1 } } ∧
    (b = (if s.get F.FAB_STATE_MGR_NODE = 0xFF ∨ s.get F.FAB_STATE_MGR_NODE = s.nodeId then a else { a with fab := { a.fab with silent := a.fab.silent + 1 } })) ∧
    (d = (if 3 ≤ b.fab.silent then b.dropMgr else b)) ∧ (own = (if d.candidate = d.nodeId then d.fab.ownRounds + 1 else 0)) ∧
    u = { d with fab := { d.fab with cand := d.candidate, ownRounds := own } } ∧ (own < 3 ∨ u.get F.FAB_STATE_MGR_NODE = u.nodeId)) ∧
  (∃ (s u a b d : State) (own : Nat), Acts s ∧ s.nodeId ≠ 0xFF ∧ a = { s with fab := { s.fab with round := s.fab.round + 1 } } ∧
    (b = (if s.get F.FAB_STATE_MGR_NODE = 0xFF ∨ s.get F.FAB_STATE_MGR_NODE = s.nodeId then a else { a with fab := { a.fab with silent := a.fab.silent + 1 } })) ∧
    (d = (if 3 ≤ b.fab.silent then b.dropMgr else b)) ∧ (own = (if d.candidate = d.nodeId then d.fab.ownRounds + 1 else 0)) ∧
    u = { d with fab := { d.fab with cand := d.candidate, ownRounds := own } } ∧ 3 ≤ own ∧ u.get F.FAB_STATE_MGR_NODE ≠ u.nodeId) ∧
  (∃ (s u : State), Acts s ∧ s.nodeId ≠ 0xFF ∧ s.get F.FAB_STATE_MGR_NODE = 0xFF ∧ s.candidate = 0xFF ∧ s.get F.FAB_STATE_STEP < 12 ∧
    (u = [0, 1].foldl (fun a d => (a.put (F.FAB_ROUTE_LO_PORTS s.nodeId d) 0).put (F.FAB_ROUTE_HI_ATTR s.nodeId d) 0x10) s)) ∧
  (∃ (s u : State) (c : CtlHdr) (n : B8) (uid : B64) (links : List TopoLink) (usps : B32) (a b : State), Taken s c ∧ n.toNat < 48 ∧
    n.toNat ≠ s.nodeId ∧ (a = (s.learn n.toNat uid).modNode n.toNat (fun x => { x with usps := usps.toNat })) ∧
    (b = a.modNode n.toNat (fun x => { x with links := links })) ∧
    u = ({ b with fab := { b.fab with lastTopo := b.clk.now } }).tellLinks c.stn 0x02 ([n.toNat, uid.toNat] ++ links.flatMap topoFields)) ∧
  (∃ (s u : State) (c : CtlHdr) (kind : B8) (first base : Nat) (words : List B32) (bad : Option Nat), Taken s c ∧ pieceBase kind.toNat = some base ∧
    first + words.length ≤ pieceWords kind.toNat ∧
    (u = { s with fab := { s.fab with pieces := s.fab.pieces ++ ((words.zip (List.range words.length)).map fun x => (base + 4 * (first + x.2), x.1)) } }) ∧
    (bad = (if kind.toNat ≠ 0 then none else ((List.range ((first + words.length) / 2)).filter fun e => decide (first ≤ 2 * e)).find? fun e => !u.entryOk (e / 2) (e % 2)))) ∧
  (∃ (s : State) (c : CtlHdr) (kind : B8) (first : Nat) (words : List B32), Taken s c ∧
    (pieceBase kind.toNat = none ∨ pieceWords kind.toNat < first + words.length)) ∧
  (∃ (s u : State) (ripe : Prop) (nt : Net) (os : List Nat) (d : State → Nat → Nat) (a b : State), Acts s ∧ s.nodeId ≠ 0xFF ∧
    s.get F.FAB_STATE_MGR_NODE = s.nodeId ∧ s.fab.publishing = false ∧ s.fab.goAt = none ∧
    (ripe = (s.pow.releasedAt + s.get F.FAB_CTL_FORM_TMO * msec ≤ s.clk.now ∨ s.fab.lastTopo + 20 * msec ≤ s.clk.now ∧ ∀ n < 48, (s.node n).known = true → n ≠ s.nodeId → 9 ≤ (s.node n).startStep)) ∧
    ripe ∧ s.get F.FAB_STATE_STEP < 12 ∧ nt = s.net [] ∧ (d = (fun s n => digest ((s.piecesFor nt n).flatMap fun p => p.2.2))) ∧
    a = ((s.unreachable nt).publishOwn nt).limitVss ∧ os = a.others nt ∧
    b = { a with fab := { a.fab with publishing := true, ready := [], expect := [] } } ∧
    (u = os.foldl (fun s n => (State.publishTo { s with fab := { s.fab with expect := SMap.set (fun _ => 0) s.fab.expect n (d s n) } } nt n).sendCtl n 0x11 [0, s.nextEpoch, d s n] none) b)) ∧
  (∃ (s : State) (ripe : Prop), Acts s ∧ s.nodeId ≠ 0xFF ∧ s.get F.FAB_STATE_MGR_NODE = s.nodeId ∧ s.fab.publishing = false ∧ s.fab.goAt = none ∧
    (ripe = (s.pow.releasedAt + s.get F.FAB_CTL_FORM_TMO * msec ≤ s.clk.now ∨ s.fab.lastTopo + 20 * msec ≤ s.clk.now ∧ ∀ n < 48, (s.node n).known = true → n ≠ s.nodeId → 9 ≤ (s.node n).startStep)) ∧
    ripe ∧ 12 ≤ s.get F.FAB_STATE_STEP ∧ s.fab.hold = none ∧ s.fab.ranks ≠ []) ∧
  (∃ (s : State) (c : CtlHdr) (mine : Nat), Taken s c ∧ mine = digest (s.fab.pieces.map Prod.snd)) ∧
  (∃ (s u : State) (c : CtlHdr) (epoch : Nat) (dg : B32), Taken s c ∧ s.fab.publishing = true ∧ epoch = s.nextEpoch ∧
    u = s.gotReply c.src.toNat 0x11 ∧ (dg.toNat ≠ SMap.get (fun _ => 0) u.fab.expect c.src.toNat)) ∧
  (∃ (s u : State) (c : CtlHdr) (epoch : Nat) (dg : B32) (a : State), Taken s c ∧ s.fab.publishing = true ∧ epoch = s.nextEpoch ∧
    u = s.gotReply c.src.toNat 0x11 ∧ (dg.toNat = SMap.get (fun _ => 0) u.fab.expect c.src.toNat) ∧
    a = { u with fab := { u.fab with ready := c.src.toNat :: u.fab.ready.filter (· != c.src.toNat) } }) ∧
  (∃ (s : State) (c : CtlHdr) (epoch : Nat), Taken s c ∧ (s.fab.publishing = false ∨ epoch ≠ s.nextEpoch)) :=
  ⟨⟨live, _, { ctl0 with tagOk := false }, by decide +kernel, by decide +kernel, by decide +kernel, rfl⟩,
   ⟨live, _, ctl0, { hello0 with mgrCap := true, cand := 3, mgr := true }, _, _, _, _, _, _,
     ⟨by decide +kernel, by decide +kernel, rfl, ⟨by decide +kernel, by decide +kernel⟩⟩, rfl, rfl, by decide +kernel, rfl, rfl, rfl, rfl, rfl⟩,
   ⟨live, _, _, _, _, _, ⟨by decide +kernel, by decide +kernel⟩, by decide +kernel, rfl, rfl, rfl, rfl, rfl, by decide +kernel⟩,
   ⟨(live' (fun f => { f with ownRounds := 2 })).put F.FAB_STATE_MGR_NODE 5 |>.put F.FAB_ID_MGR_CAP 1, _, _, _, _, _,
     ⟨by decide +kernel, by decide +kernel⟩, by decide +kernel, rfl, rfl, rfl, rfl, rfl, by decide +kernel, by decide +kernel⟩,
   ⟨puts fm [(F.FAB_ID_NODE_ID, 3)], _, ⟨by decide +kernel, by decide +kernel⟩, by decide +kernel, by decide +kernel, by decide +kernel,
     by decide +kernel, rfl⟩,
   ⟨live, _, ctl0, 47, 0, [{ port := 0, partnerNode := 3, partnerPort := 0, rate := 6, active := true }], 0, _, _,
     ⟨by decide +kernel, by decide +kernel, rfl, ⟨by decide +kernel, by decide +kernel⟩⟩, by decide +kernel, by decide +kernel, rfl, rfl, rfl⟩,
   ⟨live, _, ctl0, 1, 959, _, [1], _, ⟨by decide +kernel, by decide +kernel, rfl, ⟨by decide +kernel, by decide +kernel⟩⟩,
     (Option.some_get (by decide +kernel)).symm, by decide +kernel, rfl, rfl⟩,
   ⟨live, ctl0, 5, 0, [], ⟨by decide +kernel, by decide +kernel, rfl, ⟨by decide +kernel, by decide +kernel⟩⟩, by decide +kernel⟩,
   ⟨{ mgr with clk := { mgr.clk with now := 10 ^ 12 } }, _, _, _, _, _, _, _, ⟨by decide +kernel, by decide +kernel⟩, by decide +kernel,
     by decide +kernel, by decide +kernel, by decide +kernel, rfl, by decide +kernel, by decide +kernel, rfl, rfl, rfl, rfl, rfl, rfl⟩,
   ⟨{ mgr.put F.FAB_STATE_STEP 13 with clk := { mgr.clk with now := 10 ^ 12 }, fab := { mgr.fab with ranks := [(0, 0)] } }, _,
     ⟨by decide +kernel, by decide +kernel⟩, by decide +kernel, by decide +kernel, by decide +kernel, by decide +kernel, rfl, by decide +kernel,
     by decide +kernel, by decide +kernel, by decide +kernel⟩,
   ⟨live, ctl0, _, ⟨by decide +kernel, by decide +kernel, rfl, ⟨by decide +kernel, by decide +kernel⟩⟩, rfl⟩,
   ⟨live' (fun f => { f with publishing := true, expect := [(5, 9)] }), _, ctl0, _, 1,
     ⟨by decide +kernel, by decide +kernel, rfl, ⟨by decide +kernel, by decide +kernel⟩⟩, by decide +kernel, rfl, rfl, by decide +kernel⟩,
   ⟨live' (fun f => { f with publishing := true }), _, ctl0, _, 0, _,
     ⟨by decide +kernel, by decide +kernel, rfl, ⟨by decide +kernel, by decide +kernel⟩⟩, by decide +kernel, rfl, rfl, by decide +kernel, rfl⟩,
   ⟨live, ctl0, 1, ⟨by decide +kernel, by decide +kernel, rfl, ⟨by decide +kernel, by decide +kernel⟩⟩, by decide +kernel⟩⟩

/-- `Obligations.FabricChanges`. -/
theorem test_witness_FabricChanges :
  (∃ (s u : State) (c : CtlHdr) (epoch : Nat) (mask : BitVec 48), Taken s c ∧ s.fab.hold = none ∧
    u = { s with fab := { s.fab with hold := some (mask.toNat, epoch % 256), sealRx := [], failed := 0, rerouteAt := s.clk.now } }) ∧
  (∃ (s : State) (c : CtlHdr), Taken s c ∧ s.fab.hold ≠ none) ∧
  (∃ (s u : State) (st : Stn) (k : Fin 3) (round : Fin 256), s.sealTake st k round = some u) ∧
  (∃ (s : State) (st : Stn), s.fab.hold ≠ none ∧ s.sealHere st = false ∧ s.fab.sealTx ≤ 4) ∧
  (∃ (s : State) (c : CtlHdr) (epoch m : Nat), Taken s c ∧ s.fab.running = true ∧ s.fab.hold = some (m, epoch % 256)) ∧
  (∃ (s : State), Acts s ∧ s.fab.running = true ∧ s.fab.goAt = none) ∧
  (∃ (s : State) (c : CtlHdr) (node port : B8) (cause : Fin 16), Taken s c ∧ (s.get F.FAB_STATE_ROLE = 1 ∨ s.get F.FAB_STATE_ROLE = 2) ∧
    s.fab.events.contains (node.toNat, port.toNat, cause.val) = false) ∧
  (∃ (s : State) (c : CtlHdr) (node port : B8) (cause : Fin 16), Taken s c ∧
    ((s.get F.FAB_STATE_ROLE ≠ 1 ∧ s.get F.FAB_STATE_ROLE ≠ 2) ∨ s.fab.events.contains (node.toNat, port.toNat, cause.val) = true)) ∧
  (∃ (s u : State) (lost : List (Nat × Nat)), Acts s ∧ s.fab.events ≠ [] ∧ s.fab.hold = none ∧ s.fab.publishing = false ∧
    12 ≤ s.get F.FAB_STATE_STEP ∧ (lost = s.fab.events.map (fun e => (e.1, e.2.1))) ∧
    (s.get F.FAB_STATE_ROLE = 1 ∨ s.get F.FAB_STATE_ROLE = 2 ∧ s.allLost (s.get F.FAB_STATE_MGR_NODE) lost = true) ∧
    (u = s.startChange lost (changed (s.net []) (s.net lost)) (((s.fab.events.head?).map fun e => e.2.2).getD 0))) ∧
  (∃ (s u : State) (e : Nat) (t : B64) (a b : State) (bad : List Nat), Acts s ∧ s.fab.goAt = some (e, t) ∧
    (bad = (if s.fab.hold = none then [] else s.behind)) ∧ a = (bad.foldl State.sealFlush s).takePieces.put F.FAB_STATE_EPOCH e ∧
    b = { a with fab := { a.fab with goAt := none, hold := none, sealTx := 0, sealRx := [], failed := 0, running := false, sealedBy := [], ready := [], expect := [] } } ∧
    u = (List.range 64).foldl State.bindStep (b.put F.FAB_TIME_STAT_PARENT b.parentOf) ∧ s.fab.hold ≠ none) ∧
  (∃ (s u : State) (e : Nat) (t : B64) (a b : State) (bad : List Nat) (x : State), Acts s ∧ s.fab.goAt = some (e, t) ∧
    (bad = (if s.fab.hold = none then [] else s.behind)) ∧ a = (bad.foldl State.sealFlush s).takePieces.put F.FAB_STATE_EPOCH e ∧
    b = { a with fab := { a.fab with goAt := none, hold := none, sealTx := 0, sealRx := [], failed := 0, running := false, sealedBy := [], ready := [], expect := [] } } ∧
    u = (List.range 64).foldl State.bindStep (b.put F.FAB_TIME_STAT_PARENT b.parentOf) ∧ s.fab.hold = none ∧ x = u.stepUp 13) ∧
  (∃ (s : State) (c : CtlHdr) (e : LateRec), s.nodeId ≠ 0xFF ∧ s.seamLive c.stn = true ∧ c.tagOk = true ∧ e.ingNode.toNat = s.nodeId) ∧
  (∃ (s : State) (mseq : B32) (o : CtlOut), ((s.fab.out.find? fun o => o.mseq == mseq.toNat) = some o) ∧ (s.acl.up = true ∨ o.kind = 0x30)) :=
  ⟨⟨live, _, ctl0, 1, 8, ⟨by decide +kernel, by decide +kernel, rfl, ⟨by decide +kernel, by decide +kernel⟩⟩, by decide +kernel, rfl⟩,
   ⟨live' (fun f => { f with hold := some (8, 1) }), ctl0, ⟨by decide +kernel, by decide +kernel, rfl, ⟨by decide +kernel, by decide +kernel⟩⟩,
     by decide +kernel⟩,
   ⟨live.modSeam 0 (fun x => { x with seals := [(2, 255, 0)] }), _, 0, 2, 255, (Option.some_get (by decide +kernel)).symm⟩,
   ⟨live' (fun f => { f with hold := some (8, 1), sealTx := 4 }), 0, by decide +kernel, by decide +kernel, by decide +kernel⟩,
   ⟨live' (fun f => { f with hold := some (8, 1), running := true }), ctl0, 1, 8,
     ⟨by decide +kernel, by decide +kernel, rfl, ⟨by decide +kernel, by decide +kernel⟩⟩, by decide +kernel, by decide +kernel⟩,
   ⟨live' (fun f => { f with running := true }), ⟨by decide +kernel, by decide +kernel⟩, by decide +kernel, by decide +kernel⟩,
   ⟨live.put F.FAB_STATE_ROLE 1, ctl0, 5, 143, 15, ⟨by decide +kernel, by decide +kernel, rfl, ⟨by decide +kernel, by decide +kernel⟩⟩,
     by decide +kernel, by decide +kernel⟩,
   ⟨live, ctl0, 5, 143, 15, ⟨by decide +kernel, by decide +kernel, rfl, ⟨by decide +kernel, by decide +kernel⟩⟩, by decide +kernel⟩,
   ⟨(live' (fun f => { f with events := [(3, 0, 0)] })).put F.FAB_STATE_ROLE 1 |>.put F.FAB_STATE_STEP 12, _, _,
     ⟨by decide +kernel, by decide +kernel⟩, by decide +kernel, by decide +kernel, by decide +kernel, by decide +kernel, rfl, by decide +kernel,
     rfl⟩,
   ⟨live' (fun f => { f with hold := some (8, 1), goAt := some (1, 0) }), _, 1, 0, _, _, _, ⟨by decide +kernel, by decide +kernel⟩,
     by decide +kernel, rfl, rfl, rfl, rfl, by decide +kernel⟩,
   ⟨live' (fun f => { f with goAt := some (1, 0) }), _, 1, 0, _, _, _, _, ⟨by decide +kernel, by decide +kernel⟩, by decide +kernel, rfl, rfl, rfl,
     rfl, by decide +kernel, rfl⟩,
   ⟨live, ctl0, late0, by decide +kernel, by decide +kernel, by decide +kernel, by decide +kernel⟩,
   ⟨live' (fun f => { f with out := [⟨7, 5, 2, [], 4, none⟩] }), 7, _, (Option.some_get (by decide +kernel)).symm, by decide +kernel⟩⟩

/-- `Obligations.ManagementEvents`. -/
theorem test_witness_ManagementEvents :
  (∃ (s u : State) (src : Fin 32) (e : Ev) (rest : List Ev) (left : Nat) (w : State), (s.ram src).held = e :: rest ∧ s.acl.up = true ∧
    (left = (if rest = [] then (s.ram src).dropped else 0)) ∧
    (u = { s with evs := { s.evs with ram := SMap.set (fun _ => {}) s.evs.ram src { held := rest, dropped := if rest.isEmpty then 0 else (s.ram src).dropped } } }) ∧
    (w = (if e.gap = 0 then u.logPut e else (u.logPut e).logGap src e.gap))) ∧
  (∃ (s u : State) (saved again : Bool) (r : BootRec) (act first : Nat) (a : State) (up : State → Nat → State), s.pow.running = true ∧
    s.acl.up = false ∧ s.acl.halted = false ∧ s.acl.romWaits = false ∧ s.acl.activating = none ∧ (a = (if saved then s else s.dropSaved)) ∧
    r = a.bootRec ∧ act = b2n r.active ∧ again = (r.trial && r.tried && !a.acl.fallback) ∧
    (first = (if a.acl.fallback then 1 - a.get F.ACW_FW_STATUS_RUN_BANK else if again then 1 - act else act)) ∧
    (u = (if again then (a.writeBootRec (!r.active) false false).raise 0x01 0x7008 3 scDev [2] else if r.trial = true ∧ a.acl.fallback = false then a.writeBootRec r.active true true else a)) ∧
    (up = (fun s b => let t := s.put F.ACW_FW_STATUS_UPD_STATE (if r.trial && !again && b == act then 4 else if 3 ≤ s.get F.ACW_FW_STATUS_UPD_STATE then 0 else s.get F.ACW_FW_STATUS_UPD_STATE); (t.fwUp b (r.trial && !again && b == act) false (t.bankOf b)).booted b (t.bankOf b)))) ∧
  (∃ (s u : State) (core : Fin 4) (recent : List Nat) (w : State) (b : Nat), s.pow.running = true ∧ s.acl.halted = false ∧ s.acl.romWaits = false ∧
    (recent = (s.acl.wdt.filter fun t => decide (s.clk.now < t + 600000000000)) ++ [s.clk.now]) ∧
    u = (s.bump F.ACW_WDT_WDT_RESETS).coresDown.discardAll 3 ∧
    w = (State.trigger { u with acl := { u.acl with wdt := recent, activating := none } } 8).raise 0x01 0x7004 3 scDev [core.val, recent.length] ∧
    b = w.get F.ACW_FW_STATUS_RUN_BANK) ∧
  (∃ (s u : State) (saved : Bool) (old t0 ob nb : Nat) (a w x : State), s.acl.activating = some (old, t0, false) ∧
    ob = s.get F.ACW_FW_STATUS_RUN_BANK ∧ nb = 1 - ob ∧ (a = (if saved then s else s.dropSaved)) ∧
    (u = ((State.bump { a with acl := { a.acl with activating := none } } F.ACW_WDT_ACTIVATIONS).endAsync (fun a => a.opcode != 0x0E02) .timeout none).trigger 10) ∧
    w = (u.fwUp nb true false (u.bankOf nb)).put F.ACW_FW_STATUS_UPD_STATE 4 ∧
    x = ((u.writeBootRec (ob == 1) false false).fwUp ob false false ((u.writeBootRec (ob == 1) false false).bankOf ob))) ∧
  (∃ (s u : State) (saved : Bool) (old t0 nb : Nat) (a : State), s.acl.activating = some (old, t0, true) ∧ nb = 1 - s.get F.ACW_FW_STATUS_RUN_BANK ∧
    (a = (if saved then s else s.dropSaved)) ∧
    (u = ((State.bump { a with acl := { a.acl with activating := none } } F.ACW_WDT_ACTIVATIONS).endAsync (fun a => a.opcode != 0x0E02) .timeout none).trigger 10)) ∧
  (∃ (s : State), s.acl.up = true ∧ s.flag F.ACW_FW_STATUS_TRIAL = true) ∧
  (∃ (s : State), s.acl.arm ≠ none) :=
  ⟨⟨held { held := [ev0], dropped := 1 }, _, 31, ev0, [], _, _, by decide +kernel, by decide +kernel, rfl, rfl, rfl⟩,
   ⟨{ State.reset with pow := { State.reset.pow with running := true } }, _, true, _, _, _, _, _, _, by decide +kernel, by decide +kernel,
     by decide +kernel, by decide +kernel, by decide +kernel, rfl, rfl, rfl, rfl, rfl, rfl, rfl⟩,
   ⟨{ fm with pow := { fm.pow with running := true } }, _, 3, _, _, _, by decide +kernel, by decide +kernel, by decide +kernel, rfl, rfl, rfl, rfl⟩,
   ⟨{ fm with acl := { fm.acl with activating := some (0, 0, false) } }, _, true, 0, 0, _, _, _, _, _, rfl, rfl, rfl, rfl, rfl, rfl, rfl⟩,
   ⟨{ fm with acl := { fm.acl with activating := some (0, 0, true) } }, _, true, 0, 0, _, _, rfl, rfl, rfl, rfl⟩,
   ⟨fm.put F.ACW_FW_STATUS_TRIAL 1, by decide +kernel, by decide +kernel⟩,
   ⟨{ fm with acl := { fm.acl with arm := some { challenge := 9, chan := 0, cred := 0x00010001 } } }, by decide +kernel⟩⟩

/-- `Obligations.SensorEvents`. -/
theorem test_witness_SensorEvents :
  (∃ (s u : State) (i : Fin 32) (raw : Int), s.pdIsOn 62 = true ∧ s.pow.block ≠ some (0x11, 0xFFFF) ∧
    (i.val = 31 → s.get F.GLB_RESET_CAUSE_SOURCE = 0) ∧ (raw < (sensRange i).1 ∨ (sensRange i).2 < raw) ∧
    (u = (s.putB (F.ACW_SENS_RANGE i) true).setSens i { s.sens i with miss := (s.sens i).miss + 1, run := 0, win := if s.sensStale i then [] else (s.sens i).win })) ∧
  (∃ (s u : State) (i : Fin 32) (raw : Int) (win : List Int), s.pdIsOn 62 = true ∧ s.pow.block ≠ some (0x11, 0xFFFF) ∧
    (i.val = 31 → s.get F.GLB_RESET_CAUSE_SOURCE = 0) ∧ (sensRange i).1 ≤ raw ∧ raw ≤ (sensRange i).2 ∧ u = s.putB (F.ACW_SENS_RANGE i) false ∧
    u.sensStale i = false ∧ win = (clampStep raw (u.sensVal i) (sensStep i) :: (s.sens i).win).take 5) ∧
  (∃ (s u : State) (i : Fin 32) (raw : Int), s.pdIsOn 62 = true ∧ s.pow.block ≠ some (0x11, 0xFFFF) ∧
    (i.val = 31 → s.get F.GLB_RESET_CAUSE_SOURCE = 0) ∧ (sensRange i).1 ≤ raw ∧ raw ≤ (sensRange i).2 ∧ u = s.putB (F.ACW_SENS_RANGE i) false ∧
    u.sensStale i = true ∧ (s.sens i).run + 1 < 5) ∧
  (∃ (s u : State) (i : Fin 32) (raw : Int) (win : List Int) (w : State), s.pdIsOn 62 = true ∧ s.pow.block ≠ some (0x11, 0xFFFF) ∧
    (i.val = 31 → s.get F.GLB_RESET_CAUSE_SOURCE = 0) ∧ (sensRange i).1 ≤ raw ∧ raw ≤ (sensRange i).2 ∧ u = s.putB (F.ACW_SENS_RANGE i) false ∧
    u.sensStale i = true ∧ 5 ≤ (s.sens i).run + 1 ∧ win = (raw :: (s.sens i).win).take 5 ∧
    w = ((u.setSens i { win := win }).putB (F.ACW_SENS_STALE i) false).setSensVal i (medianInt win)) ∧
  (∃ (s u : State) (i : Fin 32), s.pdIsOn 62 = true ∧ s.pow.block ≠ some (0x11, 0xFFFF) ∧ (i.val = 31 → s.get F.GLB_RESET_CAUSE_SOURCE = 0) ∧
    s.sensStale i = false ∧ u = ((s.setSens i {}).putB (F.ACW_SENS_STALE i) true).showHot) ∧
  (∃ (s : State) (i : Fin 32), s.pdIsOn 62 = true ∧ s.pow.block ≠ some (0x11, 0xFFFF) ∧ (i.val = 31 → s.get F.GLB_RESET_CAUSE_SOURCE = 0) ∧
    s.alertCond = false ∧ s.acl.alertHalt = false) :=
  ⟨⟨fm, _, 31, 6601, by decide +kernel, by decide +kernel, by decide +kernel, by decide +kernel, rfl⟩,
   ⟨fm.put (F.ACW_SENS_STALE 0) 0, _, 0, 2400, _, by decide +kernel, by decide +kernel, by decide +kernel, by decide +kernel, by decide +kernel, rfl,
     by decide +kernel, rfl⟩,
   ⟨fm.put (F.ACW_SENS_STALE 0) 1, _, 0, -800, by decide +kernel, by decide +kernel, by decide +kernel, by decide +kernel, by decide +kernel, rfl,
     by decide +kernel, by decide +kernel⟩,
   ⟨(fm.put (F.ACW_SENS_STALE 0) 1).setSens 0 { run := 4 }, _, 0, -800, _, _, by decide +kernel, by decide +kernel, by decide +kernel,
     by decide +kernel, by decide +kernel, rfl, by decide +kernel, by decide +kernel, rfl, rfl⟩,
   ⟨fm.put (F.ACW_SENS_STALE 31) 0, _, 31, by decide +kernel, by decide +kernel, by decide +kernel, by decide +kernel, rfl⟩,
   ⟨fm.put F.ACW_ALERT_MASK_MASK 0, 31, by decide +kernel, by decide +kernel, by decide +kernel, by decide +kernel, by decide +kernel⟩⟩

/-- `Obligations.PortEvents`. -/
theorem test_witness_PortEvents :
  (∃ (s u : State) (p : Port) (q : Quiescing) (w : State) (d : List Nat), (s.port p).quiescing = some q ∧ q.waiting = false ∧ s.stage p = stOFF ∧
    s.queuesEmpty p = true ∧ bit (s.get (F.STN_OB_FLUSH_FLUSHING (stnOf p))) (kOf p) = false ∧
    (u = (s.putB (F.STN_PORT_STATUS_QUIESCED (stnOf p) (kOf p)) true).modPort p (fun x => { x with quiescing := none })) ∧
    (w = (if u.pciRole p = 2 then u.modVs (u.vsOf p) (fun x => { x with left := x.left.filter (· != u.devnum p) ++ [u.devnum p] }) else u)) ∧
    d = [p.val, b2n (!q.orderly), w.vsOf p]) ∧
  (∃ (s u : State) (p : Port) (cred tag : B32) (mine : Async → Bool),
    (mine = (fun a => a.cred == cred && a.tag == tag && (a.opcode == 0x0301 || a.opcode == 0x0204))) ∧
    ((s.cmd.asyncs.any fun a => mine a && a.ended == none) = true) ∧
    (u = allPorts.foldl (fun s p => match (s.port p).quiescing with | some q => if q.cred == cred && q.tag == tag && q.waiting then s.modPort p fun x => { x with quiescing := none } else s | none => s) s)) ∧
  (∃ (s : State) (p : Port), (s.port p).slotWrite ≠ none) ∧
  (∃ (s : State) (p : Port) (v : VsId) (ps : List Nat), s.usp v ≠ none ∧ (ps = (s.dsps v).filter (fun p => s.stage p == stACTIVE))) ∧
  (∃ (s : State) (v : VsId), (s.vs v).pmeWait = true ∧ (s.vs v).pme = []) ∧
  (∃ (s : State) (v : VsId) (n : Nat), (s.vs v).pmeWait = true ∧ s.usp v = some n) ∧
  (∃ (s : State) (p : Port) (width : Fin 17), s.stage p = stACTIVE ∧ s.pciRole p ≠ 0 ∧ s.flag (F.STN_PORT_CFG_L0P_EN (stnOf p) (kOf p)) = true ∧
    s.flag (F.STN_PORT_STATUS_FLIT (stnOf p) (kOf p)) = true ∧ 0 < width.val ∧ width.val < s.get (F.STN_PORT_STATUS_WIDTH (stnOf p) (kOf p))) ∧
  (∃ (s : State) (p : Port) (w : Nat), s.queueOver p = true ∧ (s.port p).l0p = true ∧ w = s.get (F.STN_PORT_STATUS_WIDTH (stnOf p) (kOf p))) ∧
  (∃ (s : State) (p : Port) (sub : Fin 3) (pciPm clkreq : Bool), s.pciRole p = 2 ∧ s.stage p = stACTIVE ∧
    (pciPm = true ∨ s.flag (F.STN_PORT_CFG_ASPM_L1_EN (stnOf p) (kOf p)) = true ∧ bit (s.cw p ofLNKCTL) 1 = true) ∧
    (sub = 0 ∨ s.hasSlot p = true ∧ clkreq = true ∧ s.flag (F.STN_PORT_CFG_L1SS_EN (stnOf p) (kOf p)) = true ∧ bit (s.cw p 0x348) (if pciPm then (if sub.val = 1 then 1 else 0) else (if sub.val = 1 then 3 else 2)) = true)) ∧
  (∃ (s u : State) (v : VsId) (n : Nat), s.usp v = some n ∧ (s.vs v).published = false ∧ s.started (stnOf n) = true ∧ s.fabPublished = true ∧
    s.fab.unpub.contains v.val = false ∧
    (u = (s.modVs v fun w => { w with published := true }).putB (F.STN_PORT_STATUS_RRS (stnOf n) (kOf n)) false)) :=
  ⟨⟨portUp.put (stageFld 0) stOFF |>.modPort 0 (fun x => { x with quiescing := some ⟨0, 0, true, false⟩ }), _, 0, ⟨0, 0, true, false⟩, _, _,
     by decide +kernel, by decide +kernel, by decide +kernel, by decide +kernel, by decide +kernel, rfl, rfl, rfl⟩,
   ⟨{ fm with cmd := { fm.cmd with asyncs := [⟨0x00010001, 7, 0x0301, 0, 1, 0, none, none, 0, 0⟩] } }, _, 0, 0x00010001, 7, _, rfl,
     by decide +kernel, rfl⟩,
   ⟨fm.modPort 8 (fun x => { x with slotWrite := some 0 }), 8, by decide +kernel⟩,
   ⟨dspUp, 8, 0, _, by decide +kernel, rfl⟩,
   ⟨fm.modVs 0 (fun w => { w with pmeWait := true }), 0, by decide +kernel, by decide +kernel⟩,
   ⟨ports.modVs 0 (fun w => { w with pmeWait := true, pme := [8] }), 0, _, by decide +kernel, (Option.some_get (by decide +kernel)).symm⟩,
   ⟨puts portUp [(F.STN_PORT_CFG_L0P_EN 0 0, 1), (F.STN_PORT_STATUS_FLIT 0 0, 1), (F.STN_PORT_STATUS_WIDTH 0 0, 16)], 0, 15, by decide +kernel,
     by decide +kernel, by decide +kernel, by decide +kernel, by decide +kernel, by decide +kernel⟩,
   ⟨(fm.modPort 0 (fun x => { x with l0p := true })).modBank 0 fun b => { b with qs := [(0, { cells := List.replicate 5 ⟨0, true⟩ })] }, 0, _,
     by decide +kernel, by decide +kernel, rfl⟩,
   ⟨(dspUp.put (F.STN_PORT_CFG_ASPM_L1_EN 0 8) 1).setCw 8 ofLNKCTL 2, 8, 0, false, true, by decide +kernel, by decide +kernel, by decide +kernel,
     by decide +kernel⟩,
   ⟨puts ports [(F.STN_LANE_STATUS_HELD 0, 0), (F.GLB_PD_STATE_STATE 0, 2), (F.GLB_PD_STATE_STATE 32, 2)], _, 0, _,
     (Option.some_get (by decide +kernel)).symm, by decide +kernel, by decide +kernel, by decide +kernel, by decide +kernel, rfl⟩⟩

/-- `Obligations.ResetEvents`. -/
theorem test_witness_ResetEvents :
  (∃ (s u : State),
    (u = { s with regs := s.regs.filter (fun x => !(decide (0x20 ≤ x.1 ∧ x.1 < 0x38) || x.1 == 0x50)), evs := { s.evs with gasp := [], gaspSeen := 0 }, spc := { s.spc with latched := [] }, pow := { s.pow with baseNs := 0, baseTicks := 0 }, clk := { s.clk with ssZero := s.clk.now } })) ∧
  (∃ (s u : State) (samples : List Nat) (a b c : State), a = (s.trigger 2).spcReset ∧
    b = (State.resetMain { a with pow := { a.pow with stby := true } } false).strapLatch samples ∧
    c = b.put F.GLB_STRAP_STBY_CODE (b.get F.GLB_STRAP_CODE) ∧
    (u = ((List.range 17).filter s.gateOn).foldl (fun s n => s.raiseSlot n 0x9011 1 [0]) (c.spc.latched.foldl (fun s n => s.setSp n spLATCHED) c))) ∧
  (∃ (s u : State) (samples : List Nat), u = { s with pow := { s.pow with supplyLow := false, samples := samples } }) ∧
  (∃ (s u : State), u = (s.trigger 4).resetMain false) ∧
  (∃ (s u : State), s.pow.driving = false ∧ s.pow.running = true ∧ u = ((s.disarmFor 2).trigger 5).resetMain true) ∧
  (∃ (s u : State), u = s.spcReset.resetMain false) ∧
  (∃ (s u : State), s.pow.driving = true ∧ s.pow.running = false ∧ s.pow.supplyLow = false ∧ s.pow.stby = true ∧
    (u = (if s.pow.samples.isEmpty then s else s.strapLatch s.pow.samples))) ∧
  (∃ (s u : State), s.pow.pendingReset = some 0 ∧ u = { s with pow := { s.pow with pendingReset := none } }) ∧
  (∃ (s u : State), s.pow.pendingReset = some 1 ∧ u = { s with pow := { s.pow with pendingReset := none } }) ∧
  (∃ (s u : State) (die : Fin 5) (raw : Int) (a : State),
    a = ((((s.trigger 7).gaspPut 0x8113 5 [die.val, (raw % 65536).toNat]).putB F.GLB_STATUS_THERMTRIP true).putB F.ACW_THERM_STATUS_TRIP true) ∧
    u = State.raise { a with acl := { a.acl with thermtripN := false }, pow := { a.pow with driving := true } } 0x02 0x8113 5 scDev [die.val, (raw % 65536).toNat]) ∧
  (∃ (s u : State) (mv : Nat), s.get F.GLB_RESET_CAUSE_SOURCE = 0 ∧ u = s.putB F.GLB_RESET_CAUSE_VBAK_LOW (decide (mv < 2200))) :=
  ⟨⟨fm, _, rfl⟩,
   ⟨State.reset, _, [0], _, _, _, rfl, rfl, rfl, rfl⟩,
   ⟨fm, _, [0], rfl⟩,
   ⟨fm, _, rfl⟩,
   ⟨{ mainOn with pow := { mainOn.pow with driving := false } }, _, by decide +kernel, by decide +kernel, rfl⟩,
   ⟨mainOn, _, rfl⟩,
   ⟨{ fm with pow := { fm.pow with driving := true, samples := [0] } }, _, by decide +kernel, by decide +kernel, by decide +kernel,
     by decide +kernel, rfl⟩,
   ⟨{ fm with pow := { fm.pow with pendingReset := some 0 } }, _, by decide +kernel, rfl⟩,
   ⟨{ fm with pow := { fm.pow with pendingReset := some 1 } }, _, by decide +kernel, rfl⟩,
   ⟨mainOn, _, 4, 1200, _, rfl, rfl⟩,
   ⟨mainOn, _, 2199, by decide +kernel, rfl⟩⟩

/-- `Obligations.DomainsAndClocks`. -/
theorem test_witness_DomainsAndClocks :
  (∃ (s : State), s.pow.running = false ∧ s.pow.supplyLow = false ∧ s.pow.stby = true ∧
    (s.pow.driving = false ∨ s.flag F.GLB_STATUS_THERMTRIP = true)) ∧
  (∃ (s u : State) (d : Pd), d.val < 62 ∧ s.pow.running = true ∧ s.flag F.GLB_STATUS_THERMTRIP = false ∧ s.flag (F.GLB_PD_STATE_REQ d) = true ∧
    s.pdState d ≠ 2 ∧ s.pdState d ≠ 3 ∧ s.pdReady d = true ∧ u = ((s.put (F.GLB_PD_STATE_STATE d) 2).putB (F.GLB_PD_STATE_ISO d) false).pdInit d) ∧
  (∃ (s u : State) (d : Pd), d.val < 62 ∧ s.flag (F.GLB_PD_STATE_REQ d) = false ∧ s.pdState d ≠ 0 ∧ s.pdState d ≠ 3 ∧
    u = ((s.pdGone d).put (F.GLB_PD_STATE_STATE d) 0).putB (F.GLB_PD_STATE_ISO d) true) ∧
  (∃ (s u : State) (d : Pd) (w : State), d.val < 62 ∧ s.flag (F.GLB_PD_STATE_REQ d) = true ∧ s.pdState d ≠ 2 ∧ s.pdState d ≠ 3 ∧
    u = (((s.put (F.GLB_PD_STATE_STATE d) 3).putB (F.GLB_PD_STATE_ISO d) true).bump (F.GLB_PD_STATE_FAULTS d)).putB (F.GLB_PD_STATE_REQ d) false ∧
    (w = (if d.val < 48 then u.leaveHeld (d.val % 16) else u))) ∧
  (∃ (s u : State) (c k : Nat), s.pow.block = some (c, k) ∧ u = { s with pow := { s.pow with block := none } }) ∧
  (∃ (s : State) (q : Quad) (a b : State), bit (s.get F.GLB_CLK_STATUS_REFCLK_OK) q = true ∧
    a = (s.put F.GLB_CLK_STATUS_REFCLK_OK (setBit (s.get F.GLB_CLK_STATUS_REFCLK_OK) q false)).bump F.GLB_XING_CNT_REFCLK_LOSSES ∧
    (b = { a with pow := { a.pow with lostAt := SMap.set (fun _ => 0) a.pow.lostAt q (a.clk.now + 1) } })) ∧
  (∃ (s u : State) (q : Quad) (was : Nat) (a : State), bit (s.get F.GLB_CLK_STATUS_REFCLK_OK) q = false ∧
    (was = SMap.get (fun _ => 0) s.pow.lostAt q) ∧
    (a = { s.put F.GLB_CLK_STATUS_REFCLK_OK (setBit (s.get F.GLB_CLK_STATUS_REFCLK_OK) q true) with pow := { s.pow with lostAt := SMap.set (fun _ => 0) s.pow.lostAt q 0 } }) ∧
    (u = (if was = 0 then a else a.raise 0x00 0x8021 1 scDev [q.val, s.clk.now + 1 - was, dieMask q]))) ∧
  (∃ (s : State) (q : Quad), s.pow.running = true ∧ bit (s.get F.GLB_CLK_STATUS_REFCLK_OK) q = true ∧
    (s.flag F.GLB_STATUS_CORE_REF_INT = true ∨ bit (s.get F.GLB_CLK_STATUS_REFCLK_OK) (s.get F.GLB_CLK_STATUS_CORE_REF) = false ∧ s.nextRef = some q.val)) ∧
  (∃ (s : State), s.pow.running = true ∧ s.get F.GLB_CLK_STATUS_REFCLK_OK = 0) ∧
  (∃ (s : State) (st : Stn), bit (s.get F.GLB_CLK_STATUS_STN_CLK_RUN) st = false ∧ s.pdIsOn st = true) ∧
  (∃ (s : State) (st : Stn), (∀ p ∈ s.stnPorts st, s.stage p = stOFF ∨ 3 ≤ s.get (F.STN_PORT_STATUS_PM st (kOf p))) ∧
    (∀ x ∈ (s.bank st).qs, x.2.recs = []) ∧ (∀ x ∈ (s.bstn st).queues, x.2 = [])) :=
  ⟨⟨{ fm with pow := { fm.pow with driving := false } }, by decide +kernel, by decide +kernel, by decide +kernel, by decide +kernel⟩,
   ⟨puts mainOn [(F.GLB_PD_STATE_STATE 61, 0), (F.GLB_PD_STATE_REQ 61, 1)], _, 61, by decide +kernel, by decide +kernel, by decide +kernel,
     by decide +kernel, by decide +kernel, by decide +kernel, by decide +kernel, rfl⟩,
   ⟨fmAll, _, 61, by decide +kernel, by decide +kernel, by decide +kernel, by decide +kernel, rfl⟩,
   ⟨puts mainOn [(F.GLB_PD_STATE_STATE 61, 0), (F.GLB_PD_STATE_REQ 61, 1)], _, 61, _, by decide +kernel, by decide +kernel, by decide +kernel,
     by decide +kernel, rfl, rfl⟩,
   ⟨{ fm with pow := { fm.pow with block := some (3, 15) } }, _, 3, 15, by decide +kernel, rfl⟩,
   ⟨fm.put F.GLB_CLK_STATUS_REFCLK_OK 8, 3, _, _, by decide +kernel, rfl, rfl⟩,
   ⟨{ fm.put F.GLB_CLK_STATUS_REFCLK_OK 0 with pow := { fm.pow with lostAt := [(3, 5)] } }, _, 3, _, _, by decide +kernel, rfl, rfl, rfl⟩,
   ⟨puts mainOn [(F.GLB_CLK_STATUS_REFCLK_OK, 8), (F.GLB_STATUS_CORE_REF_INT, 1)], 3, by decide +kernel, by decide +kernel, by decide +kernel⟩,
   ⟨mainOn.put F.GLB_CLK_STATUS_REFCLK_OK 0, by decide +kernel, by decide +kernel⟩,
   ⟨fmAll.put F.GLB_CLK_STATUS_STN_CLK_RUN 0, 15, by decide +kernel, by decide +kernel⟩,
   ⟨fm, 15, by decide +kernel, by decide +kernel, by decide +kernel⟩⟩

/-- `Obligations.SeamFlits`. -/
theorem test_witness_SeamFlits :
  (∃ (s u : State) (st : Stn) (h : FlitHdr) (d : Nat), s.seamLive st = true ∧ (flitRead h.flips).ok = true ∧
    u = (s.takeFixes st (flitRead h.flips).fixed).takeHdr st h ∧ d = (h.seq + 4096 - u.get (F.STN_SEAM_RXSEQ_EXPECTED st)) % 4096) ∧
  (∃ (s u : State) (st : Stn) (h : FlitHdr) (d : Nat), s.seamLive st = true ∧ (flitRead h.flips).ok = true ∧
    u = (s.takeFixes st (flitRead h.flips).fixed).takeHdr st h ∧ d = (h.seq + 4096 - u.get (F.STN_SEAM_RXSEQ_EXPECTED st)) % 4096) ∧
  (∃ (s u : State) (st : Stn) (h : FlitHdr), s.seamLive st = true ∧ (flitRead h.flips).ok = true ∧
    u = ((s.takeFixes st (flitRead h.flips).fixed).takeHdr st h).lostTail st h.seq) ∧
  (∃ (s u : State) (st : Stn) (h : FlitHdr) (v : State), s.seamLive st = true ∧ (flitRead h.flips).ok = false ∧
    u = s.takeFixes st (flitRead h.flips).fixed ∧ v = ((u.bump (F.STN_SEAM_CNT_RX_BAD_FLITS st)).count st 0x0D 16 0 0 1).sendNak st) ∧
  (∃ (s u : State) (st : Stn), s.seamLive st = true ∧ (s.seam st).store ≠ [] ∧ (s.seam st).replayFrom = none ∧
    (u = s.put (F.STN_SEAM_TXSEQ_REPLAY_CNT st) (s.get (F.STN_SEAM_TXSEQ_REPLAY_CNT st) + (if (s.seam st).subTx.isSome then 0 else 1)))) ∧
  (∃ (s : State) (st : Stn), s.seamLive st = true ∧ (s.seam st).store ≠ [] ∧ (s.seam st).replayFrom ≠ none) ∧
  (∃ (s u : State) (st : Stn) (k : Nat) (v : State), s.seamLive st = true ∧ (s.seam st).replayFrom = some k ∧
    (v = ((s.seam st).store.filter fun f => decide ((f.seq + 4096 - k) % 4096 < 2048)).foldl (fun s f => s.flitOut st f) s) ∧
    (u = (v.modSeam st fun y => { y with replayFrom := none, expiryWaits := false }).putB (F.STN_SEAM_STATUS_REPLAYING st) false)) ∧
  (∃ (s u : State) (st : Stn) (ms : List SentMsg), s.seamLive st = true ∧ ms = (s.seam st).msgs ∧ ms ≠ [] ∧ (∀ m ∈ ms, m.sends < 8) ∧
    (u = (s.bumpN (F.STN_SEAM_CNT_MISC_BYP_RETX st) ms.length).modSeam st (fun x => { x with msgs := x.msgs.map fun m => { m with sends := m.sends + 1 } }))) ∧
  (∃ (s : State) (st : Stn), s.seamLive st = true ∧ (∃ m ∈ (s.seam st).msgs, 8 ≤ m.sends)) ∧
  (∃ (s u : State) (st : Stn) (c : Fin 4) (phys : ReadPhys) (cuts : List (Fin 57)) (n : Nat) (r0 r k : Rec) (b : Bytes) (parts : List Bytes) (x : State × HeadRead) (mark : Bool),
    s.seamLive st = true ∧ s.seamTurn st = some c.val ∧ s.seamHead st c = some r0 ∧ r = r0.onSeam ∧ b = recStream (s.carriage st c r) r.tlp ∧
    parts = startParts r.committed cuts b ∧ parts.flatten.length < b.length ∧ (s.seam st).store.length + parts.length + seamFlits r.rlen ≤ 1536 ∧
    x = s.readHead st (58 + c.val) phys ∧ n = seamUnits r.rlen ∧ k = x.1.headOf st (58 + c.val) r0 ∧
    mark = (!(phys.sound && tagFits k.onSeam.btag k.onSeam.tlp)) ∧
    (u = (x.1.takeUnits st c n).bumpN (F.STN_SEAM_SHORT_SHORT_FLITS st) (parts.filter fun y => decide (y.length < 228)).length) ∧ x.2.early = true) ∧
  (∃ (s u : State) (st : Stn) (c : Fin 4) (phys : ReadPhys) (cuts : List (Fin 57)) (n : Nat) (r0 r k : Rec) (b : Bytes) (parts : List Bytes) (x : State × HeadRead) (mark : Bool),
    s.seamLive st = true ∧ s.seamTurn st = some c.val ∧ s.seamHead st c = some r0 ∧ r = r0.onSeam ∧ b = recStream (s.carriage st c r) r.tlp ∧
    parts = startParts r.committed cuts b ∧ parts.flatten.length < b.length ∧ (s.seam st).store.length + parts.length + seamFlits r.rlen ≤ 1536 ∧
    x = s.readHead st (58 + c.val) phys ∧ n = seamUnits r.rlen ∧ k = x.1.headOf st (58 + c.val) r0 ∧
    mark = (!(phys.sound && tagFits k.onSeam.btag k.onSeam.tlp)) ∧
    (u = (x.1.takeUnits st c n).bumpN (F.STN_SEAM_SHORT_SHORT_FLITS st) (parts.filter fun y => decide (y.length < 228)).length) ∧ x.2.early = false ∧
    x.2.lost = true) ∧
  (∃ (s u : State) (st : Stn) (c : Fin 4) (phys : ReadPhys) (cuts : List (Fin 57)) (n : Nat) (r0 r k : Rec) (b : Bytes) (parts : List Bytes) (x : State × HeadRead) (mark : Bool),
    s.seamLive st = true ∧ s.seamTurn st = some c.val ∧ s.seamHead st c = some r0 ∧ r = r0.onSeam ∧ b = recStream (s.carriage st c r) r.tlp ∧
    parts = startParts r.committed cuts b ∧ parts.flatten.length < b.length ∧ (s.seam st).store.length + parts.length + seamFlits r.rlen ≤ 1536 ∧
    x = s.readHead st (58 + c.val) phys ∧ n = seamUnits r.rlen ∧ k = x.1.headOf st (58 + c.val) r0 ∧
    mark = (!(phys.sound && tagFits k.onSeam.btag k.onSeam.tlp)) ∧
    (u = (x.1.takeUnits st c n).bumpN (F.STN_SEAM_SHORT_SHORT_FLITS st) (parts.filter fun y => decide (y.length < 228)).length) ∧ x.2.early = false ∧
    x.2.lost = false ∧ r.committed = true) ∧
  (∃ (s u : State) (st : Stn) (c : Fin 4) (phys : ReadPhys) (cuts : List (Fin 57)) (n : Nat) (r0 r k : Rec) (b : Bytes) (parts : List Bytes) (x : State × HeadRead) (mark : Bool) (w : State),
    s.seamLive st = true ∧ s.seamTurn st = some c.val ∧ s.seamHead st c = some r0 ∧ r = r0.onSeam ∧ b = recStream (s.carriage st c r) r.tlp ∧
    parts = startParts r.committed cuts b ∧ parts.flatten.length < b.length ∧ (s.seam st).store.length + parts.length + seamFlits r.rlen ≤ 1536 ∧
    x = s.readHead st (58 + c.val) phys ∧ n = seamUnits r.rlen ∧ k = x.1.headOf st (58 + c.val) r0 ∧
    mark = (!(phys.sound && tagFits k.onSeam.btag k.onSeam.tlp)) ∧
    (u = (x.1.takeUnits st c n).bumpN (F.STN_SEAM_SHORT_SHORT_FLITS st) (parts.filter fun y => decide (y.length < 228)).length) ∧ x.2.early = false ∧
    x.2.lost = false ∧ r.committed = false ∧
    (w = u.modBank st (fun b => b.setQ (58 + c.val) { b.q (58 + c.val) with recs := (b.q (58 + c.val)).recs.set 0 { k with marked := mark } }))) ∧
  (∃ (s u : State) (st : Stn) (t : TxOpen), s.seamLive st = true ∧ (s.seam st).txOpen = some t ∧
    ((((s.bank st).q (58 + t.cls)).recs.head?).map Rec.committed).getD false = false ∧
    (u = (((s.modSeam st fun x => { x with txOpen := none }).pushFlits st t.cls 0 none true (chunks 12 (List.replicate t.left 0))).bump (F.STN_SEAM_CNT_MARK_MARKED_TX st)))) :=
  ⟨⟨live, _, 0, flit0, _, by decide +kernel, by decide +kernel, rfl, rfl⟩,
   ⟨live, _, 0, flit0, _, by decide +kernel, by decide +kernel, rfl, rfl⟩,
   ⟨live, _, 0, flit0, by decide +kernel, by decide +kernel, rfl⟩,
   ⟨live, _, 0, { flit0 with flips := [(0, 1), (3, 1)] }, _, by decide +kernel, by decide +kernel, rfl, rfl⟩,
   ⟨sl (fun x => { x with store := [⟨0, 0, 1, none, [1, 0, 0, 0], [], false⟩] }), _, 0, by decide +kernel, by decide +kernel, by decide +kernel,
     rfl⟩,
   ⟨sl (fun x => { x with store := [⟨0, 0, 1, none, [1, 0, 0, 0], [], false⟩], replayFrom := some 0 }), 0, by decide +kernel, by decide +kernel,
     by decide +kernel⟩,
   ⟨sl (fun x => { x with replayFrom := some 0 }), _, 0, 0, _, by decide +kernel, by decide +kernel, rfl, rfl⟩,
   ⟨sl (fun x => { x with msgs := [⟨0, .spareReq 15, 7⟩] }), _, 0, _, by decide +kernel, rfl, by decide +kernel, by decide +kernel, rfl⟩,
   ⟨sl (fun x => { x with msgs := [⟨0, .spareReq 15, 8⟩] }), 0, by decide +kernel, by decide +kernel⟩,
   ⟨(sl (fun x => { x with pOnoff := true })).modBank 0 (fun b => { b with qs := [(58, { recs := [{ rec0 with rlen := 300, committed := true }] })] }),
     _, 0, 0, { phys0 with lines := [⟨0, [(0, 1), (4, 2), (8, 4)]⟩] }, [], _, { rec0 with rlen := 300, committed := true }, _, _, _, _, _, _,
     by decide +kernel, by decide +kernel, by decide +kernel, rfl, rfl, rfl, by decide +kernel, by decide +kernel, rfl, rfl, rfl, rfl, rfl,
     by decide +kernel⟩,
   ⟨(sl (fun x => { x with pOnoff := true })).modBank 0 (fun b => { b with qs := [(58, { recs := [{ rec0 with rlen := 300, committed := true }] })] }),
     _, 0, 0, { phys0 with lines := [⟨1, [(0, 1), (4, 2), (8, 4)]⟩] }, [], _, { rec0 with rlen := 300, committed := true }, _, _, _, _, _, _,
     by decide +kernel, by decide +kernel, by decide +kernel, rfl, rfl, rfl, by decide +kernel, by decide +kernel, rfl, rfl, rfl, rfl, rfl,
     by decide +kernel, by decide +kernel⟩,
   ⟨(sl (fun x => { x with pOnoff := true })).modBank 0 (fun b => { b with qs := [(58, { recs := [{ rec0 with rlen := 12, committed := true }] })] }),
     _, 0, 0, { phys0 with lines := [] }, [], _, { rec0 with rlen := 12, committed := true }, _, _, _, _, _, _, by decide +kernel, by decide +kernel,
     by decide +kernel, rfl, rfl, rfl, by decide +kernel, by decide +kernel, rfl, rfl, rfl, rfl, rfl, by decide +kernel, by decide +kernel,
     by decide +kernel⟩,
   ⟨(sl (fun x => { x with pOnoff := true })).modBank 0 (fun b => { b with qs := [(58, { recs := [{ rec0 with rlen := 12, committed := false }] })] }),
     _, 0, 0, { phys0 with lines := [] }, [], _, { rec0 with rlen := 12, committed := false }, _, _, _, _, _, _, _, by decide +kernel,
     by decide +kernel, by decide +kernel, rfl, rfl, rfl, by decide +kernel, by decide +kernel, rfl, rfl, rfl, rfl, rfl, by decide +kernel,
     by decide +kernel, by decide +kernel, rfl⟩,
   ⟨((sl (fun x => { x with pOnoff := true })).modBank 0 (fun b => { b with qs := [(58, { recs := [{ rec0 with rlen := 12, committed := false }] })] })).modSeam 0 (fun x => { x with txOpen := some ⟨0, 24⟩ }),
     _, 0, ⟨0, 24⟩, by decide +kernel, by decide +kernel, by decide +kernel, rfl⟩⟩

/-- `Obligations.SeamTimers`. -/
theorem test_witness_SeamTimers :
  (∃ (s : State) (st : Stn), s.seamLive st = true ∧ (s.seam st).pOnoff = false) ∧
  (∃ (s : State) (st : Stn), s.seamLive st = true ∧ s.get (F.STN_SEAM_STATUS_FC st) = 2 ∧ s.flag (F.STN_SEAM_STATUS_FC_HELD st) = false ∧
    s.flag (F.STN_SEAM_CFG_FC_MODE st) = false) ∧
  (∃ (s : State) (st : Stn), s.seamLive st = true ∧ s.get (F.STN_SEAM_STATUS_FC st) = 3) ∧
  (∃ (s u : State) (st : Stn) (lane : Lane) (lock : Bool) (cur : Option Nat) (v : State), s.seamLive st = true ∧
    (cur = (match (s.seam st).subRx with | some (f, _) => some f | none => if s.flag (F.STN_SEAM_STATUS_RX_SUB st) then some (s.get (F.STN_SEAM_STATUS_RX_SUB_LANE st)) else none)) ∧
    cur ≠ some lane.val ∧ (lane.val = 16 → cur ≠ none) ∧ (lock = true ∨ s.manyFixes st (if lane.val = 16 then cur.getD 16 else lane.val) = true) ∧
    u = s.raise (srcStn st) 0x5020 2 (scPort (9 * st.val)) [0, lane.val, b2n (!lock)] ∧
    v = (u.prbsStop st 16 true).put (F.STN_LN_STATUS_SPARE_ROLE st 16) 2) ∧
  (∃ (s u : State) (st : Stn) (f t : Nat), s.seamLive st = true ∧ (s.seam st).subRx = some (f, t) ∧
    (u = (((s.putB (F.STN_SEAM_STATUS_RX_SUB st) true).put (F.STN_SEAM_STATUS_RX_SUB_LANE st) f).bump (F.STN_SEAM_CNT_MISC_SUBST st)).modSeam st (fun x => { x with subRx := none }))) ∧
  (∃ (s : State) (st : Stn), s.seamLive st = true ∧ (s.seam st).subRx = none) ∧
  (∃ (s : State) (st : Stn), s.seamLive st = true ∧ s.get F.FAB_TIME_STAT_PARENT = st.val ∧ s.timePaused st = false) ∧
  (∃ (s u : State) (st : Stn), s.seamLive st = true ∧ s.get F.FAB_TIME_STAT_SYNC = 2 ∧ u = { s with fab := { s.fab with small := 0, large := 0 } }) :=
  ⟨⟨live, 0, by decide +kernel, by decide +kernel⟩,
   ⟨live.put (F.STN_SEAM_STATUS_FC 0) 2 |>.put (F.STN_SEAM_STATUS_FC_HELD 0) 0 |>.put (F.STN_SEAM_CFG_FC_MODE 0) 0, 0, by decide +kernel,
     by decide +kernel, by decide +kernel, by decide +kernel⟩,
   ⟨live.put (F.STN_SEAM_STATUS_FC 0) 3, 0, by decide +kernel, by decide +kernel⟩,
   ⟨live.put (F.STN_LN_STATUS_SPARE_ROLE 0 16) 1, _, 0, 15, true, _, _, by decide +kernel, rfl, by decide +kernel, by decide +kernel, .inl rfl, rfl,
     rfl⟩,
   ⟨sl (fun x => { x with subRx := some (15, 0) }), _, 0, 15, 0, by decide +kernel, by decide +kernel, rfl⟩,
   ⟨live, 0, by decide +kernel, by decide +kernel⟩,
   ⟨live.put F.FAB_TIME_STAT_PARENT 0, 0, by decide +kernel, by decide +kernel, by decide +kernel⟩,
   ⟨live.put F.FAB_TIME_STAT_SYNC 2, _, 0, by decide +kernel, by decide +kernel, rfl⟩⟩

/-- `Obligations.SeamMessages`. -/
theorem test_witness_SeamMessages :
  (∃ (s u : State) (st : Stn) (lane : Fin 16), s.seamLive st = true ∧ s.flag (F.STN_SEAM_STATUS_TX_SUB st) = false ∧
    u = ((s.putB (F.STN_SEAM_STATUS_TX_SUB st) true).put (F.STN_SEAM_STATUS_TX_SUB_LANE st) lane).bump (F.STN_SEAM_CNT_MISC_SUBST st)) ∧
  (∃ (s : State) (st : Stn), s.seamLive st = true ∧ s.flag (F.STN_SEAM_STATUS_TX_SUB st) = true) ∧
  (∃ (s u : State) (st : Stn) (lane : Fin 16), s.seamLive st = true ∧ (s.seam st).subTx = some lane.val ∧
    (u = s.modSeam st (fun x => { x with subTx := none }))) ∧
  (∃ (s : State) (st : Stn) (q : Fin 4096) (d : Nat), s.seamLive st = true ∧
    d = (q.val + 4096 - (s.get (F.STN_SEAM_RXSEQ_EXPECTED st) + 4095) % 4096) % 4096 ∧ d = 0) ∧
  (∃ (s : State) (st : Stn) (q : Fin 4096) (d : Nat), s.seamLive st = true ∧
    d = (q.val + 4096 - (s.get (F.STN_SEAM_RXSEQ_EXPECTED st) + 4095) % 4096) % 4096 ∧ 1 ≤ d ∧ d < 1536) ∧
  (∃ (s : State) (st : Stn) (q : Fin 4096) (d : Nat), s.seamLive st = true ∧
    d = (q.val + 4096 - (s.get (F.STN_SEAM_RXSEQ_EXPECTED st) + 4095) % 4096) % 4096 ∧ 1536 ≤ d) ∧
  (∃ (s : State) (st : Stn), s.seamLive st = true ∧ s.get (F.STN_SEAM_STATUS_FC st) = 3) ∧
  (∃ (s u : State) (st : Stn) (r : Fin 4096) (rx freed at_ : List Nat), s.seamLive st = true ∧
    (at_ = (((s.seam st).store.find? fun f => f.seq == r.val).map SentFlit.cons).getD (s.seam st).relCons) ∧
    (u = s.modSeam st (fun y => { y with cons := [0, 1, 2, 3].foldl (fun m c => SMap.set (fun _ => 0) m c ((rx.getD c 0 + s.seamCons st c + 65536 - at_.getD c 0) % 65536)) y.cons, freed := [0, 1, 2, 3].foldl (fun m c => SMap.set (fun _ => 0) m c (freed.getD c 0 % 65536)) y.freed }))) ∧
  (∃ (s u : State) (st : Stn) (stamp hold rtt tr : Nat), s.seamLive st = true ∧ rtt = (s.stamp + 2 ^ 32 - stamp % 2 ^ 32) % 2 ^ 32 - hold ∧
    u = s.put (F.STN_SEAM_RTT_RTT_LAST st) (min 2047 rtt) ∧ tr = u.get (F.STN_SEAM_RTT_RTT_TRAIN st)) ∧
  (∃ (s u : State) (st : Stn) (t1 t2 t3 t4 sync small large : Nat) (off : Int) (a b : State), s.seamLive st = true ∧
    s.get F.FAB_TIME_STAT_PARENT = st.val ∧ s.get F.FAB_TIME_STAT_SYNC ≠ 3 ∧ off = (((t2 : Int) - t1) - ((t4 : Int) - t3)) / 2 ∧
    (sync = (if s.get F.FAB_TIME_STAT_SYNC = 0 then 1 else s.get F.FAB_TIME_STAT_SYNC)) ∧
    a = (s.put F.FAB_TIME_STAT_SYNC sync).put F.FAB_TIME_STAT_OFFSET (off % 65536).toNat ∧
    (b = (if sync = 1 ∧ 4000 < off then { a with clk := { a.clk with fab := a.clk.fab + BitVec.ofNat 64 (off / 4).toNat }, fab := { a.fab with slew := 0 } } else { a with fab := { a.fab with slew := off } })) ∧
    (small = (if off.natAbs ≤ 20 then s.fab.small + 1 else 0)) ∧ (large = (if 40 < off.natAbs then s.fab.large + 1 else 0)) ∧
    u = { b with fab := { b.fab with small := small, large := large } }) :=
  ⟨⟨live, _, 0, 15, by decide +kernel, by decide +kernel, rfl⟩,
   ⟨live.put (F.STN_SEAM_STATUS_TX_SUB 0) 1, 0, by decide +kernel, by decide +kernel⟩,
   ⟨sl (fun x => { x with subTx := some 15 }), _, 0, 15, by decide +kernel, by decide +kernel, rfl⟩,
   ⟨live, 0, 4095, _, by decide +kernel, rfl, rfl⟩,
   ⟨live, 0, 0, _, by decide +kernel, rfl, by decide +kernel, by decide +kernel⟩,
   ⟨live, 0, 2000, _, by decide +kernel, rfl, by decide +kernel⟩,
   ⟨live.put (F.STN_SEAM_STATUS_FC 0) 3, 0, by decide +kernel, by decide +kernel⟩,
   ⟨live, _, 0, 4095, [0, 0, 0, 0], [0, 0, 0, 0], _, by decide +kernel, rfl, rfl⟩,
   ⟨{ live with clk := { live.clk with now := 0 } }, _, 0, 0, 0, _, _, by decide +kernel, rfl, rfl, rfl⟩,
   ⟨live.put F.FAB_TIME_STAT_PARENT 0 |>.put F.FAB_TIME_STAT_SYNC 2, _, 0, 100, 180, 180, 180, _, _, _, _, _, _, by decide +kernel,
     by decide +kernel, by decide +kernel, rfl, rfl, rfl, rfl, rfl, rfl, rfl⟩⟩

/-- `Obligations.Doorbells`. -/
theorem test_witness_Doorbells :
  (∃ (s : State) (v : VsId) (n : Panel) (val : B16), (s.vs v).f1.responds = true ∧ s.panelVs n = some v.val ∧ val.toNat < s.sqSize n) ∧
  (∃ (s : State) (v : VsId) (n : Panel) (val : B16), (s.vs v).f1.responds = true ∧ s.panelVs n = some v.val ∧ s.sqSize n ≤ val.toNat) ∧
  (∃ (s : State) (v : VsId) (n : Panel) (val : B16) (step avail : Nat), (s.vs v).f1.responds = true ∧ s.panelVs n = some v.val ∧
    step = (val.toNat + s.cqSize n - (s.pnl n).cqHead) % s.cqSize n ∧ avail = ((s.pnl n).cqTail + s.cqSize n - (s.pnl n).cqHead) % s.cqSize n ∧
    val.toNat < s.cqSize n ∧ 1 ≤ step ∧ step ≤ avail) ∧
  (∃ (s : State) (v : VsId) (n : Panel) (val : B16) (step avail : Nat), (s.vs v).f1.responds = true ∧ s.panelVs n = some v.val ∧
    step = (val.toNat + s.cqSize n - (s.pnl n).cqHead) % s.cqSize n ∧ avail = ((s.pnl n).cqTail + s.cqSize n - (s.pnl n).cqHead) % s.cqSize n ∧
    (s.cqSize n ≤ val.toNat ∨ step = 0 ∨ avail < step)) ∧
  (∃ (s : State) (v : VsId) (n : Panel) (k : Nat), (s.vs v).f1.responds = true ∧ s.panelVs n = some v.val ∧ s.pState n = pHalted ∧
    k = s.get (F.SHT_PNL_STATE_LAST_STATUS n)) ∧
  (∃ (s u : State) (v : VsId) (n : Panel) (word : B32) (mine : Ev → Bool) (d : List Nat), (s.vs v).f1.responds = true ∧ s.panelVs n = some v.val ∧
    word.getLsbD 31 = !(s.pnl n).tmsg.getLsbD 31 ∧ (u = s.modPnl n (fun x => { x with tmsg := word })) ∧
    (mine = (fun e => e.code == 0x6005 && e.scope == scPanel n)) ∧ d = [n.val, v.val, word.toNat] ∧ (∀ e ∈ (u.ram 0x07).held, mine e = false)) ∧
  (∃ (s u : State) (v : VsId) (n : Panel) (word : B32) (mine : Ev → Bool) (d : List Nat) (r : EvRam), (s.vs v).f1.responds = true ∧
    s.panelVs n = some v.val ∧ word.getLsbD 31 = !(s.pnl n).tmsg.getLsbD 31 ∧ (u = s.modPnl n (fun x => { x with tmsg := word })) ∧
    (mine = (fun e => e.code == 0x6005 && e.scope == scPanel n)) ∧ d = [n.val, v.val, word.toNat] ∧ (∃ e ∈ (u.ram 0x07).held, mine e = true) ∧
    (r = { u.ram 0x07 with held := (u.ram 0x07).held.map (fun e => if mine e then { e with detail := d } else e) })) ∧
  (∃ (s : State) (v : VsId) (n : Panel) (word : B32), (s.vs v).f1.responds = true ∧ s.panelVs n = some v.val ∧
    word.getLsbD 31 = (s.pnl n).tmsg.getLsbD 31) ∧
  (∃ (s : State) (v : VsId) (n : Panel) (w : VsId), (s.vs v).f1.responds = true ∧ s.panelVs n = some v.val ∧ w ≠ v) :=
  ⟨⟨bound, 0, 4095, 65535, by decide +kernel, by decide +kernel, by decide +kernel⟩,
   ⟨bound.put (F.SHT_PNL_RING_SQ_ORDER 4095) 4, 0, 4095, 65535, by decide +kernel, by decide +kernel, by decide +kernel⟩,
   ⟨bound.modPnl 4095 (fun x => { x with cqTail := 15 }), 0, 4095, 15, _, _, by decide +kernel, by decide +kernel, rfl, rfl, by decide +kernel,
     by decide +kernel, by decide +kernel⟩,
   ⟨bound, 0, 4095, 15, _, _, by decide +kernel, by decide +kernel, rfl, rfl, by decide +kernel⟩,
   ⟨bound.put (F.SHT_PNL_STATE_STATE 4095) pHalted, 0, 4095, _, by decide +kernel, by decide +kernel, by decide +kernel, rfl⟩,
   ⟨bound, _, 0, 4095, 0x80000000, _, _, by decide +kernel, by decide +kernel, by decide +kernel, rfl, rfl, rfl, by decide +kernel⟩,
   ⟨{ bound with evs := { bound.evs with ram := [(7, { held := [{ ev0 with code := 0x6005, scope := scPanel 4095 }] })] } }, _, 0, 4095, 0x80000000,
     _, _, _, by decide +kernel, by decide +kernel, by decide +kernel, rfl, rfl, rfl, by decide +kernel, rfl⟩,
   ⟨bound, 0, 4095, 0, by decide +kernel, by decide +kernel, by decide +kernel⟩,
   ⟨bound, 0, 4095, 31, by decide +kernel, by decide +kernel, by decide +kernel⟩⟩

/-- `Obligations.MoverEvents`. -/
theorem test_witness_MoverEvents :
  (∃ (s u : State) (m : Mover) (n : Nat) (a b : State), (s.mover m).panel = none ∧
    ((match s.readyPanels.find? fun n => decide (s.sht.last < n) with | some n => some n | none => s.readyPanels.head?) = some n) ∧
    (a = s.modMover m (fun x => { x with panel := some n, left := (s.get (F.SHT_PNL_RING_WEIGHT_M1 n) + 1) * 65536 })) ∧
    (b = State.modThm { a with sht := { a.sht with last := n } } (256 + m.val) (fun x => { x with regions := [[BitVec.ofNat 32 (768 * n), BitVec.ofNat 32 (768 * n + 767), 3, 0]] })) ∧
    u = (b.putB (F.SHT_MV_STAT_BUSY m) true).put (F.SHT_MV_STAT_PANEL m) n) ∧
  (∃ (s : State) (m : Mover) (n : Nat), (s.mover m).panel = some n ∧ s.liveReads n = [] ∧ (s.pnl n).rd = (s.pnl n).wr ∧
    (∀ d, (s.pnl n).cur = some d → atChunk d (s.pnl n).wr = true ∨ (s.pnl n).wr = 0 ∨ (s.pnl n).wr = (s.pnl n).done) ∧
    ((s.mover m).left = 0 ∨ s.pState n ≠ pRunning ∨ (s.pnl n).cur = none ∧ ((s.pnl n).fetched = [] ∨ s.cqFull n = true))) ∧
  (∃ (s u : State) (p : Panel) (fixed : Nat) (upset : Option (Bool × Nat)) (held idx : Nat),
    (u = (match upset with | some x => (s.bumpN F.SHT_CTX_ECC_CORR fixed).panelInternal p x.1 x.2 | none => s.bumpN F.SHT_CTX_ECC_CORR fixed)) ∧
    (held = (u.pnl p).fetched.length + (if (u.pnl p).cur.isSome then 1 else 0)) ∧ idx = (u.sqHead p + held) % u.sqSize p ∧
    (u.pState p ≠ pRunning ∨ u.shtMaster (u.pVs p) = false ∨ 4 ≤ (u.pnl p).fetched.length ∨ ((u.pnl p).sqTail + u.sqSize p - u.sqHead p) % u.sqSize p ≤ held)) ∧
  (∃ (s u : State) (p : Panel) (fixed : Nat) (upset : Option (Bool × Nat)) (held idx : Nat),
    (u = (match upset with | some x => (s.bumpN F.SHT_CTX_ECC_CORR fixed).panelInternal p x.1 x.2 | none => s.bumpN F.SHT_CTX_ECC_CORR fixed)) ∧
    (held = (u.pnl p).fetched.length + (if (u.pnl p).cur.isSome then 1 else 0)) ∧ idx = (u.sqHead p + held) % u.sqSize p ∧ u.pState p = pRunning ∧
    u.shtMaster (u.pVs p) = true ∧ (u.pnl p).fetched.length < 4 ∧ held < ((u.pnl p).sqTail + u.sqSize p - u.sqHead p) % u.sqSize p) ∧
  (∃ (s : State) (m : Mover) (n : Nat) (d : Bytes) (hit : Option OldGrant), (s.mover m).panel = some n ∧ (s.pnl n).cur = some d ∧
    s.shtMaster (s.pVs n) = true ∧ (s.pnl n).ending = none ∧ (s.pnl n).rd < dMoves d ∧
    (s.pState n = pRunning ∨ s.pState n = pQuiescing ∨ s.pState n = pFreezing) ∧
    (hit = (if atChunk d (s.pnl n).rd = true ∨ (s.pnl n).rd = (s.pnl n).done ∧ (s.pnl n).rd = 0 then grantHit d (s.pnl n).revoked else none))) ∧
  (∃ (s u : State) (m : Mover) (tag : Nat) (r : ShRead) (bs : Bytes), (((s.mover m).reads.find? fun r => r.tag == tag && r.data.isNone) = some r) ∧
    r.dead = false ∧ (u = s.modMover m (fun y => { y with reads := y.reads.map fun q => if q.tag = tag then { q with data := some bs } else q }))) ∧
  (∃ (s : State) (m : Mover) (tag : Nat) (r : ShRead), (((s.mover m).reads.find? fun r => r.tag == tag && r.data.isNone) = some r) ∧ r.dead = true) ∧
  (∃ (s u : State) (p : Panel), (s.pnl p).flushing = true ∧ (u = s.modPnl p (fun x => { x with flushing := false })) ∧ u.pState p ≠ pResetting) ∧
  (∃ (s u : State) (p : Panel), (s.pnl p).flushing = true ∧ (u = s.modPnl p (fun x => { x with flushing := false })) ∧ u.pState p = pResetting) ∧
  (∃ (s : State) (p : Panel), (s.pnl p).owedMsg = true) :=
  ⟨⟨(bound.put (F.SHT_PNL_STATE_STATE 4095) pRunning).modPnl 4095 (fun x => { x with cur := some descr }), _, 3, 4095, _, _, by decide +kernel,
     by decide +kernel, rfl, rfl, rfl⟩,
   ⟨moving (fun x => x), 0, 0, by decide +kernel, by decide +kernel, by decide +kernel,
     fun d h => absurd (h.symm.trans (show ((moving fun x => x).pnl 0).cur = none by decide +kernel)) (by simp), by decide +kernel⟩,
   ⟨bound, _, 4095, 0, none, _, _, rfl, rfl, rfl, by decide +kernel⟩,
   ⟨(bound.put (F.SHT_PNL_STATE_STATE 4095) pRunning).modPnl 4095 (fun x => { x with sqTail := 1 }), _, 4095, 0, none, _, _, rfl, rfl, rfl,
     by decide +kernel, by decide +kernel, by decide +kernel, by decide +kernel⟩,
   ⟨moving (fun x => { x with cur := some descr }), 0, 0, descr, _, by decide +kernel, by decide +kernel, by decide +kernel, by decide +kernel,
     by decide +kernel, by decide +kernel, rfl⟩,
   ⟨fm.modMover 3 (fun y => { y with reads := [rd0] }), _, 3, 255, rd0, [1], by decide +kernel, by decide +kernel, rfl⟩,
   ⟨fm.modMover 3 (fun y => { y with reads := [{ rd0 with dead := true }] }), 3, 255, { rd0 with dead := true }, by decide +kernel,
     by decide +kernel⟩,
   ⟨fm.modPnl 4095 (fun x => { x with flushing := true }), _, 4095, by decide +kernel, rfl, by decide +kernel⟩,
   ⟨(fm.put (F.SHT_PNL_STATE_STATE 4095) pResetting).modPnl 4095 (fun x => { x with flushing := true }), _, 4095, by decide +kernel, rfl,
     by decide +kernel⟩,
   ⟨fm.modPnl 4095 (fun x => { x with owedMsg := true }), 4095, by decide +kernel⟩⟩

/-- `Obligations.PanelEvents`. -/
theorem test_witness_PanelEvents :
  (∃ (s u : State) (n : Panel) (v : VsId) (page phys : B64) (read write w : Bool) (e : AtsEnt),
    (((s.pnl n).atsWait.find? fun x => x.1 == page.toNat / 4096) = some (page.toNat / 4096, w)) ∧ ((if w then write else read) = true) ∧
    (u = s.modPnl n (fun x => { x with atsWait := x.atsWait.filter fun y => y.1 != page.toNat / 4096 })) ∧
    e = { v := u.pVs n, pasid := u.pPasid n, page := page.toNat / 4096, read := read, write := write, phys := phys.toNat / 4096 * 4096 }) ∧
  (∃ (v : VsId) (page : B64) (pasid : Option Nat) (pages : Nat) (hit : Nat × Nat × Nat → Bool),
    (hit = (fun w => w.1 == v.val && (pasid.isNone || pasid == some w.2.1) && decide (page.toNat / 4096 ≤ w.2.2) && decide (w.2.2 < page.toNat / 4096 + pages)))) ∧
  (∃ (s : State) (v : VsId) (itag : Nat) (i : Nat × Nat × List (Nat × Nat)), ((s.sht.inv.find? fun i => i.1 == v.val && i.2.1 == itag) = some i) ∧
    (∀ x ∈ i.2.2, ∀ r ∈ (s.mover x.1).reads, r.tag ≠ x.2)) ∧
  (∃ (s : State) (n : Panel), s.pState n = pFreezing ∧ s.shtMaster (s.pVs n) = true ∧ (s.pnl n).flushOwed = true) ∧
  (∃ (s u : State) (n : Panel) (x : PanelSt), x = s.pnl n ∧ s.pState n = pFreezing ∧ s.shtMaster (s.pVs n) = true ∧ x.flushOwed = false ∧
    s.anyRead n = false ∧ x.flushing = false ∧ x.rd = x.wr ∧
    (∀ d, x.cur = some d → (x.ending ≠ none ∨ x.wr = 0 ∨ atChunk d x.wr = true ∨ x.wr = x.done) ∧ (dDstSlot d = 0 ∨ x.wr ≤ x.done ∨ x.ending ≠ none)) ∧
    (u = ((s.letGoPanel n).setP n pFrozen).modPnl n (fun x => { x with ending := none, fetched := [] }))) ∧
  (∃ (s : State) (n : Panel), s.pState n = pQuiescing ∧ (s.pnl n).cur = none ∧ s.anyRead n = false ∧ (s.pnl n).flushing = false) ∧
  (∃ (s u : State) (n : Panel) (x : PanelSt) (w : State), x = s.pnl n ∧ s.pState n = pResetting ∧ s.anyRead n = false ∧ x.flushing = false ∧
    (x.cause = pcReset → s.shtMaster (s.pVs n) = true) ∧
    (u = ((((s.letGoPanel n).setP n pStopped).put (F.SHT_PNL_STATE_LAST_STATUS n) psAborted).put (F.SHT_PNL_STATE_SQ_HEAD n) 0).modPnl n (fun x => { tmsg := x.tmsg, mmsg := x.mmsg, descDone := x.descDone, bytes := x.bytes, lastMsg := x.lastMsg, owedMsg := x.owedMsg })) ∧
    (w = u.raiseEnd (fun a => a.opcode == 0x0809 && a.obj == n.val) 0x07 0x6003 0 (scPanel n) [n.val, x.cause])) :=
  ⟨⟨bound.modPnl 4095 (fun x => { x with atsWait := [(5, true)] }), _, 4095, 0, 0x5000, 0x7000, false, true, true, _, by decide +kernel,
     by decide +kernel, rfl, rfl⟩,
   ⟨31, 0x5000, (some 3), 1, _, rfl⟩,
   ⟨{ fm with sht := { fm.sht with inv := [(31, 7, [(0, 255)])] } }, 31, 7, (31, 7, [(0, 255)]), by decide +kernel, by decide +kernel⟩,
   ⟨(bound.put (F.SHT_PNL_STATE_STATE 4095) pFreezing).modPnl 4095 (fun x => { x with flushOwed := true }), 4095, by decide +kernel,
     by decide +kernel, by decide +kernel⟩,
   ⟨(bound.put (F.SHT_PNL_STATE_STATE 4095) pFreezing), _, 4095, _, rfl, by decide +kernel, by decide +kernel, by decide +kernel, by decide +kernel,
     by decide +kernel, by decide +kernel,
     fun d h => absurd (h.symm.trans (show (State.pnl ((bound.put (F.SHT_PNL_STATE_STATE 4095) pFreezing)) 4095).cur = none by decide +kernel)) (by simp),
     rfl⟩,
   ⟨bound.put (F.SHT_PNL_STATE_STATE 4095) pQuiescing, 4095, by decide +kernel, by decide +kernel, by decide +kernel, by decide +kernel⟩,
   ⟨bound.put (F.SHT_PNL_STATE_STATE 4095) pResetting, _, 4095, _, _, rfl, by decide +kernel, by decide +kernel, by decide +kernel,
     by decide +kernel, rfl, rfl⟩⟩

/-- `Obligations.SlotCards`. -/
theorem test_witness_SlotCards :
  (∃ (s u w : State) (n : Slot), s.flag (F.SPC_STATUS_PRESENT n) = false ∧
    (u = (((s.putB (F.SPC_STATUS_PRESENT n) true).modSpc n fun x => { x with presentAt := s.clk.now }).raiseSlot n 0x9001 0 []).hpSync n) ∧
    (w = (if u.spState n = spLATCHED ∧ (u.spcSt n).gone = true then u.unlatch n else u))) ∧
  (∃ (s u w : State) (n : Slot), s.flag (F.SPC_STATUS_PRESENT n) = true ∧
    u = ((s.putB (F.SPC_STATUS_PRESENT n) false).putB (F.SPC_STATUS_SEATED n) false).raiseSlot n 0x9002 1 [s.spState n] ∧
    (w = (if s.spState n = spLATCHED then u.modSpc n (fun x => { x with gone := true }) else u))) ∧
  (∃ (s u : State) (n : Slot), s.flag (F.SPC_STATUS_PRESENT n) = true ∧ s.seated n = false ∧ u = s.putB (F.SPC_STATUS_SEATED n) true) ∧
  (∃ (s u : State) (n : Slot) (fast : Bool), s.seated n = true ∧ (fast = true → s.gateOn n = true) ∧
    u = (s.putB (F.SPC_STATUS_SEATED n) false).raiseSlot n 0x9004 2 [s.spState n, b2n fast]) ∧
  (∃ (s u : State) (n : Slot), (u = (s.putB (F.SPC_STATUS_BTN n) true).modSpc n (fun x => { x with pressed := true }))) ∧
  (∃ (s u : State) (n : Slot), (u = ((s.putB (F.SPC_STATUS_BTN n) false).modSpc n (fun x => { x with pressed := false })).hpSync n)) ∧
  (∃ (s : State) (n : Slot), poweredSp (s.spState n) = true) ∧
  (∃ (s : State) (n : Slot), poweredSp (s.spState n) = false) ∧
  (∃ (s u : State) (n : Slot) (m : SlotMeas), u = s.setMeas n m) :=
  ⟨⟨slotIn 16 spOFF |>.put (F.SPC_STATUS_PRESENT 16) 0, _, _, 16, by decide +kernel, rfl, rfl⟩,
   ⟨slotIn 16 spOFF, _, _, 16, by decide +kernel, rfl, rfl⟩,
   ⟨slotIn 16 spOFF |>.put (F.SPC_STATUS_SEATED 16) 0, _, 16, by decide +kernel, by decide +kernel, rfl⟩,
   ⟨slotIn 16 spOFF, _, 16, false, by decide +kernel, by decide +kernel, rfl⟩,
   ⟨fm, _, 15, rfl⟩,
   ⟨fm, _, 15, rfl⟩,
   ⟨slotIn 16 spRAMP, 16, by decide +kernel⟩,
   ⟨slotIn 16 spOFF, 16, by decide +kernel⟩,
   ⟨fm.put (F.SPC_STATUS_GATE_ON 16) 1, _, 16, meas0, rfl⟩⟩

/-- `Obligations.SlotStates`. -/
theorem test_witness_SlotStates :
  (∃ (s u : State) (n : Slot), s.mayRamp n = true ∧ n.val < 16 ∧
    (u = (((s.leaveWait n).setSp n spRAMP).putB (F.SPC_STATUS_GATE_ON n) true).modSpc n (fun x => { x with gateAt := ((s.leaveWait n).setSp n spRAMP).clk.now }))) ∧
  (∃ (s u : State), s.mayRamp 16 = true ∧
    (u = (((s.leaveWait 16).setSp 16 spRAMP).putB (F.SPC_STATUS_GATE_ON 16) true).modSpc 16 (fun x => { x with gateAt := ((s.leaveWait 16).setSp 16 spRAMP).clk.now }))) ∧
  (∃ (s : State) (n : Slot), s.spState n = spRAMP) ∧
  (∃ (s u : State) (n : Slot) (m : SlotMeas), s.spState n = spQUAL ∧ s.flag (F.SPC_STATUS_FAULT_TMR n) = false ∧
    (u = (((s.setMeas n m).setSp n spON).putB (F.SPC_STATUS_PGOOD n) true).modSpc n (fun x => { x with pgoodAt := s.clk.now }))) ∧
  (∃ (s u w : State) (n : Slot) (m : SlotMeas) (volt : Bool), (s.spState n = spQUAL ∨ s.spState n = spON) ∧
    s.flag (F.SPC_STATUS_FAULT_TMR n) = false ∧
    (w = ((s.setMeas n m).putB (F.SPC_STATUS_FAULT_TMR n) true).modSpc n (fun x => { x with volt := volt })) ∧
    (u = (if s.spState n = spQUAL then w.raiseSlot n 0x9012 2 [if volt then m.vout else m.iout] else w.pwrWarn n 0 m.vin))) ∧
  (∃ (s : State) (n : Slot), s.flag (F.SPC_STATUS_FAULT_TMR n) = true) ∧
  (∃ (s : State) (n : Slot), poweredSp (s.spState n) = true) ∧
  (∃ (s u w : State) (n : Slot) (k : Nat) (r : Rate), s.spState n = spRETRY ∧ s.cmdHeld n = true ∧ s.seated n = true ∧
    w = s.bump (F.SPC_CNT_RETRIES n) ∧ k = 0x9022 * 2 ^ 32 + n.val ∧ (r = SMap.get (fun _ => {}) w.evs.rate k) ∧
    (u = (if (w.spcSt n).retried then w else { w with evs := { w.evs with rate := SMap.set (fun _ => {}) w.evs.rate k { r with seen := false } } }))) ∧
  (∃ (s u : State) (n : Slot), s.spState n = spON ∧ (s.spcSt n).offing = true ∧ u = s.powerOff n lcOff) ∧
  (∃ (s u : State) (n : Slot) (p : Nat), s.perstReady n = true ∧ (u = s.modSpc n (fun x => { x with perst := true })) ∧ u.portOfSlot n = some p) ∧
  (∃ (s : State) (n : Slot), s.flag (F.SPC_STATUS_FAULT_TMR n) = false) ∧
  (∃ (s : State) (m : SlotMeas) (lo hi : Nat), (lo = (if s.get (F.SPC_STATUS_LAST_CAUSE 16) = lcUv then 10500 else 10000)) ∧
    (hi = (if s.get (F.SPC_STATUS_LAST_CAUSE 16) = lcOv then 13500 else 14000)) ∧ s.spState 16 = spOFF ∧ s.seated 16 = true ∧ lo ≤ m.vin ∧
    m.vin ≤ hi ∧ (∀ t, (s.spcSt 16).tripAt = some t → t + sec ≤ s.clk.now)) ∧
  (∃ (s : State) (m : SlotMeas) (lo hi : Nat), (lo = (if s.get (F.SPC_STATUS_LAST_CAUSE 16) = lcUv then 10500 else 10000)) ∧
    (hi = (if s.get (F.SPC_STATUS_LAST_CAUSE 16) = lcOv then 13500 else 14000)) ∧ (m.vin < lo ∨ hi < m.vin)) :=
  ⟨⟨{ (slotIn 15 spWAIT).put F.SPC_BUDGET_BUDGET_W 1000 with spc := { fm.spc with wait := [15] } }, _, 15, by decide +kernel, by decide +kernel,
     rfl⟩,
   ⟨{ (slotIn 16 spWAIT).put F.SPC_BUDGET_BUDGET_W 1000 with spc := { fm.spc with wait := [16] } }, _, by decide +kernel, rfl⟩,
   ⟨slotIn 16 spRAMP, 16, by decide +kernel⟩,
   ⟨slotIn 16 spQUAL, _, 16, meas0, by decide +kernel, by decide +kernel, rfl⟩,
   ⟨slotIn 16 spON, _, _, 16, meas0, true, by decide +kernel, by decide +kernel, rfl, rfl⟩,
   ⟨fm.put (F.SPC_STATUS_FAULT_TMR 16) 1, 16, by decide +kernel⟩,
   ⟨slotIn 16 spQUAL, 16, by decide +kernel⟩,
   ⟨(slotIn 16 spRETRY).modSpc 16 (fun x => { x with retried := true }), _, _, 16, _, _, by decide +kernel, by decide +kernel, by decide +kernel,
     rfl, rfl, rfl, rfl⟩,
   ⟨(slotIn 15 spON).modSpc 15 (fun x => { x with offing := true }), _, 15, by decide +kernel, by decide +kernel, rfl⟩,
   ⟨(puts (slotIn 15 spON) [(F.STN_LANE_MODE_AUX_EN 0, 1), (F.STN_PORT_CFG_ROLE 0 8, 2), (F.STN_PORT_SLOT_SLOT 0 8, 15), (F.STN_LANE_STATUS_HELD 0, 0), (F.GLB_PD_STATE_STATE 0, 2), (F.GLB_PD_STATE_STATE 32, 2)]) |> fun s => { s with clk := { s.clk with now := 10 ^ 12 } },
     _, 15, _, by decide +kernel, rfl, (Option.some_get (by decide +kernel)).symm⟩,
   ⟨fm, 16, by decide +kernel⟩,
   ⟨slotIn 16 spOFF, { meas0 with vin := 14000 }, _, _, rfl, rfl, by decide +kernel, by decide +kernel, by decide +kernel, by decide +kernel,
     fun t h => absurd (h.symm.trans (by decide +kernel : _ = (none : Option Nat))) (Option.some_ne_none t)⟩,
   ⟨slotIn 16 spOFF, { meas0 with vin := 14001 }, _, _, rfl, rfl, by decide +kernel⟩⟩

/-- `Obligations.StationEvents`. -/
theorem test_witness_StationEvents :
  (∃ (s : State) (st : Stn) (a b : List Nat), s.pow.sequenced = true ∧ s.hold st = false ∧ s.flag (F.STN_LANE_STATUS_HELD st) = true ∧
    s.pdIsOn (16 + st) = true ∧ s.pdState st ≠ 3 ∧ s.pdState (32 + st) ≠ 3 ∧ s.startOrder = a ++ st.val :: b ∧
    (∀ x ∈ a, s.started x = true ∨ s.noStart x = true) ∧ (∀ t, s.pow.lastStart = some t → t + 2 * msec ≤ s.clk.now)) ∧
  (∃ (s u : State) (st : Stn), s.started st = true ∧ 0 < (s.stn st).tries ∧ (s.stn st).waiting = false ∧
    (u = (s.putB (F.STN_LANE_STATUS_PLL_LOCK st) true).modStn st (fun x => { x with tries := 0 }))) ∧
  (∃ (s : State) (st : Stn), (s.stn st).waiting = false ∧ (s.stn st).tries = 1) ∧
  (∃ (s u : State) (st : Stn), (s.stn st).waiting = false ∧ (s.stn st).tries = 2 ∧
    (u = (s.modStn st fun x => { x with tries := 0 }).raise (srcStn st) 0x1001 3 (scStn st) [st.val, 2])) ∧
  (∃ (s : State) (st : Stn), (s.stn st).waiting = true) ∧
  (∃ (s u : State) (st : Stn), s.pllLocked st = true ∧ u = (s.putB (F.STN_LANE_STATUS_PLL_LOCK st) false).beginSeries st) ∧
  (∃ (s : State) (st : Stn) (lane : Lane), s.flag (F.STN_LN_PRBS_CTL_EN st lane) = true ∧ s.flag (F.STN_LN_PRBS_CTL_CHK st lane) = true) ∧
  (∃ (s : State) (st : Stn) (lane : Lane), s.flag (F.STN_LN_PRBS_STAT_CHK_LOCK st lane) = true) ∧
  (∃ (s : State) (st : Stn) (lane : Lane) (ctl : B32), bit ctl.toNat 31 = true ∧ s.inMeasure st lane = true ∧
    s.flag (F.STN_LN_MARGIN_STAT_BUSY st lane) = false) ∧
  (∃ (s : State) (st : Stn) (lane : Lane), s.flag (F.STN_LN_MARGIN_STAT_BUSY st lane) = true) ∧
  (∃ (s u : State) (st : Stn) (errs role n : Nat), s.spareRuns st 16 = true ∧ role = s.get (F.STN_LN_STATUS_SPARE_ROLE st 16) ∧
    (role = 1 ∨ role = 3) ∧ s.flag (F.STN_LN_PRBS_CTL_EN st 16) = true ∧ u = s.spareCount st errs ∧ n = (u.stn st).spareOk + 1 ∧
    u.get (F.STN_TRAIN_CTL_SPARE_ERR_LIMIT st) < errs) ∧
  (∃ (s u : State) (st : Stn) (errs role n : Nat), s.spareRuns st 16 = true ∧ role = s.get (F.STN_LN_STATUS_SPARE_ROLE st 16) ∧
    (role = 1 ∨ role = 3) ∧ s.flag (F.STN_LN_PRBS_CTL_EN st 16) = true ∧ u = s.spareCount st errs ∧ n = (u.stn st).spareOk + 1 ∧
    errs ≤ u.get (F.STN_TRAIN_CTL_SPARE_ERR_LIMIT st)) ∧
  (∃ (s : State) (st : Stn), (∀ p ∈ s.stnPorts st, s.stage p ≠ stACTIVE ∨ s.get (F.STN_PORT_STATUS_RATE st (kOf p)) < 5)) :=
  ⟨⟨puts mainOn [(F.STN_LANE_STATUS_HELD 0, 1), (F.STN_LANE_MODE_HOLD 0, 0), (F.GLB_STRAP_CODE, 0), (F.GLB_PD_STATE_STATE 16, 2)], 0, [],
     (puts mainOn [(F.STN_LANE_STATUS_HELD 0, 1), (F.STN_LANE_MODE_HOLD 0, 0), (F.GLB_STRAP_CODE, 0), (F.GLB_PD_STATE_STATE 16, 2)]).startOrder.tail,
     by decide +kernel, by decide +kernel, by decide +kernel, by decide +kernel, by decide +kernel, by decide +kernel, by decide +kernel,
     by decide +kernel, fun t h => absurd (h.symm.trans (by decide +kernel : _ = (none : Option Nat))) (Option.some_ne_none t)⟩,
   ⟨(puts fm [(F.STN_LANE_STATUS_HELD 15, 0), (F.GLB_PD_STATE_STATE 15, 2), (F.GLB_PD_STATE_STATE 47, 2)]).modStn 15 (fun x => { x with tries := 1 }),
     _, 15, by decide +kernel, by decide +kernel, by decide +kernel, rfl⟩,
   ⟨fm.modStn 15 (fun x => { x with tries := 1 }), 15, by decide +kernel, by decide +kernel⟩,
   ⟨fm.modStn 15 (fun x => { x with tries := 2 }), _, 15, by decide +kernel, by decide +kernel, rfl⟩,
   ⟨fm.modStn 15 (fun x => { x with tries := 1, waiting := true }), 15, by decide +kernel⟩,
   ⟨fm.put (F.STN_LANE_STATUS_PLL_LOCK 15) 1, _, 15, by decide +kernel, rfl⟩,
   ⟨puts fm [(F.STN_LN_PRBS_CTL_EN 15 16, 1), (F.STN_LN_PRBS_CTL_CHK 15 16, 1)], 15, 16, by decide +kernel, by decide +kernel⟩,
   ⟨fm.put (F.STN_LN_PRBS_STAT_CHK_LOCK 15 16) 1, 15, 16, by decide +kernel⟩,
   ⟨fm.put (stageFld 0) stMEASURE, 0, 0, 0x80000000, by decide +kernel, by decide +kernel, by decide +kernel⟩,
   ⟨fm.put (F.STN_LN_MARGIN_STAT_BUSY 15 16) 1, 15, 16, by decide +kernel⟩,
   ⟨puts live [(F.STN_LN_STATUS_SPARE_ROLE 0 16, 1), (F.STN_LN_PRBS_CTL_EN 0 16, 1), (F.STN_TRAIN_CTL_SPARE_ERR_LIMIT 0, 3)], _, 0, 4, _, _,
     by decide +kernel, rfl, by decide +kernel, by decide +kernel, rfl, rfl, lt_of_eq_of_lt (limit_kept _ 4) (by decide +kernel)⟩,
   ⟨puts live [(F.STN_LN_STATUS_SPARE_ROLE 0 16, 1), (F.STN_LN_PRBS_CTL_EN 0 16, 1), (F.STN_TRAIN_CTL_SPARE_ERR_LIMIT 0, 3)], _, 0, 3, _, _,
     by decide +kernel, rfl, by decide +kernel, by decide +kernel, rfl, rfl, le_of_le_of_eq (by decide +kernel) (limit_kept _ 3).symm⟩,
   ⟨fm, 15, by decide +kernel⟩⟩

/-- `Obligations.LinkTraining`. -/
theorem test_witness_LinkTraining :
  (∃ (s u : State) (p : Port) (st lanes : Nat) (ls : List Nat) (a : State), st = stnOf p ∧ s.stage p = stDETECT ∧ ls = s.usable p lanes ∧
    s.lanesDo p ls = true ∧ (a = ls.foldl (fun s l => s.putB (F.STN_LN_STATUS_RX_PRESENT st l) true) (s.clearLanes p)) ∧
    (u = a.modPort p (fun x => { x with timer := true, failed := 0, target := (a.targetWidth p, a.targetRate p), coefs := [], flitEn := a.flag (F.STN_PORT_CFG_FLIT_EN st (kOf p)), sris := a.flag (F.STN_PORT_CFG_SRIS st (kOf p)), eq := (a.measLanes p).map fun l => (l, a.eqLo st l, a.eqHi st l) }))) ∧
  (∃ (s : State) (p : Port) (st lanes : Nat), st = stnOf p ∧ s.stage p = stPATTERN ∧ s.lockDoes p (s.trained p lanes) = true) ∧
  (∃ (s u : State) (p : Port) (st : Nat) (width : Fin 17) (failed inverted : Nat) (reversed : Bool) (a : State), st = stnOf p ∧ s.stage p = stLOCK ∧
    s.lockEnds p width failed = true ∧ (a = (s.modPort p fun x => { x with failed := failed }).put (F.STN_PORT_STATUS_WIDTH st (kOf p)) width) ∧
    u = (a.orderLanes p inverted reversed).setStage p stEXCHANGE) ∧
  (∃ (s u w : State) (p : Port) (st : Nat) (up : LinkUp) (a b d : State) (c : SMap Bool × SMap Nat × SMap Nat), st = stnOf p ∧
    s.seamMode st = false ∧ s.stage p = stEXCHANGE ∧ s.upFits p up = true ∧ a = s.portUp p up.rate up.width up.failed up.eq up.flit up.scaledFc ∧
    c = creditMaps up.credits ∧
    (b = (a.modPort p (fun x => { x with txInf := c.1, txHdr := c.2.1, txData := c.2.2, rxFrom := a.core.nextId })).advertise p 0) ∧
    (d = (if bit (b.cw p ofVC1) 31 then b.advertise p 1 else b)) ∧ d.pciRole p = 2 ∧ u = d.orCw p ofSLTCTL slDllsc ∧
    (w = (if bit (u.cw p ofDPC) 23 then u.emit (.errMsg (u.vsOf p) (BitVec.ofNat 16 (u.portRid p)) 0) else u))) ∧
  (∃ (s w : State) (p : Port) (st : Nat) (up : LinkUp) (a b d : State) (c : SMap Bool × SMap Nat × SMap Nat), st = stnOf p ∧ s.seamMode st = false ∧
    s.stage p = stEXCHANGE ∧ s.upFits p up = true ∧ a = s.portUp p up.rate up.width up.failed up.eq up.flit up.scaledFc ∧ c = creditMaps up.credits ∧
    (b = (a.modPort p (fun x => { x with txInf := c.1, txHdr := c.2.1, txData := c.2.2, rxFrom := a.core.nextId })).advertise p 0) ∧
    (d = (if bit (b.cw p ofVC1) 31 then b.advertise p 1 else b)) ∧ d.pciRole p = 1 ∧
    (w = (if (d.vs (d.vsOf p)).sbr then d else d.modVs (d.vsOf p) fun x => { x with rrs := false }))) ∧
  (∃ (s : State) (p : Port) (st : Nat) (up : LinkUp) (a b d : State) (c : SMap Bool × SMap Nat × SMap Nat), st = stnOf p ∧ s.seamMode st = false ∧
    s.stage p = stEXCHANGE ∧ s.upFits p up = true ∧ a = s.portUp p up.rate up.width up.failed up.eq up.flit up.scaledFc ∧ c = creditMaps up.credits ∧
    (b = (a.modPort p (fun x => { x with txInf := c.1, txHdr := c.2.1, txData := c.2.2, rxFrom := a.core.nextId })).advertise p 0) ∧
    (d = (if bit (b.cw p ofVC1) 31 then b.advertise p 1 else b)) ∧ d.pciRole p ≠ 1 ∧ d.pciRole p ≠ 2) ∧
  (∃ (s u w : State) (p : Port) (st n g lim locked : Nat), st = stnOf p ∧ g = s.stage p ∧ (g = stPATTERN ∨ g = stLOCK ∨ g = stEXCHANGE) ∧
    n = (s.port p).attempts + 1 ∧ lim = s.get (F.STN_TRAIN_CTL_ATTEMPT_LIMIT st) ∧
    (u = ((s.modPort p fun x => { x with attempts := n, timer := false }).raise (srcStn st) 0x1002 1 (scPort p) [p.val, g, n]).put (F.STN_PORT_STATUS_WIDTH st (kOf p)) 0) ∧
    (locked = ((u.lanesOf p).filter fun l => u.flag (F.STN_LN_STATUS_BIT_LOCK st l)).length) ∧
    (w = (if lim ≠ 0 ∧ lim ≤ n then ((u.setStage p stFAILED).clearLanes p).raise (srcStn st) 0x1003 3 (scPort p) [p.val, n, locked] else (u.setStage p stDETECT).clearLanes p)) ∧
    s.seamMode st = false) :=
  ⟨⟨atP stDETECT, _, 8, _, 0xFFFFFFFF, _, _, rfl, by decide +kernel, rfl, by decide +kernel, rfl, rfl⟩,
   ⟨atP stPATTERN, 8, _, 0xFFFFFFFF, rfl, by decide +kernel, by decide +kernel⟩,
   ⟨((atP stLOCK).put (F.STN_LN_STATUS_BIT_LOCK 0 16) 1).modPort 8 fun x => { x with target := (1, 6) }, _, 8, _, 1, 0, 0, false, _, rfl,
     by decide +kernel, by decide +kernel, rfl, rfl⟩,
   ⟨exch 2, _, _, 8, _, linkUp0, _, _, _, _, rfl, by decide +kernel, by decide +kernel, by decide +kernel, rfl, rfl, rfl, rfl, by decide +kernel,
     rfl, rfl⟩,
   ⟨exch 1, _, 8, _, linkUp0, _, _, _, _, rfl, by decide +kernel, by decide +kernel, by decide +kernel, rfl, rfl, rfl, rfl, by decide +kernel, rfl⟩,
   ⟨exch 3, 8, _, linkUp0, _, _, _, _, rfl, by decide +kernel, by decide +kernel, by decide +kernel, rfl, rfl, rfl, rfl, by decide +kernel,
     by decide +kernel⟩,
   ⟨puts (atP stLOCK) [(F.STN_TRAIN_CTL_ATTEMPT_LIMIT 0, 0)], _, _, 8, _, _, _, _, _, rfl, rfl, by decide +kernel, rfl, rfl, rfl, rfl, rfl,
     by decide +kernel⟩⟩

/-- `Obligations.Transports`. -/
theorem test_witness_Transports :
  (∃ (s u w : State) (chan : Chan) (eid : B8) (why : BadReq), s.acl.up = true ∧ s.flag F.ACW_FW_STATUS_UART_BOOT = false ∧ s.cmd.via = .arrive ∧
    (s.chan chan.val).held = [] ∧ u = { s with cmd := { s.cmd with via := .arrive } } ∧ s.owing = [] ∧
    (w = (if why = .badLength ∨ why = .badCrc then s.raiseLim ms100 chan.val 0x01 0x7301 2 scDev 0 [chan.val, eid.toNat, statusCode (badStatus why)] else s))) ∧
  (∃ (s u : State) (chan : Chan) (pkt : Bytes) (i : Instr), s.acl.up = true ∧ s.flag F.ACW_FW_STATUS_UART_BOOT = false ∧ s.cmd.via = .arrive ∧
    (s.chan chan.val).held = [] ∧ u = { s with cmd := { s.cmd with via := .arrive } } ∧ packetOf 0 0 pkt = i) ∧
  (∃ (s u : State) (chan : Chan) (eid : B8) (pkt : Bytes) (i : Instr), s.acl.up = true ∧ s.flag F.ACW_FW_STATUS_UART_BOOT = false ∧
    s.cmd.via = .arrive ∧ (s.chan chan.val).held = [] ∧ u = { s with cmd := { s.cmd with via := .arrive } } ∧ s.mctpHere chan.val = true ∧
    packetOf chan eid pkt = i) ∧
  (∃ (s u : State) (chan : Chan) (vendor : B16) (kind : B8), s.acl.up = true ∧ s.flag F.ACW_FW_STATUS_UART_BOOT = false ∧ s.cmd.via = .arrive ∧
    (s.chan chan.val).held = [] ∧ u = { s with cmd := { s.cmd with via := .arrive } } ∧ (vendor ≠ 0x1F4E ∨ kind ≠ 1 ∨ s.mctpHere chan.val = false)) ∧
  (∃ (s u : State) (chan : Chan) (eid : B8), s.acl.up = true ∧ s.flag F.ACW_FW_STATUS_UART_BOOT = false ∧ s.cmd.via = .arrive ∧
    (s.chan chan.val).held = [] ∧ u = { s with cmd := { s.cmd with via := .arrive } } ∧ s.mctpHere chan.val = true ∧ (eid = 0 ∨ eid = 0xFF)) ∧
  (∃ (s u : State) (chan : Chan) (eid : B8), s.acl.up = true ∧ s.flag F.ACW_FW_STATUS_UART_BOOT = false ∧ s.cmd.via = .arrive ∧
    (s.chan chan.val).held = [] ∧ u = { s with cmd := { s.cmd with via := .arrive } } ∧ s.mctpHere chan.val = true ∧ eid ≠ 0 ∧ eid ≠ 0xFF) ∧
  (∃ (s u : State) (chan : Chan), s.acl.up = true ∧ s.flag F.ACW_FW_STATUS_UART_BOOT = false ∧ s.cmd.via = .arrive ∧ (s.chan chan.val).held = [] ∧
    u = { s with cmd := { s.cmd with via := .arrive } } ∧ (chan.val = 1 ∨ chan.val = 2)) :=
  ⟨⟨fm, _, _, 66, 5, .badLength, by decide +kernel, by decide +kernel, by decide +kernel, by decide +kernel, rfl, by decide +kernel, rfl⟩,
   ⟨fm, _, 0, List.replicate 24 0, _, by decide +kernel, by decide +kernel, by decide +kernel, by decide +kernel, rfl, rfl⟩,
   ⟨fm, _, 1, 5, List.replicate 24 0, _, by decide +kernel, by decide +kernel, by decide +kernel, by decide +kernel, rfl, by decide +kernel, rfl⟩,
   ⟨fm, _, 1, 0x1234, 1, by decide +kernel, by decide +kernel, by decide +kernel, by decide +kernel, rfl, by decide +kernel⟩,
   ⟨fm, _, 1, 0, by decide +kernel, by decide +kernel, by decide +kernel, by decide +kernel, rfl, by decide +kernel, by decide +kernel⟩,
   ⟨fm, _, 1, 0xFE, by decide +kernel, by decide +kernel, by decide +kernel, by decide +kernel, rfl, by decide +kernel, by decide +kernel,
     by decide +kernel⟩,
   ⟨fm, _, 2, by decide +kernel, by decide +kernel, by decide +kernel, by decide +kernel, rfl, by decide +kernel⟩⟩

/-- `Obligations.CarriedRequests`. -/
theorem test_witness_CarriedRequests :
  (∃ (s : State) (v : VsId) (head : Nat), s.ringReady v = true ∧ head = s.get (F.ACW_MBX_HEAD_HEAD v) ∧
    2 ^ s.get (F.ACW_MBX_CFG_ORDER v) ≤ s.get (F.ACW_MBX_TAIL_TAIL v)) ∧
  (∃ (s u : State) (v : VsId) (head : Nat) (len : B16) (b : Bytes), s.ringReady v = true ∧ head = s.get (F.ACW_MBX_HEAD_HEAD v) ∧
    s.get (F.ACW_MBX_TAIL_TAIL v) < 2 ^ s.get (F.ACW_MBX_CFG_ORDER v) ∧
    u = s.emit (.hostRead v 0 (BitVec.ofNat 64 (s.get (F.ACW_MBX_BASE_HI_BASE_HI v) * 2 ^ 32 + s.get (F.ACW_MBX_BASE_LO_BASE_LO v) * 4096 + 32 * head)) 32) ∧
    (len.toNat ≠ 20 + rdN b 8 2 ∨ b.length ≠ len.toNat)) ∧
  (∃ (s u : State) (v : VsId) (head : Nat) (len : B16) (b : Bytes), s.ringReady v = true ∧ head = s.get (F.ACW_MBX_HEAD_HEAD v) ∧
    s.get (F.ACW_MBX_TAIL_TAIL v) < 2 ^ s.get (F.ACW_MBX_CFG_ORDER v) ∧
    u = s.emit (.hostRead v 0 (BitVec.ofNat 64 (s.get (F.ACW_MBX_BASE_HI_BASE_HI v) * 2 ^ 32 + s.get (F.ACW_MBX_BASE_LO_BASE_LO v) * 4096 + 32 * head)) 32) ∧
    len.toNat = 20 + rdN b 8 2 ∧ b.length = len.toNat) ∧
  (∃ (s : State) (c : CtlHdr) (pkt : Bytes), Taken s c ∧ s.acl.up = true ∧ crc32c (pkt.take (pkt.length - 4)) ≠ r32 pkt (pkt.length - 4)) ∧
  (∃ (s : State) (c : CtlHdr) (pkt : Bytes) (mine : CtlOut → Bool), Taken s c ∧ s.acl.up = true ∧
    (mine = (fun o => o.mseq == c.mseq.toNat && o.kind == 0x40 && o.dest == c.src.toNat)) ∧
    crc32c (pkt.take (pkt.length - 4)) = r32 pkt (pkt.length - 4) ∧ s.fab.out.find? mine = none) ∧
  (∃ (s u : State) (c : CtlHdr) (pkt : Bytes) (mine : CtlOut → Bool) (o : CtlOut), Taken s c ∧ s.acl.up = true ∧
    (mine = (fun o => o.mseq == c.mseq.toNat && o.kind == 0x40 && o.dest == c.src.toNat)) ∧
    crc32c (pkt.take (pkt.length - 4)) = r32 pkt (pkt.length - 4) ∧ s.fab.out.find? mine = some o ∧
    (u = { s with fab := { s.fab with out := s.fab.out.filter fun x => !mine x } }) ∧ o.req = none) ∧
  (∃ (s u : State) (c : CtlHdr) (pkt : Bytes) (mine : CtlOut → Bool) (o : CtlOut) (r : Req), Taken s c ∧ s.acl.up = true ∧
    (mine = (fun o => o.mseq == c.mseq.toNat && o.kind == 0x40 && o.dest == c.src.toNat)) ∧
    crc32c (pkt.take (pkt.length - 4)) = r32 pkt (pkt.length - 4) ∧ s.fab.out.find? mine = some o ∧
    (u = { s with fab := { s.fab with out := s.fab.out.filter fun x => !mine x } }) ∧ o.req = some r) :=
  ⟨⟨mailbox 4 2, 0, _, by decide +kernel, rfl, by decide +kernel⟩,
   ⟨mailbox 3 2, _, 0, _, 24, [], by decide +kernel, rfl, by decide +kernel, rfl, by decide +kernel⟩,
   ⟨mailbox 3 2, _, 0, _, 20, List.replicate 20 0, by decide +kernel, rfl, by decide +kernel, rfl, by decide +kernel, by decide +kernel⟩,
   ⟨live, ctl0, List.replicate 4 1, ⟨by decide +kernel, by decide +kernel, rfl, ⟨by decide +kernel, by decide +kernel⟩⟩, by decide +kernel,
     by decide +kernel⟩,
   ⟨live, ctl0, List.replicate 4 0, _, ⟨by decide +kernel, by decide +kernel, rfl, ⟨by decide +kernel, by decide +kernel⟩⟩, by decide +kernel, rfl,
     by decide +kernel, by decide +kernel⟩,
   ⟨live' (fun f => { f with out := [⟨1, 5, 0x40, [], 1, none⟩] }), _, ctl0, List.replicate 4 0, _, ⟨1, 5, 0x40, [], 1, none⟩,
     ⟨by decide +kernel, by decide +kernel, rfl, ⟨by decide +kernel, by decide +kernel⟩⟩, by decide +kernel, rfl, by decide +kernel,
     by decide +kernel, rfl, rfl⟩,
   ⟨live' (fun f => { f with out := [⟨1, 5, 0x40, [], 1, some { h := hdev, via := .arrive, opcode := 0x0702 }⟩] }), _, ctl0, List.replicate 4 0, _,
     ⟨1, 5, 0x40, [], 1, some { h := hdev, via := .arrive, opcode := 0x0702 }⟩, { h := hdev, via := .arrive, opcode := 0x0702 },
     ⟨by decide +kernel, by decide +kernel, rfl, ⟨by decide +kernel, by decide +kernel⟩⟩, by decide +kernel, rfl, by decide +kernel,
     by decide +kernel, rfl, rfl⟩⟩

/-- `Obligations.StepTakesTheFront`. -/
theorem test_witness_StepTakesTheFront :
  (∃ (s : State) (i : Instr) (t : State), s.pending = [] ∧ s.takeHeld = some (i, t)) ∧
  (∃ (s : State), s.pending = [] ∧ s.takeHeld = none) :=
  ⟨⟨fm.modChan 0 (fun c => { c with held := [(0, 20, .getInfo hdev)] }), _, _, by decide +kernel, (Option.some_get (by decide +kernel)).symm⟩,
   ⟨fm, by decide +kernel, by decide +kernel⟩⟩

/-- `Obligations.BobbinWordsRoundTrip`. -/
theorem test_witness_BobbinWordsRoundTrip :
  ∃ (e : Eng) (d a b : Fin 16) (sz hw : Fin 4) (i8 : B8) (i16 : B16) (i17 : BitVec 17) (i18 : BitVec 18) (i22 : BitVec 22) (i6 : BitVec 6) (off : BitVec 12) (sel : Fin 19) (i : Instr),
    (i ∈ [.nop e, .aluAdd e d a b, .aluSub e d a b, .aluAnd e d a b, .aluOr e d a b, .aluXor e d a b, .aluShl e d a b, .aluShr e d a b, .aluMinu e d a b, .aluMaxu e d a b, .aluSeq e d a b, .aluSltu e d a b, .hash e d a b, .addi e d a i18, .andi e d a i18, .ori e d a i18, .xori e d a i18, .shli e d a i6, .shri e d a i6, .li e d i22, .movk e d hw i16] ∨ i ∈ [.ldh e d sz i6, .sth e a sz i6, .ldl e d a sz i16 0, .stl e d a sz i16 0, .ldt e d a i17 0, .stt e d a i17, .addt e d a i17 0, .ctx e d (BitVec.ofNat 6 sel), .beq e d a off, .bne e d a off, .bltu e d a off, .bgeu e d a off, .beqi e d i8 off, .bnei e d i8 off, .bbs e d i6 off, .bbc e d i6 off, .jmp e off, .trace e a, .evt e a i8, .exitForward e, .exitDrop e, .exitAbort e, .exitRedirect e a]) :=
  ⟨0, 15, 15, 15, 3, 3, 255, 0xFFFF, 0x1FFFF, 0x3FFFF, 0x3FFFFF, 63, 0xFFF, 18, .ldt 0 15 15 0x1FFFF 0, by decide +kernel⟩

/-- `Obligations.CheckedRunsEnd`. -/
theorem test_witness_CheckedRunsEnd :
  (∃ (img : Bytes) (es : List Nat) (prog : List (Nat × Instr)) (x : Nat × Instr) (l : List (Nat × Instr)),
    es = [leAt img 16 2, leAt img 18 2, leAt img 20 2] ∧ imgProg img = .ok prog ∧ checkPaths (imgProgLen img) es prog = none ∧ x.1 ∈ es ∧
    Follows prog (x :: l)) ∧
  (∃ (img : Bytes) (es : List Nat) (prog : List (Nat × Instr)) (r : Nat × Nat), es = [leAt img 16 2, leAt img 18 2, leAt img 20 2] ∧
    imgProg img = .ok prog ∧ checkPaths (imgProgLen img) es prog = some r) ∧
  (∃ (img : Bytes) (es : List Nat) (k : Nat), es = [leAt img 16 2, leAt img 18 2, leAt img 20 2] ∧ imgProg img = .error k) :=
  ⟨⟨prog2, _, [(0, .ctx 0 1 6), (1, .exitForward 0)], (0, .ctx 0 1 6), [(1, .exitForward 0)], rfl, ok_is (by decide +kernel), by decide +kernel,
     by decide +kernel, ⟨by decide +kernel, by decide +kernel, by decide +kernel, by decide +kernel, trivial⟩⟩,
   ⟨prog1 0x60400006, _, [(0, .ctx 0 1 6)], (5, 0), rfl, ok_is (by decide +kernel), by decide +kernel⟩,
   ⟨prog1 0xA8000000, _, 0, rfl, error_is (by decide +kernel)⟩⟩

/-- `Obligations.NoRunNoEffect`. -/
theorem test_witness_NoRunNoEffect :
  ∃ (s : State) (e : Eng) (w : Nat) (i : Instr), decodeBobbin e w = some i ∧ (s.eng e).run = none :=
  ⟨fm, 0, 0xFC000000, _, (Option.some_get (by decide +kernel)).symm, by decide +kernel⟩

/-- `Obligations.SavingChangesNothing`. -/
theorem test_witness_SavingChangesNothing :
  (∃ (s : State) (h : Hdr) (x : Sess) (op : OpInfo) (rec : Bytes), op = { code := 0x0806, kind := .R, who := [.fm, .pm], forms := [.panel] } ∧
    Heard s op h x ∧ rec = s.panelRecord x.n ∧ s.pState x.n = pFrozen) ∧
  (∃ (s : State) (h : Hdr) (x : Sess) (op : OpInfo) (rec : Bytes), op = { code := 0x0806, kind := .R, who := [.fm, .pm], forms := [.panel] } ∧
    Heard s op h x ∧ rec = s.panelRecord x.n ∧ s.pState x.n ≠ pFrozen) :=
  ⟨⟨inP pFrozen, hpnl, xpnl, _, _, rfl, heard_of (by decide +kernel), rfl, by decide +kernel⟩,
   ⟨fm, hpnl, xpnl, _, _, rfl, heard_of (by decide +kernel), rfl, by decide +kernel⟩⟩

/-- `Obligations.CheckOnlyChangesNothing`. -/
theorem test_witness_CheckOnlyChangesNothing :
  ∃ (s : State) (op : OpInfo) (h : Hdr) (x : Sess), h.flags = 1 ∧ Heard s op { h with flags := 0 } x :=
  ⟨fm, { code := 0x0901, kind := .I, who := [.fm], forms := [.stn] }, { hstn with flags := 1 }, xstn, by decide +kernel,
     heard_of (by decide +kernel)⟩

/-- `Obligations.RepeatsAreNotCarriedOut`. -/
theorem test_witness_RepeatsAreNotCarriedOut :
  (∃ (s : State) (h : Hdr), s.acl.up = true ∧ s.cmd.via = .arrive ∧ s.inService .arrive h = true) ∧
  (∃ (s : State) (op : OpInfo) (h : Hdr) (k : Kept) (c e o : Nat) (st : Status) (g : B32) (sc detail : Nat) (data : List Dat), s.acl.up = true ∧
    s.cmd.via = .arrive ∧ s.inService .arrive h = false ∧ s.chanBusy h.chan.val h.eid.toNat = false ∧ s.flag F.ACW_FW_STATUS_UART_BOOT = false ∧
    (s.chan h.chan.val).held = [] ∧ op.kind ≠ .R ∧ s.keptReply .arrive h = some k ∧ k.reply = .reply c e o st g sc detail data) ∧
  (∃ (s : State) (r : Req) (st : Status) (detail : Nat) (data : List Dat) (mine : Kept → Bool) (t : State), s.acl.up = true ∧ s.cmd.via = .arrive ∧
    t = s.keep r st detail data ∧ (mine = (fun k => k.eid == keepKey r.via r.h))) :=
  ⟨⟨{ fm with cmd := { fm.cmd with owed := some { h := hstn, via := .arrive, opcode := 0x0901 } } }, hstn, by decide +kernel, by decide +kernel,
     by decide +kernel⟩,
   ⟨fm.modChan 0 (fun c => { c with kept := [⟨keepKey .arrive hstn, 1, 0, 0, .reply 0 0 0x0901 .ok 1 0x1000 0 []⟩] }),
     { code := 0x0901, kind := .I, who := [.fm], forms := [.stn] }, hstn, _, 0, 0, 0x0901, .ok, 1, 0x1000, 0, [], by decide +kernel,
     by decide +kernel, by decide +kernel, by decide +kernel, by decide +kernel, by decide +kernel, by decide +kernel,
     (Option.some_get (by decide +kernel)).symm, by decide +kernel⟩,
   ⟨fm, { h := hstn, via := .arrive, opcode := 0x0901 }, .ok, 0, [], _, _, by decide +kernel, by decide +kernel, rfl, rfl⟩⟩

end Sys2Proof.Witness
end

section
/-!
PROOF. BIFURC values (R37): `bifurcValid` reads as the rule's own sentence for every natural, and 26 of the 256 byte values meet it.
-/

namespace Sys2Proof.Machine

/-- R37's sentence, for every number: bit 0 is set, and each port that a set bit starts has a legal width and an aligned first lane. -/
theorem bifurcValid_iff (m : Nat) : bifurcValid m = true ↔ bit m 0 = true ∧ ∀ k < 8, bit m k = true →
    (bifWidth m k = 2 ∨ bifWidth m k = 4 ∨ bifWidth m k = 8 ∨ bifWidth m k = 16) ∧ 2 * k % bifWidth m k = 0 := by
  simp only [bifurcValid, Bool.and_eq_true, List.all_eq_true, List.mem_range, Bool.or_eq_true, Bool.not_eq_true', beq_iff_eq,
    or_assoc, ← Bool.not_eq_true, ← imp_iff_not_or]

/-- The count of R37: all 256 values are evaluated. -/
theorem length_filter_bifurcValid : ((List.range 256).filter bifurcValid).length = 26 := by decide

/-- Settles O54 (R37): validity is the rule's sentence at every number, so at every byte, and the count is by evaluation. -/
theorem bifurcValues : Obligations.BifurcValues :=
  ⟨fun v => bifurcValid_iff v, length_filter_bifurcValid⟩

end Sys2Proof.Machine
end

section
/-!
PROOF. PANEL_SAVE (R323): the record is 764 bytes and their CRC, and a request of kind R that is heard leaves nothing but its reply.
-/

namespace Sys2Proof.Machine

/-! ### Lengths of byte strings -/

@[simp] theorem length_leBytes (n v : Nat) : (leBytes n v).length = n := by
  induction n generalizing v with
  | zero => rfl
  | succ n ih => simp [leBytes, ih]

@[simp] theorem length_slice (bs : Bytes) (off n : Nat) : (slice bs off n).length = n := by
  simp only [slice, List.length_append, List.length_take, List.length_replicate]
  omega

/-! ### The context record (Table 11.6) -/

/-- R321: a context record is bytes 0 to 763 and the CRC over them. -/
theorem State.panelRecord_eq_append_crc (s : State) (n : Nat) :
    ∃ body : Bytes, body.length = 764 ∧ s.panelRecord n = body ++ leBytes 4 (crc32c body).toNat := by
  refine ⟨_, ?_, rfl⟩
  simp only [List.length_append, length_leBytes, length_slice, List.length_flatMap, List.map_const', List.sum_replicate, List.length_range,
    List.length_replicate, List.length_cons, List.length_nil, smul_eq_mul]

theorem State.length_panelRecord (s : State) (n : Nat) : (s.panelRecord n).length = 768 := by
  obtain ⟨body, hlen, hrec⟩ := s.panelRecord_eq_append_crc n
  simp [hrec, hlen]

theorem State.drop_panelRecord (s : State) (n : Nat) :
    (s.panelRecord n).drop 764 = leBytes 4 (crc32c ((s.panelRecord n).take 764)).toNat := by
  obtain ⟨body, hlen, hrec⟩ := s.panelRecord_eq_append_crc n
  rw [hrec, List.drop_left' hlen, List.take_left' hlen]

/-! ### Answers of kind R -/

/-- R386, R389: OK under an opcode of kind R is answered with its data, and the reply is not kept. -/
theorem answered_read {op : OpInfo} (hk : op.kind = .R) (h : Hdr) (s : State) (d : List Dat) :
    answered op h (.read s d) = s.emit (.reply h.chan.val h.eid.toNat op.code .ok h.tag h.scope.toNat 0 d) := by
  simp [answered, hk, State.answer, Ans.read]

/-- R386, R389: another status under an opcode of kind R is answered without data, and the reply is not kept. -/
theorem answered_fail {op : OpInfo} (hk : op.kind = .R) (h : Hdr) (s : State) {st : Status} (hst : st ≠ .ok) (d : Nat) :
    answered op h (.fail st s d) = s.emit (.reply h.chan.val h.eid.toNat op.code st h.tag h.scope.toNat d []) := by
  simp [answered, hk, State.answer, Ans.fail, hst]

/-- What PANEL_SAVE answers for panel n (R323). -/
def State.saveAns (s : State) (n : Nat) : Ans :=
  if s.pState n = pFrozen then .read s ((s.panelRecord n).map fun b => .u8 b.toNat) else .fail .notIdle s

theorem State.saveAns_of_frozen {s : State} {n : Nat} (hp : s.pState n = pFrozen) :
    s.saveAns n = .read s ((s.panelRecord n).map fun b => .u8 b.toNat) := if_pos hp

theorem State.saveAns_of_not_frozen {s : State} {n : Nat} (hp : s.pState n ≠ pFrozen) : s.saveAns n = .fail .notIdle s := if_neg hp

/-- A PANEL_SAVE that is heard answers `saveAns` at once, whatever the panel's state. -/
theorem exec_panelSave {s : State} {h : Hdr} {x : Sess} (hh : Heard s (opPnl 0x0806 .R whoFP) h x) :
    exec (.panelSave h) s = .next (answered (opPnl 0x0806 .R whoFP) h (s.saveAns x.n)) := by
  have hd : s.disarm (opPnl 0x0806 .R whoFP).code = s := s.disarm_eq (by decide)
  have ho : (s.saveAns x.n).owed = false := by
    by_cases hp : s.pState x.n = pFrozen
    · rw [State.saveAns_of_frozen hp]; rfl
    · rw [State.saveAns_of_not_frozen hp]; rfl
  refine congrArg Host.Outcome.next (State.serve_now _ _ _ hh hd (by decide) ?_ ho)
  simp [State.saveAns]

/-- Settles O58 (R323): both answers leave the state as it is, kind R keeps no reply, and the record's shape is that of R321. -/
theorem savingChangesNothing : Obligations.SavingChangesNothing := by
  unfold Obligations.SavingChangesNothing
  rintro s h x _ rec rfl hh hrec
  rw [hrec]
  refine ⟨fun hp => ?frozen, fun hp => ?other, s.length_panelRecord x.n, s.drop_panelRecord x.n⟩
  case frozen => rw [exec_panelSave hh, State.saveAns_of_frozen hp, answered_read rfl, opPnl]
  case other => rw [exec_panelSave hh, State.saveAns_of_not_frozen hp, answered_fail rfl _ _ (by decide), opPnl]

end Sys2Proof.Machine
end

section
/-!
PROOF. Bobbin words (Tables 7.3 and 7.4): every instruction's word has 32 bits and decodes as the instruction.
-/

namespace Sys2Proof

/-- Instruction i has a word of 32 bits that decodes on engine e as i. -/
def Spelt (e : Eng) (i : Instr) : Prop := ∃ w, encodeBobbin i = some w ∧ w < 2 ^ 32 ∧ decodeBobbin e w = some i

/-- A word as its decoder takes it apart: 32 bits, OP, and the 26 bits below. -/
structure IsWord (w op low : Nat) : Prop where
  lt : w < 2 ^ 32
  op : bbField w 26 6 = op
  low : w % 2 ^ 26 = low

theorem isWord_bbWord {op d a low : Nat} (ho : op < 64) (hl : d * 2 ^ 22 + a * 2 ^ 18 + low < 2 ^ 26) :
    IsWord (bbWord op d a low) op (d * 2 ^ 22 + a * 2 ^ 18 + low) := by
  refine ⟨Nat.lt_of_not_le fun h => ?_, ?_, ?_⟩ <;> simp only [bbWord, bbField] at * <;> omega

/-- An instruction is spelt when its decoder finds it in every word with its fields. -/
theorem spelt_of {e : Eng} {i : Instr} {op d a low : Nat} (he : encodeBobbin i = some (bbWord op d a low))
    (hd : ∀ w, IsWord w op (d * 2 ^ 22 + a * 2 ^ 18 + low) → decodeBobbin e w = some i)
    (ho : op < 64 := by decide) (hl : d * 2 ^ 22 + a * 2 ^ 18 + low < 2 ^ 26 := by omega) : Spelt e i := by
  have h := isWord_bbWord ho hl
  exact ⟨bbWord op d a low, he, h.lt, hd _ h⟩

namespace IsWord

variable {w op low : Nat} (h : IsWord w op low)
include h

theorem field_eq {lo n : Nat} (hn : lo + n ≤ 26) : bbField w lo n = low / 2 ^ lo % 2 ^ n := by
  obtain ⟨k, hk⟩ := Nat.exists_eq_add_of_le hn
  rw [← h.low, bbField, hk, Nat.pow_add, Nat.pow_add, Nat.mul_assoc, Nat.mod_mul_right_div_self, Nat.mod_mul_right_mod]

theorem fits : w < 4294967296 := h.lt

theorem field (lo n v : Nat) (hn : lo + n ≤ 26 := by omega) (hv : low / 2 ^ lo % 2 ^ n = v := by omega) : bbField w lo n = v :=
  (h.field_eq hn).trans hv

theorem reg (lo : Nat) (a : Fin 16) (hn : lo + 4 ≤ 26 := by omega) (ha : low / 2 ^ lo % 2 ^ 4 = a := by omega) : bbReg w lo = a :=
  Fin.ext (h.field lo 4 a hn ha)

theorem size (lo : Nat) (sz : Fin 4) (hn : lo + 2 ≤ 26 := by omega) (hs : low / 2 ^ lo % 2 ^ 2 = sz := by omega) : bbSz w lo = sz :=
  Fin.ext (h.field lo 2 sz hn hs)

theorem imm {n : Nat} (i : BitVec n) (hn : n ≤ 26 := by omega) (hi : low % 2 ^ n = i.toNat := by omega) : BitVec.ofNat n w = i := by
  refine BitVec.eq_of_toNat_eq ?_
  have hf := h.field 0 n i.toNat (by omega) (by simpa using hi)
  rwa [bbField, Nat.pow_zero, Nat.div_one] at hf

end IsWord

/-! ### The formats of Table 7.3 -/

section

variable (e : Eng) (d a b : Fin 16)

/-- The instructions of OP 0x01: their function selects them (Table 7.4). -/
theorem spelt_alu {i : Instr} {fn : Nat} (he : encodeBobbin i = aluWord d a b fn) (hd : decodeAlu e d a b fn = some i) (hf : fn < 16 := by decide) :
    Spelt e i :=
  spelt_of he fun w h => by
    simp [decodeBobbin, h.fits, h.op, h.reg 22 d, h.reg 18 a, h.reg 14 b, h.field 0 10 0, h.field 10 4 fn, hd]

/-- The instructions with D, A and an 18-bit immediate. -/
theorem spelt_imm18 (i18 : BitVec 18) (i : Instr) (hi : i ∈ [.addi e d a i18, .andi e d a i18, .ori e d a i18, .xori e d a i18]) : Spelt e i := by
  simp only [List.mem_cons, List.not_mem_nil, or_false] at hi
  rcases hi with rfl | rfl | rfl | rfl <;>
    exact spelt_of rfl fun w h => by simp [decodeBobbin, h.fits, h.op, h.reg 22 d, h.reg 18 a, h.imm i18]

/-- Branches that compare two registers. -/
theorem spelt_branch (off : BitVec 12) (i : Instr) (hi : i ∈ [.beq e d a off, .bne e d a off, .bltu e d a off, .bgeu e d a off]) : Spelt e i := by
  simp only [List.mem_cons, List.not_mem_nil, or_false] at hi
  rcases hi with rfl | rfl | rfl | rfl <;>
    exact spelt_of rfl fun w h => by simp [decodeBobbin, h.fits, h.op, h.reg 22 d, h.reg 18 a, h.field 12 6 0, h.imm off]
/-- Shifts by an immediate. -/
theorem spelt_shift (i6 : BitVec 6) (i : Instr) (hi : i ∈ [.shli e d a i6, .shri e d a i6]) : Spelt e i := by
  simp only [List.mem_cons, List.not_mem_nil, or_false] at hi
  rcases hi with rfl | rfl <;>
    exact spelt_of rfl fun w h => by simp [decodeBobbin, h.fits, h.op, h.reg 22 d, h.reg 18 a, h.field 6 12 0, h.imm i6]

/-- Loads and stores of data space. -/
theorem spelt_data (sz : Fin 4) (i16 : B16) (i : Instr) (hi : i ∈ [.ldl e d a sz i16 0, .stl e d a sz i16 0]) : Spelt e i := by
  simp only [List.mem_cons, List.not_mem_nil, or_false] at hi
  rcases hi with rfl | rfl <;>
    exact spelt_of rfl fun w h => by simp [decodeBobbin, h.fits, h.op, h.reg 22 d, h.reg 18 a, h.size 16 sz, h.imm i16]

/-- Accesses of the shared tables. -/
theorem spelt_table (i17 : BitVec 17) (i : Instr) (hi : i ∈ [.ldt e d a i17 0, .stt e d a i17, .addt e d a i17 0]) : Spelt e i := by
  simp only [List.mem_cons, List.not_mem_nil, or_false] at hi
  rcases hi with rfl | rfl | rfl <;>
    exact spelt_of rfl fun w h => by simp [decodeBobbin, h.fits, h.op, h.reg 22 d, h.reg 18 a, h.field 17 1 0, h.imm i17]

/-- Branches that compare a register with an immediate. -/
theorem spelt_branchImm (i8 : B8) (off : BitVec 12) (i : Instr) (hi : i ∈ [.beqi e d i8 off, .bnei e d i8 off]) : Spelt e i := by
  simp only [List.mem_cons, List.not_mem_nil, or_false] at hi
  rcases hi with rfl | rfl <;>
    exact spelt_of rfl fun w h => by simp [decodeBobbin, h.fits, h.op, h.reg 22 d, h.field 14 8 i8.toNat, h.field 12 2 0, h.imm off]

/-- Branches on a bit of a register. -/
theorem spelt_branchBit (i6 : BitVec 6) (off : BitVec 12) (i : Instr) (hi : i ∈ [.bbs e d i6 off, .bbc e d i6 off]) : Spelt e i := by
  simp only [List.mem_cons, List.not_mem_nil, or_false] at hi
  rcases hi with rfl | rfl <;>
    exact spelt_of rfl fun w h => by simp [decodeBobbin, h.fits, h.op, h.reg 22 d, h.field 16 6 i6.toNat, h.field 12 4 0, h.imm off]

theorem spelt_nop : Spelt e (.nop e) :=
  ⟨0, rfl, by decide, by rfl⟩

theorem spelt_hash : Spelt e (.hash e d a b) :=
  spelt_of rfl fun w h => by simp [decodeBobbin, h.fits, h.op, h.reg 22 d, h.reg 18 a, h.reg 14 b, h.field 0 14 0]

theorem spelt_li (i22 : BitVec 22) : Spelt e (.li e d i22) :=
  spelt_of rfl fun w h => by simp [decodeBobbin, h.fits, h.op, h.reg 22 d, h.imm i22]

theorem spelt_movk (hw : Fin 4) (i16 : B16) : Spelt e (.movk e d hw i16) :=
  spelt_of rfl fun w h => by simp [decodeBobbin, h.fits, h.op, h.reg 22 d, h.size 20 hw, h.field 16 4 0, h.imm i16]

theorem spelt_ldh (sz : Fin 4) (i6 : BitVec 6) : Spelt e (.ldh e d sz i6) :=
  spelt_of rfl fun w h => by simp [decodeBobbin, h.fits, h.op, h.reg 22 d, h.size 20 sz, h.field 6 14 0, h.imm i6]

theorem spelt_sth (sz : Fin 4) (i6 : BitVec 6) : Spelt e (.sth e a sz i6) :=
  spelt_of rfl fun w h => by
    simp [decodeBobbin, h.fits, h.op, h.field 22 4 0, h.reg 18 a, h.size 16 sz, h.field 6 10 0, h.imm i6]

theorem spelt_ctx (sel : Fin 19) : Spelt e (.ctx e d (BitVec.ofNat 6 sel)) := by
  have hs : (BitVec.ofNat 6 sel).toNat = sel := Nat.mod_eq_of_lt (by omega)
  refine spelt_of (low := sel) (if_pos (by omega) |>.trans (by rw [hs])) fun w h => ?_
  simp [decodeBobbin, h.fits, h.op, h.reg 22 d, h.field 6 16 0, h.field 0 6 sel, Fin.is_le, h.imm (BitVec.ofNat 6 sel)]

theorem spelt_jmp (off : BitVec 12) : Spelt e (.jmp e off) :=
  spelt_of rfl fun w h => by simp [decodeBobbin, h.fits, h.op, h.field 12 14 0, h.imm off]

theorem spelt_trace : Spelt e (.trace e a) :=
  spelt_of rfl fun w h => by simp [decodeBobbin, h.fits, h.op, h.field 4 22 0, h.reg 0 a]

theorem spelt_evt (i8 : B8) : Spelt e (.evt e a i8) :=
  spelt_of rfl fun w h => by simp [decodeBobbin, h.fits, h.op, h.reg 22 a, h.field 8 14 0, h.imm i8]

/-- The EXITs: their lowest three bits select them. -/
theorem spelt_exit (i : Instr) (hi : i ∈ [.exitForward e, .exitDrop e, .exitAbort e]) : Spelt e i := by
  simp only [List.mem_cons, List.not_mem_nil, or_false] at hi
  rcases hi with rfl | rfl | rfl
  · exact spelt_of rfl fun w h => by simp [decodeBobbin, h.fits, h.op, h.reg 22 0, h.field 3 19 0, h.field 0 3 0]
  · exact spelt_of rfl fun w h => by simp [decodeBobbin, h.fits, h.op, h.reg 22 0, h.field 3 19 0, h.field 0 3 1]
  · exact spelt_of rfl fun w h => by simp [decodeBobbin, h.fits, h.op, h.reg 22 0, h.field 3 19 0, h.field 0 3 2]

theorem spelt_exitRedirect : Spelt e (.exitRedirect e a) :=
  spelt_of rfl fun w h => by simp [decodeBobbin, h.fits, h.op, h.reg 22 a, h.field 3 19 0, h.field 0 3 3]

end

/-- Settles O55 (Tables 7.3 and 7.4), format by format: each field of the decoder reads back what the encoder put there. -/
theorem bobbinWordsRoundTrip : Obligations.BobbinWordsRoundTrip := by
  intro e d a b sz hw i8 i16 i17 i18 i22 i6 off sel i hi
  show Spelt e i
  simp only [List.mem_cons, List.not_mem_nil, or_false] at hi
  rcases hi with (rfl | rfl | rfl | rfl | rfl | rfl | rfl | rfl | rfl | rfl | rfl | rfl | rfl | rfl | rfl | rfl | rfl | rfl | rfl | rfl | rfl) |
    (rfl | rfl | rfl | rfl | rfl | rfl | rfl | rfl | rfl | rfl | rfl | rfl | rfl | rfl | rfl | rfl | rfl | rfl | rfl | rfl | rfl | rfl | rfl)
  exacts [spelt_nop e, spelt_alu e d a b rfl rfl, spelt_alu e d a b rfl rfl, spelt_alu e d a b rfl rfl, spelt_alu e d a b rfl rfl,
    spelt_alu e d a b rfl rfl, spelt_alu e d a b rfl rfl, spelt_alu e d a b rfl rfl, spelt_alu e d a b rfl rfl, spelt_alu e d a b rfl rfl,
    spelt_alu e d a b rfl rfl, spelt_alu e d a b rfl rfl, spelt_hash e d a b, spelt_imm18 e d a i18 _ (by simp),
    spelt_imm18 e d a i18 _ (by simp), spelt_imm18 e d a i18 _ (by simp), spelt_imm18 e d a i18 _ (by simp), spelt_shift e d a i6 _ (by simp),
    spelt_shift e d a i6 _ (by simp), spelt_li e d i22, spelt_movk e d hw i16, spelt_ldh e d sz i6, spelt_sth e a sz i6,
    spelt_data e d a sz i16 _ (by simp), spelt_data e d a sz i16 _ (by simp), spelt_table e d a i17 _ (by simp),
    spelt_table e d a i17 _ (by simp), spelt_table e d a i17 _ (by simp), spelt_ctx e d sel, spelt_branch e d a off _ (by simp),
    spelt_branch e d a off _ (by simp), spelt_branch e d a off _ (by simp), spelt_branch e d a off _ (by simp),
    spelt_branchImm e d i8 off _ (by simp), spelt_branchImm e d i8 off _ (by simp), spelt_branchBit e d i6 off _ (by simp),
    spelt_branchBit e d i6 off _ (by simp), spelt_jmp e off, spelt_trace e a, spelt_evt e a i8, spelt_exit e _ (by simp),
    spelt_exit e _ (by simp), spelt_exit e _ (by simp), spelt_exitRedirect e a]

end Sys2Proof
end

section
/-!
PROOF. Engine instructions (Table 7.4), O16 to O18: one rule for each way an instruction ends, and what a write of D and a move of the program
counter leave alone.
-/

namespace Sys2Proof.Machine

variable {s t : State} {e : Eng} {r r' : BRun} {x : Instr}

/-! ### How an instruction of a run ends -/

/-- The run of an engine whose program memory has no bad word ahead comes to its next slot without an effect. -/
theorem State.fetched_clean {e : Nat} (hr : (s.eng e).run = some r) (hb : r.bad = none) : s.fetched e = s := by
  simp [State.fetched, hr, hb]

/-- An instruction that goes on moves the program counter. -/
theorem State.ins_go {body : State → BRun → IOut} {off : Nat} (h : Stands s e r x)
    (hb : body (s.instrStart e r) { r with loads := r.aged } = .go t off) (hr : (t.eng e).run = some r') (hc : r'.bad = none) :
    s.ins e x body = t.modEng e fun y => { y with pc := ((s.eng e).pc + 1 + off) % 4096 } := by
  simp only [State.ins, h.run, h.here, ne_eq, not_true_eq_false, if_false, State.instrStart_run, Option.getD_some, hb]
  exact State.fetched_clean (r := r') (by simp [hr]) hc

/-- An instruction that faults ends the run. -/
theorem State.ins_fault {body : State → BRun → IOut} {cause : Nat} (h : Stands s e r x)
    (hb : body (s.instrStart e r) { r with loads := r.aged } = .fault t cause) : s.ins e x body = t.runFault e cause false := by
  simp [State.ins, h.run, h.here, State.instrStart_run, hb]

/-- An EXIT ends the run with its verdict. -/
theorem State.ins_quit {body : State → BRun → IOut} {v port : Nat} (h : Stands s e r x)
    (hb : body (s.instrStart e r) { r with loads := r.aged } = .quit t v port) : s.ins e x body = t.runEnd e v port := by
  simp [State.ins, h.run, h.here, State.instrStart_run, hb]

/-! ### What an update of the engine itself leaves alone -/

theorem EngineFrame.modEng (h : EngineFrame s t e) (f : BEng → BEng) (hf : ∀ y, (f y).newImage = y.newImage) :
    EngineFrame s (t.modEng e f) e where
  engines g hg := by simp [hg, h.engines g hg]
  image := by simp [hf, h.image]
  clusters := h.clusters
  queue := h.queue
  rest := h.rest

theorem SameMemory.modEng (h : SameMemory s t e) (f : BEng → BEng) (hf : ∀ y, (f y).data = y.data) : SameMemory s (t.modEng e f) e :=
  ⟨by simpa [hf] using h.1, h.2⟩

theorem Quiet.modEng (h : Quiet s t e) (f : BEng → BEng) : Quiet s (t.modEng e f) e := h

/-- A write of a general register. -/
theorem State.setGreg_greg (s : State) (e : Nat) (d i : Fin 16) (v : B64) :
    (s.setGreg e d v).greg e i = if i = d then (if d = 0 then 0 else v) else s.greg e i := by
  by_cases hd : d = 0
  · by_cases hi : i = 0 <;> simp [State.setGreg, State.greg, hd, hi]
  · by_cases hi : i = d
    · simp [State.setGreg, State.greg, hd, hi]
    · have : i.val ≠ d.val := fun k => hi (Fin.ext k)
      simp [State.setGreg, State.greg, hd, hi, SMap.get_set_ne _ _ _ _ _ this]

/-- A write of a general register changes the engine's registers only. -/
theorem State.setGreg_eq (s : State) (e : Nat) (d : Fin 16) (v : B64) :
    ∃ f : BEng → BEng, s.setGreg e d v = s ∨ s.setGreg e d v = s.modEng e f ∧
      ∀ y, (f y).newImage = y.newImage ∧ (f y).data = y.data ∧ (f y).run = y.run ∧ (f y).pc = y.pc := by
  refine ⟨fun y => { y with regs := SMap.set (fun _ => 0) y.regs d.val v }, ?_⟩
  unfold State.setGreg
  split
  · exact .inl rfl
  · exact .inr ⟨rfl, fun _ => ⟨rfl, rfl, rfl, rfl⟩⟩

theorem State.setGreg_run (s : State) (e : Nat) (d : Fin 16) (v : B64) : ((s.setGreg e d v).eng e).run = (s.eng e).run := by
  obtain ⟨f, h | ⟨h, hf⟩⟩ := s.setGreg_eq e d v
  · rw [h]
  · simp [h, hf]

theorem EngineFrame.setGreg (h : EngineFrame s t e) (d : Fin 16) (v : B64) : EngineFrame s (t.setGreg e d v) e := by
  obtain ⟨f, k | ⟨k, hf⟩⟩ := t.setGreg_eq e d v <;> rw [k]
  · exact h
  · exact h.modEng f fun y => (hf y).1

theorem SameMemory.setGreg (h : SameMemory s t e) (d : Fin 16) (v : B64) : SameMemory s (t.setGreg e d v) e := by
  obtain ⟨f, k | ⟨k, hf⟩⟩ := t.setGreg_eq e d v <;> rw [k]
  · exact h
  · exact h.modEng f fun y => (hf y).2.1

theorem Quiet.setGreg (h : Quiet s t e) (d : Fin 16) (v : B64) : Quiet s (t.setGreg e d v) e := by
  obtain ⟨f, k | ⟨k, -⟩⟩ := t.setGreg_eq e d v <;> rw [k]
  · exact h
  · exact h.modEng f

/-- A register does not depend on the program counter or the run. -/
theorem State.modEng_greg (s : State) (e : Nat) (i : Fin 16) (f : BEng → BEng) (hf : ∀ y, (f y).regs = y.regs) :
    (s.modEng e f).greg e i = s.greg e i := by
  simp [State.greg, hf]

/-! ### The results of instructions -/

/-- What an instruction has done when, from a state whose registers are those it read, it writes v to D and moves on. -/
theorem writes_of {d : Fin 16} (v : B64) (hg : ∀ i, t.greg e i = s.regIn e r i) (hr : (t.eng e).run = some { r with loads := r.aged })
    (hf : EngineFrame s t e) :
    Writes s ((t.setGreg e d v).modEng e fun y => { y with pc := ((s.eng e).pc + 1) % 4096 }) e r d v where
  result := by rw [State.modEng_greg _ _ _ _ (by simp), State.setGreg_greg, if_pos rfl]
  others i hi := by rw [State.modEng_greg _ _ _ _ (by simp), State.setGreg_greg, if_neg hi, hg]
  pc := by simp
  run := by simp [State.setGreg_run, hr]
  frame := (hf.setGreg d v).modEng _ fun _ => rfl

/-- What an instruction has done when, from a state whose registers are those it read, it moves on. -/
theorem moves_of (n : Nat) (hg : ∀ i, t.greg e i = s.regIn e r i) (hr : (t.eng e).run = some r') (hf : EngineFrame s t e) :
    Moves s (t.modEng e fun y => { y with pc := n % 4096 }) e r r' n where
  regs i := by rw [State.modEng_greg _ _ _ _ (by simp), hg]
  pc := by simp
  run := by simpa using hr
  frame := hf.modEng _ fun _ => rfl

/-- An instruction whose own part is a write of D. -/
theorem State.ins_computes {body : State → BRun → IOut} {d : Fin 16} {v : B64} (h : Stands s e r x)
    (hb : body (s.instrStart e r) { r with loads := r.aged } = (s.instrStart e r).toReg e d v) : Computes s (s.ins e x body) e r d v := by
  rw [State.ins_go h hb ((State.setGreg_run _ _ _ _).trans (s.instrStart_run e r)) h.clean]
  exact ⟨writes_of v (s.instrStart_greg e r) (s.instrStart_run e r) (s.instrStart_frame e r),
    ((s.instrStart_memory e r).setGreg d v).modEng _ fun _ => rfl, ((s.instrStart_quiet e r).setGreg d v).modEng _⟩

/-- An instruction whose own part is to go on. -/
theorem State.ins_branches {body : State → BRun → IOut} {off : Nat} (h : Stands s e r x)
    (hb : body (s.instrStart e r) { r with loads := r.aged } = .go (s.instrStart e r) off) :
    Branches s (s.ins e x body) e r ((s.eng e).pc + 1 + off) := by
  rw [State.ins_go h hb (s.instrStart_run e r) h.clean]
  exact ⟨moves_of _ (s.instrStart_greg e r) (s.instrStart_run e r) (s.instrStart_frame e r),
    (s.instrStart_memory e r).modEng _ fun _ => rfl, (s.instrStart_quiet e r).modEng _⟩

/-- An instruction that computes D from the registers as it reads them. -/
theorem State.alu_computes {d : Fin 16} {f : State → B64} {v : B64} (h : Stands s e r x) (hv : f (s.instrStart e r) = v) :
    Computes s (s.alu e x d f) e r d v :=
  State.ins_computes h (by rw [hv])

/-- A branch whose condition holds or does not. -/
theorem State.branch_branches {off : BitVec 12} {f : State → Bool} {c : Bool} {n : Nat} (h : Stands s e r x) (hc : f (s.instrStart e r) = c)
    (hn : n = (s.eng e).pc + 1 + if c then off.toNat else 0) : Branches s (s.branch e x off f) e r n := by
  subst hn
  exact State.ins_branches h (by rw [hc])

/-! ### Values -/

theorem ofNat_min_toNat (x y : B64) : BitVec.ofNat 64 (min x.toNat y.toNat) = if x.toNat ≤ y.toNat then x else y := by
  split <;> rename_i h
  · rw [Nat.min_eq_left h, BitVec.ofNat_toNat, BitVec.setWidth_eq]
  · rw [Nat.min_eq_right (by omega), BitVec.ofNat_toNat, BitVec.setWidth_eq]

theorem ofNat_max_toNat (x y : B64) : BitVec.ofNat 64 (max x.toNat y.toNat) = if x.toNat ≤ y.toNat then y else x := by
  split <;> rename_i h
  · rw [Nat.max_eq_right h, BitVec.ofNat_toNat, BitVec.setWidth_eq]
  · rw [Nat.max_eq_left (by omega), BitVec.ofNat_toNat, BitVec.setWidth_eq]

/-- MOVK's value: part hw is imm, the others are those of y. -/
theorem getLsbD_movk (y : B64) (hw : Fin 4) (imm : B16) {i : Nat} (hi : i < 64) :
    ((y &&& ~~~((0xFFFF : B64) <<< (16 * hw.val))) ||| (imm.setWidth 64 <<< (16 * hw.val))).getLsbD i =
      if i / 16 = hw.val then imm.getLsbD (i % 16) else y.getLsbD i := by
  have hm : ∀ j, (0xFFFF : B64).getLsbD j = decide (j < 16) := fun j => by
    rw [show (0xFFFF : B64) = (BitVec.allOnes 16).setWidth 64 from by decide, BitVec.getLsbD_setWidth, BitVec.getLsbD_allOnes]
    by_cases h : j < 16 <;> simp [h]; omega
  simp only [BitVec.getLsbD_or, BitVec.getLsbD_and, BitVec.getLsbD_not, BitVec.getLsbD_shiftLeft, BitVec.getLsbD_setWidth, hm, hi,
    decide_true, Bool.true_and]
  by_cases h : i / 16 = hw.val
  · have h1 : ¬ i < 16 * hw.val := by omega
    have h2 : i - 16 * hw.val = i % 16 := by omega
    have h3 : i % 16 < 64 := by omega
    simp [h, h1, h2, h3, Nat.mod_lt]
  · have h1 : i < 16 * hw.val ∨ ¬ (i - 16 * hw.val < 16) := by omega
    rcases h1 with h1 | h1
    · simp [h, h1]
    · simp [h, h1, BitVec.getLsbD_of_ge imm (i - 16 * hw.val) (by omega)]

/-! ### The obligations -/

/-- Settles O16 (Table 7.4): each function of the registers as they are read goes to D, by `alu_computes`. -/
theorem engineAlu : Obligations.EngineAlu := by
  rintro s e r d a b x y rfl rfl
  simp only [ofNat_min_toNat, ofNat_max_toNat, ← State.instrStart_greg]
  refine ⟨?_, ?_, ?_, ?_, ?_, ?_, ?_, ?_, ?_, ?_, ?_, ?_⟩ <;> exact fun h => ⟨_, rfl, State.alu_computes h rfl⟩

/-- Settles O17 (Table 7.3): as O16, with the immediate in place of a register. -/
theorem engineImmediates : Obligations.EngineImmediates := by
  rintro s e r d a x rfl
  simp only [← State.instrStart_greg]
  refine ⟨?_, ?_, ?_, ?_, ?_, ?_, ?_, ?movk⟩
  case movk => exact fun hw imm h => ⟨_, _, rfl, State.alu_computes h rfl, fun i hi => getLsbD_movk _ hw imm hi⟩
  all_goals exact fun _ h => ⟨_, rfl, State.alu_computes h rfl⟩

/-- Settles O18 (R185, R188): each condition on the registers as they are read decides where the run goes on, by `branch_branches`. -/
theorem engineBranches : Obligations.EngineBranches := by
  rintro s e r d a off x y n rfl rfl hn
  simp only [← State.instrStart_greg]
  have two : ∀ {x : Instr} (c : State → Bool), Stands s e r x →
      Branches s (s.branch e x off c) e r (n (c (s.instrStart e r))) := fun _ h => State.branch_branches h rfl (hn _)
  exact ⟨fun h => ⟨_, rfl, (hn false).symm ▸ State.ins_branches h rfl⟩, fun h => ⟨_, rfl, two _ h⟩, fun h => ⟨_, rfl, two _ h⟩,
    fun h => ⟨_, rfl, two _ h⟩, fun h => ⟨_, rfl, two _ h⟩, fun _ h => ⟨_, rfl, two _ h⟩, fun _ h => ⟨_, rfl, two _ h⟩,
    fun _ h => ⟨_, rfl, two _ h⟩, fun _ h => ⟨_, rfl, two _ h⟩, fun h => ⟨_, rfl, two _ h⟩⟩

end Sys2Proof.Machine
end

section
/-!
PROOF. Engine loads and stores (R182 to R187, R194, R197), O19: the access rules of data space and of the shared tables, each said once, and
what they leave of the start of the instruction.
-/

namespace Sys2Proof.Machine

variable {s t u : State} {e : Eng} {r : BRun} {x : Instr}

/-- A corrected or uncorrectable word is counted. -/
theorem State.localEcc_count (s : State) (e space word ecc : Nat) : CountOnly s (s.localEcc e space word ecc) := by
  unfold State.localEcc
  split
  · exact ((CountOnly.refl s).put _ _).raiseLim _ _ _ _ _ _ _ _
  · split
    · exact (CountOnly.refl s).put _ _
    · exact CountOnly.refl s

/-! ### The start of an instruction, as memory accesses see it -/

/-- What the start of an instruction of run r leaves: registers as they are to be read, the run with its landed results gone, and everything
else of the engine and of the outside as it was. -/
structure Started (s u : State) (e : Eng) (r : BRun) : Prop where
  regs : ∀ i, u.greg e i = s.regIn e r i
  run : (u.eng e).run = some { r with loads := r.aged }
  frame : EngineFrame s u e
  memory : SameMemory s u e
  thimbles : ∀ n, u.thm n = s.thm n

theorem State.instrStart_started (s : State) (e : Eng) (r : BRun) : Started s (s.instrStart e r) e r where
  regs := s.instrStart_greg e r
  run := s.instrStart_run e r
  frame := s.instrStart_frame e r
  memory := s.instrStart_memory e r
  thimbles n := by simp only [State.thm, (s.instrStart_only e r).thimbles, (s.landLoads_rest e r).2.2.2.1]

/-- A change of counts and of the engine's sampler alone. -/
theorem Started.trans (h : Started s t e r) (k : StartOnly t u e) : Started s u e r where
  regs i := by rw [← h.regs]; simp only [State.greg, k.mine.1]
  run := k.mine.2.2.1.trans h.run
  frame := by
    obtain ⟨h1, h2, h3, h4, h5, h6, h7, h8, h9, h10, h11, h12, h13⟩ := h.frame.rest
    obtain ⟨k1, k2, k3, k4, k5, k6, k7, k8, k9, k10, k11, k12, k13⟩ := k.rest
    exact {
      engines := fun f hf => (k.others f hf).trans (h.frame.engines f hf)
      image := k.mine.2.2.2.2.trans h.frame.image
      clusters := k.shared.1.trans h.frame.clusters
      queue := k.pending.trans h.frame.queue
      rest := ⟨k1.trans h1, k2.trans h2, k3.trans h3, k4.trans h4, k5.trans h5, k6.trans h6, k7.trans h7, k8.trans h8, k9.trans h9,
        k10.trans h10, k11.trans h11, k12.trans h12, k13.trans h13⟩ }
  memory := by
    obtain ⟨hd, hw, hb⟩ := h.memory
    exact ⟨k.mine.2.2.2.1.trans hd, k.shared.2.1.trans hw, k.shared.2.2.trans hb⟩
  thimbles n := by rw [← h.thimbles]; simp only [State.thm, k.thimbles]

theorem Started.count (h : Started s t e r) (k : CountOnly t u) : Started s u e r := h.trans (k.start e)

/-- An instruction that goes on, from the state in which it starts. -/
theorem Stands.go {body : State → BRun → IOut} {off : Nat} (h : Stands s e r x) (hu : u = s.instrStart e r)
    (hb : body u { r with loads := r.aged } = .go t off) (hr : ∃ q, (t.eng e).run = some q ∧ q.bad = r.bad) :
    s.ins e x body = t.modEng e fun y => { y with pc := ((s.eng e).pc + 1 + off) % 4096 } := by
  subst hu
  obtain ⟨q, hq, hc⟩ := hr
  exact State.ins_go h hb hq (hc.trans h.clean)

theorem Stands.fault {body : State → BRun → IOut} {cause : Nat} (h : Stands s e r x) (hu : u = s.instrStart e r)
    (hb : body u { r with loads := r.aged } = .fault t cause) : s.ins e x body = t.runFault e cause false := by
  subst hu
  exact State.ins_fault h hb

theorem State.flight_congr (h : s.core = t.core) (id : Nat) : s.flight id = t.flight id := by simp only [State.flight, h]

theorem State.runTlp_congr (h : s.core = t.core) (q : BRun) : s.runTlp q = t.runTlp q := by simp only [State.runTlp, State.flight_congr h]

theorem Started.core (h : Started s u e r) : u.core = s.core := h.frame.rest.2.2.2.2.1

/-! ### Data space (R186) -/

variable {a : Fin 16} {sz : Fin 4} {imm : B16} {ecc addr : Nat} {go : State → Nat → IOut}

theorem State.dataAcc_range (hu : (s.greg e a + imm.setWidth 64).toNat = addr) (h : addr % 2 ^ sz.val ≠ 0 ∨ 0xC000 < addr + 2 ^ sz.val) :
    s.dataAcc e a sz imm ecc go = .fault s 1 := by
  simp only [State.dataAcc, hu, if_pos h]

theorem State.dataAcc_uncorr (hu : (s.greg e a + imm.setWidth 64).toNat = addr) (hz : addr % 2 ^ sz.val = 0) (hr : addr + 2 ^ sz.val ≤ 0xC000) :
    s.dataAcc e a sz imm 2 go = .fault (s.localEcc e 1 (addr / 8) 2) 6 := by
  simp only [State.dataAcc, hu, hz, ne_eq, not_true_eq_false, false_or, if_neg (Nat.not_lt.mpr hr), if_true]

theorem State.dataAcc_ok (hu : (s.greg e a + imm.setWidth 64).toNat = addr) (hz : addr % 2 ^ sz.val = 0) (hr : addr + 2 ^ sz.val ≤ 0xC000)
    (hc : ecc ≤ 1) : s.dataAcc e a sz imm ecc go = go (s.localEcc e 1 (addr / 8) ecc) addr := by
  simp only [State.dataAcc, hu, hz, ne_eq, not_true_eq_false, false_or, if_neg (Nat.not_lt.mpr hr), if_neg (show ecc ≠ 2 by omega)]

/-- Writes of consecutive keys. -/
theorem get_foldl_set (addr n : Nat) (f : Nat → B8) (m : SMap B8) (i : Nat) :
    SMap.get (fun _ => 0) ((List.range n).foldl (fun m i => SMap.set (fun _ => 0) m (addr + i) (f i)) m) i =
      if addr ≤ i ∧ i < addr + n then f (i - addr) else SMap.get (fun _ => 0) m i := by
  induction n with
  | zero => simp
  | succ n ih =>
    simp only [List.range_succ, List.foldl_append, List.foldl_cons, List.foldl_nil, SMap.get_set, ih]
    by_cases h : i = addr + n
    · subst h; simp
    · rw [if_neg h]
      exact if_congr (by omega) rfl rfl

/-! ### Shared tables (R194, R195) -/

section

variable {e : Nat} {imm : BitVec 17} {kind : Nat}

/-- What the engine's thimble answers an access of run r. -/
def State.sharedThm (s : State) (e : Nat) (r : BRun) (addr kind : Nat) : ThmAns :=
  thmCheck (if r.epoch = (s.thm e).epoch then (s.thm e).regions else (s.thm e).old)
    (if r.epoch = (s.thm e).epoch then (s.thm e).bad else []) addr 8 kind

theorem State.sharedAcc_ok (hu : (s.greg e a + (imm.setWidth 64 : B64) * 8).toNat = addr) (hz : addr % 8 = 0) (hr : addr ≤ 0xFFFF8)
    (ht : s.sharedThm e r addr kind = .allowed) : s.sharedAcc e r a imm kind go = go s addr := by
  simp only [State.sharedThm] at ht
  simp only [State.sharedAcc, hu, beq_iff_eq, ht, if_neg (show ¬ (addr % 8 ≠ 0 ∨ 0xFFFF8 < addr) by omega)]

theorem State.sharedAcc_denied (hu : (s.greg e a + (imm.setWidth 64 : B64) * 8).toNat = addr)
    (ht : addr % 8 ≠ 0 ∨ 0xFFFF8 < addr ∨ s.sharedThm e r addr kind = .denied) : s.sharedAcc e r a imm kind go =
      .fault (s.raiseLim ms100 e (srcStn (e / 16)) 0x4020 2 (scStn (e / 16)) 0 [e, addr, kind, r.epoch]) 2 := by
  simp only [State.sharedThm] at ht
  by_cases h : addr % 8 ≠ 0 ∨ 0xFFFF8 < addr
  · simp only [State.sharedAcc, hu, if_pos h]
  · have hd := (or_assoc.mpr ht).resolve_left h
    simp only [State.sharedAcc, hu, if_neg h, beq_iff_eq, hd]

end

variable {st : Nat} {k : State → IOut}

theorem State.sharedEcc_ok (hb : sharedKey st addr ∉ s.bob.bad) (hc : ecc ≤ 1) :
    ∃ t, CountOnly s t ∧ (ecc = 0 → t = s) ∧ s.sharedEcc st addr ecc k = k t := by
  have he : s.sharedEcc st addr ecc k = k (if ecc = 1 then s.bump (F.STN_CLS_ECC_CORR st) else s) := by
    simp only [State.sharedEcc, List.contains_eq_mem, decide_eq_true_eq, if_neg hb, if_neg (show ecc ≠ 2 by omega)]
  refine ⟨_, ?_, ?_, he⟩
  · split
    · exact (CountOnly.refl s).put _ _
    · exact CountOnly.refl s
  · rintro rfl; rfl

theorem State.sharedEcc_bad (hb : sharedKey st addr ∈ s.bob.bad) : s.sharedEcc st addr ecc k = .fault s 3 := by
  simp [State.sharedEcc, hb]

theorem State.sharedEcc_uncorr (hb : sharedKey st addr ∉ s.bob.bad) : s.sharedEcc st addr 2 k =
    .fault (State.bump { s with bob := { s.bob with bad := s.bob.bad ++ [sharedKey st addr] } } (F.STN_CLS_ECC_UNCORR st)) 3 := by
  simp [State.sharedEcc, hb]

/-! ### The registers and the memory after an access -/

/-- The store of a shared word. -/
theorem State.setShared_get (s : State) (st addr : Nat) (v : B64) (j : Nat) : SMap.get (fun _ => 0) (s.setShared st addr v).bob.words j =
    if j = sharedKey st addr then v else SMap.get (fun _ => 0) s.bob.words j := by
  simp only [State.setShared, SMap.get_set]

theorem EngineFrame.setShared (h : EngineFrame s t e) (st addr : Nat) (v : B64) : EngineFrame s (t.setShared st addr v) e :=
  ⟨h.engines, h.image, h.clusters, h.queue, h.rest⟩

/-- With the sampler off, an LDT that is counted leaves the start of the instruction as it is. -/
theorem Quiet.smpEvent (hu : u = s.instrStart e r) (kind pc cls : Nat) : Quiet s (u.smpEvent e kind pc cls) e := by
  intro h1 h2 h3
  have hs : (u.eng e).smp = (s.eng e).smp := by
    rw [hu, State.instrStart_off s e r h1 h2 h3]
    simpa [State.addWide] using (s.landLoads_only e r).mine.2.2.2.2
  have hq : u.smpEvent e kind pc cls = u := by simp [State.smpEvent, hs, h3]
  rw [hq, hu]
  exact s.instrStart_quiet e r h1 h2 h3

end Sys2Proof.Machine
end

section
/-!
PROOF. The instructions of an engine that reach memory or the header (Table 7.4), O19.
-/

namespace Sys2Proof.Machine

variable {s t t' u : State} {e : Eng} {r : BRun} {n : Nat}

/-! ### The instructions -/

theorem State.modEng_run (s : State) (e : Nat) (q : BRun) : ((s.modEng e fun y => { y with run := some q }).eng e).run = some q := by simp

theorem SameMemory.setRun (h : SameMemory s t e) (q : BRun) : SameMemory s (t.modEng e fun y => { y with run := some q }) e :=
  h.modEng _ fun _ => rfl

theorem SameMemory.setPc (h : SameMemory s t e) (n : Nat) : SameMemory s (t.modEng e fun y => { y with pc := n }) e :=
  h.modEng _ fun _ => rfl

/-- An instruction whose one effect besides its start is on its run. -/
theorem Started.moves_run (k : Started s t e r) (q : BRun) (n : Nat) :
    Moves s ((t.modEng e fun y => { y with run := some q }).modEng e fun y => { y with pc := n % 4096 }) e r q n := by
  refine moves_of n (fun i => ?_) (State.modEng_run t e q) (k.frame.modEng _ fun _ => rfl)
  rw [State.modEng_greg _ _ _ _ (by simp), k.regs]

/-- STH leaves the window and the tag of its run changed. -/
theorem sth_moves {a : Fin 16} {sz : Fin 4} {off : BitVec 6} {w : Bytes} (h : Stands s e r (.sth e a sz off))
    (hw : w = winStore r off.toNat (2 ^ sz.val) (s.regIn e r a)) :
    ∃ t, exec (.sth e a sz off) s = .next t ∧ SameMemory s t e ∧ Quiet s t e ∧
      Moves s t e r { r with loads := r.aged, win := w, tag := if w = r.win then r.tag else leftTag r.tag0 (s.runTlp r) r.win0 w }
        ((s.eng e).pc + 1) := by
  obtain ⟨u, hu⟩ : ∃ u, u = s.instrStart e r := ⟨_, rfl⟩
  have k : Started s u e r := hu ▸ s.instrStart_started e r
  have hq : Quiet s u e := hu ▸ s.instrStart_quiet e r
  have hr : u.runTlp { r with loads := r.aged } = s.runTlp r := State.runTlp_congr k.core _
  subst hw
  refine ⟨_, congrArg Host.Outcome.next (h.go (off := 0) hu rfl ⟨_, State.modEng_run _ _ _, rfl⟩), ?_, hq, ?_⟩
  · exact (k.memory.setRun _).setPc _
  · rw [hr, k.regs]
    exact k.moves_run _ _

section

variable {d a : Fin 16} {sz : Fin 4} {imm : B16} {ecc : Fin 3} {addr : Nat}

theorem ldl_writes (ha : addr = (s.regIn e r a + imm.setWidth 64).toNat) (hz : addr % 2 ^ sz.val = 0) (hr : addr + 2 ^ sz.val ≤ 0xC000)
    (hc : ecc.val ≤ 1) (h : Stands s e r (.ldl e d a sz imm 0)) : ∃ t, exec (.ldl e d a sz imm ecc) s = .next t ∧ SameMemory s t e ∧
      (ecc.val = 0 → Quiet s t e) ∧
      Writes s t e r d (BitVec.ofNat 64 (leNat ((List.range (2 ^ sz.val)).map fun i => s.dataByte e (addr + i)))) := by
  obtain ⟨u, hu⟩ : ∃ u, u = s.instrStart e r := ⟨_, rfl⟩
  have k : Started s u e r := hu ▸ s.instrStart_started e r
  have hq : Quiet s u e := hu ▸ s.instrStart_quiet e r
  obtain ⟨v, hv⟩ : ∃ v, v = u.localEcc e 1 (addr / 8) ecc := ⟨_, rfl⟩
  have kv : Started s v e r := k.count (hv ▸ u.localEcc_count e 1 (addr / 8) ecc)
  have hb : ∀ i, v.dataByte e i = s.dataByte e i := fun i => by simp only [State.dataByte, kv.memory.1]
  refine ⟨_, congrArg Host.Outcome.next (h.go (off := 0) hu ((State.dataAcc_ok (by rw [k.regs, ha]) hz hr hc).trans (by rw [← hv]; rfl))
    ⟨_, (State.setGreg_run _ _ _ _).trans kv.run, rfl⟩), (kv.memory.setGreg d _).modEng _ fun _ => rfl, fun h0 => ?_, ?_⟩
  · rw [hv, h0]
    exact (hq.setGreg d _).modEng _
  · simp only [hb]
    exact writes_of _ kv.regs kv.run kv.frame

theorem stl_moves (ha : addr = (s.regIn e r a + imm.setWidth 64).toNat) (hz : addr % 2 ^ sz.val = 0) (hr : addr + 2 ^ sz.val ≤ 0xC000)
    (hc : ecc.val ≤ 1) (h : Stands s e r (.stl e d a sz imm 0)) : ∃ t, exec (.stl e d a sz imm ecc) s = .next t ∧
      Moves s t e r { r with loads := r.aged } ((s.eng e).pc + 1) ∧ (ecc.val = 0 → Quiet s t e) ∧ t.bob.words = s.bob.words ∧
      t.bob.bad = s.bob.bad ∧ ∀ i, t.dataByte e i =
        if addr ≤ i ∧ i < addr + 2 ^ sz.val then BitVec.ofNat 8 ((s.regIn e r d).toNat / 2 ^ (8 * (i - addr))) else s.dataByte e i := by
  obtain ⟨u, hu⟩ : ∃ u, u = s.instrStart e r := ⟨_, rfl⟩
  have k : Started s u e r := hu ▸ s.instrStart_started e r
  have hq : Quiet s u e := hu ▸ s.instrStart_quiet e r
  obtain ⟨v, hv⟩ : ∃ v, v = u.localEcc e 1 (addr / 8) ecc := ⟨_, rfl⟩
  have kv : Started s v e r := k.count (hv ▸ u.localEcc_count e 1 (addr / 8) ecc)
  have hrun : ∀ f : BEng → BEng, (∀ y, (f y).run = y.run) → ((v.modEng e f).eng e).run = some { r with loads := r.aged } := fun f hf => by
    rw [State.modEng_eng, if_pos rfl, hf, kv.run]
  refine ⟨_, congrArg Host.Outcome.next (h.go (off := 0) hu ((State.dataAcc_ok (by rw [k.regs, ha]) hz hr hc).trans (by rw [← hv]))
    ⟨_, hrun _ (by simp), rfl⟩), ?_, fun h0 => ?_, kv.memory.2.1, kv.memory.2.2, fun i => ?_⟩
  · refine moves_of _ (fun i => ?_) (hrun _ (by simp)) (kv.frame.modEng _ fun _ => rfl)
    rw [State.modEng_greg _ _ _ _ (by simp), kv.regs]
  · rw [hv, h0]
    exact hq
  · simp only [State.dataByte, State.modEng_eng, if_true, get_foldl_set, kv.regs, kv.memory.1]

theorem data_uncorr (hu : u = s.instrStart e r) (ha : addr = (s.regIn e r a + imm.setWidth 64).toNat) (hz : addr % 2 ^ sz.val = 0)
    (hr : addr + 2 ^ sz.val ≤ 0xC000) (hc : ecc.val = 2) :
    (Stands s e r (.ldl e d a sz imm 0) → exec (.ldl e d a sz imm ecc) s = .next ((u.localEcc e 1 (addr / 8) 2).runFault e 6 false)) ∧
    (Stands s e r (.stl e d a sz imm 0) → exec (.stl e d a sz imm ecc) s = .next ((u.localEcc e 1 (addr / 8) 2).runFault e 6 false)) := by
  have k : Started s u e r := hu ▸ s.instrStart_started e r
  obtain rfl : ecc = 2 := Fin.ext hc
  exact ⟨fun h => congrArg _ (h.fault hu (State.dataAcc_uncorr (by rw [k.regs, ha]) hz hr)),
    fun h => congrArg _ (h.fault hu (State.dataAcc_uncorr (by rw [k.regs, ha]) hz hr))⟩

theorem data_range (hu : u = s.instrStart e r) (ha : addr = (s.regIn e r a + imm.setWidth 64).toNat)
    (hz : addr % 2 ^ sz.val ≠ 0 ∨ 0xC000 < addr + 2 ^ sz.val) :
    (Stands s e r (.ldl e d a sz imm 0) → exec (.ldl e d a sz imm ecc) s = .next (u.runFault e 1 false)) ∧
    (Stands s e r (.stl e d a sz imm 0) → exec (.stl e d a sz imm ecc) s = .next (u.runFault e 1 false)) := by
  have k : Started s u e r := hu ▸ s.instrStart_started e r
  exact ⟨fun h => congrArg _ (h.fault hu (State.dataAcc_range (by rw [k.regs, ha]) hz)),
    fun h => congrArg _ (h.fault hu (State.dataAcc_range (by rw [k.regs, ha]) hz))⟩

end

section

variable {d a : Fin 16} {imm : BitVec 17} {ecc : Fin 3} {addr kind : Nat}

theorem Started.sharedThm (k : Started s u e r) (addr kind : Nat) :
    u.sharedThm e { r with loads := r.aged } addr kind = s.sharedThm e r addr kind := by
  simp only [State.sharedThm, k.thimbles]

/-- How an LDT of run r ends once its word has been read. -/
def ldtResult (e : Eng) (r : BRun) (d : Fin 16) (addr : Nat) (t : State) : IOut :=
  if d = 0 then .go t 0
  else .go (t.modEng e fun y => { y with run := some { r with loads := r.loads ++ [(d.val, t.shared (e.val / 16) addr, 3)] } }) 0

theorem ldt_moves (ha : addr = (s.regIn e r a + (imm.setWidth 64 : B64) * 8).toNat) (hz : addr % 8 = 0) (hr : addr ≤ 0xFFFF8)
    (hc : ecc.val ≤ 1) (hb : sharedKey (e.val / 16) addr ∉ s.bob.bad) (ht : s.sharedThm e r addr 0 = .allowed)
    (h : Stands s e r (.ldt e d a imm 0)) : ∃ t, exec (.ldt e d a imm ecc) s = .next t ∧ SameMemory s t e ∧ (ecc.val = 0 → Quiet s t e) ∧
      Moves s t e r { r with loads := r.aged ++ if d = 0 then [] else [(d.val, s.shared (e.val / 16) addr, 3)] } ((s.eng e).pc + 1) := by
  obtain ⟨u, hu⟩ : ∃ u, u = s.instrStart e r := ⟨_, rfl⟩
  obtain ⟨v, hv⟩ : ∃ v, v = u.smpEvent e 2 (u.eng e).pc r.cls := ⟨_, rfl⟩
  have k : Started s v e r := hv ▸ (hu ▸ s.instrStart_started e r : Started s u e r).trans (StartOnly.smpEvent u e _ _ _)
  have hq : Quiet s v e := hv ▸ Quiet.smpEvent hu _ _ _
  rw [← k.sharedThm] at ht
  rw [← k.memory.2.2] at hb
  obtain ⟨t, hk, h0, he⟩ := State.sharedEcc_ok (ecc := ecc.val) (k := ldtResult e { r with loads := r.aged } d addr) hb hc
  have kt := k.count hk
  have hw : t.shared (e.val / 16) addr = s.shared (e.val / 16) addr := by simp only [State.shared, kt.memory.2.1]
  have hbody : (State.sharedAcc (u.smpEvent e 2 (u.eng e).pc r.cls) e { r with loads := r.aged } a imm 0 fun s addr =>
      s.sharedEcc (e.val / 16) addr ecc (ldtResult e { r with loads := r.aged } d addr)) = ldtResult e { r with loads := r.aged } d addr t := by
    rw [← hv]
    exact (State.sharedAcc_ok (by rw [k.regs, ha]) hz hr ht).trans he
  by_cases hd : d = 0
  · refine ⟨_, congrArg Host.Outcome.next (h.go hu (hbody.trans (if_pos hd)) ⟨_, kt.run, rfl⟩), kt.memory.modEng _ fun _ => rfl, fun h => (h0 h).symm ▸ hq, ?_⟩
    simp only [hd, if_true, List.append_nil]
    exact moves_of _ kt.regs kt.run kt.frame
  · refine ⟨_, congrArg Host.Outcome.next (h.go hu (hbody.trans (if_neg hd)) ⟨_, State.modEng_run _ _ _, rfl⟩), ?_, fun h => (h0 h).symm ▸ hq, ?_⟩
    · exact (kt.memory.setRun _).setPc _
    · rw [if_neg hd, hw]
      exact kt.moves_run _ _

/-- What an instruction has done when its one effect besides its start is the store of a shared word. -/
theorem Started.store (k : Started s t e r) (v : B64) (hu : t' = (t.setShared (e.val / 16) addr v).modEng e fun y => { y with pc := n % 4096 }) :
    Moves s t' e r { r with loads := r.aged } n ∧ (Quiet s t e → Quiet s t' e) ∧ t'.shared (e.val / 16) addr = v ∧
      (∀ j, j ≠ sharedKey (e.val / 16) addr → SMap.get (fun _ => 0) t'.bob.words j = SMap.get (fun _ => 0) s.bob.words j) ∧
      (t'.eng e).data = (s.eng e).data := by
  subst hu
  refine ⟨moves_of n k.regs k.run (k.frame.setShared _ _ _), id, ?_, fun j hj => ?_, ?_⟩
  · exact (State.setShared_get _ _ _ _ _).trans (if_pos rfl)
  · exact (State.setShared_get _ _ _ _ _).trans ((if_neg hj).trans (by rw [k.memory.2.1]))
  · rw [State.modEng_eng, if_pos rfl]
    exact k.memory.1

theorem stt_moves (ha : addr = (s.regIn e r a + (imm.setWidth 64 : B64) * 8).toNat) (hz : addr % 8 = 0) (hr : addr ≤ 0xFFFF8)
    (ht : s.sharedThm e r addr 1 = .allowed) (h : Stands s e r (.stt e d a imm)) : ∃ t, exec (.stt e d a imm) s = .next t ∧
      Moves s t e r { r with loads := r.aged } ((s.eng e).pc + 1) ∧ Quiet s t e ∧ t.shared (e.val / 16) addr = s.regIn e r d ∧
      (∀ j, j ≠ sharedKey (e.val / 16) addr → SMap.get (fun _ => 0) t.bob.words j = SMap.get (fun _ => 0) s.bob.words j) ∧
      (t.eng e).data = (s.eng e).data := by
  obtain ⟨u, hu⟩ : ∃ u, u = s.instrStart e r := ⟨_, rfl⟩
  have k : Started s u e r := hu ▸ s.instrStart_started e r
  have hq : Quiet s u e := hu ▸ s.instrStart_quiet e r
  rw [← k.sharedThm] at ht
  obtain ⟨hm, hq', hrest⟩ := k.store (addr := addr) (n := (s.eng e).pc + 1) (u.greg e d) rfl
  refine ⟨_, congrArg Host.Outcome.next (h.go (off := 0) hu (State.sharedAcc_ok (by rw [k.regs, ha]) hz hr ht) ⟨_, k.run, rfl⟩), hm, hq' hq, ?_⟩
  rw [← k.regs]
  exact hrest

theorem addt_moves (ha : addr = (s.regIn e r a + (imm.setWidth 64 : B64) * 8).toNat) (hz : addr % 8 = 0) (hr : addr ≤ 0xFFFF8)
    (hc : ecc.val ≤ 1) (hb : sharedKey (e.val / 16) addr ∉ s.bob.bad) (ht : s.sharedThm e r addr 2 = .allowed)
    (h : Stands s e r (.addt e d a imm 0)) : ∃ t, exec (.addt e d a imm ecc) s = .next t ∧
      Moves s t e r { r with loads := r.aged } ((s.eng e).pc + 1) ∧ (ecc.val = 0 → Quiet s t e) ∧
      t.shared (e.val / 16) addr = s.shared (e.val / 16) addr + s.regIn e r d ∧
      (∀ j, j ≠ sharedKey (e.val / 16) addr → SMap.get (fun _ => 0) t.bob.words j = SMap.get (fun _ => 0) s.bob.words j) ∧
      (t.eng e).data = (s.eng e).data := by
  obtain ⟨u, hu⟩ : ∃ u, u = s.instrStart e r := ⟨_, rfl⟩
  have k : Started s u e r := hu ▸ s.instrStart_started e r
  have hq : Quiet s u e := hu ▸ s.instrStart_quiet e r
  rw [← k.sharedThm] at ht
  rw [← k.memory.2.2] at hb
  obtain ⟨t, hk, h0, he⟩ := State.sharedEcc_ok (ecc := ecc.val) (k := fun s =>
    .go (s.setShared (e.val / 16) addr (s.shared (e.val / 16) addr + s.greg e d)) 0) hb hc
  have kt := k.count hk
  have hw : t.shared (e.val / 16) addr = s.shared (e.val / 16) addr := by simp only [State.shared, kt.memory.2.1]
  obtain ⟨hm, hq', hrest⟩ := kt.store (addr := addr) (n := (s.eng e).pc + 1) (t.shared (e.val / 16) addr + t.greg e d) rfl
  refine ⟨_, congrArg Host.Outcome.next (h.go (off := 0) hu ((State.sharedAcc_ok (by rw [k.regs, ha]) hz hr ht).trans he) ⟨_, kt.run, rfl⟩),
    hm, fun h => hq' ((h0 h).symm ▸ hq), ?_⟩
  rw [← kt.regs, ← hw]
  exact hrest

/-- The instructions of kind 0 LDT, 1 STT and 2 ADDT, with the state in which their access is made (R194). -/
def SharedIns (e : Eng) (r : BRun) (d a : Fin 16) (imm : BitVec 17) (ecc : Fin 3) (u : State) (kind : Nat) (x : State) (i j : Instr) : Prop :=
  kind = 0 ∧ i = .ldt e d a imm 0 ∧ j = .ldt e d a imm ecc ∧ x = u.smpEvent e 2 (u.eng e).pc r.cls ∨ kind = 1 ∧ i = .stt e d a imm ∧ j = i ∧ x = u ∨
    kind = 2 ∧ i = .addt e d a imm 0 ∧ j = .addt e d a imm ecc ∧ x = u

/-- An access of the shared tables is denied before anything else. -/
theorem shared_denied {x : State} {i j : Instr} (hu : u = s.instrStart e r) (ha : addr = (s.regIn e r a + (imm.setWidth 64 : B64) * 8).toNat)
    (hi : SharedIns e r d a imm ecc u kind x i j) (h : Stands s e r i)
    (ht : addr % 8 ≠ 0 ∨ 0xFFFF8 < addr ∨ s.sharedThm e r addr kind = .denied) : exec j s =
      .next (State.runFault (x.raiseLim ms100 e (srcStn (e.val / 16)) 0x4020 2 (scStn (e.val / 16)) 0 [e, addr, kind, r.epoch]) e 2 false) := by
  have ku : Started s u e r := hu ▸ s.instrStart_started e r
  rcases hi with ⟨rfl, rfl, rfl, hx⟩ | ⟨rfl, rfl, rfl, rfl⟩ | ⟨rfl, rfl, rfl, rfl⟩
  · have k : Started s x e r := hx ▸ ku.trans (StartOnly.smpEvent u e _ _ _)
    rw [← k.sharedThm] at ht
    refine congrArg Host.Outcome.next (h.fault hu ?_)
    show State.sharedAcc (u.smpEvent e 2 (u.eng e).pc r.cls) _ _ _ _ _ _ = _
    rw [← hx]
    exact State.sharedAcc_denied (by rw [k.regs, ha]) ht
  all_goals
    rw [← ku.sharedThm] at ht
    exact congrArg Host.Outcome.next (h.fault hu (State.sharedAcc_denied (by rw [ku.regs, ha]) ht))

/-- A read of a shared word that is uncorrectable, or is found to be. -/
theorem State.sharedEcc_fault {y : State} {st : Nat} {k : State → IOut} (h : sharedKey st addr ∈ s.bob.bad ∧ y = s ∨
    sharedKey st addr ∉ s.bob.bad ∧ ecc.val = 2 ∧
      y = State.bump { s with bob := { s.bob with bad := s.bob.bad ++ [sharedKey st addr] } } (F.STN_CLS_ECC_UNCORR st)) :
    s.sharedEcc st addr ecc k = .fault y 3 := by
  rcases h with ⟨hb, rfl⟩ | ⟨hb, hc, rfl⟩
  · exact State.sharedEcc_bad hb
  · rw [hc]
    exact State.sharedEcc_uncorr hb

theorem shared_uncorr {x y : State} {i j : Instr} (hu : u = s.instrStart e r) (ha : addr = (s.regIn e r a + (imm.setWidth 64 : B64) * 8).toNat)
    (hi : SharedIns e r d a imm ecc u kind x i j) (hk : kind ≠ 1) (h : Stands s e r i) (hz : addr % 8 = 0) (hr : addr ≤ 0xFFFF8)
    (ht : s.sharedThm e r addr kind = .allowed) (hy : sharedKey (e.val / 16) addr ∈ s.bob.bad ∧ y = x ∨
      sharedKey (e.val / 16) addr ∉ s.bob.bad ∧ ecc.val = 2 ∧
        y = State.bump { x with bob := { x.bob with bad := x.bob.bad ++ [sharedKey (e.val / 16) addr] } } (F.STN_CLS_ECC_UNCORR (e.val / 16))) :
    exec j s = .next (y.runFault e 3 false) := by
  have ku : Started s u e r := hu ▸ s.instrStart_started e r
  rcases hi with ⟨rfl, rfl, rfl, hx⟩ | ⟨rfl, -⟩ | ⟨rfl, rfl, rfl, rfl⟩
  · have k : Started s x e r := hx ▸ ku.trans (StartOnly.smpEvent u e _ _ _)
    rw [← k.sharedThm] at ht
    rw [← k.memory.2.2] at hy
    refine congrArg Host.Outcome.next (h.fault hu ?_)
    show State.sharedAcc (u.smpEvent e 2 (u.eng e).pc r.cls) _ _ _ _ _ _ = _
    rw [← hx]
    exact (State.sharedAcc_ok (by rw [k.regs, ha]) hz hr ht).trans (State.sharedEcc_fault hy)
  · exact absurd rfl hk
  · rw [← ku.sharedThm] at ht
    rw [← ku.memory.2.2] at hy
    exact congrArg Host.Outcome.next (h.fault hu ((State.sharedAcc_ok (by rw [ku.regs, ha]) hz hr ht).trans (State.sharedEcc_fault hy)))

end

/-- CTX reads Table 7.2 of the header it runs on. -/
theorem ctx_computes {d : Fin 16} {sel : BitVec 6} {f : Flight} (hs : sel.toNat ≤ 18) (hf : s.flight r.fid = some f)
    (h : Stands s e r (.ctx e d sel)) : ∃ t, exec (.ctx e d sel) s = .next t ∧
      Computes s t e r d (BitVec.ofNat 64 (ctxValue f (f.hand.getD {}) r e sel.toNat)) := by
  obtain ⟨u, hu⟩ : ∃ u, u = s.instrStart e r := ⟨_, rfl⟩
  have k : Started s u e r := hu ▸ s.instrStart_started e r
  have hq : Quiet s u e := hu ▸ s.instrStart_quiet e r
  have hf' : u.flight { r with loads := r.aged }.fid = some f := (State.flight_congr k.core _).trans hf
  have hv : ∀ g : Hand, ctxValue f g { r with loads := r.aged } e sel.toNat = ctxValue f g r e sel.toNat := fun _ => rfl
  refine ⟨_, congrArg Host.Outcome.next ((if_neg (Nat.not_lt.mpr hs)).trans (h.go (off := 0) hu
    (t := u.setGreg e d (BitVec.ofNat 64 (ctxValue f (f.hand.getD {}) r e sel.toNat))) ?_ ⟨_, (State.setGreg_run _ _ _ _).trans k.run, rfl⟩)), ?_⟩
  · simp only [hf', hv, State.toReg]
  · exact ⟨writes_of _ k.regs k.run k.frame, (k.memory.setGreg d _).setPc _, (hq.setGreg d _).modEng _⟩

/-- Settles O19 (R182 to R187, R194, R197): the rules of the accesses above, one for each way they end. -/
theorem engineMemory : Obligations.EngineMemory := by
  rintro s u e r d a n rfl hu
  refine ⟨fun sz off h => ⟨_, rfl, State.ins_computes h rfl⟩, fun sz off w h hw => sth_moves h hw,
    fun sz imm ecc addr ha hz hr => ⟨fun hc h => ldl_writes ha hz hr hc h, fun hc h => stl_moves ha hz hr hc h,
      fun hc => (data_uncorr hu ha hz hr hc).1, fun hc => (data_uncorr hu ha hz hr hc).2⟩,
    fun sz imm ecc addr ha hz => data_range hu ha hz, fun imm ecc addr k ok ha hz hr hk hc hb hok => ?_,
    fun imm ecc addr kind x i j ha hi h ht => shared_denied hu ha hi h ht, fun imm ecc addr k kind x y i j ha hi h hz hr ht hk hy => ?_,
    fun sel f hs hf h => ctx_computes hs hf h⟩
  · subst hk
    exact ⟨fun ht h => ldt_moves ha hz hr hc hb ((hok 0).mp ht) h, fun ht h => stt_moves ha hz hr ((hok 1).mp ht) h,
      fun ht h => addt_moves ha hz hr hc hb ((hok 2).mp ht) h⟩
  · subst hk
    rcases hi with hi | hi
    · exact shared_uncorr hu ha (.inl hi) (by omega) h hz hr ht hy
    · exact shared_uncorr hu ha (.inr (.inr hi)) (by omega) h hz hr ht hy

end Sys2Proof.Machine
end

section
/-!
PROOF. An engine without a run (R178, R185): every word that decodes spells an instruction whose meaning goes through `State.ins`.
-/

namespace Sys2Proof.Machine

theorem State.ins_idle {s : State} {e : Eng} (hr : (s.eng e).run = none) (x : Instr) (body : State → BRun → IOut) : s.ins e x body = s := by
  simp [State.ins, hr]

/-- Instruction i does nothing at engine e without a run. -/
def NeedsRun (e : Eng) (i : Instr) : Prop := ∀ s : State, (s.eng e).run = none → exec i s = .next s

theorem needsRun_of_ins {e : Eng} {i : Instr} {body : State → BRun → IOut} (h : ∀ s, exec i s = .next (s.ins e i body)) : NeedsRun e i :=
  fun s hr => (h s).trans (congrArg Host.Outcome.next (s.ins_idle hr i body))

theorem needsRun_ctx (e : Eng) (d : Fin 16) (sel : BitVec 6) : NeedsRun e (.ctx e d sel) := by
  intro s hr
  refine congrArg Host.Outcome.next ?_
  split
  · rfl
  · exact s.ins_idle hr _ _

theorem needsRun_decode {e : Eng} {w : Nat} {i : Instr} (h : decodeBobbin e w = some i) : NeedsRun e i := by
  simp only [decodeBobbin, decodeAlu] at h
  repeat' split at h
  all_goals cases h
  case h_19.isTrue.refl => exact needsRun_ctx e _ _
  all_goals exact needsRun_of_ins fun _ => rfl

/-- Settles O57 (R178, R185), by the shape of every instruction's meaning. -/
theorem noRunNoEffect : Obligations.NoRunNoEffect := by
  unfold Obligations.NoRunNoEffect
  exact fun s e w i hi hr => needsRun_decode hi s hr

end Sys2Proof.Machine
end

section
/-!
PROOF. CHECK_ONLY (Table 14.3, R389): the service of a request that passes its checks, up to the one place where FLAGS is read.
-/

namespace Sys2Proof.Machine

/-- The service of a CHECK_ONLY request that is heard but for its FLAGS: no debug lock is disarmed, and its own part is answered at once. -/
theorem State.serve_checkOnly {s : State} {op : OpInfo} {h : Hdr} {x : Sess} (self : Instr) (params : List Dat) (body : Sess → State → Ans)
    (hf : h.flags = 1) (hh : Heard s op { h with flags := 0 } x) :
    s.serve self op h params body = answered op h (s.runBody op h x body) := by
  have h1 := State.arrived_eq hh.arriving
  have h2 := State.inService_eq hh.quiet .arrive h
  have h3 := State.chanBusy_eq hh.quiet h.chan.val h.eid.toNat
  have hb : h.flags.toNat = 1 := by simp [hf]
  have h4 : ¬ (x.form = .node ∧ x.n ≠ s.nodeId) := by
    rcases hh.here with h | h <;> simp [h]
  have h5 : ¬ ((op.code = 0x0703 ∨ op.code = 0x0705) ∧ s.get F.FAB_STATE_MGR_NODE < 48 ∧ s.get F.FAB_STATE_MGR_NODE ≠ s.nodeId
              ∧ Via.isFwd .arrive = false) := by
    rcases hh.mine with h | h | h
    · simp [h]
    · simp [h.1, h.2]
    · omega
  have hw : s.checks op h .arrive = .ok x := hh.who
  have he : (s.chan h.chan.val).held = [] := hh.empty
  have h6 : (if op.kind = .R then none else s.keptReply .arrive h) = none := by
    have : s.keptReply .arrive h = none := hh.fresh
    simp [this]
  have ho : (s.runBody op h x body).owed = false := by simp [State.runBody, hb]
  unfold State.serve
  simp only [hh.arriving, h2, h3, hh.up, hh.booted, he, h1, hw, hh.len, hb]
  simp only [Bool.true_or, Bool.not_true, Bool.false_or, Bool.and_false, Bool.false_eq_true, if_false, List.isEmpty_nil, Bool.false_and]
  rw [h6]
  simp [h4, h5, ho, answered]

/-- R389: under CHECK_ONLY the state stays, and only kind R answers with data. -/
theorem State.runBody_checkOnly {s : State} {op : OpInfo} {h : Hdr} (x : Sess) (body : Sess → State → Ans) (hf : h.flags = 1) :
    ∃ (st : Status) (detail : Nat) (data : List Dat), (op.kind ≠ .R → data = []) ∧
      s.runBody op h x body = { st := st, detail := detail, data := data, s := s } := by
  refine ⟨(s.runBody op h x body).st, (s.runBody op h x body).detail, (s.runBody op h x body).data, fun hk => ?_, ?_⟩
  · simp [State.runBody, hf, hk]
  · simp [State.runBody, hf]

/-- Settles O59 (Table 14.3, R389): the answer is `runBody`'s under CHECK_ONLY, and keeping it touches the kept replies alone. -/
theorem checkOnlyChangesNothing : Obligations.CheckOnlyChangesNothing := by
  unfold Obligations.CheckOnlyChangesNothing
  intro s self op h params body x hf hh
  obtain ⟨st, detail, data, hd, hr⟩ := s.runBody_checkOnly (op := op) x body hf
  have hs := State.serve_checkOnly self params body hf hh
  rw [hr] at hs
  refine ⟨st, detail, if st = .ok then data else [], _, rfl, fun hk => ?_, fun hk => ?_, fun hk => ?_⟩
  · simp [hd hk]
  · simp [hs, answered, State.answer, hk]
  · simp only [hs, answered, if_neg hk, State.answer, State.keep]
    exact ⟨_, rfl, fun _ => rfl⟩

end Sys2Proof.Machine
end

section
/-!
PROOF. Repeats and kept replies (R389): what the service of a repeat answers, and what a channel's list of kept replies becomes.
-/

namespace Sys2Proof.Machine

/-- The reply a channel keeps for a request (R389). -/
def State.keptOf (s : State) (r : Req) (st : Status) (detail : Nat) (data : List Dat) : Kept :=
  { eid := keepKey r.via r.h, tag := r.h.tag, crc := r.h.crc, time := s.clk.now,
    reply := .reply r.h.chan.val r.h.eid.toNat r.opcode st r.h.tag r.h.scope.toNat detail (if st = .ok then data else []) }

/-- The kept replies of others stay, and of the sender's own the newest four follow them. -/
theorem State.kept_keep (s : State) (r : Req) (st : Status) (detail : Nat) (data : List Dat) :
    ((s.keep r st detail data).chan r.h.chan.val).kept =
      (s.chan r.h.chan.val).kept.filter (fun y => !(y.eid == keepKey r.via r.h)) ++
        (s.keptOf r st detail data :: (s.chan r.h.chan.val).kept.filter fun y => y.eid == keepKey r.via r.h).take 4 := by
  simp only [State.keep, State.modChan_chan, if_true]
  rfl

/-- A list made of what fails a test and then of what meets it, taken apart again. -/
theorem filter_append_not {α : Type} {p : α → Bool} (l m : List α) (hm : ∀ y ∈ m, p y = true) :
    (l.filter (fun y => !p y) ++ m).filter p = m ∧ (l.filter (fun y => !p y) ++ m).filter (fun y => !p y) = l.filter fun y => !p y := by
  constructor
  · have hl : (l.filter fun y => !p y).filter p = [] := by simp [List.filter_filter]
    rw [List.filter_append, List.filter_eq_self.2 hm, hl, List.nil_append]
  · rw [List.filter_append, List.filter_filter]
    simpa using hm

theorem State.serve_inService {s : State} {h : Hdr} (self : Instr) (op : OpInfo) (params : List Dat) (body : Sess → State → Ans)
    (hu : s.acl.up = true) (hv : s.cmd.via = .arrive) (hi : s.inService .arrive h = true) : s.serve self op h params body = s := by
  unfold State.serve
  simp only [hv, hu, hi]
  exact State.arrived_eq hv

/-- A repeat of a request whose reply is kept, at a channel that Aclia serves. -/
theorem State.serve_kept {s : State} {op : OpInfo} {h : Hdr} {k : Kept} (self : Instr) (params : List Dat) (body : Sess → State → Ans)
    (hu : s.acl.up = true) (hv : s.cmd.via = .arrive) (hi : s.inService .arrive h = false) (hb : s.chanBusy h.chan.val h.eid.toNat = false)
    (hr : s.flag F.ACW_FW_STATUS_UART_BOOT = false) (he : (s.chan h.chan.val).held = []) (hk : op.kind ≠ .R)
    (hf : s.keptReply .arrive h = some k) {c e o : Nat} {st : Status} {g : B32} {sc detail : Nat} {data : List Dat}
    (hrep : k.reply = .reply c e o st g sc detail data) :
    s.serve self op h params body = s.answer { h := h, via := .arrive, opcode := op.code } st detail data := by
  unfold State.serve
  simp only [hv, hu, hi, hb, hr, he, State.arrived_eq hv, hk, hf]
  simp only [Bool.true_or, Bool.not_true, Bool.false_or, Bool.and_false, Bool.false_eq_true, if_false, List.isEmpty_nil, Bool.false_and]
  simp [hrep]

/-- Settles O60 (R389). -/
theorem repeatsAreNotCarriedOut : Obligations.RepeatsAreNotCarriedOut := by
  unfold Obligations.RepeatsAreNotCarriedOut
  intro s op h hu hv
  refine ⟨fun self params body => ⟨State.serve_inService self op params body hu hv, ?_⟩, ?_⟩
  · intro k c e o st g sc detail data hi hb hr he hk hf hrep
    exact State.serve_kept self params body hu hv hi hb hr he hk hf hrep
  · rintro r st detail data mine t rfl rfl
    obtain ⟨hmine, hothers⟩ := filter_append_not (p := fun y : Kept => y.eid == keepKey r.via r.h) (s.chan r.h.chan.val).kept
      ((s.keptOf r st detail data :: (s.chan r.h.chan.val).kept.filter fun y => y.eid == keepKey r.via r.h).take 4) (by
        intro y hy
        rcases List.mem_cons.1 (List.mem_of_mem_take hy) with rfl | hy
        · exact beq_self_eq_true _
        · exact (List.mem_filter.1 hy).2)
    rw [State.kept_keep, hmine, hothers]
    refine ⟨by simp, ⟨_, rfl, rfl, rfl, rfl⟩, rfl⟩

end Sys2Proof.Machine
end

section
/-!
PROOF. Every command ends in a next state: each arm of `exec` is one `.next` but for those that bring a packet, which end by what it spells.
-/

namespace Sys2Proof.Machine

/-- The outcome is a next state. -/
def Ends (r : Res) : Prop := ∃ t, r = .next t

theorem ends_next (t : State) : Ends (.next t) := ⟨t, rfl⟩

theorem ends_ite {p : Prop} [Decidable p] {a b : Res} (ha : Ends a) (hb : Ends b) : Ends (if p then a else b) := by
  split
  · exact ha
  · exact hb

theorem ends_undecodableRequest (chan : Chan) (eid : B8) (tag : B32) (scope opcode : B16) (why : BadReq) (s : State) :
    Ends (execUndecodableRequest chan eid tag scope opcode why s) :=
  ends_ite (ends_next _) (ends_next _)

theorem ends_servePacket (i : Instr) (s : State) : Ends (servePacket i s) := by
  cases i
  case undecodableRequest => exact ends_undecodableRequest _ _ _ _ _ _ _
  all_goals exact ⟨_, rfl⟩

theorem ends_servePkt (s : State) (via : Via) (chan : Chan) (eid : B8) (b : Bytes) : Ends (s.servePkt via chan eid b) :=
  ends_servePacket _ _

theorem ends_mctpMessage (chan : Chan) (eid : B8) (vendor : B16) (kind : B8) (pkt : Bytes) (s : State) :
    Ends (execMctpMessage chan eid vendor kind pkt s) :=
  ends_ite (ends_servePkt _ _ _ _ _) (ends_next _)

theorem ends_mailboxEntry (v : VsId) (rd : MbxRead) (s : State) : Ends (execMailboxEntry v rd s) := by
  refine ends_ite (ends_next _) (ends_ite (ends_next _) ?_)
  rcases rd with _ | ⟨_, _, _, _ | b, _⟩
  · exact ends_next _
  · exact ends_next _
  · exact ends_ite (ends_next _) (ends_servePkt _ _ _ _ _)

theorem ends_cmdFwd (c : CtlHdr) (isReply : Bool) (cls vs : B8) (pkt : Bytes) (s : State) : Ends (execCmdFwd c isReply cls vs pkt s) := by
  refine ends_ite (ends_next _) (ends_ite (ends_next _) (ends_ite (ends_next _) (ends_ite (ends_servePkt _ _ _ _ _) ?_)))
  refine ends_ite (ends_next _) ?_
  split
  · exact ends_next _
  · exact ends_next _

theorem ends_exec (c : Instr) (s : State) : Ends (exec c s) := by
  cases c
  case undecodableRequest => exact ends_undecodableRequest _ _ _ _ _ _ _
  case uartFrame => exact ends_servePkt _ _ _ _ _
  case mctpMessage => exact ends_mctpMessage _ _ _ _ _ _
  case mailboxEntry => exact ends_mailboxEntry _ _ _
  case cmdFwd => exact ends_cmdFwd _ _ _ _ _ _
  all_goals exact ⟨_, rfl⟩

/-- Settles O52 (R385): the branches of `step`, and `ends_exec`. -/
theorem stepTakesTheFront : Obligations.StepTakesTheFront := by
  unfold Obligations.StepTakesTheFront
  intro s c q
  refine ⟨rfl, ends_exec c s, fun hq => ⟨fun i t ht => ?held, fun hn => ?none⟩⟩
  case held => simp [step, hq, ht]
  case none => simp [step, hq, hn]

end Sys2Proof.Machine
end

section
/-!
PROOF. Transports (R381 to R387, R383, R393): what each brings is served at once when nothing holds it back.
-/

namespace Sys2Proof.Machine

/-- An MCTP control command at an endpoint, while Aclia serves it. -/
theorem State.control_now {s : State} {c : Nat} (hm : s.mctpHere c = true) (hu : s.acl.up = true) (hb : s.flag F.ACW_FW_STATUS_UART_BOOT = false)
    (hv : s.cmd.via = .arrive) (hh : (s.chan c).held = []) (self : Instr) (f : State → State) : s.control c self f = f s := by
  simp [State.control, hm, hu, hb, hv, hh, State.arrived_eq hv]

theorem exec_undecodableRequest {s : State} {chan : Chan} (eid : B8) (tag : B32) (scope opcode : B16) (why : BadReq) (hu : s.acl.up = true)
    (hb : s.flag F.ACW_FW_STATUS_UART_BOOT = false) (hv : s.cmd.via = .arrive) (hh : (s.chan chan.val).held = []) (ho : s.owing = []) :
    exec (.undecodableRequest chan eid tag scope opcode why) s = .next ((if why = .badLength ∨ why = .badCrc then
      s.raiseLim ms100 chan.val 0x01 0x7301 2 scDev 0 [chan.val, eid.toNat, statusCode (badStatus why)] else s).answer
        { h := { chan := chan, eid := eid, tag := tag, cred := 0, scope := scope, flags := 0, crc := 0 }, via := .arrive, opcode := opcode.toNat }
        (badStatus why) 0 []) := by
  change execUndecodableRequest chan eid tag scope opcode why s = _
  simp [execUndecodableRequest, hu, hb, hv, hh, State.chanBusy_eq ho, State.arrived_eq hv]

/-- A message that carries a command packet, at an endpoint. -/
theorem exec_mctpMessage {s : State} {chan : Chan} (eid : B8) (pkt : Bytes) (hm : s.mctpHere chan.val = true) :
    exec (.mctpMessage chan eid 0x1F4E 1 pkt) s = s.servePkt .arrive chan eid pkt :=
  if_pos ⟨hm, rfl, rfl⟩

theorem exec_mctpMessage_other {s : State} {chan : Chan} {vendor : B16} {kind : B8} (eid : B8) (pkt : Bytes)
    (h : vendor ≠ 0x1F4E ∨ kind ≠ 1 ∨ s.mctpHere chan.val = false) : exec (.mctpMessage chan eid vendor kind pkt) s = .next s := by
  refine if_neg fun ⟨hm, hvendor, hkind⟩ => ?_
  rcases h with h | h | h
  · exact h (BitVec.eq_of_toNat_eq hvendor)
  · exact h (BitVec.eq_of_toNat_eq hkind)
  · simp [hm] at h

theorem exec_setEndpointId {s : State} {chan : Chan} (eid : B8) (hm : s.mctpHere chan.val = true) (hu : s.acl.up = true)
    (hb : s.flag F.ACW_FW_STATUS_UART_BOOT = false) (hv : s.cmd.via = .arrive) (hh : (s.chan chan.val).held = []) :
    exec (.setEndpointId chan eid) s = .next (if eid = 0 ∨ eid = 0xFF then s.emit (.mctp chan.val [2])
      else (s.modChan chan.val fun x => { x with eid := eid.toNat }).emit (.mctp chan.val [0, 0, eid, 0])) := by
  have hz : (eid.toNat = 0 ∨ eid.toNat = 0xFF) ↔ (eid = 0 ∨ eid = 0xFF) := by
    simp [← BitVec.toNat_inj]
  refine congrArg Host.Outcome.next ((State.control_now hm hu hb hv hh _ _).trans ?_)
  simp only [hz]

/-- Settles O50 (R381, R382, R384 to R387), transport by transport. -/
theorem transports : Obligations.Transports := by
  unfold Obligations.Transports
  rintro s u w chan eid pkt hu hb hv hh rfl
  refine ⟨?undecodable, ?uart, ?mctp, fun vendor kind h => exec_mctpMessage_other eid pkt h, rfl, rfl, fun _ => rfl, fun hm => ?control, ?entdaa⟩
  case undecodable =>
    rintro tag scope opcode why ho rfl
    exact exec_undecodableRequest eid tag scope opcode why hu hb hv hh ho
  case uart =>
    rintro i rfl
    obtain ⟨t, ht⟩ := ends_servePkt s .arrive 0 0 pkt
    exact ⟨t, ht, ht⟩
  case mctp =>
    rintro i hm rfl
    obtain ⟨t, ht⟩ := ends_servePkt s .arrive chan eid pkt
    exact ⟨t, ht, (exec_mctpMessage eid pkt hm).trans ht⟩
  case control =>
    have hc := fun self f => congrArg (Host.Outcome.next (φ := Fault) (ρ := Refusal)) (State.control_now hm hu hb hv hh self f)
    refine ⟨fun he => ?_, fun h0 hf => ?_, hc _ _, hc _ _, hc _ _, hc _ _, hc _ _⟩
    · rw [exec_setEndpointId eid hm hu hb hv hh, if_pos he]
    · rw [exec_setEndpointId eid hm hu hb hv hh, if_neg (not_or.2 ⟨h0, hf⟩)]
  case entdaa => exact fun addr h => congrArg Host.Outcome.next (if_pos h)

end Sys2Proof.Machine
end

section
/-!
PROOF. Requests that a ring or another node carries (R293, R383, R393): each branch of MAILBOX_ENTRY and of CMD_FWD.
-/

namespace Sys2Proof.Machine

/-! ### MAILBOX_ENTRY -/

/-- The state once the entry at HEAD has been asked for. -/
def State.entryAsked (s : State) (v : VsId) : State :=
  s.emit (.hostRead v 0 (BitVec.ofNat 64 (s.get (F.ACW_MBX_BASE_HI_BASE_HI v) * 2 ^ 32 + s.get (F.ACW_MBX_BASE_LO_BASE_LO v) * 4096 +
    32 * s.get (F.ACW_MBX_HEAD_HEAD v))) 32)

section

variable {s : State} {v : VsId} (hr : s.ringReady v = true)
include hr

theorem exec_mailboxEntry_tail (rd : MbxRead) (ht : 2 ^ s.get (F.ACW_MBX_CFG_ORDER v) ≤ s.get (F.ACW_MBX_TAIL_TAIL v)) :
    exec (.mailboxEntry v rd) s = .next (s.ringFault v 2 (s.get (F.ACW_MBX_HEAD_HEAD v))) :=
  (if_neg (by simp [hr])).trans (if_pos ht)

variable (ht : s.get (F.ACW_MBX_TAIL_TAIL v) < 2 ^ s.get (F.ACW_MBX_CFG_ORDER v))
include ht

theorem exec_mailboxEntry_fail : exec (.mailboxEntry v .entryFail) s = .next ((s.entryAsked v).ringFault v 1 (s.get (F.ACW_MBX_HEAD_HEAD v))) :=
  (if_neg (by simp [hr])).trans (if_neg (Nat.not_le.2 ht))

theorem exec_mailboxEntry_unread (req rsp : B64) (len : B16) (ok : Bool) : exec (.mailboxEntry v (.entry req rsp len none ok)) s =
    .next (((s.entryAsked v).emit (.hostRead v 0 req len.toNat)).ringDone v 0 1 ok) :=
  (if_neg (by simp [hr])).trans (if_neg (Nat.not_le.2 ht))

theorem exec_mailboxEntry_read (req rsp : B64) (len : B16) (b : Bytes) (ok : Bool) : exec (.mailboxEntry v (.entry req rsp len (some b) ok)) s =
    if len.toNat ≠ 20 + rdN b 8 2 ∨ b.length ≠ len.toNat then
      .next (((s.entryAsked v).emit (.hostRead v 0 req len.toNat)).ringDone v 0 2 ok)
    else ((s.entryAsked v).emit (.hostRead v 0 req len.toNat)).servePkt (.mbx rsp ok) ⟨3 + v, by omega⟩ 0 b :=
  (if_neg (by simp [hr])).trans (if_neg (Nat.not_le.2 ht))

end

/-! ### CMD_FWD -/

section

variable {s : State} {c : CtlHdr} (ht : Taken s c) (hu : s.acl.up = true) (cls vs : B8) {pkt : Bytes}
include ht hu

theorem exec_cmdFwd_request : exec (.cmdFwd c false cls vs pkt) s = s.servePkt (.fwd c.src.toNat c.mseq.toNat cls.toNat vs.toNat) 0 0 pkt := by
  change execCmdFwd c false cls vs pkt s = _
  simp [execCmdFwd, ht.node, ht.live, ht.tag, hu]

theorem exec_cmdFwd_badCrc (hc : crc32c (pkt.take (pkt.length - 4)) ≠ r32 pkt (pkt.length - 4)) :
    exec (.cmdFwd c true cls vs pkt) s = .next s := by
  change execCmdFwd c true cls vs pkt s = _
  simp [execCmdFwd, ht.node, ht.live, ht.tag, hu, hc]

/-- A reply whose CRC holds, where `mine` finds the request that it answers. -/
theorem exec_cmdFwd_reply {mine : CtlOut → Bool} (hm : mine = fun o => o.mseq == c.mseq.toNat && o.kind == 0x40 && o.dest == c.src.toNat)
    (hc : crc32c (pkt.take (pkt.length - 4)) = r32 pkt (pkt.length - 4)) :
    (s.fab.out.find? mine = none → exec (.cmdFwd c true cls vs pkt) s = .next s) ∧
    ∀ o u, s.fab.out.find? mine = some o → u = { s with fab := { s.fab with out := s.fab.out.filter fun x => !mine x } } →
      (o.req = none → exec (.cmdFwd c true cls vs pkt) s = .next u) ∧
      ∀ r, o.req = some r → exec (.cmdFwd c true cls vs pkt) s = .next (u.settleReq r
        ((allStatus.find? fun x => statusCode x == rdN pkt 2 2).getD .hwFault) (rdN pkt 12 4)
        (((pkt.drop 16).take (rdN pkt 8 2)).map fun b => .u8 b.toNat)) := by
  change (_ → execCmdFwd c true cls vs pkt s = _) ∧ ∀ o u, _ → _ → (_ → execCmdFwd c true cls vs pkt s = _) ∧
    ∀ r, _ → execCmdFwd c true cls vs pkt s = _
  subst hm
  refine ⟨fun hn => ?_, ?_⟩
  · simp [execCmdFwd, ht.node, ht.live, ht.tag, hu, hc, hn]
  · rintro o u ho rfl
    refine ⟨fun hreq => ?_, fun r hreq => ?_⟩ <;> simp [execCmdFwd, ht.node, ht.live, ht.tag, hu, hc, ho, hreq]

end

/-- Settles O51 (R293, R383, R393), branch by branch. -/
theorem carriedRequests : Obligations.CarriedRequests := by
  unfold Obligations.CarriedRequests
  intro s u v c cls vs pkt
  refine ⟨?mailbox, ?cmdFwd⟩
  case mailbox =>
    rintro rd head hr rfl
    refine ⟨exec_mailboxEntry_tail hr rd, fun ht hu => ?_⟩
    obtain rfl : u = s.entryAsked v := hu
    refine ⟨exec_mailboxEntry_fail hr ht, fun req rsp len ok => ⟨exec_mailboxEntry_unread hr ht req rsp len ok, fun b => ⟨fun hl => ?_, fun hl hb => ?_⟩⟩⟩
    · rw [exec_mailboxEntry_read hr ht, if_pos hl]
    · have hn : ¬(len.toNat ≠ 20 + rdN b 8 2 ∨ b.length ≠ len.toNat) := fun h => h.elim (· hl) (· hb)
      obtain ⟨t, h⟩ := ends_servePkt ((s.entryAsked v).emit (.hostRead v 0 req len.toNat)) (.mbx rsp ok) ⟨3 + v, by omega⟩ 0 b
      exact ⟨t, h, by rw [exec_mailboxEntry_read hr ht, if_neg hn, h]⟩
  case cmdFwd =>
    intro ht hu
    obtain ⟨t, h⟩ := ends_servePkt s (.fwd c.src.toNat c.mseq.toNat cls.toNat vs.toNat) 0 0 pkt
    refine ⟨⟨t, h, (exec_cmdFwd_request ht hu cls vs).trans h⟩, exec_cmdFwd_badCrc ht hu cls vs, fun mine hm hc => ?_⟩
    obtain ⟨hn, hs⟩ := exec_cmdFwd_reply ht hu cls vs hm hc
    exact ⟨hn, fun o => hs o u⟩

end Sys2Proof.Machine
end

section
/-!
PROOF. The state of reset (R45, R48, R278): every part is empty, and registers read what their table states.
-/

namespace Sys2Proof.Machine

theorem spState_reset : ∀ n : Slot, State.reset.spState n = spOFF := by decide

/-- R45, R48: the lane registers of each of the 16 stations. -/
theorem lane_registers_reset : ∀ st : Stn, State.reset.get (F.STN_TRAIN_CTL_ATTEMPT_TMO st) = 64 ∧
    State.reset.get (F.STN_TRAIN_CTL_ATTEMPT_LIMIT st) = 8 ∧ State.reset.flag (F.STN_LANE_MODE_HOLD st) = decide (st ≠ 0) := by decide

/-- Settles O53 (R45, R48, R278): the state's own parts stand in its definition, and the registers are evaluated, station by station. -/
theorem resetState : Obligations.ResetState := by
  unfold Obligations.ResetState
  exact ⟨rfl, rfl, rfl, rfl, rfl, spState_reset, lane_registers_reset, rfl⟩

end Sys2Proof.Machine
end

section
/-!
PROOF. Rule fences (R196, R344): what the end and the timeout of a fence do, by the branches of `fenceDone` and `fenceEnds`.
-/

namespace Sys2Proof.Machine

/-- A fence without older runs is done. -/
theorem State.fenceDone_eq {s : State} {st : Nat} (hp : s.flag (F.STN_BB_EPOCH_FENCE_PEND st) = true)
    (ho : ∀ e ∈ engsOf st, s.oldRun e = false) {u : State}
    (hu : u = (engsOf st).foldl (fun s e => s.modThm e fun t => { t with old := [], fence := false }) (s.putB (F.STN_BB_EPOCH_FENCE_PEND st) false)) :
    s.fenceDone st = u.raise (srcStn st) 0x4022 0 (scStn st) [st, u.get (F.STN_BB_EPOCH_EPOCH st), (u.bstn st).ended] := by
  have hany : (engsOf st).any s.oldRun = false := by simpa using ho
  subst hu
  simp [State.fenceDone, hp, hany]

/-- A fence that is pending ends its older runs. -/
theorem State.fenceEnds_eq {s u : State} {st : Nat} (hp : s.flag (F.STN_BB_EPOCH_FENCE_PEND st) = true)
    (hu : u = (engsOf st).foldl (fun s e =>
      if s.oldRun e then (s.runFault e 7 true).modBstn st fun b => { b with ended := b.ended + 1 } else s) s) : s.fenceEnds st = u :=
  (if_pos hp).trans hu.symm

theorem exec_thimbleRuleFenceDone_engine {s : State} {th : Fin 293} (bad : List (Fin 16)) (h : th.val < 256) :
    exec (.thimbleRuleFenceDone th bad) s = .next ((s.thmBad th bad).fenceDone (th.val / 16)) :=
  congrArg Host.Outcome.next (if_pos h)

theorem exec_thimbleRuleFenceDone_other {s v : State} {th : Fin 293} {bad : List (Fin 16)} (hv : v = s.thmBad th bad) (h : 256 ≤ th.val)
    (hf : (v.thm th).fence = true) {u w : State} (hu : u = v.modThm th fun t => { t with old := [], fence := false })
    (hw : w = if th.val = 292 then u.putB F.ACW_EP_PROXY_THM_FENCE_PEND false else u) :
    exec (.thimbleRuleFenceDone th bad) s = .next (w.raise 0x08 0xA012 0 scDev [th.val, (v.thm th).epoch, 0]) := by
  have he : (w.thm th).epoch = (v.thm th).epoch := by
    have hu' : (u.thm th).epoch = (v.thm th).epoch := by simp [hu]
    rw [hw]
    split <;> simp [hu']
  subst hv
  refine congrArg Host.Outcome.next ((if_neg (Nat.not_lt.2 h)).trans ((if_pos hf).trans ?_))
  simp only [← hu, ← hw, he]

theorem exec_thimbleFenceTimeout (th : Fin 293) (s : State) :
    exec (.thimbleFenceTimeout th) s = .next (if th.val < 256 then s.fenceEnds (th.val / 16) else s) := rfl

/-- Settles O22 (R196, R344), fence by fence. -/
theorem ruleFences : Obligations.RuleFences := by
  unfold Obligations.RuleFences
  intro s u v w st th bad hv
  refine ⟨?done, ?engine, fun h hf hu hw => exec_thimbleRuleFenceDone_other hv h hf hu hw, ?timeout, fun h => ?access⟩
  case done => exact fun hp ho hu => congrArg Host.Outcome.next (State.fenceDone_eq hp ho hu)
  case engine =>
    intro hth hlt hp ho hu
    rw [exec_thimbleRuleFenceDone_engine bad hlt, ← hv, hth, State.fenceDone_eq hp ho hu]
  case access => rw [exec_thimbleFenceTimeout, if_neg (Nat.not_lt.2 h)]
  case timeout =>
    intro hp hu
    refine ⟨congrArg Host.Outcome.next (State.fenceEnds_eq hp hu), fun hth hlt => ?_⟩
    rw [exec_thimbleFenceTimeout, if_pos hlt, hth, State.fenceEnds_eq hp hu]

end Sys2Proof.Machine
end

section
/-!
PROOF. Events of runs and engines (R178 to R180, R197 to R200, R205, R206): dispatch, bad words, restoration, samples, image copies, swaps.
-/

namespace Sys2Proof.Machine

/-! ### Two changes of an engine are one -/

theorem SMap.insert_insert {α : Type} (m : SMap α) (k : Nat) (v w : α) : SMap.insert (SMap.insert m k v) k w = SMap.insert m k w := by
  induction m with
  | nil => simp [SMap.insert]
  | cons x m ih =>
    obtain ⟨k', v'⟩ := x
    by_cases hlt : k < k'
    · simp [SMap.insert, hlt]
    · by_cases heq : k = k'
      · simp [SMap.insert, heq]
      · simp [SMap.insert, hlt, heq, ih]

theorem SMap.set_set {α : Type} [DecidableEq α] (d : Nat → α) (m : SMap α) {k : Nat} {v w : α} (hv : v ≠ d k) (hw : w ≠ d k) :
    SMap.set d (SMap.set d m k v) k w = SMap.set d m k w := by
  simp [SMap.set, hv, hw, SMap.insert_insert]

/-- Two changes of an engine that runs before and after them. -/
theorem State.modEng_modEng (s : State) (e : Nat) (f g : BEng → BEng) (hf : (f (s.eng e)).run.isSome) (hg : (g (f (s.eng e))).run.isSome) :
    (s.modEng e f).modEng e g = s.modEng e fun x => g (f x) := by
  have hne (x : BEng) (hx : x.run.isSome) : x ≠ {} := by
    rintro rfl
    cases hx
  have hset := SMap.set_set (fun _ => ({} : BEng)) s.bob.eng (k := e) (hne _ hf) (hne _ hg)
  simp only [State.eng] at hset
  simp only [State.modEng, State.eng, SMap.get_set_self, hset]

/-! ### A bad word of program memory (R197) -/

theorem State.fetched_bad {s : State} {e : Nat} {r : BRun} {slot ecc : Nat} (hr : (s.eng e).run = some r) (hb : r.bad = some (slot, ecc))
    (hp : (s.eng e).pc = slot) {v : State} (hv : v = (s.modEng e fun x => { x with run := some { r with bad := none } }).localEcc e 0 (slot / 2) ecc) :
    s.fetched e = if ecc = 2 then v.runFault e 6 false else v := by
  subst hv
  simp [State.fetched, hr, hb, hp]

/-- An instruction of a run that goes on comes to the word of its next slot. -/
theorem State.ins_go_fetched {s t u : State} {e : Eng} {r : BRun} {x : Instr} {body : State → BRun → IOut} {off : Nat} (hr : (s.eng e).run = some r)
    (hx : s.fetch e = some x) (hu : u = s.instrStart e r) (hb : body u { r with loads := r.aged } = .go t off) :
    s.ins e x body = (t.modEng e fun y => { y with pc := ((s.eng e).pc + 1 + off) % 4096 }).fetched e := by
  subst hu
  simp only [State.ins, hr, hx, ne_eq, not_true_eq_false, if_false, State.instrStart_run, Option.getD_some, hb]

theorem exec_nop_badWord {s u v : State} {e : Eng} {r : BRun} {ecc : Nat} (hr : (s.eng e).run = some r) (hx : s.fetch e = some (.nop e))
    (hb : r.bad = some (((s.eng e).pc + 1) % 4096, ecc))
    (hu : u = (s.instrStart e r).modEng e fun x => { x with pc := ((s.eng e).pc + 1) % 4096, run := some { r with loads := r.aged, bad := none } })
    (hv : v = u.localEcc e 0 (((s.eng e).pc + 1) % 4096 / 2) ecc) :
    exec (.nop e) s = .next (if ecc = 2 then v.runFault e 6 false else v) := by
  obtain ⟨t, ht⟩ : ∃ t, t = s.instrStart e r := ⟨_, rfl⟩
  have hstarted := s.instrStart_started e r
  rw [← ht] at hu hstarted
  refine congrArg Host.Outcome.next ((State.ins_go_fetched (off := 0) hr hx ht rfl).trans ?_)
  have hrun := hstarted.run
  refine State.fetched_bad (r := { r with loads := r.aged }) (by simp [hrun]) hb (by simp) ?_
  rw [State.modEng_modEng _ _ _ _ (by simp [hrun]) (by simp), hv, hu]

/-! ### Dispatch (R178, R199) -/

theorem mem_engsOf {st e : Nat} : e ∈ engsOf st ↔ e / 16 = st := by
  simp only [engsOf, List.mem_map, List.mem_range]
  constructor
  · rintro ⟨k, hk, rfl⟩
    omega
  · rintro rfl
    exact ⟨e % 16, by omega, by omega⟩

theorem State.serving_of_engState {s : State} {st e : Nat} (he : e / 16 = st) (h : s.engState e = 0) : s.serving st = true :=
  List.any_eq_true.2 ⟨e, mem_engsOf.2 he, by simp [h]⟩

section

variable {s u : State} {e : Eng} {st k : Nat} {f : Flight} (hst : st = e.val / 16) (hs : (s.bstn st).swap ≠ 1) (hq : s.nextQueue st = some k)
  (hf : (SMap.get (fun _ => []) (s.bstn st).queues k).head?.bind s.flight = some f) (hu : u = s.takeHead st k) (ecc : Fin 3) (slot : BitVec 12)
include hst hs hq hf hu

theorem exec_bobbinDispatch_run (h0 : s.engState e = 0) (hr : s.running e = false) :
    exec (.bobbinDispatch e ecc slot) s = .next (if imgEntry (s.engImage e) f.cls = 0xFFFF then u.rejoin (unreturned f [])
      else (u.startRun e f (imgEntry (s.engImage e) f.cls) (if ecc = 0 then none else some (slot.toNat, ecc.val))).fetched e) := by
  have hserving := State.serving_of_engState hst.symm h0
  subst hst hu
  refine congrArg Host.Outcome.next ?_
  simp only [hs, hq, hf, hserving, h0, hr]
  rfl

theorem exec_bobbinDispatch_noEngine (hn : s.serving st = false) :
    exec (.bobbinDispatch e ecc slot) s = .next ((u.noteFault st 0 0 8 f.cls).faultPolicy st f []) := by
  subst hst hu
  refine congrArg Host.Outcome.next ?_
  simp only [hs, hq, hf, hn]
  rfl

end

/-! ### Restoration and image copies (R198, R199, R205) -/

theorem exec_engineRestored {s u : State} {e : Eng} {st : Nat} (hst : st = e.val / 16) (ok : Bool) (h2 : s.engState e = 2)
    (hi : (s.engImage e).isEmpty = false)
    (hu : u = (s.setEngState e 0).modEng e fun x => { x with data := imgData (s.engImage e), restoredAt := some s.clk.now, due := none }) :
    exec (.engineRestored e ok) s = .next (if ok then
      ((((u.raise (srcStn st) 0x4012 1 (scStn st) [e.val, s.clk.now - (s.eng e).outAt]).modThm e fun t => { t with bad := [] }).swapMark st).checkEngines st)
      else (s.engFail e (s.get (F.STN_BE_STATE_LAST_CAUSE st (e.val % 16)))).checkEngines st) := by
  have hclk : u.clk.now = s.clk.now := by rw [hu]; rfl
  have hout : (u.eng e).outAt = (s.eng e).outAt := by simp [hu, State.setEngState]
  subst hst
  refine congrArg Host.Outcome.next ((if_neg (by simp [h2, hi])).trans ?_)
  rw [← hclk, ← hout, hu]
  rfl

section

variable {s : State} {e : Eng} (hm : s.mayCopy e = true)
include hm

theorem exec_engineImageCopy_again (hc : (s.eng e).copied = false) :
    exec (.engineImageCopy e false) s = .next (s.modEng e fun x => { x with copied := true }) :=
  congrArg Host.Outcome.next ((if_neg (by simp [hm])).trans ((if_neg (by simp)).trans (if_neg (by simp [hc]))))

theorem exec_engineImageCopy_failed {u : State} {st : Nat} (hst : st = e.val / 16) (hc : (s.eng e).copied = true)
    (hu : u = s.engFail e (s.get (F.STN_BE_STATE_LAST_CAUSE st (e.val % 16)))) :
    exec (.engineImageCopy e false) s = .next (((((u.modEng e fun x => { x with newImage := true, copied := false }).modBstn st fun b =>
      { b with failed := b.failed + 1 })).swapMark st).checkEngines st) := by
  subst hst hu
  exact congrArg Host.Outcome.next ((if_neg (by simp [hm])).trans ((if_neg (by simp)).trans (if_pos hc)))

theorem exec_engineImageCopy_done {w x : State} {st : Nat} {img : Bytes} (hst : st = e.val / 16) (hi : img = (s.bstn st).staging)
    (hw : w = s.stepEpoch st)
    (hx : x = w.modThm e fun t => { t with regions := imgRegions img, old := t.regions, epoch := w.get (F.STN_BB_EPOCH_EPOCH st), bad := [] }) :
    exec (.engineImageCopy e true) s = .next (((((x.setEngState e 0).modEng e fun x =>
      { x with data := imgData img, newImage := true, copied := false, due := none })).swapMark st).checkEngines st) := by
  subst hst hi hw hx
  exact congrArg Host.Outcome.next ((if_neg (by simp [hm])).trans (if_pos rfl))

end

/-! ### Samples (R200) -/

/-- A due sample becomes the newest entry of a ring of 32. -/
theorem exec_bobbinSample {s : State} {e : Eng} {pc cls n : Nat} {b : B64} (hd : (s.eng e).due = some (pc, cls, n))
    (hb : b = BitVec.ofNat 64 (pc % 4096 + cls % 4 * 2 ^ 12 + bits (s.eng e).smp 1 2 * 2 ^ 14 + (s.eng e).seq % 65536 * 2 ^ 16 + s.fabNow % 2 ^ 32 * 2 ^ 32)) :
    ∃ t, exec (.bobbinSample e) s = .next t ∧ (t.eng e).due = none ∧ (t.eng e).ring.getLast? = some b ∧ (t.eng e).ring.length ≤ 32 ∧
      (t.eng e).run = (s.eng e).run ∧ (t.eng e).pc = (s.eng e).pc ∧ (∀ i, t.greg e i = s.greg e i) ∧ SameMemory s t e ∧ EngineFrame s t e := by
  refine ⟨s.smpWrite e, rfl, ?_⟩
  obtain ⟨l, hl⟩ : ∃ l, l = (s.eng e).ring ++ [b] := ⟨_, rfl⟩
  have hw : s.smpWrite e =
      ((s.modEng e fun y => { y with due := none, ring := l.drop (l.length - 32), seq := ((s.eng e).seq + 1) % 65536 }).put
        (F.STN_BE_SMP_STAT_NEXT (e / 16) (e % 16)) (((s.eng e).seq + 1) % 32)).bump (F.STN_BE_SMP_STAT_TAKEN (e / 16) (e % 16)) := by
    simp only [State.smpWrite, hd, hl, hb]
  rw [hw]
  refine ⟨by simp, ?_, ?_, by simp, by simp, by simp [State.greg], ⟨by simp, rfl, rfl⟩, ?_⟩
  · simp only [State.bump_eng, State.put_eng, State.modEng_eng, if_true]
    rw [hl, List.drop_append_of_le_length (by simp), List.getLast?_append]
    simp
  · simp [hl]
    omega
  · exact ⟨fun g hg => by simp [hg], by simp, rfl, rfl, by simp⟩

/-! ### Rejoin buffers (R180) -/

theorem exec_rejoinRelease {s : State} {st : Stn} {f : Flight} {id : Nat} (hf : s.flight id = some f) (hs : f.stn = st.val)
    (hi : (s.bstn st).rejoin.contains id = true) (hb : ∀ g ∈ s.before f, sameClass f g = true → g.ready = true) :
    exec (.rejoinRelease id) s =
      .next ((s.modBstn st fun b => { b with rejoin := b.rejoin.filter (· != id) }).settle { f with ready := true }) := by
  have hwait : ((s.before f).any fun g => sameClass f g && !g.ready) = false := by simpa using hb
  refine congrArg Host.Outcome.next ?_
  simp only [hf, hs, hi, hwait, Bool.not_true, Bool.false_or, Bool.false_eq_true, if_false]

/-! ### The end of a swap (R206) -/

theorem State.foldl_modEng_bstn (l : List Nat) (f : BEng → BEng) (s : State) (j : Nat) : (l.foldl (fun s e => s.modEng e f) s).bstn j = s.bstn j := by
  induction l generalizing s with
  | nil => rfl
  | cons e l ih => exact (ih _).trans (by simp)

/-- After every engine of a list has lost its mark of the new image. -/
theorem State.foldl_newImage (l : List Nat) (s : State) {e : Nat} (h : e ∈ l ∨ (s.eng e).newImage = false) :
    ((l.foldl (fun s e => s.modEng e fun x => { x with newImage := false }) s).eng e).newImage = false := by
  induction l generalizing s with
  | nil => simpa using h
  | cons x l ih =>
    refine ih _ ?_
    by_cases hx : e = x
    · exact .inr (by simp [hx])
    · simpa [hx] using h

theorem State.checkEngines_eng (s : State) (st e : Nat) : (s.checkEngines st).eng e = s.eng e := by
  simp only [State.checkEngines]
  split <;> simp

/-- `checkEngines` changes only its own mark of a station. -/
theorem State.checkEngines_bstn (s : State) (st : Nat) : ∃ n, (s.checkEngines st).bstn st = { s.bstn st with none15 := n } := by
  simp only [State.checkEngines]
  split <;> exact ⟨!s.serving st && !s.cutting st, by simp⟩

theorem State.endSwapOf_bob (s : State) (st src code sev scope : Nat) (l : List Nat) : (s.endSwapOf st src code sev scope l).bob = s.bob := rfl

/-- The buffers exchange roles and the marks go, whatever else of the state a swap's end changes. -/
theorem State.swapped {s a c d : State} {st : Nat} (hd : d.bob = c.bob)
    (hc : c = (engsOf st).foldl (fun s e => s.modEng e fun x => { x with newImage := false })
      (a.modBstn st fun b => { b with active := b.staging, staging := b.active, swap := 0 })) (ha : a.bob = s.bob) :
    ((d.checkEngines st).bstn st).active = (s.bstn st).staging ∧ ((d.checkEngines st).bstn st).staging = (s.bstn st).active ∧
      ((d.checkEngines st).bstn st).swap = 0 ∧ ∀ e ∈ engsOf st, ((d.checkEngines st).eng e).newImage = false := by
  obtain ⟨n, hn⟩ := d.checkEngines_bstn st
  have hs : a.bstn st = s.bstn st := State.bstn_congr _ ha st
  have hb : d.bstn st = { s.bstn st with active := (s.bstn st).staging, staging := (s.bstn st).active, swap := 0 } := by
    rw [State.bstn_congr _ hd, hc, State.foldl_modEng_bstn, State.modBstn_bstn, if_pos rfl, hs]
  refine ⟨by rw [hn, hb], by rw [hn, hb], by rw [hn, hb], fun e he => ?_⟩
  rw [State.checkEngines_eng, State.eng_congr _ hd, hc]
  exact State.foldl_newImage _ _ (.inl he)

theorem exec_imageSwapped {s : State} {st : Stn} (hw : (s.bstn st).swap ≠ 0) (hn : ∀ e ∈ engsOf st, (s.eng e).newImage = true) :
    ∃ t, exec (.imageSwapped st) s = .next t ∧ (t.bstn st).active = (s.bstn st).staging ∧ (t.bstn st).staging = (s.bstn st).active ∧
      (t.bstn st).swap = 0 ∧ ∀ e ∈ engsOf st, (t.eng e).newImage = false := by
  have hany : ((engsOf st).any fun e => !(s.eng e).newImage) = false := by simpa using hn
  exact ⟨_, congrArg Host.Outcome.next (if_neg (by simp [hw, hany])), State.swapped (State.endSwapOf_bob _ _ _ _ _ _ _) rfl (by simp)⟩

/-- Settles O21 (R178 to R180, R197 to R200, R205, R206), event by event. -/
theorem engineEvents : Obligations.EngineEvents := by
  unfold Obligations.EngineEvents
  intro s u e st f hst
  refine ⟨fun k ecc slot hs hq hf hu => ⟨exec_bobbinDispatch_run hst hs hq hf hu ecc slot, exec_bobbinDispatch_noEngine hst hs hq hf hu ecc slot⟩,
    fun r ecc v hr hx hb hu hv => exec_nop_badWord hr hx hb hu hv, fun _ _ => rfl, fun ok h2 hi hu => exec_engineRestored hst ok h2 hi hu,
    fun pc cls n b hd hb => exec_bobbinSample hd hb, fun id hf hs hi hb => exec_rejoinRelease hf hs hi hb, exec_engineImageCopy_again,
    fun hm hc hu => exec_engineImageCopy_failed hm hst hc hu, ?_, fun w hw h0 hn => exec_imageSwapped (by rwa [hw]) hn⟩
  intro img ep w x hm hi hw hep hx
  subst hep
  exact exec_engineImageCopy_done hm hst hi hw hx

end Sys2Proof.Machine
end

section
/-!
PROOF. Configuration writes and requests of a host (R68, R74 to R76, R83, R139 to R142, R157): each operation by its branches.
-/

namespace Sys2Proof.Machine

/-! ### Owner actions (Table 5.11) -/

theorem State.ownerAct_free {s : State} {p : Nat} (hg : s.guard p = none) (reg val : Nat) :
    s.ownerAct p reg val = (if (s.lentOn p).isSome then s.suspendPort p lsOwner else s, true) := by
  simp [State.ownerAct, hg]

theorem State.ownerAct_blocked {s : State} {p i : Nat} (hg : s.guard p = some i) (reg val : Nat) :
    s.ownerAct p reg val = (s.ownerBlocked p i reg val, false) := by
  simp [State.ownerAct, hg]

section

variable {s : State} {p : Port} (hp : s.pciRole p = 2)
include hp

theorem exec_dspLinkReset_free (disable : Bool) (hg : s.guard p = none) : exec (.dspLinkReset p disable true) s =
    .next ((if (s.lentOn p).isSome then s.suspendPort p lsOwner else s).dspHold p disable true) := by
  refine congrArg Host.Outcome.next ?_
  simp [hp, State.ownerAct_free hg]

theorem exec_dspLinkReset_blocked (disable : Bool) {i : Nat} (hg : s.guard p = some i) : exec (.dspLinkReset p disable true) s =
    .next (s.ownerBlocked p i (if disable then ofLNKCTL else ofBCTL) (if disable then 0x10 else 0x400000)) := by
  refine congrArg Host.Outcome.next ?_
  simp [hp, State.ownerAct_blocked hg]

theorem exec_dspLinkReset_clear (disable : Bool) : exec (.dspLinkReset p disable false) s = .next (s.dspHold p disable false) := by
  refine congrArg Host.Outcome.next ?_
  simp [hp]

theorem exec_slotControlWrite (val : B16) : exec (.slotControlWrite p val) s = .next (s.slotCtlOp p val.toNat) :=
  congrArg Host.Outcome.next (if_pos hp)

end

/-- A write of Slot Control that switches nothing off. -/
theorem State.slotCtlOp_plain {s : State} {p val : Nat}
    (h : bit val 10 = false ∨ s.flag (F.STN_PORT_HP_STATUS_PCC (stnOf p) (kOf p)) = true ∨ s.hasSlot p = false) : s.slotCtlOp p val = s.slotCtl p val := by
  refine if_neg fun hc => ?_
  rcases h with h | h | h <;> simp [h] at hc

section

variable {s : State} {p val : Nat} (hb : bit val 10 = true) (hc : s.flag (F.STN_PORT_HP_STATUS_PCC (stnOf p) (kOf p)) = false)
  (hs : s.hasSlot p = true)
include hb hc hs

theorem State.slotCtlOp_free (hg : s.guard p = none) :
    s.slotCtlOp p val = (if (s.lentOn p).isSome then s.suspendPort p lsOwner else s).slotCtl p val := by
  simp [State.slotCtlOp, hb, hc, hs, State.ownerAct_free hg]

theorem State.slotCtlOp_blocked {i : Nat} (hg : s.guard p = some i) :
    s.slotCtlOp p val = (s.ownerBlocked p i ofSLTCTL val).slotCtl p (setBit val 10 false) := by
  simp [State.slotCtlOp, hb, hc, hs, State.ownerAct_blocked hg]

end

/-! ### Lent functions (R139, R142) -/

theorem State.lentBarWrite_low {s : State} {st i k o : Nat} (v : Nat) (ho : o = s.lendOrd st i k) (h0 : o ≠ 0) :
    s.lentBarWrite st i k v = (s.setTw tLend st i (18 + 2 * k) (if 32 ≤ o then 0 else v / 2 ^ o * 2 ^ o)).hwRefresh st i k := by
  subst ho
  exact if_pos (by simpa using h0)

theorem State.lentBarWrite_high {s : State} {st i k o : Nat} (v : Nat) (hk : s.lendOrd st i (k + 1) = 0) (hm : s.lendM64 st i k = true)
    (ho : o = s.lendOrd st i k) (h0 : o ≠ 0) : s.lentBarWrite st i (k + 1) v =
      (s.setTw tLend st i (19 + 2 * k) (if o ≤ 32 then v else v / 2 ^ (o - 32) * 2 ^ (o - 32))).hwRefresh st i k := by
  subst ho
  refine (if_neg (by simp [hk])).trans ((if_pos (by simp [hm, h0])).trans ?_)
  rw [show 18 + 2 * (k + 1 - 1) + 1 = 19 + 2 * k by omega]
  rfl

/-! ### Configuration requests at a USP (R68, R80) -/

section

variable {s : State} {p : Nat} {t : Tlp} (b : B32)

theorem State.cfgOp_retry (h : (s.vs (s.vsOf p)).published = false ∨ (s.vs (s.vsOf p)).rrs = true) :
    s.cfgOp p t b = s.cfgAnswer (bareCx p (stnOf p) (.usp p) (s.vsOf p) p s.nodeId (s.vcOf p t.tc.val) t) t csRRS 1 :=
  if_pos (by simpa using h)

variable {cx : Cx} (hp : (s.vs (s.vsOf p)).published = true) (hr : (s.vs (s.vsOf p)).rrs = false)
  (hc : s.context p (stnOf p) (.usp p) (s.vsOf p) p s.nodeId (s.vcOf p t.tc.val) p p t = .ok cx)
include hp hr hc

theorem State.cfgOp_own (h1 : t.type1 = false) (hf : t.target.toNat % 8 = 0) : s.cfgOp p t b =
    (if isWrite t then s.setCw p ofBUS (s.cw p ofBUS / 256 * 256 + t.target.toNat / 256) else s).cfgOwn cx t
      ((if isWrite t then s.setCw p ofBUS (s.cw p ofBUS / 256 * 256 + t.target.toNat / 256) else s).cfgRead p)
      fun s off d be => s.portCfgWrite p off d be := by
  simp [State.cfgOp, hp, hr, hc, h1, hf]

theorem State.cfgOp_below (h1 : t.type1 = true) (hi : inBuses (s.secBus p) (s.subBus p) (t.target.toNat / 256) = true) : s.cfgOp p t b =
    if t.target.toNat / 256 = s.secBus p then s.cfgInternal cx t else s.cfgDown cx t b := by
  simp [State.cfgOp, hp, hr, hc, h1, hi]

end

theorem isWrite_cfgTlp (flit : Bool) (r : CfgReq) : isWrite (cfgTlp flit r) = r.write := by
  cases hw : r.write <;> simp [isWrite, cfgTlp, hw]

section

variable {s u : State} {p : Port} (hu : u = s.pmWake p) (r : CfgReq) {t : Tlp} (ht : t = cfgTlp (s.flag (F.STN_PORT_STATUS_FLIT (stnOf p) (kOf p))) r)
include hu ht

theorem exec_configRequest_usp (hr : u.pciRole p = 1) : exec (.configRequest p r) s = .next (u.cfgOp p t (crc32c (tlpBytes t))) := by
  subst hu ht
  exact congrArg Host.Outcome.next (if_pos hr)

theorem exec_configRequest_dsp (hr : u.pciRole p = 2) : exec (.configRequest p r) s =
    .next (u.cfgRefuse (bareCx p (stnOf p) (.dsp p) (u.vsOf p) p u.nodeId (u.vcOf p t.tc.val) t) t (.row 1)) := by
  subst hu ht
  exact congrArg Host.Outcome.next ((if_neg (by simp [hr])).trans (if_pos hr))

theorem exec_configRequest_pool (hr : u.pciRole p = 3) :
    exec (.configRequest p r) s = .next ((u.emit (.cfgReply p r.tag csUR 0)).emit (.credit p 0 1 t.len)) := by
  subst hu ht
  exact congrArg Host.Outcome.next ((if_neg (by simp [hr])).trans ((if_neg (by simp [hr])).trans (if_pos hr)))

end

/-! ### Secondary Bus Reset of a USP (R83) -/

theorem exec_uspSecondaryBusResetSet {s : State} {v : VsId} (hp : (s.usp v).isSome = true) :
    exec (.uspSecondaryBusResetSet v) s = .next (s.uspSbrSet v) := congrArg Host.Outcome.next (if_pos hp)

theorem exec_uspSecondaryBusResetClear {s : State} {v : VsId} (hp : (s.usp v).isSome = true) :
    exec (.uspSecondaryBusResetClear v) s = .next (s.uspSbrClear v) := congrArg Host.Outcome.next (if_pos hp)

/-- R83: the steps of a Secondary Bus Reset of the upstream port, each named. -/
theorem State.uspSbrSet_eq {s u a b c d e : State} {v : Nat} (hs : (s.vs v).sbr = false) (hu : u = s.modVs v fun w => { w with sbr := true })
    (ha : a = (u.dsps v).foldl State.cfgReset u)
    (hb : b = (u.dsps v).foldl (fun s p => (s.modPort p fun x => { x with dis := { x.dis with sbr := true, link := false } }).goOff p ldHot lsOwner) a)
    (hc : c = (b.epReset0 v).epReset1 v pcVsReset)
    (hd : d = (c.borrowed v).foldl (fun s x => if s.lendState x.1 x.2 = 1 then s.sendFlr x.1 x.2 else s) c)
    (he : e = (d.homes v).foldl (fun s i => s.farAct i 0 true) d) :
    s.uspSbrSet v = e.raise (srcStn ((e.usp v).elim 0 stnOf)) 0x1033 1 (scVs v) [v, vrSbr] := by
  simp only [State.uspSbrSet, hs, Bool.false_eq_true, if_false, ← hu, ← ha, ← hb, ← hc, ← hd, ← he]

theorem State.uspSbrClear_eq {s u b : State} {v : Nat} (hs : (s.vs v).sbr = true) (hu : u = s.modVs v fun w => { w with sbr := false })
    (hb : b = (u.dsps v).foldl (fun s p => (s.modPort p fun x => { x with dis := { x.dis with sbr := false } }).kick p) u) :
    s.uspSbrClear v =
      ((b.homes v).foldl (fun s i => if bit (s.homeDw i ofBCTL) 22 then s else s.farAct i 0 false) b).shtResetDone v := by
  simp only [State.uspSbrClear, hs, Bool.not_true, Bool.false_eq_true, if_false, ← hu, ← hb]

/-- Settles O23, event by event. -/
theorem configurationEvents : Obligations.ConfigurationEvents := by
  unfold Obligations.ConfigurationEvents
  intro s u p v st idx
  refine ⟨?linkSet, fun disable i hp hg => exec_dspLinkReset_blocked hp disable hg, ?linkClear, ?slotControl, fun hv => congrArg Host.Outcome.next (if_pos hv),
    ?barLow, ?barHigh, ?sbrSet, ?sbrClear, ?request, ?refused⟩
  case linkSet =>
    rintro disable hp hg rfl
    rw [exec_dspLinkReset_free hp disable hg]
    cases disable <;> rfl
  case linkClear =>
    intro disable hp
    rw [exec_dspLinkReset_clear hp]
    cases disable <;> rfl
  case slotControl =>
    intro val hp
    rw [exec_slotControlWrite hp]
    refine ⟨fun h => ?_, fun hb hc hs => ⟨fun hg => ?_, fun i hg => ?_⟩⟩
    · rw [State.slotCtlOp_plain h]
    · rw [State.slotCtlOp_free hb hc hs hg]
    · rw [State.slotCtlOp_blocked hb hc hs hg]
  case barLow =>
    exact fun bar val o hv ho h0 => congrArg Host.Outcome.next ((if_pos hv).trans (State.lentBarWrite_low _ ho h0))
  case barHigh =>
    intro bar val k o hv hk h0 hm ho hne
    refine congrArg Host.Outcome.next ((if_pos hv).trans ?_)
    rw [hk] at h0 ⊢
    exact State.lentBarWrite_high _ h0 hm ho hne
  case sbrSet =>
    intro a b c d e hp hs hu ha hb hc hd he
    rw [exec_uspSecondaryBusResetSet hp, State.uspSbrSet_eq hs hu ha hb hc hd he]
  case sbrClear =>
    intro b hp hs hu hb
    rw [exec_uspSecondaryBusResetClear hp, State.uspSbrClear_eq hs hu hb]
  case request =>
    rintro r t bare hu hr ht rfl
    rw [exec_configRequest_usp hu r ht hr]
    have hw : isWrite t = r.write := by rw [ht, isWrite_cfgTlp]
    refine ⟨fun h => by rw [State.cfgOp_retry _ h], fun cx hp hrrs hc => ⟨fun h1 hf hn => ?_, fun h1 hf hn => ?_, fun h1 hi => ?_⟩⟩
    · rw [State.cfgOp_own _ hp hrrs hc (by rwa [ht]) (by rwa [ht])]
      simp only [State.cfgOwn, hw, hn, Bool.false_eq_true, if_false]
      rw [ht]
      rfl
    · rw [State.cfgOp_own _ hp hrrs hc (by rwa [ht]) (by rwa [ht])]
      simp only [State.cfgOwn, hw, hn, if_true]
      rw [ht]
      rfl
    · rw [State.cfgOp_below _ hp hrrs hc (by rwa [ht]) (by rwa [ht])]
      rw [ht]
      rfl
  case refused => exact fun r t hu ht => ⟨exec_configRequest_dsp hu r ht, exec_configRequest_pool hu r ht⟩

end Sys2Proof.Machine
end

section
/-!
PROOF. TLPs as they arrive, table rewrites, return entries and lendings that end (R78, R121, R134, R135, R146, R220, R297).
-/

namespace Sys2Proof.Machine

/-! ### TLP_RECEIVE -/

theorem State.misshapen_iff {s : State} {p : Nat} {t : Tlp} :
    s.misshapen p t = true ↔ t.malformed = true ∨ 4 < t.prefixes ∨ s.mps p < t.data.length := by
  simp [State.misshapen, or_assoc]

section

variable (fixed : List (Fin 5 × Nat)) (bad : List (Fin 5 × Nat × Nat)) (t : Tlp)

theorem exec_tlpReceive_port {s u : State} {p : Port} {vc : Nat} (ha : s.stage p = stACTIVE) (hr : s.pciRole p ≠ 0) (hv : vc = s.vcOf p t.tc.val)
    (hu : u = (((s.tableEcc (stnOf p) (scPort p) fixed bad).count (stnOf p) 0x01 (kOf p) (tlpClass t) vc 1).count (stnOf p) 0x02 (kOf p)
      (tlpClass t) vc t.len).pmWake p) :
    exec (.tlpReceive (.port p) fixed bad t) s = .next (
      if u.overflows p vc t then u.overflow p t
      else if u.misshapen p t then u.malformed (bareCx p (stnOf p) (.exp 0) (u.vsOf p) p u.nodeId vc t) p t
      else if u.pciRole p = 3 then u.fromPool (bareCx p (stnOf p) (.exp 0) (u.vsOf p) p u.nodeId vc t) t (crc32c (tlpBytes t)) p
      else u.fromPort p t (crc32c (tlpBytes t))) := by
  refine congrArg Host.Outcome.next ((if_pos ⟨ha, hr⟩).trans ?_)
  simp only [State.tlpAt, ← hv, ← hu]

theorem exec_tlpReceive_down {s : State} {p : Port} (h : s.stage p ≠ stACTIVE ∨ s.pciRole p = 0) (hc : s.cqFind (stnOf p) 0 p = none) :
    exec (.tlpReceive (.port p) fixed bad t) s = .next s := by
  refine congrArg Host.Outcome.next ((if_neg ?_).trans ?_)
  · rintro ⟨ha, hr⟩
    exact h.elim (· ha) hr
  · simp [State.lateArrival, hc]

theorem exec_tlpReceive_ep {s u : State} {v : VsId} {p : Nat} (fn : Bool) (hp : s.usp v = some p)
    (hu : u = s.tableEcc (stnOf p) (scStn (stnOf p)) fixed bad) :
    exec (.tlpReceive (.ep v fn) fixed bad t) s = .next (u.tlpFromEp p v fn t) := by
  subst hu
  refine congrArg Host.Outcome.next ?_
  simp only [hp]

end

/-! ### Tables and return entries (R121, R134, R135, R297) -/

theorem exec_tableRewrite {s u : State} {st : Stn} {table : Fin 5} {idx : Nat} (ha : s.acl.up = true) (hb : s.entryBad table.val st idx 32 = true)
    (hu : u = if table.val = tCrt then s.crtRelease (9 * st.val + idx / 256) (idx % 256) else s) :
    exec (.tableRewrite st table idx) s =
      .next { u with tbl := { u.tbl with bad := u.tbl.bad.filter fun k => k / 32 != tkey table.val st idx 0 / 32 } } := by
  subst hu
  exact congrArg Host.Outcome.next (if_neg (by simp [ha, hb]))

theorem exec_proxyTmo_port {s : State} {st : Stn} {port : Port} {tag : Nat} (ht : tag < 256) (hs : stnOf port = st.val)
    (hv : crtValid (s.crt port tag) = true) :
    exec (.proxyTmo st false port tag) s = .next (((s.crtRelease port tag).bump (F.STN_CLS_CRT_USE_TIMEOUTS st (kOf port))).raise (srcStn st) 0x3016 1
      (scPort port) [port.val, tag, crtRid (s.crt port tag), crtLend (s.crt port tag)]) :=
  congrArg Host.Outcome.next ((if_neg (by simp)).trans (if_pos ⟨ht, hs, hv⟩))

theorem exec_proxyTmo_fabric {s : State} {st : Stn} (port : Port) {tag : Nat} {f : Fret} (hf : s.fret st tag = some f) :
    exec (.proxyTmo st true port tag) s = .next ((s.setFret st tag none).raise (srcStn st) 0x3016 1 (scPort port)
      [port.val, tag, f.origRid.toNat, f.origVs]) := by
  refine congrArg Host.Outcome.next ?_
  simp only [hf, if_true]

/-! ### The end of a lending (R146) -/

theorem exec_lendReclaimed {s a b c : State} {st : Stn} {idx : Fin 256} {k : Nat} (hv : s.lendValid st idx = true) (h3 : s.lendState st idx = 3)
    (hk : k = 256 * st.val + idx.val) (ha : a = s.hwDrop st idx)
    (hfound : ∀ j, a.reqFind st (a.lendRid st idx) (a.lendPort st idx) = some j → b = a.setTw64 tReq st j 0 0)
    (hlost : a.reqFind st (a.lendRid st idx) (a.lendPort st idx) = none → b = a)
    (hc : c = (b.setEntry tLend st idx 0 (List.replicate 32 0)).vdpClear st idx) :
    exec (.lendReclaimed st idx) s = .next (State.raiseEnd { c with tbl := { c.tbl with
          discards := SMap.set (fun _ => 0) c.tbl.discards k 0, reclaim := SMap.set (fun _ => 0) c.tbl.reclaim k 0,
          probes := SMap.set (fun _ => default) c.tbl.probes k default } }
      (fun a => a.opcode == 0x0406 && a.obj == k) (srcStn st) 0x3011 0 (scVs (s.lendOwner st idx))
      [idx.val, s.reclaiming st idx - 1, s.lendDiscards st idx]) := by
  subst hk hc
  refine congrArg Host.Outcome.next ((if_neg (by simp [hv, h3])).trans ?_)
  simp only [← ha]
  cases hr : a.reqFind st (a.lendRid st idx) (a.lendPort st idx) with
  | none => simp only [hlost hr]
  | some j => simp only [hfound j hr]

theorem exec_reclaimTimeout {s : State} {cred tag : B32} {a : Async} {mine : Async → Bool}
    (hm : mine = fun a => a.opcode == 0x0406 && a.cred == cred && a.tag == tag && a.ended == none) (ha : s.cmd.asyncs.find? mine = some a)
    (h3 : s.lendState (a.obj / 256) (a.obj % 256) ≠ 3) : exec (.reclaimTimeout cred tag) s =
      .next (({ s with tbl := { s.tbl with reclaim := SMap.set (fun _ => 0) s.tbl.reclaim a.obj 0 } }).endAsync mine .timeout none) := by
  subst hm
  refine congrArg Host.Outcome.next ?_
  simp only [ha, h3, if_false]

/-- Settles O24, event by event. -/
theorem classificationAndReturns : Obligations.ClassificationAndReturns := by
  unfold Obligations.ClassificationAndReturns
  intro s u st
  refine ⟨?port, fun p fixed bad t h hc => exec_tlpReceive_down fixed bad t h hc, ?ep, fun table idx => exec_tableRewrite,
    fun port tag ht hs hv => exec_proxyTmo_port ht hs hv, fun port tag f hf => exec_proxyTmo_fabric port hf, ?reclaimed,
    fun cred tag a mine hm ha h3 => exec_reclaimTimeout hm ha h3⟩
  case port =>
    intro p fixed bad t vc ha hr hv hu
    rw [exec_tlpReceive_port fixed bad t ha hr hv hu]
    simp only [State.misshapen_iff]
  case ep =>
    intro v fn fixed bad t p hp hu
    rw [exec_tlpReceive_ep fixed bad t fn hp hu]
    refine ⟨fun cx hc => ?_, fun e cx hc hcx => ?_⟩
    · simp only [State.tlpFromEp, hc]
    · simp only [State.tlpFromEp, hc, hcx]
  case reclaimed =>
    intro idx a b c k hv h3 hk ha hb hc
    refine exec_lendReclaimed hv h3 hk ha (fun j hj => ?_) (fun hn => ?_) hc
    · simpa only [hj] using hb
    · simpa only [hn] using hb

end Sys2Proof.Machine
end

section
/-!
PROOF. Table flips, expiries and the load of the configuration image (R50, R66, R277, R278, R363 to R365, R398, R445).
-/

namespace Sys2Proof.Machine

/-! ### TABLE_FLIP -/

theorem State.foldl_setKey_shadow (l : List (Nat × B32)) (s : State) :
    (l.foldl (fun s x => s.setKey x.1 x.2) s).tbl.shadow = s.tbl.shadow := by
  induction l generalizing s with
  | nil => rfl
  | cons x l ih => exact ih _

theorem State.foldl_setReg_tbl (l : List (Nat × B32)) (s : State) : (l.foldl (fun s x => s.setReg x.1 x.2) s).tbl = s.tbl := by
  induction l generalizing s with
  | nil => rfl
  | cons x l ih => exact ih _

/-- A station that has flipped has no shadow words left. -/
theorem State.flipStn_shadow (s : State) (st : Nat) : (s.flipStn st).tbl.shadow = s.tbl.shadow.filter fun x => !stnKey st x.1 := by
  simp only [State.flipStn, State.put_tbl, State.putB_tbl, State.foldl_setReg_tbl, State.foldl_setKey_shadow]

/-- ... and is not pending any more: the bit of its bank stands beside that of FLIP_PENDING. -/
theorem State.flipStn_pending (s : State) (st : Nat) : (s.flipStn st).flag (F.STN_CLS_STATUS_FLIP_PENDING st) = false := by
  simp only [State.flipStn, State.flag]
  rw [State.put_get_ne _ _ _ _ (show 0 + 1 ≤ 32 by decide) (.inr (.inr (show 0 + 1 ≤ 1 by decide))), State.putB,
    State.put_get_self _ _ _ (show 1 + 1 ≤ 32 by decide)]
  rfl

/-! ### CONFIG_IMAGE_LOAD -/

theorem exec_configImageLoad {s u n w : State} {a b : Option Nat} {newer : Bool} {pick : Nat} (hup : s.acl.up = true) (hr : s.pow.running = true)
    (hl : s.pow.loaded = false) (ha : a = cfgTest s.acl.cfgA) (hb : b = cfgTest s.acl.cfgB) (hn : n = (s.noteCopy 0 a).noteCopy 1 b)
    (hnew : newer = decide (0 < (BitVec.ofNat 32 (leAt s.acl.cfgB 12 4) - BitVec.ofNat 32 (leAt s.acl.cfgA 12 4)).toInt))
    (hpick : pick = if a.isNone && b.isNone then (if newer then 1 else 0) else if a.isNone then 0 else if b.isNone then 1 else 3)
    (hu : u = ((n.putB F.ACW_CFG_STATUS_A_VALID a.isNone).putB F.ACW_CFG_STATUS_B_VALID b.isNone).put F.ACW_CFG_STATUS_COPY pick)
    (hw : w = if pick = 3 then u.loadDefaults 1 else (u.put F.ACW_CFG_SEQ_SEQ (leAt (s.cfgOf pick) 12 4)).applyImage (s.cfgOf pick)) :
    exec .configImageLoad s = .next (State.loadDone (State.afterLoad s w)) := by
  subst hw hu hn
  refine congrArg Host.Outcome.next ((if_neg (by simp [hup, hr, hl])).trans ?_)
  simp only [← ha, ← hb, ← hnew, ← hpick]
  cases a <;> cases b <;> rfl

/-- Settles O25, event by event. -/
theorem commitsAndImages : Obligations.CommitsAndImages := by
  unfold Obligations.CommitsAndImages
  intro s u
  refine ⟨?flip, ?idle, fun cred tag => rfl, ?load⟩
  case flip =>
    intro st hp hu
    refine ⟨?_, by rw [hu, State.flipStn_shadow], by rw [hu, State.flipStn_pending]⟩
    rw [hu]
    exact congrArg (fun x => Host.Outcome.next (State.commitReport x)) (if_pos hp)
  case idle =>
    intro cred t ht
    refine congrArg Host.Outcome.next ?_
    simp only [ht]
    rfl
  case load =>
    intro a b newer pick n w hup hr hl ha hb hn hnew hpick hu hw
    refine exec_configImageLoad hup hr hl ha hb hn hnew ?_ hu hw
    simpa only [Bool.and_eq_true, Option.isNone_iff_eq_none] using hpick

end Sys2Proof.Machine
end

section
/-!
PROOF. How containment entries end, and receiver errors (R27, R214, R217, R219, R221, R224).
-/

namespace Sys2Proof.Machine

theorem exec_contained {s u r : State} {st : Stn} {i : Fin 32} {x : PortSt} {port : Bool} (hv : s.cqValid st i = true) (h1 : s.cqState st i = 1)
    (hd : s.cqDone st i = true) (hu : u = s.put (F.STN_CQ_ENTRY0_STATE st i) 2) (hx : x = u.port (u.cqObject st i)) (hp : port = (u.cqKind st i == 0))
    (hr : r = u.raise (srcStn st) 0x2703 1 (scStn st) [st.val, i.val,
      (u.fabNow % 2 ^ 32 + 2 ^ 32 - u.get (F.STN_CQ_ENTRY2_TIME st i)) % 2 ^ 32, if port then x.flushed else 0, if port then x.suspended else 0]) :
    exec (.contained st i) s =
      .next (if port && !x.surprise && r.get (F.STN_CQ_ENTRY1_CAUSE st i) != 0x0B then r.uncontain (u.cqObject st i) else r) := by
  refine congrArg Host.Outcome.next ((if_neg (by simp [hv, h1, hd])).trans ?_)
  simp only [← hu, ← hx, ← hp, ← hr]

theorem exec_containReleased {s : State} {st : Stn} {i : Fin 32} {c : Nat} (hv : s.cqValid st i = true) (h2 : s.cqState st i = 2)
    (hc : s.cqOver st i = some c) : exec (.containReleased st i) s =
      .next ((s.raise (srcStn st) 0x2704 0 (scStn st) [st.val, i.val, c, s.get (F.STN_CQ_ENTRY1_NESTED st i)]).cqDrop st i) := by
  refine congrArg Host.Outcome.next ((if_neg (by simp [hv, h2])).trans ?_)
  simp only [hc]
  rfl

section

variable {s u : State} {p : Port} (hs : (s.port p).surprise = true) (hu : u = s.modPort p fun x => { x with surprise := false })
include hs hu

theorem exec_surpriseDownHoldoff_gone (ha : u.slotAbsent p = true) :
    exec (.surpriseDownHoldoff p) s = .next ((u.cqEndObj (stnOf p) 0 p ecRemoval).uncontain p) := by
  refine congrArg Host.Outcome.next ((if_neg (by simp [hs])).trans ?_)
  simp only [← hu, ha, if_true]

/-- The card is still there: the error is recorded, DPC triggers where it is enabled, and the port leaves a containment that is done. -/
theorem exec_surpriseDownHoldoff_there {dpc done : Bool} {w : State} (ha : u.slotAbsent p = false)
    (hdpc : dpc = (!bit (u.cw p 0x108) aeSD && (u.dpcEnable p == 2 || (u.dpcEnable p == 1 && bit (u.cw p 0x10C) aeSD))
      && !u.flag (F.STN_PORT_STATUS_DPC_TRIG (stnOf p) (kOf p))))
    (hnone : u.cqFind (stnOf p) 0 p = none → done = true) (hsome : ∀ i, u.cqFind (stnOf p) 0 p = some i → done = (u.cqState (stnOf p) i == 2))
    (hw : w = if dpc then ((u.aer p aeSD).dpcSet p 0 0).suspendPort p lsDpc else u.aer p aeSD) :
    exec (.surpriseDownHoldoff p) s = .next (if done then w.uncontain p else w) := by
  refine congrArg Host.Outcome.next ((if_neg (by simp [hs])).trans ?_)
  simp only [← hu, ha, Bool.false_eq_true, if_false, ← hdpc, ← hw]
  cases hf : u.cqFind (stnOf p) 0 p with
  | none => simp only [hnone hf]
  | some i => simp only [hsome i hf]

end

theorem exec_dpcRelease {s u : State} {p : Port} (ht : s.flag (F.STN_PORT_STATUS_DPC_TRIG (stnOf p) (kOf p)) = true)
    (hu : u = s.putB (F.STN_PORT_STATUS_DPC_TRIG (stnOf p) (kOf p)) false) : exec (.dpcRelease p) s =
      .next (((u.setCw p ofDPCS (u.cw p ofDPCS / 2 * 2)).modPort p fun x => { x with dis := { x.dis with dpc := false }, endCond := ecDpcDone }).kick p) := by
  subst hu
  exact congrArg Host.Outcome.next (if_pos ht)

section

variable {s : State} {p : Port} (hr : s.pciRole p = 1 ∨ s.pciRole p = 2)
include hr

/-- R214: the correctable errors set their AER bit. -/
theorem exec_receiverError_corr (err : PortErr) (n : Nat)
    (h : (err, n) ∈ [(.receiver, 0), (.badTlp, 6), (.badDllp, 7), (.replayRollover, 8), (.replayTimeout, (12 : Nat))]) :
    exec (.receiverError p err) s = .next (s.aerCorr p n) := by
  simp only [List.mem_cons, List.not_mem_nil, or_false, Prod.mk.injEq] at h
  rcases h with ⟨rfl, rfl⟩ | ⟨rfl, rfl⟩ | ⟨rfl, rfl⟩ | ⟨rfl, rfl⟩ | ⟨rfl, rfl⟩ <;> exact congrArg Host.Outcome.next (if_pos hr)

theorem exec_receiverError_protocol {err : PortErr} {b c : Nat} (h : err = .linkProtocol ∧ b = aeDLP ∧ c = 0x05 ∨ err = .flowProtocol ∧ b = aeFCP ∧ c = 0x06) :
    exec (.receiverError p err) s = .next (s.protocolError p b c) := by
  rcases h with ⟨rfl, rfl, rfl⟩ | ⟨rfl, rfl, rfl⟩ <;> exact congrArg Host.Outcome.next (if_pos hr)

end

/-- Settles O26, event by event. -/
theorem containmentEvents : Obligations.ContainmentEvents := by
  unfold Obligations.ContainmentEvents
  intro s u st i p
  refine ⟨?contained, fun c hv h2 hc => exec_containReleased hv h2 hc, fun hs hu ha => exec_surpriseDownHoldoff_gone hs hu ha, ?there,
    fun ht hu => exec_dpcRelease ht hu, ?corr, ?protocol⟩
  case contained =>
    intro x port r hv h1 hd hu hx hp hr
    rw [exec_contained hv h1 hd hu hx hp hr]
    simp only [Bool.and_eq_true, Bool.not_eq_true', bne_iff_ne, and_assoc]
  case there =>
    intro dpc done w hs hu ha hdpc hdone hw
    refine exec_surpriseDownHoldoff_there hs hu ha hdpc (fun hn => ?_) (fun i hi => ?_) hw
    · simpa only [hn] using hdone
    · simpa only [hi] using hdone
  case corr =>
    intro hr
    refine ⟨?_, ?_, ?_, ?_, ?_⟩ <;> exact exec_receiverError_corr hr _ _ (by decide)
  case protocol =>
    rintro err b c hr h rfl
    exact exec_receiverError_protocol hr h

end Sys2Proof.Machine
end

section
/-!
PROOF. From crossbar entry to commitment, residue chains and returned credits (R95 to R103, R160 to R170).
-/

namespace Sys2Proof.Machine

/-- Nothing earlier of its class keeps a flight out of a bank where one of its records is still to come. -/
theorem recordAdmit_free {s : State} {f : Flight} {bank : Nat} (he : f.entered = true) (hd : ∃ d ∈ f.dests, d.bank = bank ∧ d.admitted = false)
    (hb : ∀ x ∈ s.before f, sameClass f x = true → x.dests.all Dest.admitted = true) :
    (!f.entered || !(f.dests.any fun d => d.bank == bank && !d.admitted)
      || !((s.before f).all fun g => !sameClass f g || g.dests.all Dest.admitted)) = false := by
  have hany : (f.dests.any fun d => d.bank == bank && !d.admitted) = true := by simpa using hd
  have hall : ((s.before f).all fun g => !sameClass f g || g.dests.all Dest.admitted) = true := by
    simp only [List.all_eq_true] at hb ⊢
    intro x hx
    cases hc : sameClass f x with
    | false => rfl
    | true => simpa using hb x hx hc
  simp only [he, hany, hall, Bool.not_true, Bool.or_self]

section

variable {s : State} {id : Nat} {f : Flight} (hf : s.flight id = some f)
include hf

theorem exec_crossbarEntry {g : Flight} (he : f.entered = false) (hm : s.mayEnter f = true)
    (hg : g = { f with entered := true, dests := (if s.transit f then f.dests else f.dests.map (s.repath f)) ++
      ((s.traceRule f).bind (s.traceDest f)).toList }) :
    exec (.crossbarEntry id) s = .next ((s.setFlight g).admitTrace g) := by
  subst hg
  refine congrArg Host.Outcome.next ?_
  simp only [hf, he, hm, Bool.not_true, Bool.false_or, Bool.false_eq_true, if_false]

section

variable {u : State} {bank : Stn} (he : f.entered = true) (hd : ∃ d ∈ f.dests, d.bank = bank.val ∧ d.admitted = false)
  (hb : ∀ x ∈ s.before f, sameClass f x = true → x.dests.all Dest.admitted = true) (hu : u = s.refuseShut f)
include he hd hb hu

theorem exec_recordAdmit_gone (hg : u.flight id = none) : exec (.recordAdmit bank id) s = .next u := by
  have hfree := recordAdmit_free he hd hb
  refine congrArg Host.Outcome.next ?_
  simp only [hf, hfree, Bool.false_eq_true, if_false, ← hu, hg]

theorem exec_recordAdmit_waits {g : Flight} (hg : u.flight id = some g) (hn : u.admitAll g g.dests = none) :
    exec (.recordAdmit bank id) s = .next (u.noteHeld g) := by
  have hfree := recordAdmit_free he hd hb
  refine congrArg Host.Outcome.next ?_
  simp only [hf, hfree, Bool.false_eq_true, if_false, ← hu, hg, hn]

theorem exec_recordAdmit_admitted {g k : Flight} {w x : State} {ds : List Dest} (hg : u.flight id = some g) (hw : u.admitAll g g.dests = some (w, ds))
    (hx : x = (w.setFlight { g with dests := ds }).admitTrace { g with dests := ds }) (hk : x.flight id = some k) :
    exec (.recordAdmit bank id) s = .next (x.settle k) := by
  have hfree := recordAdmit_free he hd hb
  refine congrArg Host.Outcome.next ?_
  simp only [hf, hfree, Bool.false_eq_true, if_false, ← hu, hg, hw, ← hx, hk]

end

/-- R99: the records of a flight in a bank, once one of them is no trace copy. -/
theorem State.commitIn_eq {bank : Nat} {mine : Dest → Bool} {u v : State} {g : Flight} (hm : mine = fun d => d.bank == bank && d.admitted && !d.committed)
    (hr : s.recovering bank = false) (hany : f.dests.any mine = true) (hreal : ∃ d ∈ f.dests, d.trace = 0 ∧ d.admitted = true)
    (hv : v = s.writeUntil bank id (f.dests.length * 17 + s.core.flights.length * 170))
    (hu : u = (f.dests.filter mine).foldl (fun s d =>
      (s.count (16 + bank / 4) 0x21 16 0 0 (lineCount d.r.rlen)).modBank bank fun b =>
        if d.residue then b.setChain d.qid f.key ((b.chain d.qid f.key).commit id) else b.setQ d.qid ((b.q d.qid).commit id)) v)
    (hg : u.flight id = some g) : s.commitIn bank id =
      u.settle { g with dests := g.dests.map fun d => if mine d then { d with committed := true, left := 0 } else d } := by
  have hr' : (f.dests.any fun d => d.trace == 0 && d.admitted) = true := by simpa using hreal
  subst hm
  simp only [State.commitIn, hf, hr', Bool.or_true, Bool.and_true, hr, hany, Bool.not_true, Bool.or_self, Bool.false_eq_true, if_false, ← hv, ← hu, hg]

end

theorem exec_recordCommit (bank : Stn) (id : Nat) (s : State) :
    exec (.recordCommit bank id) s = .next ((((s.commitIn bank id).seamFinish bank).finishHeads bank).retrySeals bank) := rfl

/-! ### Residue chains (R163) -/

theorem exec_residueLink {s u : State} {bank : Stn} {q : Fin 64} {ing : Fin 256} {r : Rec} {rest : Queue}
    (hp : ((s.bank bank).chain q ing).pop = some (r, rest))
    (ha : ((s.bank bank).arrivals.find? fun a => a.1 == q.val) = some (q.val, ing.val)) (hr : s.recovering bank = false) (hq : s.quadFailed bank = false)
    (hc : qPort bank q = 0xFF ∨ (s.port (qPort bank q)).closed = false) (hy : s.admits bank q r.rlen = .yes)
    (hu : u = ((s.modBank bank fun b => { b.setChain q ing rest with arrivals := dropArrival (q.val, ing.val) b.arrivals }).freeCells bank
      (((s.bank bank).chain q ing).cells.take (((s.bank bank).chain q ing).occ - rest.occ))).resCount bank) :
    exec (.residueLink bank q ing) s = .next ((u.enqueue bank q { r with gap := 0 }).linkedDest r.fid bank q) := by
  have hshut : (qPort bank q != 0xFF && (s.port (qPort bank q)).closed) = false := by
    rcases hc with h | h <;> simp [h]
  refine congrArg Host.Outcome.next ?_
  simp only [hp, ha, Option.map_some, hr, hq, hshut, hy, ← hu, bne_self_eq_false, Bool.or_self, Bool.false_eq_true, if_false]

/-! ### Credits that a partner returns (R106) -/

theorem exec_linkCreditReturned {s : State} {p : Port} (vc : Fin 2) (cls : Fin 3) (hdr data : Nat) (ha : s.stage p = stACTIVE) :
    ∃ t, exec (.linkCreditReturned p vc cls hdr data) s = .next t ∧
      (∀ k, SMap.get (fun _ => 0) (t.port p).txHdr k = SMap.get (fun _ => 0) (s.port p).txHdr k + if k = 3 * vc.val + cls.val then hdr else 0) ∧
      (∀ k, SMap.get (fun _ => 0) (t.port p).txData k = SMap.get (fun _ => 0) (s.port p).txData k + if k = 3 * vc.val + cls.val then data else 0) ∧
      (∀ p' : Nat, p' ≠ p → t.port p' = s.port p') ∧ ({ t with ports := s.ports } : State) = s := by
  refine ⟨_, congrArg Host.Outcome.next (if_pos ha), fun k => ?_, fun k => ?_, fun p' hp => ?_, rfl⟩
  · rw [State.modPort_port, if_pos rfl, SMap.get_set]
    split <;> simp_all
  · rw [State.modPort_port, if_pos rfl, SMap.get_set]
    split <;> simp_all
  · rw [State.modPort_port, if_neg hp]

/-- Settles O27, event by event. -/
theorem crossbarAndQueues : Obligations.CrossbarAndQueues := by
  unfold Obligations.CrossbarAndQueues
  intro s u bank id f hf
  refine ⟨fun g he hm hg => exec_crossbarEntry hf he hm hg, ?accepted, ?commit, fun q ing r rest hp ha hr hq hc hy hu => exec_residueLink hp ha hr hq hc hy hu,
    fun p vc cls hdr data ha => exec_linkCreditReturned vc cls hdr data ha⟩
  case accepted =>
    exact fun he hd hb hu => ⟨exec_recordAdmit_gone hf he hd hb hu, fun g hg hn => exec_recordAdmit_waits hf he hd hb hu hg hn,
      fun g k w x ds hg hw hx hk => exec_recordAdmit_admitted hf he hd hb hu hg hw hx hk⟩
  case commit =>
    intro mine g v hm hr hany hreal hv hu hg
    rw [exec_recordCommit, State.commitIn_eq hf hm hr hany hreal hv hu hg]

end Sys2Proof.Machine
end

section
/-!
PROOF. Departures of records, port flushes and sieve passes (R104 to R114).
-/

namespace Sys2Proof.Machine

theorem exec_recordDepart {s : State} {bank : Stn} {q : Fin 64} {r : Rec} {phys : ReadPhys} {x : State × HeadRead} (hr : s.headReady bank q = some r)
    (ht : s.depTurn bank q = true) (hx : x = (s.takeTurn bank q).readHead bank q phys) :
    exec (.recordDepart bank q phys) s = .next (if x.2.lost then x.1.headLost bank q r
      else if r.committed then x.1.departHead bank q (x.1.headOf bank q r) phys.sound else x.1.beginHead bank q phys.sound) := by
  subst hx
  refine congrArg Host.Outcome.next ?_
  simp only [hr, ht, Bool.not_true, Bool.false_eq_true, if_false]

theorem exec_portFlushed {s u a b w y z : State} {bank : Stn} {p : Port} {links : List (Fin 64 × LinkHit)} {drop : Bool} {qs : List Nat} {n : Nat}
    {x : State × Nat} (hst : stnOf p = bank.val) (hf : bit (s.get (F.STN_OB_FLUSH_FLUSHING bank)) (kOf p) = true) (hr : s.recovering bank = false)
    (hdrop : drop = (s.port p).flushDrop) (hu : u = s.flushWalk p drop links) (hqs : qs = u.portQs p)
    (hn : n = qs.foldl (fun n q => n + ((u.bank bank).q q).recs.length) 0) (ha : a = qs.foldl (fun s q => s.flushQueue bank q drop) u)
    (hb : b = if drop then a.modBank bank (fun b => { b with lastDrop := some a.clk.now }) else a)
    (hx : x = qs.foldl (fun (x : State × Nat) q => ((x.1.flushChains bank q).1, x.2 + (x.1.flushChains bank q).2)) (b, 0))
    (hy : y = if x.2 = 0 then x.1
      else (x.1.bumpN (F.STN_OB_RES_DISCARD_RES_DISCARD bank) x.2).raise 0x04 0x2503 1 (scStn bank) [bank.val, p.val, x.2])
    (hw : w = y.put (F.STN_OB_FLUSH_FLUSHING bank) (setBit (y.get (F.STN_OB_FLUSH_FLUSHING bank)) (kOf p) false))
    (hz : z = (w.modPort p fun v => { v with flushed := v.flushed + n + x.2, closed := w.stage p != stACTIVE }).count bank 0x0B (kOf p) 0 0 (n + x.2)) :
    exec (.portFlushed p links) s = .next (z.raise 0x04 0x2301 0 (scStn bank) [bank.val, p.val, (z.port p).flushTrig, b2n drop, n]) := by
  refine congrArg Host.Outcome.next ((if_neg (by simp [hst, hf, hr])).trans ?_)
  simp only [hst, ← hdrop, ← hu, ← hqs, ← hn, ← ha, ← hb, ← hx, ← hy, ← hw, ← hz]

theorem exec_sievePassStart {s : State} {bank : Stn} (ho : s.sieveOn = true) (ha : s.flag (F.STN_OB_SIEVE_STAT_ACTIVE bank) = false)
    (hp : s.flag (F.STN_OB_SIEVE_STAT_PAUSED bank) = false) (hr : s.recovering bank = false) :
    exec (.sievePassStart bank) s = .next ((s.toggleEpoch bank).putB (F.STN_OB_SIEVE_STAT_ACTIVE bank) true) :=
  congrArg Host.Outcome.next (if_pos (by simp [ho, ha, hp, hr]))

/-- What a sieve pass met takes effect in the order loops, links, corrupt cells, leaks. -/
theorem State.sievePass_eq {u a b c : State} {bank : Nat} {find : SieveFind}
    (ha : a = find.loops.foldl (fun s l => s.cutAt bank l.1.q (l.1.ing.map Fin.val) l.2 false) u)
    (hb : b = find.links.foldl (fun s l => s.sieveLink bank l.1 l.2) a) (hc : c = find.corrupt.foldl (fun s i => s.corruptCell bank i.val) b) :
    u.sievePass bank find = find.leaks.foldl (fun s i => s.leakCell bank i.val) (c.sieveEnd bank) := by
  simp only [State.sievePass, ← ha, ← hb, ← hc]

theorem exec_sievePassEnd {s u : State} {bank : Stn} (find : SieveFind) (ha : s.flag (F.STN_OB_SIEVE_STAT_ACTIVE bank) = true)
    (hu : u = s.putB (F.STN_OB_SIEVE_STAT_ACTIVE bank) false) :
    exec (.sievePassEnd bank find.leaks find.corrupt find.loops find.links) s = .next (u.sievePass bank find) := by
  subst hu
  exact congrArg Host.Outcome.next (if_neg (by simp [ha]))

/-- Settles O28, event by event. -/
theorem departuresAndSieve : Obligations.DeparturesAndSieve := by
  unfold Obligations.DeparturesAndSieve
  intro s u bank q r phys
  refine ⟨fun x => exec_recordDepart, ?_, exec_sievePassStart, ?_⟩
  · intro p links drop qs n a b w y z x hst hf hr hdrop hu hqs hn ha hb hx hy hw hz
    exact exec_portFlushed hst hf hr hdrop hu hqs hn ha hb hx hy hw hz
  · intro find a b c hact hu ha hb hc
    rw [exec_sievePassEnd find hact hu, State.sievePass_eq ha hb hc]

end Sys2Proof.Machine
end

section
/-!
PROOF. Quadrant stalls and recoveries, pace readings, trace samples (R21, R22, R115 to R117, R172, R173).
-/

namespace Sys2Proof.Machine

section

variable {s u v : State} {q : Quad} {n : Nat} (hp : s.pendingAt q ≠ []) (hr : bit (s.get F.CORE_STALL_STATUS_RECOVERING) q = false)
  (hf : bit (s.get F.CORE_STALL_STATUS_FAILED) q = false) (hv : v = s.bump (F.CORE_STALL_CNT_STALLS q))
  (hn : n = ((List.range 16).filter fun st => (s.pendingAt q).any fun f => f.stn == st).length)
  (hu : u = (quadBanks q).foldl (fun s b => (s.putB (F.STN_OB_SIEVE_STAT_ACTIVE b) false).rollBack b) (v.raise 0x04 0x2401 3
    scDev [q.val, n, v.get (F.CORE_PACE_M_HS (16 + q.val))]))
include hp hr hf hv hn hu

/-- A first stall, or one more than 10 ms after the last recovery: the quadrant recovers. -/
theorem exec_quadrantStall_recovers (ht : ∀ t, (u.quadSt q).recoveredAt = some t → t + 10 * msec < u.clk.now) {w : State}
    (hw : w = (quadBanks q).foldl (fun s b => s.putB (F.STN_OB_SIEVE_STAT_PAUSED b) true)
      (u.put F.CORE_STALL_STATUS_RECOVERING (setBit (u.get F.CORE_STALL_STATUS_RECOVERING) q true))) :
    exec (.quadrantStall q) s = .next (w.setQuad q { w.quadSt q with since := w.clk.now }) := by
  refine congrArg Host.Outcome.next ((if_neg (by simp [hp, hr, hf])).trans ?_)
  simp only [← hv, ← hn, ← hu, ← hw]
  cases hc : (u.quadSt q).recoveredAt with
  | none => exact if_neg (by simp)
  | some t => exact if_neg (by simpa using ht t hc)

/-- A stall within 10 ms of the last recovery: the quadrant fails. -/
theorem exec_quadrantStall_fails {t : Nat} (hc : (u.quadSt q).recoveredAt = some t) (ht : u.clk.now ≤ t + 10 * msec) :
    exec (.quadrantStall q) s = .next (u.quadFail q 1) := by
  refine congrArg Host.Outcome.next ((if_neg (by simp [hp, hr, hf])).trans ?_)
  simp only [← hv, ← hn, ← hu, hc, ht, decide_true, if_true]

end

section

variable {s : State} {q : Quad} (hr : bit (s.get F.CORE_STALL_STATUS_RECOVERING) q = true)
include hr

theorem exec_quadrantRecovered {a b u : State} (finds : List SieveFind)
    (ha : a = (quadBanks q).foldl (fun s b => ((s.toggleEpoch b).sievePass b (finds.getD (b % 4) {})).putB (F.STN_OB_SIEVE_STAT_PAUSED b) false) s)
    (hb : b = a.put F.CORE_STALL_STATUS_RECOVERING (setBit (a.get F.CORE_STALL_STATUS_RECOVERING) q false))
    (hu : u = b.setQuad q { since := 0, recoveredAt := some b.clk.now }) :
    exec (.quadrantRecovered q finds) s = .next (u.raise 0x04 0x2402 1 scDev [q.val, u.clk.now - (b.quadSt q).since, (u.pendingAt q).length]) := by
  refine congrArg Host.Outcome.next ((if_neg (by simp [hr])).trans ?_)
  simp only [← ha, ← hb, ← hu]

theorem exec_recoveryMonitorTimeout : exec (.recoveryMonitorTimeout q) s = .next (s.quadFail q 2) :=
  congrArg Host.Outcome.next (if_pos hr)

end

/-! ### Trace samples (R172, R173) -/

section

variable {s : State} {st : Stn} {rule : Fin 16} {id : Nat} {f g : Flight} (hf : s.flight id = some f) (hs : f.stn = st.val)
  (hc : f.fired.contains rule.val = true) (hr : f.ready = true) (hg : g = { f with fired := f.fired.filter (· != rule.val) })
include hf hs hc hr hg

theorem exec_traceSamplerFire_copy (hd : s.flag (F.MCT_TR_CTL_DEST rule) = false) :
    exec (.traceSamplerFire st rule id) s = .next (s.setFlight { g with traceReq := f.traceReq ++ [rule.val] }) := by
  subst hg
  refine congrArg Host.Outcome.next ?_
  simp only [hf, hs, hc, hr, hd, bne_self_eq_false, Bool.not_true, Bool.or_self, Bool.false_eq_true, if_false]

/-- DEST 1: of the rules that fired on the header the lowest writes its sample. -/
theorem exec_traceSamplerFire_sample (hd : s.flag (F.MCT_TR_CTL_DEST rule) = true) {first : Bool}
    (h1 : first = f.firedAll.all fun r => !(decide (r < rule.val) && s.flag (F.MCT_TR_CTL_DEST r))) :
    exec (.traceSamplerFire st rule id) s = .next (if first then (s.setFlight g).sampleEntry g rule else s.setFlight g) := by
  subst hg h1
  refine congrArg Host.Outcome.next ?_
  simp only [hf, hs, hc, hr, hd, bne_self_eq_false, Bool.not_true, Bool.or_self, Bool.false_eq_true, if_false, if_true]

end

/-- Settles O29, event by event. -/
theorem quadrantsAndMonitors : Obligations.QuadrantsAndMonitors := by
  unfold Obligations.QuadrantsAndMonitors
  intro s u q m
  refine ⟨?stall, ?recovered, fun hs be => rfl, rfl, ?sampler⟩
  case stall =>
    intro v n hp hr hf hv hn hu
    exact ⟨fun ht => ⟨_, exec_quadrantStall_recovers hp hr hf hv hn hu ht rfl, rfl⟩, fun t hc ht => exec_quadrantStall_fails hp hr hf hv hn hu hc ht⟩
  case recovered =>
    exact fun a b finds hr ha hb hu => ⟨exec_quadrantRecovered hr finds ha hb hu, exec_recoveryMonitorTimeout hr⟩
  case sampler =>
    intro st rule id f g hf hs hc hr hg
    refine ⟨exec_traceSamplerFire_copy hf hs hc hr hg, fun hd hall => ?_, fun hd hex => ?_⟩
    · refine exec_traceSamplerFire_sample hf hs hc hr hg hd (first := true) (List.all_eq_true.2 fun x hx => ?_).symm
      by_cases hlt : x < rule.val
      · simp [hall x hx hlt]
      · simp [hlt]
    · exact exec_traceSamplerFire_sample hf hs hc hr hg hd (first := false) (by simpa using hex)

end Sys2Proof.Machine
end

section
/-!
PROOF. A host's BAR0 accesses (R331 to R343): queued, carried out in their turn, or ended by a timeout.
-/

namespace Sys2Proof.Machine

theorem exec_functionResetComplete {s : State} {v : VsId} (h : (s.vs v).sbr = false) :
    ∃ t, exec (.functionResetComplete v) s = .next t ∧ (t.vs v).rrs = false ∧ (t.vs v).f0.inReset = false ∧
      (∀ w : Nat, w ≠ v → t.vs w = s.vs w) ∧ t.regs = s.regs ∧ t.pending = s.pending := by
  refine ⟨_, congrArg Host.Outcome.next (if_neg (by simp [h])), by simp, by simp, fun w hw => by simp [hw], rfl, rfl⟩

/-! ### Arrival (R338) -/

section

variable {s : State} {v : VsId} (hr : (s.vs v).f0.responds = true)
include hr

theorem exec_hostBar0Read_queued (off len : Nat) (tag : B16) (h : s.proxyReads v < 4) :
    exec (.hostBar0Read v off len tag) s = .next ((s.setProxyQ v (s.proxyQ v ++ [.read off len tag])).count 21 0x40 16 0 0 1) :=
  congrArg Host.Outcome.next ((if_neg (by simp [hr])).trans (if_neg (Nat.not_le.2 h)))

theorem exec_hostBar0Write_queued (off : Nat) (data : List B32) (full : Bool) (h : s.proxyWrites v < 16) :
    exec (.hostBar0Write v off data full) s = .next ((s.setProxyQ v (s.proxyQ v ++ [.write off data full])).count 21 0x41 16 0 0 1) :=
  congrArg Host.Outcome.next ((if_neg (by simp [hr])).trans (if_neg (Nat.not_le.2 h)))

end

/-! ### Reads in their turn (R336, R343) -/

/-- No word of an access is denied when its thimble allows each. -/
theorem find?_denied_eq_none {s : State} {n a : Nat} (ht : ∀ i < n, s.proxyThm (a + 4 * i) 4 0 = .allowed) :
    ((List.range n).map (a + 4 * ·)).find? (fun w => s.proxyThm w 4 0 != .allowed) = none := by
  simpa [List.find?_eq_none] using ht

section

variable {s : State} {v off len a : Nat} (tag : B16)

theorem State.proxyRead_unsupported (h : shapeOk off len = false ∨ s.bar0Addr v off = none) :
    s.proxyRead v off len tag = s.emit (.barReply v tag 1 []) := by
  rcases h with h | h <;> simp [State.proxyRead, h]

variable (hs : shapeOk off len = true) (ha : s.bar0Addr v off = some a)
include hs ha

theorem State.proxyRead_denied {w : Nat} (hw : ((List.range (len / 4)).map (a + 4 * ·)).find? (fun w => s.proxyThm w 4 0 != .allowed) = some w) :
    s.proxyRead v off len tag = (s.proxyDenied w 0 (s.proxyThm w 4 0)).emit (.barReply v tag 1 []) := by
  simp only [State.proxyRead, hs, ha, hw, Bool.not_true, Bool.false_eq_true, if_false]

variable (ht : ∀ i < len / 4, s.proxyThm (a + 4 * i) 4 0 = .allowed)
include ht

theorem State.proxyRead_off {w : Nat} (hw : ((List.range (len / 4)).map (a + 4 * ·)).find? (fun w => !s.regOn w) = some w) :
    s.proxyRead v off len tag = s.abortRead v w 5 tag := by
  have hall := find?_denied_eq_none ht
  simp only [State.proxyRead, hs, ha, hall, hw, Bool.not_true, Bool.false_eq_true, if_false]

theorem State.proxyRead_answered (hon : ∀ i < len / 4, s.regOn (a + 4 * i) = true) : s.proxyRead v off len tag =
    (s.prbsAdvanceAll.proxyWords v a (len / 4)).1.emit (.barReply v tag 0 (s.prbsAdvanceAll.proxyWords v a (len / 4)).2) := by
  have hall := find?_denied_eq_none ht
  have hreg : ((List.range (len / 4)).map (a + 4 * ·)).find? (fun w => !s.regOn w) = none := by
    simpa [List.find?_eq_none] using hon
  simp only [State.proxyRead, hs, ha, hall, hreg, Bool.not_true, Bool.false_eq_true, if_false]

end

/-! ### Writes in their turn (R336, R343) -/

theorem State.proxyWrite_shape {s : State} {off : Nat} {data : List B32} {full : Bool} (v : Nat)
    (h : full = false ∨ shapeOk off (4 * data.length) = false) : s.proxyWrite v off data full = s.deferErr v 1 off :=
  if_pos (by simpa using h)

theorem State.proxyWrite_outside {s : State} {v off : Nat} {data : List B32} (hs : shapeOk off (4 * data.length) = true)
    (hn : s.bar0Addr v off = none) : s.proxyWrite v off data true = s.deferErr v 2 off := by
  simp only [State.proxyWrite, hs, hn, Bool.not_true, Bool.or_self, Bool.false_eq_true, if_false]

theorem State.proxyWrite_puts {s : State} {v off a : Nat} {data : List B32} (hs : shapeOk off (4 * data.length) = true)
    (ha : s.bar0Addr v off = some a) : s.proxyWrite v off data true = s.proxyPuts v a data := by
  simp only [State.proxyWrite, hs, ha, Bool.not_true, Bool.or_self, Bool.false_eq_true, if_false]

/-- R343, Table 12.2: the outcome of one doubleword of a write. -/
theorem State.proxyPut_eq (s : State) (v a : Nat) (w : B32) : s.proxyPut v a w =
    if s.proxyThm a 4 1 ≠ .allowed then (s.proxyDenied a 1 (s.proxyThm a 4 1)).deferErr v 3 a
    else if s.hostWritable v a = false then s.deferErr v 4 a
    else if s.regOn a = false then s.deferErr v 5 a else s.regWrite a w := by
  simp only [State.proxyPut, bne_iff_ne, Bool.not_eq_true']

theorem zip_cons_range (a : Nat) (w : B32) (ws : List B32) :
    ((List.range (w :: ws).length).map (a + 4 * ·)).zip (w :: ws) = (a, w) :: ((List.range ws.length).map (a + 4 + 4 * ·)).zip ws := by
  rw [List.length_cons, List.range_succ_eq_map, List.map_cons, List.map_map, List.zip_cons_cons]
  congr 3
  funext i
  simp only [Function.comp_apply]
  omega

/-- The doublewords of a write go to ascending addresses. -/
theorem State.proxyPuts_eq_foldl (data : List B32) (s : State) (v a : Nat) :
    s.proxyPuts v a data = (((List.range data.length).map (a + 4 * ·)).zip data).foldl (fun t x => t.proxyPut v x.1 x.2) s := by
  induction data generalizing s a with
  | nil => rfl
  | cons w ws ih => rw [zip_cons_range, List.foldl_cons, State.proxyPuts, ih]

/-! ### The oldest access of a virtual switch -/

section

variable {s u : State} {v : VsId} {off : Nat} {rest : List ProxyAcc}

theorem exec_proxyAccess_read {len : Nat} {tag : B16} (hq : s.proxyQ v = .read off len tag :: rest) (hu : u = s.setProxyQ v rest) :
    exec (.proxyAccess v) s = .next (u.proxyRead v off len tag) := by
  subst hu
  refine congrArg Host.Outcome.next ?_
  simp only [hq]

theorem exec_proxyAccess_write {data : List B32} {full : Bool} (hq : s.proxyQ v = .write off data full :: rest) (hu : u = s.setProxyQ v rest) :
    exec (.proxyAccess v) s = .next (u.proxyWrite v off data full) := by
  subst hu
  refine congrArg Host.Outcome.next ?_
  simp only [hq]

theorem exec_registerAccessTimeout_read {len : Nat} {tag : B16} (hq : s.proxyQ v = .read off len tag :: rest) (hu : u = s.setProxyQ v rest) :
    exec (.registerAccessTimeout v) s = .next (u.abortRead v (s.accAddr v off) 6 tag) := by
  subst hu
  refine congrArg Host.Outcome.next ?_
  simp only [hq]

theorem exec_registerAccessTimeout_write {data : List B32} {full : Bool} (hq : s.proxyQ v = .write off data full :: rest) (hu : u = s.setProxyQ v rest) :
    exec (.registerAccessTimeout v) s = .next (u.deferErr v 6 (s.accAddr v off)) := by
  subst hu
  refine congrArg Host.Outcome.next ?_
  simp only [hq]

theorem exec_hostReadAborted {tag : B16} (hq : takeRead (s.proxyQ v) = some ((off, tag), rest)) (hu : u = s.setProxyQ v rest) :
    exec (.hostReadAborted v) s = .next (u.abortRead v (s.accAddr v off) 7 tag) := by
  subst hu
  refine congrArg Host.Outcome.next ?_
  simp only [hq]

end

/-- Settles O30, access by access. -/
theorem hostAccesses : Obligations.HostAccesses := by
  unfold Obligations.HostAccesses
  intro s v off len a tag data full rest
  refine ⟨rfl, rfl, exec_functionResetComplete, fun hr h => exec_hostBar0Read_queued hr off len tag h,
    fun hr h => exec_hostBar0Write_queued hr off data full h, fun hr => ⟨?_, ?_⟩, ?read, ?write, fun u => exec_registerAccessTimeout_read,
    fun u => exec_hostReadAborted, fun u => exec_registerAccessTimeout_write, rfl⟩
  · exact congrArg Host.Outcome.next (if_pos (by simp [hr]))
  · exact congrArg Host.Outcome.next (if_pos (by simp [hr]))
  case read =>
    intro u hq hu
    rw [exec_proxyAccess_read hq hu]
    refine ⟨fun h => by rw [State.proxyRead_unsupported tag h], fun hs ha => ⟨fun w hw => ?_, fun ht => ⟨fun w hw => ?_, fun hon => ?_⟩⟩⟩
    · rw [State.proxyRead_denied tag hs ha hw]
    · rw [State.proxyRead_off tag hs ha ht hw]
    · rw [State.proxyRead_answered tag hs ha ht hon]
  case write =>
    intro u hq hu
    rw [exec_proxyAccess_write hq hu]
    refine ⟨fun h => by rw [State.proxyWrite_shape v h], ?_, ?_⟩
    · rintro rfl hs hn
      rw [State.proxyWrite_outside hs hn]
    · rintro rfl hs ha
      rw [State.proxyWrite_puts hs ha, State.proxyPuts_eq_foldl]
      simp only [State.proxyPut_eq]

end Sys2Proof.Machine
end

section
/-!
PROOF. MSI-X messages and the counter units (R341, R346 to R348).
-/

namespace Sys2Proof.Machine

/-! ### Vectors (R341) -/

theorem VsSt.fn_modFn (v : VsSt) (fn : Bool) (g : EpFn → EpFn) : (v.modFn fn g).fn fn = g (v.fn fn) := by
  cases fn <;> rfl

theorem EpFn.vec_setVec (f : EpFn) (i : Nat) (x : Vec) : (f.setVec i x).vec i = x := by
  simp [EpFn.vec, EpFn.setVec]

theorem State.fire_pending {s : State} {v : Nat} {fn : Bool} {i : Nat} (h : ((s.vs v).fn fn).maySend i = false) :
    s.fire v fn i = s.modVs v fun w => w.modFn fn fun g => g.setVec i { ((s.vs v).fn fn).vec i with pending := true } := by
  simp [State.fire, State.fireMsg, h]

theorem State.fire_sent {s : State} {v : Nat} {fn : Bool} {i : Nat} (h : ((s.vs v).fn fn).maySend i = true) :
    s.fire v fn i = ((s.modVs v fun w => w.modFn fn fun g => g.setVec i { ((s.vs v).fn fn).vec i with pending := false }).emit
      (.msix v fn i (((s.vs v).fn fn).vec i).addr (((s.vs v).fn fn).vec i).data)).count 21 0x43 16 0 0 1 := by
  simp [State.fire, State.fireMsg, h]

theorem exec_msixMessage {v : VsId} {fn : Bool} {vec : Fin 2048} (s : State) (hv : vec.val < vecCount fn) :
    exec (.msixMessage v fn vec) s = .next (s.fire v fn vec) := congrArg Host.Outcome.next (if_pos hv)

theorem exec_msixVectorUnmask {s : State} {v : VsId} {fn : Bool} {vec : Fin 2048} (addr : B64) (data : B32)
    (hr : ((s.vs v).fn fn).responds = true) (hv : vec.val < vecCount fn) :
    exec (.msixVectorUnmask v fn vec addr data) s = .next ((s.modVs v fun w => w.modFn fn fun g =>
      g.setVec vec { ((s.vs v).fn fn).vec vec with addr := addr, data := data, masked := false }).sendPending v fn) :=
  congrArg Host.Outcome.next ((if_neg (by simp [hr])).trans (if_neg (Nat.not_le.2 hv)))

/-! ### Counters (R346 to R348) -/

theorem exec_counterSweep {s u : State} (hr : s.flag F.PMC_CTL_READER_EN = true)
    (hu : u = (((List.range 22).filter fun k => s.pdOn (domainOf (pmuBase k))).foldl (fun s k =>
      (List.range 8).foldl (fun s c => s.sweepCnt k c) s) s).bumpWrap F.PMC_SWEEPS_SWEEPS 1) :
    exec .counterSweep s = .next { u with ep := { u.ep with sweepTime := u.clk.fab, sweepSeq := u.ep.sweepSeq + 2 } } := by
  refine congrArg Host.Outcome.next ((if_neg (by simp [hr])).trans ?_)
  simp only [← hu]

/-- A counter's value and its marks stand in registers of their own. -/
theorem cntValue_addr_ne (m c : Nat) : (F.PMU_CNT_VALUE m c).addr ≠ (F.PMU_CNT_CTL_CHG m c).addr := by
  simp only [F.PMU_CNT_VALUE, F.PMU_CNT_CTL_CHG]
  omega

theorem State.cntClr_value (s : State) (m c : Nat) : (s.cntClr m c).get (F.PMU_CNT_VALUE m c) = 0 := by
  rw [State.cntClr, State.putB, State.put_get_addr _ _ _ _ (cntValue_addr_ne m c), State.put_get_self _ _ _ (show 0 + 32 ≤ 32 by decide),
    Nat.zero_mod]

theorem State.cntClr_changed (s : State) (m c : Nat) : (s.cntClr m c).flag (F.PMU_CNT_CTL_CHG m c) = true := by
  rw [State.flag, State.cntClr, State.putB, State.put_get_self _ _ _ (show 20 + 1 ≤ 32 by decide)]
  rfl

theorem State.cntClr_reg (s : State) {m c a : Nat} (hv : a ≠ (F.PMU_CNT_VALUE m c).addr) (hc : a ≠ (F.PMU_CNT_CTL_CHG m c).addr) :
    (s.cntClr m c).reg a = s.reg a := by
  rw [State.cntClr, State.putB, State.put_reg_ne _ _ _ _ hc, State.put_reg_ne _ _ _ _ hv]

/-- Settles O31, event by event. -/
theorem messagesAndCounters : Obligations.MessagesAndCounters := by
  unfold Obligations.MessagesAndCounters
  intro s u v fn vec m c
  refine ⟨fun hv hs => ?pending, fun hv hs hu => ?sent, fun addr data hr hv => exec_msixVectorUnmask addr data hr hv, fun hr hs => ?wrap,
    fun hr hs => ?sample, exec_counterSweep, rfl,
    ⟨_, rfl, s.cntClr_value m c, s.cntClr_changed m c, fun a hv hc => s.cntClr_reg hv hc, by simp [State.cntClr]⟩⟩
  case pending =>
    refine ⟨_, (exec_msixMessage s hv).trans (congrArg Host.Outcome.next (State.fire_pending hs)), ?_, rfl, rfl, fun w hw => ?_⟩
    · rw [State.modVs_vs, if_pos rfl, VsSt.fn_modFn, EpFn.vec_setVec]
    · rw [State.modVs_vs, if_neg hw]
  case sent => rw [exec_msixMessage s hv, State.fire_sent hs, hu]
  case wrap => exact congrArg Host.Outcome.next (if_pos (by simp [hr, hs]))
  case sample => exact congrArg Host.Outcome.next (if_pos (by simp [hr, hs]))

end Sys2Proof.Machine
end

section
/-!
PROOF. Register accesses by their initiators, and the mailbox registers (R9, R10, R349, R383, R400).
-/

namespace Sys2Proof.Machine

theorem exec_registerLowRead {s u : State} {addr : Nat} (init : Fin 37) (hw : s.wideLow addr = true) (hr : s.regOn addr = true)
    (hu : u = s.prbsAdvanceAll) (huw : u.wideLow addr = true) : exec (.registerLowRead init addr) s = .next
      { u with ep := { u.ep with latch := SMap.set (fun _ => none) u.ep.latch init (some (addr + 4, u.regRead (addr + 4))) } } := by
  subst hu
  refine congrArg Host.Outcome.next ((if_pos (by simp [hw, hr])).trans ?_)
  simp only [State.readBy, huw, if_true]

theorem exec_registerWrite {s : State} {init : Fin 37} {addr : Nat} (val : B32) (ha : addr % 4 = 0) (hr : s.regOn addr = true)
    (hi : init.val < 5 ∨ s.hostWritable (init.val - 5) addr = true) : exec (.registerWrite init addr val) s = .next (s.regWrite addr val) := by
  refine congrArg Host.Outcome.next ((if_neg (by simp [ha, hr])).trans ?_)
  rcases hi with h | h
  · exact if_pos h
  · simp only [h, if_true, ite_self]

theorem exec_registerWrite_refused {s : State} {init : Fin 37} {addr : Nat} (val : B32) (hi : 5 ≤ init.val)
    (hw : s.hostWritable (init.val - 5) addr = false) : exec (.registerWrite init addr val) s = .next s := by
  refine congrArg Host.Outcome.next ?_
  simp only [Nat.not_lt.2 hi, hw, Bool.false_eq_true, if_false, ite_self]

/-! ### A device register of plain access codes (R10) -/

theorem instOf_mailbox_none {addr : Nat} (h : 0x02000000 ≤ addr) (k : Nat) (hk : k < 16) : instOf addr (0x00100000 + k) 0x40 32 = none := by
  simp only [instOf]
  refine if_neg ?_
  omega

theorem State.regWrite_device {s : State} {addr : Nat} (val : B32) (h : 0x02000000 ≤ addr) (hp : pmuOf addr = none) :
    s.regWrite addr val = s.plainWrite addr val := by
  have h0 := instOf_mailbox_none h 0 (by decide)
  have h4 := instOf_mailbox_none h 4 (by decide)
  have h8 := instOf_mailbox_none h 8 (by decide)
  have hc := instOf_mailbox_none h 12 (by decide)
  simp only [Nat.add_zero, Nat.reduceAdd] at h0 h4 h8 hc
  simp only [State.regWrite, h0, h4, h8, hc, hp]
  exact if_pos (.inr h)

/-- R10: bits that a write sets, bits that a written 1 clears, and no shadow copy. -/
theorem State.plainWrite_reg {s : State} {addr : Nat} (val : B32) {now clr : B32} (hn : now = regMask (fun c => c == .rw || c == .rws) addr)
    (hc : clr = regMask (· == .rw1c) addr) (h0 : regMask (fun c => c == .rwc || c == .qo) addr = 0) :
    (s.plainWrite addr val).reg addr = ((s.reg addr &&& ~~~now) ||| (val &&& now)) &&& ~~~(clr &&& val) ∧
      (∀ b, b ≠ addr → (s.plainWrite addr val).reg b = s.reg b) ∧ ({ s.plainWrite addr val with regs := s.regs } : State) = s := by
  have hw : s.plainWrite addr val =
      (s.maskReg addr now val).setReg addr ((s.maskReg addr now val).reg addr &&& ~~~(clr &&& val)) := by
    rw [hn, hc]
    exact if_pos h0
  rw [hw]
  refine ⟨by simp [State.maskReg], fun b hb => by simp [State.maskReg, hb], by simp [State.maskReg]⟩

/-! ### Mailbox registers (R383) -/

/-- CFG as its fields take a write while the ring is off. -/
def State.mbxLaidOut (s : State) (v x : Nat) : State :=
  let u := (s.putB (F.ACW_MBX_CFG_VEC_EN v) (bit x 16)).put (F.ACW_MBX_CFG_VEC v) (bits x 8 8)
  if 2 ≤ bits x 4 4 ∧ bits x 4 4 ≤ 8 then u.put (F.ACW_MBX_CFG_ORDER v) (bits x 4 4) else u

/-- A ring at its first entry, without a fault. -/
def State.mbxStarted (s : State) (v : Nat) : State :=
  ((((s.put (F.ACW_MBX_HEAD_HEAD v) 0).put (F.ACW_MBX_HEAD_PHASE v) 1).put (F.ACW_MBX_TAIL_TAIL v) 0).putB (F.ACW_MBX_STATUS_FAULT v) false).put
    (F.ACW_MBX_STATUS_CAUSE v) 0

theorem b2n_eq (b : Bool) : (b2n b % 2 ^ 1 != 0) = b := by cases b <;> rfl

theorem bits_lt (x lo n : Nat) : bits x lo n < 2 ^ n := Nat.mod_lt _ (Nat.two_pow_pos n)

section

variable (s : State) (v x : Nat)

theorem State.mbxCfgWrite_off (hs : s.flag (F.ACW_MBX_CFG_EN v) = false) (hb : bit x 0 = false) :
    s.mbxCfgWrite v x = (s.mbxLaidOut v x).putB (F.ACW_MBX_CFG_EN v) false := by
  simp [State.mbxCfgWrite, State.mbxLaidOut, hs, hb]

theorem State.mbxCfgWrite_start (hs : s.flag (F.ACW_MBX_CFG_EN v) = false) (hb : bit x 0 = true) :
    s.mbxCfgWrite v x = ((s.mbxLaidOut v x).mbxStarted v).putB (F.ACW_MBX_CFG_EN v) true := by
  simp [State.mbxCfgWrite, State.mbxLaidOut, State.mbxStarted, hs, hb]

theorem State.mbxCfgWrite_on (hs : s.flag (F.ACW_MBX_CFG_EN v) = true) :
    s.mbxCfgWrite v x = (s.putB (F.ACW_MBX_CFG_VEC_EN v) (bit x 16)).putB (F.ACW_MBX_CFG_EN v) (bit x 0) := by
  simp [State.mbxCfgWrite, hs]

theorem State.mbxLaidOut_reads : (s.mbxLaidOut v x).get (F.ACW_MBX_CFG_VEC v) = bits x 8 8 ∧
    (s.mbxLaidOut v x).get (F.ACW_MBX_CFG_ORDER v) = (if 2 ≤ bits x 4 4 ∧ bits x 4 4 ≤ 8 then bits x 4 4 else s.get (F.ACW_MBX_CFG_ORDER v)) ∧
    (s.mbxLaidOut v x).flag (F.ACW_MBX_CFG_VEC_EN v) = bit x 16 := by
  have hvec := Nat.mod_eq_of_lt (bits_lt x 8 8)
  have hord := Nat.mod_eq_of_lt (bits_lt x 4 4)
  have hen := b2n_eq (bit x 16)
  simp only [State.mbxLaidOut, State.flag, State.putB]
  split <;> simp (disch := (simp only [F.ACW_MBX_CFG_ORDER, F.ACW_MBX_CFG_VEC, F.ACW_MBX_CFG_VEC_EN] <;> omega)) only
    [State.put_get_self, State.put_get_ne]
  · exact ⟨hvec, hord, hen⟩
  · exact ⟨hvec, trivial, hen⟩

/-- What starts a ring leaves CFG alone but for EN. -/
theorem State.mbxStarted_reads (s : State) (v : Nat) {t : State} (ht : t = (s.mbxStarted v).putB (F.ACW_MBX_CFG_EN v) true) :
    (t.flag (F.ACW_MBX_CFG_EN v) = true ∧ t.get (F.ACW_MBX_HEAD_HEAD v) = 0 ∧ t.get (F.ACW_MBX_HEAD_PHASE v) = 1 ∧
      t.get (F.ACW_MBX_TAIL_TAIL v) = 0 ∧ t.flag (F.ACW_MBX_STATUS_FAULT v) = false ∧ t.get (F.ACW_MBX_STATUS_CAUSE v) = 0) ∧
    t.get (F.ACW_MBX_CFG_VEC v) = s.get (F.ACW_MBX_CFG_VEC v) ∧ t.get (F.ACW_MBX_CFG_ORDER v) = s.get (F.ACW_MBX_CFG_ORDER v) ∧
    t.flag (F.ACW_MBX_CFG_VEC_EN v) = s.flag (F.ACW_MBX_CFG_VEC_EN v) := by
  subst ht
  simp (disch := (simp only [F.ACW_MBX_CFG_EN, F.ACW_MBX_CFG_ORDER, F.ACW_MBX_CFG_VEC, F.ACW_MBX_CFG_VEC_EN, F.ACW_MBX_TAIL_TAIL,
    F.ACW_MBX_HEAD_HEAD, F.ACW_MBX_HEAD_PHASE, F.ACW_MBX_STATUS_FAULT, F.ACW_MBX_STATUS_CAUSE] <;> omega)) only
    [State.mbxStarted, State.flag, State.putB, State.put_get_self, State.put_get_ne]
  exact ⟨⟨b2n_eq true, Nat.zero_mod _, rfl, Nat.zero_mod _, b2n_eq false, Nat.zero_mod _⟩, trivial, trivial, trivial⟩

theorem State.mbxCfgWrite_rest : ({ s.mbxCfgWrite v x with regs := s.regs } : State) = s := by
  simp only [State.mbxCfgWrite]
  repeat' split
  all_goals simp

/-- The other fields stay when TAIL is written. -/
theorem State.put_tail_reads (t : Nat) : (s.put (F.ACW_MBX_TAIL_TAIL v) t).flag (F.ACW_MBX_CFG_EN v) = s.flag (F.ACW_MBX_CFG_EN v) ∧
    (s.put (F.ACW_MBX_TAIL_TAIL v) t).flag (F.ACW_MBX_STATUS_FAULT v) = s.flag (F.ACW_MBX_STATUS_FAULT v) ∧
    (s.put (F.ACW_MBX_TAIL_TAIL v) t).get (F.ACW_MBX_CFG_ORDER v) = s.get (F.ACW_MBX_CFG_ORDER v) ∧
    (s.put (F.ACW_MBX_TAIL_TAIL v) t).get (F.ACW_MBX_HEAD_HEAD v) = s.get (F.ACW_MBX_HEAD_HEAD v) := by
  simp (disch := (simp only [F.ACW_MBX_CFG_EN, F.ACW_MBX_CFG_ORDER, F.ACW_MBX_TAIL_TAIL, F.ACW_MBX_HEAD_HEAD, F.ACW_MBX_STATUS_FAULT] <;>
    omega)) only [State.flag, State.put_get_ne, and_self]

/-- A write of TAIL stops a ring that is served when it stands outside. -/
theorem State.mbxTailWrite_eq (tail : B8) : s.mbxTailWrite v tail.toNat =
    if s.acl.up = true ∧ s.flag (F.ACW_MBX_CFG_EN v) = true ∧ s.flag (F.ACW_MBX_STATUS_FAULT v) = false ∧ 2 ^ s.get (F.ACW_MBX_CFG_ORDER v) ≤ tail.toNat
    then (s.put (F.ACW_MBX_TAIL_TAIL v) tail.toNat).ringFault v 2 (s.get (F.ACW_MBX_HEAD_HEAD v)) else s.put (F.ACW_MBX_TAIL_TAIL v) tail.toNat := by
  obtain ⟨hen, hfault, horder, hhead⟩ := s.put_tail_reads v tail.toNat
  have ht : tail.toNat % 256 = tail.toNat := Nat.mod_eq_of_lt tail.isLt
  simp only [State.mbxTailWrite, hen, hfault, horder, hhead, ht, State.put_acl, Bool.and_eq_true, Bool.not_eq_true', decide_eq_true_eq, and_assoc]

end

/-- Settles O32, access by access. -/
theorem registerAccesses : Obligations.RegisterAccesses := by
  unfold Obligations.RegisterAccesses
  intro s u init addr val v
  refine ⟨exec_registerLowRead init, exec_registerWrite val, fun _ hi hw => exec_registerWrite_refused val hi hw, ?plain, fun _ => rfl, ?start, ?off, ?on,
    ?tailOut, ?tailIn⟩
  case plain =>
    intro now clr ha hr hi hlo hp hn hc h0
    refine ⟨_, exec_registerWrite val ha hr (.inl hi), ?_⟩
    rw [State.regWrite_device val hlo hp]
    exact State.plainWrite_reg val hn hc h0
  case start =>
    intro hs hb
    obtain ⟨hvec, horder, hven⟩ := s.mbxLaidOut_reads v val.toNat
    obtain ⟨⟨hen, hhead, hphase, htail, hfault, hcause⟩, hvec', horder', hven'⟩ := (s.mbxLaidOut v val.toNat).mbxStarted_reads v rfl
    refine ⟨s.mbxCfgWrite v val.toNat, rfl, ?_⟩
    have hrest := s.mbxCfgWrite_rest v val.toNat
    rw [s.mbxCfgWrite_start v _ hs hb] at hrest ⊢
    exact ⟨hen, hhead, hphase, htail, hfault, hcause, hvec'.trans hvec, horder'.trans horder, hven'.trans hven, hrest⟩
  case off =>
    rintro hs hb rfl
    exact congrArg Host.Outcome.next (s.mbxCfgWrite_off v val.toNat hs hb)
  case on => exact fun hs => congrArg Host.Outcome.next (s.mbxCfgWrite_on v val.toNat hs)
  case tailOut =>
    rintro tail ha he hf ht rfl
    exact congrArg Host.Outcome.next ((s.mbxTailWrite_eq v tail).trans (if_pos ⟨ha, he, hf, ht⟩))
  case tailIn =>
    intro tail h
    refine congrArg Host.Outcome.next ((s.mbxTailWrite_eq v tail).trans (if_neg ?_))
    rintro ⟨ha, he, hf, ht⟩
    simp only [ha, he, hf, Bool.true_eq_false, Bool.false_eq_true, false_or] at h
    exact Nat.not_lt.2 ht h

end Sys2Proof.Machine
end

section
/-!
PROOF. Control messages between nodes (R16, R291): a message that is taken, one whose tag fails, and an action of Aclia when nothing waits.
-/

namespace Sys2Proof.Machine

theorem State.drainCtl_eq {s : State} (h : s.fab.held = []) : s.drainCtl = s := by
  rcases s with ⟨_, _, _, _, _, _, _, _, _, _, _, _, _, _, fab, _, _, _, _, _⟩
  cases fab
  simp_all [State.drainCtl]

theorem State.aclActs_eq {s : State} (h : Acts s) (f : State → State) : s.aclActs f = f s := by
  rw [State.aclActs, if_pos h.up, State.drainCtl_eq h.empty]

theorem State.ctlIn_taken {s : State} {c : CtlHdr} (h : Taken s c) (i : CtlMsg) : s.ctlIn c i = s.takeCtl i := by
  simp [State.ctlIn, h.node, h.live, h.tag, h.acts.up, State.drainCtl_eq h.acts.empty]

theorem State.ctlIn_badTag {s : State} {c : CtlHdr} (hn : s.nodeId ≠ 0xFF) (hl : s.seamLive c.stn = true) (ht : c.tagOk = false) (i : CtlMsg) :
    s.ctlIn c i = s.bump F.FAB_ROUTE_ERR_ROUTE_ERR := by
  simp [State.ctlIn, hn, hl, ht]

end Sys2Proof.Machine
end

section
/-!
PROOF. The formation of a fabric (R279, R281, R286, R287, R291, R292): each message as Aclia takes it, each action as it is due.
-/

namespace Sys2Proof.Machine

/-! ### HELLO and the election (R279, R292) -/

theorem State.takeHello_eq {s a b d u e : State} {c : CtlHdr} {m : HelloMsg} {n k : Nat} (hn : n = m.node.toNat) (hk : k = m.cand.toNat) (hlt : n < 48)
    (ha : a = (s.learn n m.uid).modNode n fun x => { x with mgrCap := m.mgrCap, heard := (s.learn n m.uid).fab.round, startStep := m.startStep.val })
    (hb : b = if a.fab.dropped = n then { a with fab := { a.fab with dropped := 0xFF } } else a)
    (hd : d = if k < 48 ∧ k ≠ n ∧ k ≠ b.nodeId ∧ k ≠ b.fab.dropped then
        (b.learn k m.candUid).modNode k (fun x => { x with mgrCap := true, heard := b.fab.round })
      else if k = b.nodeId ∧ k ≠ n then b.learn k m.candUid else b)
    (hu : u = { d with fab := { d.fab with cand := d.candidate, ownRounds := if d.candidate = d.nodeId then d.fab.ownRounds else 0 } })
    (he : e = if m.mgr = true ∧ k = d.candidate ∧ d.candidate < 48 ∧ d.candidate ≠ u.nodeId then
      (if u.get F.FAB_STATE_MGR_NODE = d.candidate then { u with fab := { u.fab with silent := 0 } } else u.setMgr d.candidate) else u) :
    s.takeHello c m = if d.candidate < d.fab.cand then e.sendHello c.stn else e := by
  subst hn hk
  dsimp only at hb hu he
  simp only [State.takeHello, Nat.not_le.2 hlt, if_false, ← ha, ← hb, ← hd, ← hu, decide_eq_true_eq]
  subst he hu
  rfl

section

variable {s a b d u : State} {own : Nat} (hn : s.nodeId ≠ 0xFF) (ha : a = { s with fab := { s.fab with round := s.fab.round + 1 } })
  (hb : b = if s.get F.FAB_STATE_MGR_NODE = 0xFF ∨ s.get F.FAB_STATE_MGR_NODE = s.nodeId then a
    else { a with fab := { a.fab with silent := a.fab.silent + 1 } })
  (hd : d = if 3 ≤ b.fab.silent then b.dropMgr else b) (hown : own = if d.candidate = d.nodeId then d.fab.ownRounds + 1 else 0)
  (hu : u = { d with fab := { d.fab with cand := d.candidate, ownRounds := own } })
include hn ha hb hd hown hu

/-- R279: a round ends with HELLO on every link; the third round of this node's own candidacy makes it the manager node. -/
theorem State.helloRound_eq : s.helloRound = (if own < 3 ∨ u.get F.FAB_STATE_MGR_NODE = u.nodeId then u
    else (u.setMgr u.nodeId).raise 0x06 0x5103 1 (u.setMgr u.nodeId).fabScope
      [(u.setMgr u.nodeId).nodeId, (u.setMgr u.nodeId).get F.FAB_STATE_DEPUTY, own]).sendHello 16 := by
  subst hu hown hd hb ha
  exact if_neg hn

theorem State.helloRound_member (h : own < 3 ∨ u.get F.FAB_STATE_MGR_NODE = u.nodeId) : s.helloRound = u.sendHello 16 := by
  rw [State.helloRound_eq hn ha hb hd hown hu, if_pos h]

theorem State.helloRound_manager (h3 : 3 ≤ own) (hm : u.get F.FAB_STATE_MGR_NODE ≠ u.nodeId) : s.helloRound =
    ((u.setMgr u.nodeId).raise 0x06 0x5103 1 (u.setMgr u.nodeId).fabScope
      [(u.setMgr u.nodeId).nodeId, (u.setMgr u.nodeId).get F.FAB_STATE_DEPUTY, own]).sendHello 16 := by
  rw [State.helloRound_eq hn ha hb hd hown hu, if_neg (not_or.2 ⟨Nat.not_lt.2 h3, hm⟩)]

end

theorem State.noManager_eq {s u : State} (hn : s.nodeId ≠ 0xFF) (hm : s.get F.FAB_STATE_MGR_NODE = 0xFF) (hc : s.candidate = 0xFF)
    (hs : s.get F.FAB_STATE_STEP < 12)
    (hu : u = [0, 1].foldl (fun a d => (a.put (F.FAB_ROUTE_LO_PORTS s.nodeId d) 0).put (F.FAB_ROUTE_HI_ATTR s.nodeId d) 0x10) s) :
    s.noManager = (u.stepUp 12).raise 0x06 0x5104 3 u.fabScope [((List.range 48).filter fun i => (u.node i).known).length] := by
  subst hu
  exact if_neg (by simp [hn, hm, hc, hs])

/-! ### TOPO (R291) -/

theorem State.takeTopo_eq {s a b u : State} {c : CtlHdr} {n : B8} {uid : B64} {links : List TopoLink} {usps : B32} (hlt : n.toNat < 48)
    (hn : n.toNat ≠ s.nodeId) (ha : a = (s.learn n.toNat uid).modNode n.toNat fun x => { x with usps := usps.toNat })
    (hb : b = a.modNode n.toNat fun x => { x with links := links })
    (hu : u = ({ b with fab := { b.fab with lastTopo := b.clk.now } }).tellLinks c.stn 0x02 ([n.toNat, uid.toNat] ++ links.flatMap topoFields)) :
    s.takeTopo c n uid links usps = if (a.node n.toNat).links = links then a
      else if 9 ≤ u.get F.FAB_STATE_STEP ∧ u.topoWhole = true then u.stepUp 10 else u := by
  subst hu hb ha
  exact if_neg (by simp [hn, hlt])

/-! ### PUBLISH (R281, R282, R298) -/

theorem State.takePublish_refused {s : State} {kind : B8} {first : Nat} {words : List B32} (c : CtlHdr)
    (h : pieceBase kind.toNat = none ∨ pieceWords kind.toNat < first + words.length) :
    s.takePublish c kind first words = s.tellCtl c.src.toNat 0x10 [kind.toNat, first] := by
  cases hb : pieceBase kind.toNat with
  | none => simp only [State.takePublish, hb]
  | some base =>
    simp only [hb, reduceCtorEq, false_or] at h
    simp only [State.takePublish, hb, h, if_true]

section

variable {s u : State} {c : CtlHdr} {kind : B8} {first base : Nat} {words : List B32} {bad : Option Nat} (hb : pieceBase kind.toNat = some base)
  (hl : first + words.length ≤ pieceWords kind.toNat)
  (hu : u = { s with fab := { s.fab with pieces := s.fab.pieces ++ ((words.zip (List.range words.length)).map fun x => (base + 4 * (first + x.2), x.1)) } })
  (hbad : bad = if kind.toNat ≠ 0 then none
    else ((List.range ((first + words.length) / 2)).filter fun e => decide (first ≤ 2 * e)).find? fun e => !u.entryOk (e / 2) (e % 2))
include hb hl hu hbad

theorem State.takePublish_staged (h : bad = none) : s.takePublish c kind first words = u := by
  subst hu
  rw [hbad] at h
  simp only [State.takePublish, hb, Nat.not_lt.2 hl, if_false, h]

theorem State.takePublish_bad {e : Nat} (h : bad = some e) :
    s.takePublish c kind first words = State.tellCtl { s with fab := { s.fab with pieces := [] } } c.src.toNat 0x10 [0, 2 * e] := by
  subst hu
  rw [hbad] at h
  simp only [State.takePublish, hb, Nat.not_lt.2 hl, if_false, h]

end

/-! ### PUBLISH_START (R281, R286) -/

/-- Node n is to be READY with digest d. -/
def State.asked (s : State) (n d : Nat) : State := { s with fab := { s.fab with expect := SMap.set (fun _ => 0) s.fab.expect n d } }

theorem State.nextEpoch_asked (s : State) (n d : Nat) : (s.asked n d).nextEpoch = s.nextEpoch := rfl

/-- The end of a publication: what COMMIT left has gone out, and with no other node GO follows at once. -/
def announced (os : List Nat) (u : State) : State :=
  if os.isEmpty then State.sendGo { u with fab := { u.fab with far := [] } } [] else { u with fab := { u.fab with far := [] } }

theorem announced_eq (os : List Nat) (u : State) :
    announced os u = if os = [] then State.sendGo { u with fab := { u.fab with far := [] } } [] else { u with fab := { u.fab with far := [] } } := by
  simp only [announced, List.isEmpty_iff]

section

variable {s : State} (hn : s.nodeId ≠ 0xFF) (hm : s.get F.FAB_STATE_MGR_NODE = s.nodeId) (hp : s.fab.publishing = false) (hg : s.fab.goAt = none)
  (hripe : s.pow.releasedAt + s.get F.FAB_CTL_FORM_TMO * msec ≤ s.clk.now ∨ s.fab.lastTopo + 20 * msec ≤ s.clk.now ∧
    ∀ n < 48, (s.node n).known = true → n ≠ s.nodeId → 9 ≤ (s.node n).startStep)
include hn hm hp hg hripe

/-- The manager node may publish: nothing is under way, and the topology is stable or FORM_TMO has passed. -/
theorem publishStart_ripe : ¬(s.nodeId = 0xFF ∨ s.get F.FAB_STATE_MGR_NODE ≠ s.nodeId ∨ s.fab.publishing = true ∨ s.fab.goAt.isSome = true ∨
    ((decide (s.fab.lastTopo + 20 * msec ≤ s.clk.now) && ((List.range 48).filter fun n => (s.node n).known && n != s.nodeId).all fun n =>
      decide (9 ≤ (s.node n).startStep)) || decide (s.pow.releasedAt + s.get F.FAB_CTL_FORM_TMO * msec ≤ s.clk.now)) = false) := by
  have hr : ((decide (s.fab.lastTopo + 20 * msec ≤ s.clk.now) && ((List.range 48).filter fun n => (s.node n).known && n != s.nodeId).all fun n =>
      decide (9 ≤ (s.node n).startStep)) || decide (s.pow.releasedAt + s.get F.FAB_CTL_FORM_TMO * msec ≤ s.clk.now)) = true := by
    rw [Bool.or_eq_true, Bool.and_eq_true, List.all_eq_true]
    rcases hripe with h | ⟨h, hall⟩
    · exact .inr (decide_eq_true h)
    · refine .inl ⟨decide_eq_true h, fun n hn => ?_⟩
      simp only [List.mem_filter, List.mem_range, Bool.and_eq_true, bne_iff_ne] at hn
      exact decide_eq_true (hall n hn.1 hn.2.1 hn.2.2)
  rw [hr, hp, hg]
  simp [hn, hm]

theorem State.publishStart_join (hs : 12 ≤ s.get F.FAB_STATE_STEP) (hh : s.fab.hold = none) (hk : s.fab.ranks ≠ []) : s.publishStart = s.joinRoutes := by
  refine (if_neg (publishStart_ripe hn hm hp hg hripe)).trans ((if_pos hs).trans (if_neg ?_))
  simp [hh, hk]

theorem State.publishStart_first {a b u : State} {nt : Net} {os : List Nat} {d : State → Nat → Nat} (hs : s.get F.FAB_STATE_STEP < 12)
    (hnt : nt = s.net []) (hd : d = fun s n => digest ((s.piecesFor nt n).flatMap fun p => p.2.2))
    (ha : a = ((s.unreachable nt).publishOwn nt).limitVss) (hos : os = a.others nt)
    (hb : b = { a with fab := { a.fab with publishing := true, ready := [], expect := [] } })
    (hu : u = os.foldl (fun s n => (State.publishTo { s with fab := { s.fab with expect := SMap.set (fun _ => 0) s.fab.expect n (d s n) } } nt n).sendCtl
      n 0x11 [0, s.nextEpoch, d s n] none) b) :
    s.publishStart = if os = [] then State.sendGo { u with fab := { u.fab with far := [] } } [] else { u with fab := { u.fab with far := [] } } := by
  have hfold : os.foldl (fun s n => ((s.asked n (d s n)).publishTo nt n).sendCtl n 0x11 [0, (s.asked n (d s n)).nextEpoch, d s n] none) b = u := by
    simp only [State.nextEpoch_asked]
    exact hu.symm
  refine (if_neg (publishStart_ripe hn hm hp hg hripe)).trans ((if_neg (Nat.not_le.2 hs)).trans (Eq.trans ?_ ((congrArg (announced os) hfold).trans (announced_eq os u))))
  subst hd hb
  simp only [← hnt, ← ha, ← hos, announced]
  dsimp only [State.asked]

end

/-! ### PREPARE and READY (R287) -/

theorem State.takePrepare_prepare {s : State} {c : CtlHdr} {epoch mine : Nat} {dg : B32} (hm : mine = digest (s.fab.pieces.map Prod.snd)) :
    s.takePrepare c false epoch dg =
      (if mine = dg.toNat then s else { s with fab := { s.fab with pieces := [] } }).tellCtl c.src.toNat 0x11 [1, epoch, mine] := by
  subst hm
  rfl

theorem State.takePrepare_late {s : State} {c : CtlHdr} {epoch : Nat} {dg : B32} (h : s.fab.publishing = false ∨ epoch ≠ s.nextEpoch) :
    s.takePrepare c true epoch dg = s := if_pos h

section

variable {s u : State} {c : CtlHdr} {epoch : Nat} {dg : B32} (hp : s.fab.publishing = true) (he : epoch = s.nextEpoch) (hu : u = s.gotReply c.src.toNat 0x11)
include hp he hu

theorem State.takePrepare_other (h : dg.toNat ≠ SMap.get (fun _ => 0) u.fab.expect c.src.toNat) : s.takePrepare c true epoch dg =
    ({ u with fab := { u.fab with publishing := false, pieces := [], ready := [], expect := [] } }.raise 0x06 0x5113 3
      u.fabScope [s.nodeId, c.src.toNat, 2]).endAsync (fun a => a.opcode == 0x0201 && a.obj == 2 ^ 17) .stagedConflict none := by
  subst hu
  exact (if_neg (by simp [hp, he])).trans (if_pos h)

theorem State.takePrepare_ready {a : State} (h : dg.toNat = SMap.get (fun _ => 0) u.fab.expect c.src.toNat)
    (ha : a = { u with fab := { u.fab with ready := c.src.toNat :: u.fab.ready.filter (· != c.src.toNat) } }) : s.takePrepare c true epoch dg =
      if (a.fab.expect.map Prod.fst).all a.fab.ready.contains then a.sendGo (a.fab.expect.map Prod.fst) else a := by
  subst ha hu
  exact (if_neg (by simp [hp, he])).trans (if_neg (by simp [h]))

end

/-- Settles O33, message by message. -/
theorem fabricFormation : Obligations.FabricFormation := by
  unfold Obligations.FabricFormation
  intro s u c
  refine ⟨?badTag, ?hello, ?round, ?noManager, ?topo, ?publish, ?refused, ?start, ?prepare, ?ready, ?late, ?go⟩
  case badTag =>
    rintro m n p uid links w dg first epoch words r time mask x k hn hl ht rfl
    have h := fun i => congrArg (Host.Outcome.next (φ := Fault) (ρ := Refusal)) (State.ctlIn_badTag hn hl ht i)
    refine ⟨h _, h _, h _, h _, h _, h _, h _, h _, fun e => congrArg Host.Outcome.next ((if_neg ?_).trans (if_pos ?_))⟩
    · simp [hn, hl]
    · simp [ht]
  case hello =>
    exact fun m n k a b d e ht hn hk hlt ha hb hd hu he =>
      congrArg Host.Outcome.next ((State.ctlIn_taken ht _).trans (State.takeHello_eq hn hk hlt ha hb hd hu he))
  case round =>
    intro a b d own hact hn ha hb hd hown hu
    exact ⟨fun h => congrArg Host.Outcome.next ((State.aclActs_eq hact _).trans (State.helloRound_member hn ha hb hd hown hu h)),
      fun h3 hm => congrArg Host.Outcome.next ((State.aclActs_eq hact _).trans (State.helloRound_manager hn ha hb hd hown hu h3 hm))⟩
  case noManager =>
    exact fun hact hn hm hc hs hu => congrArg Host.Outcome.next ((State.aclActs_eq hact _).trans (State.noManager_eq hn hm hc hs hu))
  case topo =>
    exact fun n uid links usps a b ht hlt hn ha hb hu => congrArg Host.Outcome.next ((State.ctlIn_taken ht _).trans (State.takeTopo_eq hlt hn ha hb hu))
  case publish =>
    intro kind first base words bad ht hb hl hu hbad
    refine congrArg Host.Outcome.next ((State.ctlIn_taken ht _).trans ?_)
    cases h : bad with
    | none => exact State.takePublish_staged hb hl hu hbad h
    | some e => exact State.takePublish_bad hb hl hu hbad h
  case refused =>
    exact fun kind first words ht h => congrArg Host.Outcome.next ((State.ctlIn_taken ht _).trans (State.takePublish_refused c h))
  case start =>
    rintro ripe hact hn hm hp hg rfl hripe
    exact ⟨fun nt os d a b hs hnt hd ha hos hb hu => congrArg Host.Outcome.next ((State.aclActs_eq hact _).trans
        (State.publishStart_first hn hm hp hg hripe hs hnt hd ha hos hb hu)),
      fun hs hh hk => congrArg Host.Outcome.next ((State.aclActs_eq hact _).trans (State.publishStart_join hn hm hp hg hripe hs hh hk))⟩
  case prepare =>
    exact fun epoch mine dg ht hm => congrArg Host.Outcome.next ((State.ctlIn_taken ht _).trans (State.takePrepare_prepare hm))
  case ready =>
    exact fun epoch dg ht hp he hu =>
      ⟨fun h => congrArg Host.Outcome.next ((State.ctlIn_taken ht _).trans (State.takePrepare_other hp he hu h)),
        fun a h ha => congrArg Host.Outcome.next ((State.ctlIn_taken ht _).trans (State.takePrepare_ready hp he hu h ha))⟩
  case late =>
    exact fun epoch dg ht h => congrArg Host.Outcome.next ((State.ctlIn_taken ht _).trans (State.takePrepare_late h))
  case go => exact fun epoch time ht => congrArg Host.Outcome.next (State.ctlIn_taken ht _)

end Sys2Proof.Machine
end

section
/-!
PROOF. O34 FabricChanges: a route change from its hold to its GO time (R287 to R291, R294, R295).
-/

namespace Sys2Proof.Machine

theorem State.takeHold_first {s u : State} {epoch : Nat} {mask : BitVec 48} (hh : s.fab.hold = none)
    (hu : u = { s with fab := { s.fab with hold := some (mask.toNat, epoch % 256), sealRx := [], failed := 0, rerouteAt := s.clk.now } }) :
    s.takeHold epoch mask = (u.sendSeals 1).advance 6 := by
  subst hu
  exact if_neg (by simp [hh])

theorem State.takeHold_repeat {s : State} (epoch : Nat) (mask : BitVec 48) (hh : s.fab.hold ≠ none) : s.takeHold epoch mask = s :=
  if_pos (Option.isSome_iff_ne_none.mpr hh)

theorem exec_seal_taken {s u : State} {st : Stn} {k : Fin 3} {round : Fin 256} (h : s.sealTake st k round = some u) :
    exec (.seal st k round) s =
      .next (State.advance { u with fab := { u.fab with sealRx := SMap.set (fun _ => 0) u.fab.sealRx (4 * st.val + k.val) round } } 6) := by
  change execSeal st k round s = _
  simp only [execSeal, h]

theorem exec_sealRoundTimeout_failed {s : State} {st : Stn} (hh : s.fab.hold ≠ none) (hs : s.sealHere st = false) (ht : s.fab.sealTx ≤ 4) :
    exec (.sealRoundTimeout st) s = .next (State.advance { s with fab := { s.fab with failed := setBit s.fab.failed st true } } 6) :=
  congrArg Host.Outcome.next (if_neg (by simp [hh, hs, ht]))

theorem State.takeSealed_eq {s : State} (c : CtlHdr) {epoch m : Nat} (mask : B16) (hr : s.fab.running = true)
    (hh : s.fab.hold = some (m, epoch % 256)) : s.takeSealed c epoch mask = (s.gotReply c.src.toNat 0x21).sealedBy c.src.toNat := by
  have hm : mask.toNat < 65536 := mask.isLt
  exact if_pos (by simp [hr, hh, hm])

theorem State.takeLinkEvent_new {s : State} {node port : B8} {cause : Fin 16} (hr : s.get F.FAB_STATE_ROLE = 1 ∨ s.get F.FAB_STATE_ROLE = 2)
    (he : s.fab.events.contains (node.toNat, port.toNat, cause.val) = false) :
    s.takeLinkEvent node port cause =
      { s with fab := { s.fab with events := s.fab.events ++ [(node.toNat, port.toNat, cause.val)] } } :=
  if_pos ⟨hr, he⟩

theorem State.takeLinkEvent_ignored {s : State} {node port : B8} {cause : Fin 16}
    (h : (s.get F.FAB_STATE_ROLE ≠ 1 ∧ s.get F.FAB_STATE_ROLE ≠ 2) ∨ s.fab.events.contains (node.toNat, port.toNat, cause.val) = true) :
    s.takeLinkEvent node port cause = s := by
  refine if_neg ?_
  rintro ⟨hr, he⟩
  rcases h with ⟨h1, h2⟩ | h
  · exact hr.elim h1 h2
  · exact Bool.false_ne_true (he.symm.trans h)

theorem State.rerouteStart_eq {s u : State} {lost : List (Nat × Nat)} (he : s.fab.events ≠ []) (hh : s.fab.hold = none)
    (hp : s.fab.publishing = false) (hs : 12 ≤ s.get F.FAB_STATE_STEP) (hl : lost = s.fab.events.map (fun e => (e.1, e.2.1)))
    (hr : s.get F.FAB_STATE_ROLE = 1 ∨ s.get F.FAB_STATE_ROLE = 2 ∧ s.allLost (s.get F.FAB_STATE_MGR_NODE) lost = true)
    (hu : u = s.startChange lost (changed (s.net []) (s.net lost)) (((s.fab.events.head?).map fun e => e.2.2).getD 0)) :
    s.rerouteStart = State.markLost { u with fab := { u.fab with events := [] } } lost := by
  subst hl
  refine (if_neg ?_).trans ((if_pos hr).trans ?_)
  · simp [he, hh, hp, hs]
  · rw [hu]

section
variable {s a b u : State} {e : Nat} {t : B64} {bad : List Nat} (hg : s.fab.goAt = some (e, t))
  (hbad : bad = if s.fab.hold = none then [] else s.behind) (ha : a = (bad.foldl State.sealFlush s).takePieces.put F.FAB_STATE_EPOCH e)
  (hb : b = { a with fab := { a.fab with goAt := none, hold := none, sealTx := 0, sealRx := [], failed := 0, running := false, sealedBy := [],
                                         ready := [], expect := [] } })
  (hu : u = (List.range 64).foldl State.bindStep (b.put F.FAB_TIME_STAT_PARENT b.parentOf))
include hg hbad ha hb hu

theorem State.goTime_change (hh : s.fab.hold ≠ none) :
    s.goTime = (u.bump F.FAB_CNT_REROUTES).raiseEnd (fun a => a.opcode == 0x0705 || (a.opcode == 0x0201 && a.obj == 2 ^ 17))
      0x06 0x5111 1 u.fabScope [e, s.clk.now - s.fab.rerouteAt, bad.length] := by
  have hs : s.fab.hold.isSome = true := Option.isSome_iff_ne_none.mpr hh
  rw [if_neg hh] at hbad
  dsimp only at hb
  simp only [State.goTime, hg, hs, if_true, ← hbad, ← ha, ← hb, ← hu]

theorem State.goTime_first {x : State} (hh : s.fab.hold = none) (hx : x = u.stepUp 13) :
    s.goTime = if u.get F.FAB_STATE_STEP < 13 then
        x.raiseEnd (fun a => a.opcode == 0x0705 || (a.opcode == 0x0201 && a.obj == 2 ^ 17)) 0x06 0x5105 0 x.fabScope
          [e, 1 + ((List.range 48).filter fun n => x.reachable n && n != x.nodeId).length, x.uspCount, (x.clk.now - x.pow.releasedAt) / msec]
      else x := by
  have hs : s.fab.hold.isSome = false := by rw [hh]; rfl
  rw [if_pos hh] at hbad
  subst hbad
  dsimp only at hb
  simp only [State.goTime, hg, hs, Bool.false_eq_true, if_false, ← ha, ← hb, ← hu, ← hx, decide_eq_true_eq]

end

theorem exec_lateNotice_here {s : State} {c : CtlHdr} {e : LateRec} (hn : s.nodeId ≠ 0xFF) (hl : s.seamLive c.stn = true) (ht : c.tagOk = true)
    (he : e.ingNode.toNat = s.nodeId) : exec (.lateNotice c e) s = .next (s.enterLate e) :=
  congrArg Host.Outcome.next ((if_neg (by simp [hn, hl])).trans ((if_neg (by simp [ht])).trans (if_pos he)))

theorem exec_controlMessageResend_waiting {s : State} {mseq : B32} {o : CtlOut} (ho : (s.fab.out.find? fun o => o.mseq == mseq.toNat) = some o)
    (hk : s.acl.up = true ∨ o.kind = 0x30) :
    exec (.controlMessageResend mseq) s = .next (if o.sends < 4 then
        ({ s with fab := { s.fab with out := s.fab.out.map (fun (x : CtlOut) => if x.mseq = o.mseq then { x with sends := x.sends + 1 } else x) } }).emit
          (.ctl o.dest o.kind o.mseq o.fields)
      else State.gaveUp { s with fab := { s.fab with out := s.fab.out.filter fun x => x.mseq != o.mseq } } o) := by
  have hw : ¬ (!s.acl.up && o.kind != 0x30) = true := by
    rcases hk with h | h <;> simp [h]
  change execControlMessageResend mseq s = _
  simp only [execControlMessageResend, ho, if_neg hw]

/-- Settles O34, event by event. -/
theorem fabricChanges : Obligations.FabricChanges := by
  unfold Obligations.FabricChanges
  intro s u c st
  refine ⟨?hold, ?again, ?round, ?roundTimeout, ?allSealed, ?deadline, ?link, ?linkIgnored, ?start, ?go, ?late, ?resend⟩
  case hold => exact fun epoch pieces mask ht hh hu => congrArg Host.Outcome.next ((State.ctlIn_taken ht _).trans (State.takeHold_first hh hu))
  case again =>
    exact fun epoch pieces mask ht hh => congrArg Host.Outcome.next ((State.ctlIn_taken ht _).trans (State.takeHold_repeat epoch mask hh))
  case round => exact fun k round h => exec_seal_taken h
  case roundTimeout => exact exec_sealRoundTimeout_failed
  case allSealed =>
    exact fun epoch m mask ht hr hh => congrArg Host.Outcome.next ((State.ctlIn_taken ht _).trans (State.takeSealed_eq c mask hr hh))
  case deadline =>
    exact fun hact hr hg => congrArg Host.Outcome.next ((State.aclActs_eq hact _).trans (if_pos (by simp [hr, hg])))
  case link =>
    exact fun node port cause ht hr he => congrArg Host.Outcome.next ((State.ctlIn_taken ht _).trans (State.takeLinkEvent_new hr he))
  case linkIgnored =>
    exact fun node port cause ht h => congrArg Host.Outcome.next ((State.ctlIn_taken ht _).trans (State.takeLinkEvent_ignored h))
  case start =>
    exact fun lost hact he hh hp hs hl hr hu =>
      congrArg Host.Outcome.next ((State.aclActs_eq hact _).trans (State.rerouteStart_eq he hh hp hs hl hr hu))
  case go =>
    exact fun e t a b bad hact hg hbad ha hb hu =>
      ⟨fun hh => congrArg Host.Outcome.next ((State.aclActs_eq hact _).trans (State.goTime_change hg hbad ha hb hu hh)),
        fun x hh hx => congrArg Host.Outcome.next ((State.aclActs_eq hact _).trans (State.goTime_first hg hbad ha hb hu hh hx))⟩
  case late => exact fun e => exec_lateNotice_here
  case resend => exact fun mseq o => exec_controlMessageResend_waiting

end Sys2Proof.Machine
end

section
/-!
PROOF. O35 ManagementEvents: event delivery, firmware starts and watchdogs, the confirm and debug timers (R16, R363, R366, R375).
-/

namespace Sys2Proof.Machine

theorem exec_eventRecordDelivery_held {s u w : State} {src : Fin 32} {e : Ev} {rest : List Ev} {left : Nat} (hr : (s.ram src).held = e :: rest)
    (hup : s.acl.up = true) (hl : left = if rest = [] then (s.ram src).dropped else 0)
    (hu : u = { s with evs := { s.evs with ram := SMap.set (fun _ => {}) s.evs.ram src { held := rest, dropped := if rest.isEmpty then 0 else (s.ram src).dropped } } })
    (hw : w = if e.gap = 0 then u.logPut e else (u.logPut e).logGap src e.gap) :
    exec (.eventRecordDelivery src) s = .next (if left = 0 then w else w.logGap src left) := by
  have hleft : left = if rest.isEmpty then (s.ram src).dropped else 0 := by
    rw [hl]; simp only [List.isEmpty_iff]
  change execEventRecordDelivery src s = _
  simp only [execEventRecordDelivery, hr, hup, Bool.not_true, Bool.false_eq_true, if_false, ← hu, ← hw, ← hleft]

/-- A bank comes up after a start: UPD_STATE follows the trial, and the boot is noted. -/
def State.bankUp (r : BootRec) (again : Bool) (act : Nat) (s : State) (b : Nat) : State :=
  let t := s.put F.ACW_FW_STATUS_UPD_STATE (if r.trial && !again && b == act then 4
    else if 3 ≤ s.get F.ACW_FW_STATUS_UPD_STATE then 0 else s.get F.ACW_FW_STATUS_UPD_STATE)
  (t.fwUp b (r.trial && !again && b == act) false (t.bankOf b)).booted b (t.bankOf b)

section
variable {s a u : State} {saved again : Bool} {r : BootRec} {act first : Nat} (hrun : s.pow.running = true) (hup : s.acl.up = false)
  (hh : s.acl.halted = false) (hw : s.acl.romWaits = false) (hact : s.acl.activating = none) (ha : a = if saved then s else s.dropSaved)
  (hr : r = a.bootRec) (hb : act = b2n r.active) (hagain : again = (r.trial && r.tried && !a.acl.fallback))
  (hfirst : first = if a.acl.fallback then 1 - a.get F.ACW_FW_STATUS_RUN_BANK else if again then 1 - act else act)
  (hu : u = if again then (a.writeBootRec (!r.active) false false).raise 0x01 0x7008 3 scDev [2]
    else if r.trial && !a.acl.fallback then a.writeBootRec r.active true true else a)
include hrun hup hh hw hact ha hr hb hagain hfirst hu

theorem exec_fwBooted_first (ht : u.fwTest (u.bankOf first) = none) :
    exec (.fwBooted saved) s = .next (u.bankUp r again act first) := by
  refine congrArg Host.Outcome.next ((if_neg (by simp [hrun, hup, hh, hw, hact])).trans ?_)
  simp only [← ha, ← hr, ← hb, ← hagain, ← hfirst, ← hu, ht]
  rfl

theorem exec_fwBooted_second {t : Nat} {x : State} (ht : u.fwTest (u.bankOf first) = some t) (hx : x = u.raise 0x01 0x7003 3 scDev [first, t])
    (hx' : x.fwTest (x.bankOf (1 - first)) = none) :
    exec (.fwBooted saved) s = .next (x.bankUp r again act (1 - first)) := by
  refine congrArg Host.Outcome.next ((if_neg (by simp [hrun, hup, hh, hw, hact])).trans ?_)
  simp only [← ha, ← hr, ← hb, ← hagain, ← hfirst, ← hu, ht, ← hx, hx']
  rfl

theorem exec_fwBooted_neither {t t' : Nat} {x y : State} (ht : u.fwTest (u.bankOf first) = some t) (hx : x = u.raise 0x01 0x7003 3 scDev [first, t])
    (hx' : x.fwTest (x.bankOf (1 - first)) = some t') (hy : y = x.raise 0x01 0x7003 3 scDev [1 - first, t']) :
    exec (.fwBooted saved) s = .next { y with acl := { y.acl with romWaits := true } } := by
  refine congrArg Host.Outcome.next ((if_neg (by simp [hrun, hup, hh, hw, hact])).trans ?_)
  simp only [← ha, ← hr, ← hb, ← hagain, ← hfirst, ← hu, ht, ← hx, hx', ← hy]

end


section
variable {s u w : State} {core : Fin 4} {recent : List Nat} {b : Nat} (hrun : s.pow.running = true) (hh : s.acl.halted = false)
  (hr : s.acl.romWaits = false) (hrec : recent = (s.acl.wdt.filter fun t => decide (s.clk.now < t + 600000000000)) ++ [s.clk.now])
  (hu : u = (s.bump F.ACW_WDT_WDT_RESETS).coresDown.discardAll 3)
  (hw : w = (State.trigger { u with acl := { u.acl with wdt := recent, activating := none } } 8).raise 0x01 0x7004 3 scDev [core.val, recent.length])
  (hb : b = w.get F.ACW_FW_STATUS_RUN_BANK)
include hrun hh hr hrec hu hw hb

theorem exec_acliaWatchdog_running :
    exec (.acliaWatchdog core) s = .next (if recent.length < 3 then w
      else if w.fwTest (w.bankOf (1 - b)) = none then State.raise { w with acl := { w.acl with fallback := true } } 0x01 0x7002 3 scDev [b, 1]
      else State.putB { w with acl := { w.acl with halted := true, alertHalt := true, alertN := false } } F.ACW_THERM_STATUS_ALERT true) := by
  dsimp only at hw
  refine congrArg Host.Outcome.next ((if_neg (by simp [hrun, hh, hr])).trans ?_)
  simp only [← hrec, ← hu, ← hw, ← hb]

end

@[simp] theorem State.writeBootRec_bankOf (s : State) (active trial tried : Bool) (b : Nat) :
    (s.writeBootRec active trial tried).bankOf b = s.bankOf b := by
  dsimp only [State.writeBootRec]
  split <;> rfl

section
variable {s a u : State} {saved : Bool} {old t0 : Nat} (ha : a = if saved then s else s.dropSaved)
  (hu : u = ((State.bump { a with acl := { a.acl with activating := none } } F.ACW_WDT_ACTIVATIONS).endAsync (fun a => a.opcode != 0x0E02) .timeout none).trigger 10)
include ha hu

theorem exec_fwActivated_new {ok : Bool} {ob nb : Nat} {w x : State} (hact : s.acl.activating = some (old, t0, false))
    (hob : ob = s.get F.ACW_FW_STATUS_RUN_BANK) (hnb : nb = 1 - ob)
    (hw : w = (u.fwUp nb true false (u.bankOf nb)).put F.ACW_FW_STATUS_UPD_STATE 4)
    (hx : x = (u.writeBootRec (ob == 1) false false).fwUp ob false false ((u.writeBootRec (ob == 1) false false).bankOf ob)) :
    exec (.fwActivated ok saved) s = .next (if ok = true ∧ u.fwTest (u.bankOf nb) = none then
        w.raiseEnd (fun a => a.opcode == 0x0E02) 0x01 0x7006 1 scDev [old, fwVersion (w.bankOf nb), w.clk.now - t0]
      else ((x.put F.ACW_FW_STATUS_UPD_STATE 0).raise 0x01 0x7008 3 scDev [3]).endAsync (fun a => a.opcode == 0x0E02) .hwFault (some x.evs.next)) := by
  rw [State.writeBootRec_bankOf] at hx
  dsimp only at hu
  change execFwActivated ok s saved = _
  simp only [execFwActivated, hact, ← ha, ← hob, ← hnb, ← hu, ← hw, ← hx, Bool.false_eq_true, if_false, Bool.and_eq_true, decide_eq_true_eq]

theorem exec_fwActivated_revert {ok : Bool} {nb : Nat} (hact : s.acl.activating = some (old, t0, true))
    (hnb : nb = 1 - s.get F.ACW_FW_STATUS_RUN_BANK) :
    exec (.fwActivated ok saved) s = .next ((u.fwUp nb false false (u.bankOf nb)).put F.ACW_FW_STATUS_UPD_STATE 0) := by
  dsimp only at hu
  change execFwActivated ok s saved = _
  simp only [execFwActivated, hact, ← ha, ← hnb, ← hu, if_true]

end

/-- Settles O35, event by event. -/
theorem managementEvents : Obligations.ManagementEvents := by
  unfold Obligations.ManagementEvents
  intro s u
  refine ⟨?delivery, ?booted, ?watchdog, ?activated, ?reverted, ?confirm, ?debug⟩
  case delivery => exact fun src e rest left w => exec_eventRecordDelivery_held
  case booted =>
    rintro saved again r act first a up hrun hup hh hw hact ha hr hb hagain hfirst hu rfl
    have hu' : u = if again then (a.writeBootRec (!r.active) false false).raise 0x01 0x7008 3 scDev [2]
        else if r.trial && !a.acl.fallback then a.writeBootRec r.active true true else a := by
      rw [hu]; simp only [Bool.and_eq_true, Bool.not_eq_true']
    cases ht : u.fwTest (u.bankOf first) with
    | none => exact exec_fwBooted_first hrun hup hh hw hact ha hr hb hagain hfirst hu' ht
    | some t =>
      obtain ⟨x, hx⟩ : ∃ x, x = u.raise 0x01 0x7003 3 scDev [first, t] := ⟨_, rfl⟩
      simp only [← hx]
      cases hx' : x.fwTest (x.bankOf (1 - first)) with
      | none => exact exec_fwBooted_second hrun hup hh hw hact ha hr hb hagain hfirst hu' ht hx hx'
      | some t' => exact exec_fwBooted_neither hrun hup hh hw hact ha hr hb hagain hfirst hu' ht hx hx' rfl
  case watchdog => exact fun core recent w b => exec_acliaWatchdog_running
  case activated => exact fun ok saved old t0 ob nb a w x hact hob hnb ha hu hw hx => exec_fwActivated_new ha hu hact hob hnb hw hx
  case reverted => exact fun ok saved old t0 nb a hact hnb ha hu => exec_fwActivated_revert ha hu hact hnb
  case confirm => exact fun hup ht => congrArg Host.Outcome.next (if_pos (by simp [hup, ht]))
  case debug => exact fun h => congrArg Host.Outcome.next (if_pos (Option.isSome_iff_ne_none.mpr h))

end Sys2Proof.Machine
end

section
/-!
PROOF. O36 SensorEvents: samples of a sensor, stale sensors and the end of ALERT_N (R367, R368).
-/

namespace Sys2Proof.Machine

section
variable {s u : State} {i : Fin 32} {raw : Int} (hpd : s.pdIsOn 62 = true) (hblk : s.pow.block ≠ some (0x11, 0xFFFF))
  (hs : i.val = 31 → s.get F.GLB_RESET_CAUSE_SOURCE = 0)

include hpd hblk hs in
/-- A sensor is sampled while Aclia's power domain is on and its block is in no reset. -/
theorem sensor_samples :
    ¬ (!s.pdIsOn 62 || (decide (s.pow.block = some (0x11, 0xFFFF))) || (i.val == 31 && s.get F.GLB_RESET_CAUSE_SOURCE != 0)) = true := by
  by_cases h : i.val = 31
  · simp [hpd, hblk, hs h]
  · simp [hpd, hblk, h]

include hpd hblk hs in
theorem exec_sensorSample_outOfRange (hr : raw < (sensRange i).1 ∨ (sensRange i).2 < raw)
    (hu : u = (s.putB (F.ACW_SENS_RANGE i) true).setSens i
      { s.sens i with miss := (s.sens i).miss + 1, run := 0, win := if s.sensStale i then [] else (s.sens i).win }) :
    exec (.sensorSample i raw) s = .next (u.raiseLim 1000000000 i 0x02 0x8102 2 scDev 0 [i.val, (raw % 4294967296).toNat]) := by
  subst hu
  exact congrArg Host.Outcome.next ((if_neg (sensor_samples hpd hblk hs)).trans ((if_pos hr).trans rfl))

section
variable (hin : ¬ (raw < (sensRange i).1 ∨ (sensRange i).2 < raw)) (hu : u = s.putB (F.ACW_SENS_RANGE i) false)
include hpd hblk hs hin hu

theorem exec_sensorSample_fresh {win : List Int} (hst : u.sensStale i = false)
    (hw : win = (clampStep raw (u.sensVal i) (sensStep i) :: (s.sens i).win).take 5) :
    exec (.sensorSample i raw) s = .next (((u.setSens i { win := win }).setSensVal i (medianInt win)).judge i) := by
  subst hu hw
  exact congrArg Host.Outcome.next ((if_neg (sensor_samples hpd hblk hs)).trans ((if_neg hin).trans (if_neg (by simp [hst]))))

theorem exec_sensorSample_staleFew (hst : u.sensStale i = true) (hrun : (s.sens i).run + 1 < 5) :
    exec (.sensorSample i raw) s = .next (u.setSens i { win := (raw :: (s.sens i).win).take 5, miss := 0, run := (s.sens i).run + 1 }) := by
  subst hu
  exact congrArg Host.Outcome.next ((if_neg (sensor_samples hpd hblk hs)).trans ((if_neg hin).trans ((if_pos hst).trans (if_pos hrun))))

theorem exec_sensorSample_restored {win : List Int} {w : State} (hst : u.sensStale i = true) (hrun : 5 ≤ (s.sens i).run + 1)
    (hwin : win = (raw :: (s.sens i).win).take 5)
    (hw : w = ((u.setSens i { win := win }).putB (F.ACW_SENS_STALE i) false).setSensVal i (medianInt win)) :
    exec (.sensorSample i raw) s = .next ((w.raise 0x02 0x8103 0 scDev [i.val, w.get (F.ACW_SENS_VALUE i)]).judge i) := by
  subst hw hwin hu
  exact congrArg Host.Outcome.next
    ((if_neg (sensor_samples hpd hblk hs)).trans ((if_neg hin).trans ((if_pos hst).trans (if_neg (by omega)))))

end

include hpd in
theorem exec_sensorStale_eq (hst : s.sensStale i = false) (hu : u = ((s.setSens i {}).putB (F.ACW_SENS_STALE i) true).showHot) :
    exec (.sensorStale i) s = .next ((u.raise 0x02 0x8101 2 scDev [i.val]).alertEval) := by
  subst hu
  exact congrArg Host.Outcome.next (if_neg (by simp [hst, hpd]))

end

theorem exec_alertRelease_eq {s : State} (hc : s.alertCond = false) (hh : s.acl.alertHalt = false) :
    exec .alertRelease s = .next (State.putB { s with acl := { s.acl with alertN := true } } F.ACW_THERM_STATUS_ALERT false) :=
  congrArg Host.Outcome.next (if_neg (by simp [hc, hh]))

/-- Settles O36, event by event. -/
theorem sensorEvents : Obligations.SensorEvents := by
  unfold Obligations.SensorEvents
  intro s u i raw hpd hblk hs
  refine ⟨exec_sensorSample_outOfRange hpd hblk hs, ?inRange, exec_sensorStale_eq hpd, exec_alertRelease_eq⟩
  intro hlo hhi hu
  have hin : ¬ (raw < (sensRange i).1 ∨ (sensRange i).2 < raw) := not_or.mpr ⟨not_lt.mpr hlo, not_lt.mpr hhi⟩
  refine ⟨fun win => ?_, ?_, fun win w => ?_⟩
  · exact exec_sensorSample_fresh hpd hblk hs hin hu
  · exact exec_sensorSample_staleFew hpd hblk hs hin hu
  · exact exec_sensorSample_restored hpd hblk hs hin hu

end Sys2Proof.Machine
end

section
/-!
PROOF. O37 PortEvents: quiesce, power management, PTM and publication (R72, R77, R82, R84 to R87, R281).
-/

namespace Sys2Proof.Machine

theorem exec_portQuiesced_done {s u w : State} {p : Port} {q : Quiescing} {d : List Nat} (hq : (s.port p).quiescing = some q)
    (hw : q.waiting = false) (hs : s.stage p = stOFF) (he : s.queuesEmpty p = true)
    (hf : bit (s.get (F.STN_OB_FLUSH_FLUSHING (stnOf p))) (kOf p) = false)
    (hu : u = (s.putB (F.STN_PORT_STATUS_QUIESCED (stnOf p) (kOf p)) true).modPort p (fun x => { x with quiescing := none }))
    (hv : w = if u.pciRole p = 2 then u.modVs (u.vsOf p) (fun x => { x with left := x.left.filter (· != u.devnum p) ++ [u.devnum p] }) else u)
    (hd : d = [p.val, b2n (!q.orderly), w.vsOf p]) :
    exec (.portQuiesced p) s = .next (if w.cmd.asyncs.any (fun a => a.ended == none && quiesceCmd p q a && (a.opcode == 0x0301 || !w.quiesceLeft (stnOf p)))
      then w.raiseEnd (quiesceCmd p q) (srcStn (stnOf p)) 0x1036 0 (scPort p) d else w.raise (srcStn (stnOf p)) 0x1036 0 (scPort p) d) := by
  have hstop : ¬ (q.waiting || s.stage p != stOFF || !s.queuesEmpty p || bit (s.get (F.STN_OB_FLUSH_FLUSHING (stnOf p))) (kOf p)) = true := by
    simp [hw, hs, he, hf]
  change execPortQuiesced p s = _
  simp only [execPortQuiesced, hq, if_neg hstop, ← hu, ← hv, ← hd]

/-- A port forgets the quiesce of a command that it still waits to begin. -/
def State.forgetWaiting (cred tag : B32) (s : State) (p : Nat) : State :=
  match (s.port p).quiescing with
  | some q => if q.cred == cred && q.tag == tag && q.waiting then s.modPort p fun x => { x with quiescing := none } else s
  | none => s

theorem exec_quiesceTimeout_mine {s u : State} {cred tag : B32} {mine : Async → Bool}
    (hm : mine = (fun a => a.cred == cred && a.tag == tag && (a.opcode == 0x0301 || a.opcode == 0x0204)))
    (ha : (s.cmd.asyncs.any fun a => mine a && a.ended == none) = true) (hu : u = allPorts.foldl (State.forgetWaiting cred tag) s) :
    exec (.quiesceTimeout cred tag) s = .next (u.endAsync mine .timeout none) := by
  rw [hm] at ha
  rw [hu, hm]
  exact congrArg Host.Outcome.next (if_pos ha)

theorem exec_vsReset_eq {s : State} {v : VsId} {n : Nat} (h : s.usp v = some n) (hot : Bool) :
    exec (.vsReset v hot) s = .next (if hot then (s.vsResetOp v vrHot).hotReset n else s.vsResetOp v vrDown) := by
  change execVsReset v hot s = _
  simp only [execVsReset, h]

theorem exec_pmeTurnOff_eq {s : State} {v : VsId} {ps : List Nat} (h : s.usp v ≠ none) (hps : ps = (s.dsps v).filter (fun p => s.stage p == stACTIVE)) :
    exec (.pmeTurnOff v) s =
      .next ((ps.foldl (fun s p => s.emit (.msg p msgPmeTurnOff 0)) s).modVs v fun w => { w with pme := ps, pmeWait := true }) := by
  subst hps
  exact congrArg Host.Outcome.next (if_neg (by simp [h]))

theorem exec_pmeToTimeout_waiting {s : State} {v : VsId} {n : Nat} (hw : (s.vs v).pmeWait = true) (hn : s.usp v = some n) :
    exec (.pmeToTimeout v) s = .next ((s.pmeDone v).raise (srcStn (stnOf n)) 0x1034 2 (scVs v) (v.val :: (s.vs v).pme)) := by
  change execPmeToTimeout v s = _
  simp only [execPmeToTimeout, hw, hn, if_true]

theorem State.l0pFull_eq {s : State} {p w : Nat} (h : (s.port p).l0p = true) (hw : w = s.get (F.STN_PORT_STATUS_WIDTH (stnOf p) (kOf p))) :
    s.l0pFull p = ((s.put (F.STN_PORT_STATUS_L0P_WIDTH (stnOf p) (kOf p)) w).modPort p fun x => { x with l0p := false }).emit (.l0pFull p w) := by
  subst hw
  exact if_pos h

theorem exec_aspmL1Entry_taken {s : State} {p : Port} {sub : Fin 3} {pciPm clkreq : Bool} (hr : s.pciRole p = 2) (hs : s.stage p = stACTIVE)
    (hl : pciPm = true ∨ s.flag (F.STN_PORT_CFG_ASPM_L1_EN (stnOf p) (kOf p)) = true ∧ bit (s.cw p ofLNKCTL) 1 = true)
    (hsub : sub = 0 ∨ s.hasSlot p = true ∧ clkreq = true ∧ s.flag (F.STN_PORT_CFG_L1SS_EN (stnOf p) (kOf p)) = true ∧
      bit (s.cw p 0x348) (if pciPm then (if sub.val = 1 then 1 else 0) else (if sub.val = 1 then 3 else 2)) = true) :
    exec (.aspmL1Entry p sub pciPm clkreq) s = .next (s.put (F.STN_PORT_STATUS_PM (stnOf p) (kOf p)) (1 + sub.val)) := by
  have hl1 : (pciPm || (s.flag (F.STN_PORT_CFG_ASPM_L1_EN (stnOf p) (kOf p)) && bit (s.cw p ofLNKCTL) 1)) = true := by simpa using hl
  have hss : (sub.val == 0 || (s.hasSlot p && clkreq && s.flag (F.STN_PORT_CFG_L1SS_EN (stnOf p) (kOf p)) &&
      bit (s.cw p 0x348) (if pciPm then (if sub.val = 1 then 1 else 0) else (if sub.val = 1 then 3 else 2)))) = true := by
    rcases hsub with rfl | ⟨h1, h2, h3, h4⟩
    · rfl
    · rw [h1, h2, h3, h4]; simp
  refine congrArg Host.Outcome.next (if_pos ?_)
  rw [hl1, hss]
  simp [hr, hs]

theorem exec_ptmExchange_eq (s : State) (v : VsId) (time : B64) :
    ∃ t, exec (.ptmExchange v time) s = .next t ∧ (t.vs v).ptm = some (time - s.clk.fab) ∧ ({ t with vss := s.vss } : State) = s := by
  refine ⟨_, rfl, ?_, rfl⟩
  simp

theorem exec_vsReady_published {s u : State} {v : VsId} {n : Nat} (hn : s.usp v = some n) (hp : (s.vs v).published = false)
    (hst : s.started (stnOf n) = true) (hf : s.fabPublished = true) (hu' : s.fab.unpub.contains v.val = false)
    (hu : u = (s.modVs v fun w => { w with published := true }).putB (F.STN_PORT_STATUS_RRS (stnOf n) (kOf n)) false) :
    exec (.vsReady v) s = .next (u.raise (srcStn (stnOf n)) 0x1032 0 (scVs v) [v.val, n, (u.clk.now - u.pow.releasedAt) / msec]) := by
  change execVsReady v s = _
  simp only [execVsReady, hn, hp, hst, hf, hu', ← hu, Bool.not_true, Bool.false_or, Bool.false_eq_true, if_false]

/-- Settles O37, event by event. -/
theorem portEvents : Obligations.PortEvents := by
  unfold Obligations.PortEvents
  intro s u p v
  refine ⟨?quiesced, ?timeout, ?completed, ?reset, ?turnOff, ?toAck, ?toTimeout, ?l0p, ?l0pRestore, ?aspm, ?exchange, ?request, ?ready⟩
  case quiesced => exact fun q w d => exec_portQuiesced_done
  case timeout => exact fun cred tag mine => exec_quiesceTimeout_mine
  case completed => exact fun h => congrArg Host.Outcome.next (if_pos (Option.isSome_iff_ne_none.mpr h))
  case reset => exact fun n h => ⟨exec_vsReset_eq h true, exec_vsReset_eq h false⟩
  case turnOff => exact fun ps => exec_pmeTurnOff_eq
  case toAck => exact fun hw hp => congrArg Host.Outcome.next (if_pos (by simp [hw, hp]))
  case toTimeout => exact fun n => exec_pmeToTimeout_waiting
  case l0p => exact fun width hs hr he hf h0 hw => congrArg Host.Outcome.next (if_pos (by simp [hs, hr, he, hf, h0, hw]))
  case l0pRestore => exact fun w hq hl hw => congrArg Host.Outcome.next ((if_pos hq).trans (State.l0pFull_eq hl hw))
  case aspm => exact fun sub pciPm clkreq => exec_aspmL1Entry_taken
  case exchange => exact fun time => exec_ptmExchange_eq s v time
  case request =>
    intro hr
    refine congrArg Host.Outcome.next ((if_pos hr).trans ?_)
    cases (s.vs (s.vsOf p)).ptm <;> rfl
  case ready => exact fun n => exec_vsReady_published

end Sys2Proof.Machine
end

section
/-!
PROOF. O38 ResetEvents: the supplies and the resets of the device (R399 to R408).
-/

namespace Sys2Proof.Machine

theorem exec_subsoilPowerOn_eq {s u : State}
    (hu : u = { s with regs := s.regs.filter (fun x => !(decide (0x20 ≤ x.1 ∧ x.1 < 0x38) || x.1 == 0x50)), evs := { s.evs with gasp := [], gaspSeen := 0 },
                       spc := { s.spc with latched := [] }, pow := { s.pow with baseNs := 0, baseTicks := 0 }, clk := { s.clk with ssZero := s.clk.now } }) :
    exec .subsoilPowerOn s = .next (u.trigger 1) := by
  subst hu
  rfl

theorem exec_standbyPowerOn_eq {s u a b c : State} {samples : List Nat} (ha : a = (s.trigger 2).spcReset)
    (hb : b = (State.resetMain { a with pow := { a.pow with stby := true } } false).strapLatch samples)
    (hc : c = b.put F.GLB_STRAP_STBY_CODE (b.get F.GLB_STRAP_CODE))
    (hu : u = ((List.range 17).filter s.gateOn).foldl (fun s n => s.raiseSlot n 0x9011 1 [0]) (c.spc.latched.foldl (fun s n => s.setSp n spLATCHED) c)) :
    exec (.standbyPowerOn samples) s = .next ((u.put (F.GLB_PD_STATE_STATE 63) 2).putB (F.GLB_PD_STATE_ISO 63) false) := by
  dsimp only at hb
  change execStandbyPowerOn samples s = _
  simp only [execStandbyPowerOn, ← ha, ← hb, ← hc, ← hu]

theorem exec_mainPowerOnReset_eq {s u : State} {samples : List Nat} (hu : u = { s with pow := { s.pow with supplyLow := false, samples := samples } }) :
    exec (.mainPowerOnReset samples) s = .next (if s.pow.stby = true ∧ s.pow.supplyLow = false then (u.trigger 3).resetMain false else u) := by
  subst hu
  refine congrArg Host.Outcome.next ?_
  by_cases h : s.pow.stby = true ∧ s.pow.supplyLow = false
  · exact (if_neg (by simp [h])).trans (if_pos h).symm
  · refine (if_pos ?_).trans (if_neg h).symm
    by_cases hs : s.pow.stby = true <;> simp_all

theorem exec_hrstDriveEnd_eq {s u : State} (hd : s.pow.driving = true) (hr : s.pow.running = false) (hl : s.pow.supplyLow = false)
    (hs : s.pow.stby = true) (hu : u = if s.pow.samples.isEmpty then s else s.strapLatch s.pow.samples) :
    exec .hrstDriveEnd s = .next { u with pow := { u.pow with driving := u.flag F.GLB_STATUS_THERMTRIP, samples := [] } } := by
  refine congrArg Host.Outcome.next ((if_neg (by simp [hd, hr, hl, hs])).trans ?_)
  simp only [← hu]

theorem exec_resetAfterReply_eq {s u : State} {kind : Fin 2} (h : s.pow.pendingReset = some kind.val)
    (hu : u = { s with pow := { s.pow with pendingReset := none } }) :
    exec (.resetAfterReply kind) s = .next (if kind.val = 0 then ((u.disarmFor 2).trigger 6).resetMain true else (u.coresDown.discardAll 3).trigger 9) := by
  subst hu
  exact congrArg Host.Outcome.next (if_neg (by simp [h]))

theorem exec_thermtrip_eq {s u a : State} {die : Fin 5} {raw : Int}
    (ha : a = ((((s.trigger 7).gaspPut 0x8113 5 [die.val, (raw % 65536).toNat]).putB F.GLB_STATUS_THERMTRIP true).putB F.ACW_THERM_STATUS_TRIP true))
    (hu : u = State.raise { a with acl := { a.acl with thermtripN := false }, pow := { a.pow with driving := true } } 0x02 0x8113 5 scDev
      [die.val, (raw % 65536).toNat]) :
    exec (.thermtrip die raw) s = .next ((List.range 62).foldl (fun s d => s.pdAsk d false) u) := by
  dsimp only at hu
  change execThermtrip die raw s = _
  simp only [execThermtrip, ← ha, ← hu]

theorem exec_subsoilSupplyChange_eq (s : State) (b : Bool) :
    ∃ t, exec (.subsoilSupplyChange b) s = .next t ∧ t.get F.GLB_RESET_CAUSE_SOURCE = b2n b ∧
      (∀ a, a ≠ F.GLB_RESET_CAUSE_SOURCE.addr → t.reg a = s.reg a) ∧ ({ t with regs := s.regs } : State) = s := by
  refine ⟨s.put F.GLB_RESET_CAUSE_SOURCE (b2n b), rfl, ?_, fun a h => State.put_reg_ne _ _ _ _ h, rfl⟩
  rw [State.put_get_self _ _ _ (by decide)]
  cases b <;> rfl

theorem exec_vbakLow_eq {s u : State} {mv : Nat} (h : s.get F.GLB_RESET_CAUSE_SOURCE = 0) (hu : u = s.putB F.GLB_RESET_CAUSE_VBAK_LOW (decide (mv < 2200))) :
    exec (.vbakLow mv) s = .next (if mv < 2200 then u.raiseQuiet 3600000000000 0 0x00 0x8030 2 scDev [mv, 0] else u) := by
  subst hu
  exact congrArg Host.Outcome.next (if_neg (not_not.mpr h))

/-- Settles O38, event by event. -/
theorem resetEvents : Obligations.ResetEvents := by
  unfold Obligations.ResetEvents
  intro s u samples
  refine ⟨?subsoil, fun a b c => exec_standbyPowerOn_eq, exec_mainPowerOnReset_eq, ?brownOut, ?warm, ?standbyLoss, exec_hrstDriveEnd_eq, ?device, ?cores,
    fun die raw a => exec_thermtrip_eq, exec_subsoilSupplyChange_eq s, fun mv => exec_vbakLow_eq⟩
  case subsoil => exact exec_subsoilPowerOn_eq
  case brownOut => rintro n rfl; rfl
  case warm => rintro hd hr rfl; exact congrArg Host.Outcome.next (if_neg (by simp [hd, hr]))
  case standbyLoss => rintro rfl; rfl
  case device => exact fun h hu => (exec_resetAfterReply_eq h hu).trans (congrArg Host.Outcome.next (if_pos rfl))
  case cores => exact fun h hu => (exec_resetAfterReply_eq h hu).trans (congrArg Host.Outcome.next (if_neg (by decide)))

end Sys2Proof.Machine
end

section
/-!
PROOF. O39 DomainsAndClocks: release of the reset, power domains, reference clocks and station clocks (R409 to R419).
-/

namespace Sys2Proof.Machine

/-! ### RESET_RELEASE -/

/-- The core PLL takes the first reference input that is good. -/
def State.coreRefFirst (s : State) : State :=
  match (List.range 4).find? fun q => bit (s.get F.GLB_CLK_STATUS_REFCLK_OK) q with
  | some q => (s.put F.GLB_CLK_STATUS_CORE_REF q).putB F.GLB_CLK_STATUS_CORE_LOCK true
  | none => s

/-- A strap fault shows in GLB_STATUS. -/
def State.strapFaultShown (s : State) : State := if s.flag F.GLB_STRAP_FAULT then s.putB F.GLB_STATUS_STRAP_FAULT true else s

theorem State.coreRefFirst_get (s : State) {f : Fld} (h : f.addr ≠ 0x200) : s.coreRefFirst.get f = s.get f := by
  unfold State.coreRefFirst
  split
  · rw [State.putB, State.put_get_addr _ _ _ _ h, State.put_get_addr _ _ _ _ h]
  · rfl

theorem State.coreRefFirst_rest (s : State) : s.coreRefFirst.acl = s.acl ∧ s.coreRefFirst.pow = s.pow ∧ s.coreRefFirst.pending = s.pending ∧
    s.coreRefFirst.clk = s.clk := by
  unfold State.coreRefFirst
  split <;> simp

theorem State.strapFaultShown_get (s : State) {f : Fld} (h : f.addr ≠ 0x10) : s.strapFaultShown.get f = s.get f := by
  unfold State.strapFaultShown
  split
  · rw [State.putB, State.put_get_addr _ _ _ _ h]
  · rfl

theorem State.strapFaultShown_rest (s : State) : s.strapFaultShown.acl = s.acl ∧ s.strapFaultShown.pow = s.pow ∧
    s.strapFaultShown.pending = s.pending ∧ s.strapFaultShown.clk = s.clk := by
  unfold State.strapFaultShown
  split <;> simp

/-- What RESET_RELEASE writes before the straps' faults show. -/
def State.releaseStart (s : State) : State :=
  let pd (s : State) (d : Nat) : State := (s.put (F.GLB_PD_STATE_STATE d) 2).putB (F.GLB_PD_STATE_ISO d) false
  let s := { s with pow := { s.pow with running := true, releasedAt := s.clk.now } }
  let s := (pd (pd s 62) 63).putB (F.GLB_PD_STATE_REQ 62) true
  let s := s.strapDefaults.putB F.GLB_FUSE_STATUS_LOADED true
  (s.putB F.GLB_FUSE_STATUS_CORRECTED (Config.fuseCorrected s.clk.free)).nextFree

/-- UID, rollback value and debug lock show in their registers. -/
def State.fusesShown (s : State) : State :=
  let s := (s.put F.FAB_UID_LO_UID_LO (s.acl.uid.toNat % 2 ^ 32)).put F.FAB_UID_HI_UID_HI (s.acl.uid.toNat / 2 ^ 32)
  let s := (s.put F.ACW_SEC_STATUS_ROLLBACK s.acl.rollback).putB F.ACW_SEC_STATUS_DEBUG_LOCKED s.acl.debugLocked
  s.putB F.ACW_THERM_STATUS_TRIP (!s.acl.thermtripN)

theorem exec_resetRelease_eq {s a b c t : State} (hr : s.pow.running = false) (hl : s.pow.supplyLow = false) (hs : s.pow.stby = true)
    (hd : s.pow.driving = false ∨ s.flag F.GLB_STATUS_THERMTRIP = true) (ha : a = s.releaseStart) (hb : b = a.strapFaultShown) (hc : c = b.fusesShown)
    (ht : t = c.coreRefFirst) :
    exec .resetRelease s = .next { t with acl := { t.acl with romWaits := bit (t.get F.GLB_STRAP_CODE) 0 } } := by
  refine congrArg Host.Outcome.next ((if_neg ?_).trans ?_)
  · rcases hd with h | h <;> simp [hr, hl, hs, h]
  · simp only [State.releaseStart] at ha
    simp only [State.strapFaultShown] at hb
    simp only [State.fusesShown] at hc
    simp only [← ha, ← hb, ← hc]
    subst ht
    rfl

theorem State.strapDefaults_get (s : State) {f : Fld} (h : f.addr < 0x1000000) : s.strapDefaults.get f = s.get f := by
  simp (disch := (simp only [F.STN_LANE_MODE_HOLD, F.STN_PORT_CFG_ROLE] <;> omega)) only [State.strapDefaults, State.putB, State.put_get_addr]

theorem State.releaseStart_get (s : State) {f : Fld} (h : f.addr < 0x1000000) (h62 : f.addr ≠ 0x1F8) (h63 : f.addr ≠ 0x1FC) (hf : f.addr ≠ 0x18) :
    s.releaseStart.get f = s.get f := by
  have hn (x : State) : x.nextFree.get f = x.get f := State.get_congr _ rfl f
  have hd (x : State) : x.strapDefaults.get f = x.get f := x.strapDefaults_get h
  have hr (x : State) (p : Pow) : ({ x with pow := p } : State).get f = x.get f := State.get_congr _ rfl f
  simp (disch := (simp only [F.GLB_PD_STATE_STATE, F.GLB_PD_STATE_ISO, F.GLB_PD_STATE_REQ, F.GLB_FUSE_STATUS_LOADED, F.GLB_FUSE_STATUS_CORRECTED] <;> omega)) only
    [State.releaseStart, hn, hr, hd, State.putB, State.put_get_addr]

theorem State.releaseStart_rest (s : State) : s.releaseStart.acl = s.acl ∧
    s.releaseStart.pow = { s.pow with running := true, releasedAt := s.clk.now } ∧ s.releaseStart.pending = s.pending ∧
    s.releaseStart.clk.now = s.clk.now ∧ s.releaseStart.clk.fab = s.clk.fab := by
  simp [State.releaseStart, State.strapDefaults, State.nextFree]

theorem State.releaseStart_pdState (s : State) : s.releaseStart.pdState 63 = 2 := by
  have hn (x : State) (f : Fld) : x.nextFree.get f = x.get f := State.get_congr _ rfl f
  simp only [State.releaseStart, State.pdState, hn, State.putB]
  rw [State.put_get_ne _ _ _ _ (by decide) (by decide), State.put_get_ne _ _ _ _ (by decide) (by decide), State.strapDefaults_get _ (by decide),
    State.put_get_ne _ _ _ _ (by decide) (by decide), State.put_get_ne _ _ _ _ (by decide) (by decide), State.put_get_self _ _ _ (by decide)]
  rfl

theorem State.releaseStart_loaded (s : State) : s.releaseStart.flag F.GLB_FUSE_STATUS_LOADED = true := by
  have hn (x : State) (f : Fld) : x.nextFree.get f = x.get f := State.get_congr _ rfl f
  simp only [State.releaseStart, State.flag, hn, State.putB]
  rw [State.put_get_ne _ _ _ _ (by decide) (by decide), State.put_get_self _ _ _ (by decide)]
  rfl

theorem State.fusesShown_get (s : State) {f : Fld} (h : f.addr < 0x140008) : s.fusesShown.get f = s.get f := by
  simp (disch := (simp only [F.FAB_UID_LO_UID_LO, F.FAB_UID_HI_UID_HI, F.ACW_SEC_STATUS_ROLLBACK, F.ACW_SEC_STATUS_DEBUG_LOCKED, F.ACW_THERM_STATUS_TRIP] <;> omega))
    only [State.fusesShown, State.putB, State.put_get_addr]

theorem State.fusesShown_rest (s : State) : s.fusesShown.acl = s.acl ∧ s.fusesShown.pow = s.pow ∧ s.fusesShown.pending = s.pending ∧
    s.fusesShown.clk = s.clk := by
  simp [State.fusesShown]

theorem State.fusesShown_uidLo (s : State) : s.fusesShown.get F.FAB_UID_LO_UID_LO = s.acl.uid.toNat % 2 ^ 32 := by
  simp only [State.fusesShown, State.putB]
  rw [State.put_get_addr _ _ _ _ (by decide), State.put_get_addr _ _ _ _ (by decide), State.put_get_addr _ _ _ _ (by decide),
    State.put_get_addr _ _ _ _ (by decide), State.put_get_self _ _ _ (by decide)]
  exact Nat.mod_mod _ _

theorem State.fusesShown_uidHi (s : State) : s.fusesShown.get F.FAB_UID_HI_UID_HI = s.acl.uid.toNat / 2 ^ 32 := by
  have hu : s.acl.uid.toNat / 2 ^ 32 < 2 ^ 32 := by
    have : s.acl.uid.toNat < 2 ^ 64 := s.acl.uid.isLt
    omega
  simp only [State.fusesShown, State.putB]
  rw [State.put_get_addr _ _ _ _ (by decide), State.put_get_addr _ _ _ _ (by decide), State.put_get_addr _ _ _ _ (by decide),
    State.put_get_self _ _ _ (by decide)]
  exact Nat.mod_eq_of_lt hu

theorem State.fusesShown_uid (s : State) :
    s.fusesShown.get F.FAB_UID_LO_UID_LO + s.fusesShown.get F.FAB_UID_HI_UID_HI * 2 ^ 32 = s.acl.uid.toNat := by
  rw [State.fusesShown_uidLo, State.fusesShown_uidHi]
  exact Nat.mod_add_div' _ _

theorem State.fusesShown_debugLocked (s : State) : s.fusesShown.flag F.ACW_SEC_STATUS_DEBUG_LOCKED = s.acl.debugLocked := by
  simp only [State.fusesShown, State.flag, State.putB, State.put_acl]
  rw [State.put_get_addr _ _ _ _ (by decide), State.put_get_self _ _ _ (by decide)]
  cases s.acl.debugLocked <;> rfl

/-! ### The clauses -/

theorem exec_resetRelease_leaves {s : State} (hr : s.pow.running = false) (hl : s.pow.supplyLow = false) (hs : s.pow.stby = true)
    (hd : s.pow.driving = false ∨ s.flag F.GLB_STATUS_THERMTRIP = true) : ∃ t, exec .resetRelease s = .next t ∧
    t.pow.running = true ∧ t.pow.releasedAt = s.clk.now ∧ t.acl.romWaits = bit (s.get F.GLB_STRAP_CODE) 0 ∧ t.pdState 63 = 2 ∧
    t.flag F.GLB_FUSE_STATUS_LOADED = true ∧ t.get F.FAB_UID_LO_UID_LO + t.get F.FAB_UID_HI_UID_HI * 2 ^ 32 = s.acl.uid.toNat ∧
    t.flag F.ACW_SEC_STATUS_DEBUG_LOCKED = s.acl.debugLocked ∧ t.pending = s.pending ∧ t.clk.now = s.clk.now ∧ t.clk.fab = s.clk.fab := by
  obtain ⟨a, ha⟩ : ∃ a, a = s.releaseStart := ⟨_, rfl⟩
  obtain ⟨b, hb⟩ : ∃ b, b = a.strapFaultShown := ⟨_, rfl⟩
  obtain ⟨c, hc⟩ : ∃ c, c = b.fusesShown := ⟨_, rfl⟩
  obtain ⟨t, ht⟩ : ∃ t, t = c.coreRefFirst := ⟨_, rfl⟩
  obtain ⟨aacl, apow, apend, anow, afab⟩ := s.releaseStart_rest
  obtain ⟨bacl, bpow, bpend, bclk⟩ := a.strapFaultShown_rest
  obtain ⟨cacl, cpow, cpend, cclk⟩ := b.fusesShown_rest
  obtain ⟨tacl, tpow, tpend, tclk⟩ := c.coreRefFirst_rest
  rw [← ha] at aacl apow apend anow afab
  rw [← hb] at bacl bpow bpend bclk
  rw [← hc] at cacl cpow cpend cclk
  rw [← ht] at tacl tpow tpend tclk
  have hpow : t.pow = { s.pow with running := true, releasedAt := s.clk.now } := by rw [tpow, cpow, bpow, apow]
  have hget (f : Fld) (h1 : f.addr ≠ 0x200) : t.get f = c.get f := by rw [ht, State.coreRefFirst_get _ h1]
  have hget' (f : Fld) (h1 : f.addr ≠ 0x200) (h2 : f.addr ≠ 0x10) (h3 : f.addr < 0x140008) : t.get f = a.get f := by
    rw [hget f h1, hc, State.fusesShown_get _ h3, hb, State.strapFaultShown_get _ h2]
  refine ⟨_, exec_resetRelease_eq hr hl hs hd ha hb hc ht, ?run, ?at_, ?rom, ?pd, ?loaded, ?uid, ?lock, ?pending, ?now, ?fab⟩
  case run => exact congrArg Pow.running hpow
  case at_ => exact congrArg Pow.releasedAt hpow
  case rom =>
    change bit (t.get F.GLB_STRAP_CODE) 0 = _
    rw [hget' _ (by decide) (by decide) (by decide), ha, State.releaseStart_get _ (by decide) (by decide) (by decide) (by decide)]
  case pd =>
    change t.get (F.GLB_PD_STATE_STATE 63) = 2
    rw [hget' _ (by decide) (by decide) (by decide), ha]
    exact s.releaseStart_pdState
  case loaded =>
    change (t.get F.GLB_FUSE_STATUS_LOADED != 0) = true
    rw [hget' _ (by decide) (by decide) (by decide), ha]
    exact s.releaseStart_loaded
  case uid =>
    change t.get F.FAB_UID_LO_UID_LO + t.get F.FAB_UID_HI_UID_HI * 2 ^ 32 = _
    rw [hget _ (by decide), hget _ (by decide), hc, State.fusesShown_uid, bacl, aacl]
  case lock =>
    change (t.get F.ACW_SEC_STATUS_DEBUG_LOCKED != 0) = _
    rw [hget _ (by decide), hc]
    exact b.fusesShown_debugLocked.trans (by rw [bacl, aacl])
  case pending => exact (tpend.trans (cpend.trans (bpend.trans apend)))
  case now =>
    change t.clk.now = _
    rw [tclk, cclk, bclk, anow]
  case fab =>
    change t.clk.fab = _
    rw [tclk, cclk, bclk, afab]

theorem exec_pdOn_ready {s u : State} {d : Pd} (hd : d.val < 62) (hr : s.pow.running = true) (ht : s.flag F.GLB_STATUS_THERMTRIP = false)
    (hq : s.flag (F.GLB_PD_STATE_REQ d) = true) (h2 : s.pdState d ≠ 2) (h3 : s.pdState d ≠ 3) (hy : s.pdReady d = true)
    (hu : u = ((s.put (F.GLB_PD_STATE_STATE d) 2).putB (F.GLB_PD_STATE_ISO d) false).pdInit d) :
    exec (.pdOn d) s = .next (u.raiseEnd (fun a => a.opcode == 0x0D01 && a.obj == d.val && a.mode == 1) 0x00 0x8010 0 scDev
      [d.val, u.clk.now - SMap.get (fun _ => 0) u.pow.reqAt d]) := by
  refine congrArg Host.Outcome.next ((if_neg ?_).trans ?_)
  · simp [Nat.not_le.mpr hd, hr, ht, hq, h2, h3, hy]
  · simp only [← hu]

theorem exec_pdOff_asked {s u : State} {d : Pd} (hd : d.val < 62) (hq : s.flag (F.GLB_PD_STATE_REQ d) = false) (h0 : s.pdState d ≠ 0)
    (h3 : s.pdState d ≠ 3) (hu : u = ((s.pdGone d).put (F.GLB_PD_STATE_STATE d) 0).putB (F.GLB_PD_STATE_ISO d) true) :
    exec (.pdOff d) s = .next (u.raiseEnd (fun a => a.opcode == 0x0D01 && a.obj == d.val && a.mode == 0) 0x00 0x8011 0 scDev
      [d.val, if s.flag F.GLB_STATUS_THERMTRIP then 4 else if s.pow.offBySet.contains d.val then 1 else 2]) := by
  refine congrArg Host.Outcome.next ((if_neg ?_).trans ?_)
  · simp [Nat.not_le.mpr hd, hq, h0, h3]
  · simp only [← hu]

theorem exec_pdFault_rising {s u w : State} {d : Pd} {hot : Bool} (hd : d.val < 62) (hq : s.flag (F.GLB_PD_STATE_REQ d) = true) (h2 : s.pdState d ≠ 2)
    (h3 : s.pdState d ≠ 3)
    (hu : u = (((s.put (F.GLB_PD_STATE_STATE d) 3).putB (F.GLB_PD_STATE_ISO d) true).bump (F.GLB_PD_STATE_FAULTS d)).putB (F.GLB_PD_STATE_REQ d) false)
    (hw : w = if d.val < 48 then u.leaveHeld (d.val % 16) else u) :
    exec (.pdFault d hot) s = .next ((w.raise 0x00 0x8012 4 scDev [d.val, if hot then 2 else 1]).endAsync
      (fun a => a.opcode == 0x0D01 && a.obj == d.val) .hwFault (some w.evs.next)) := by
  refine congrArg Host.Outcome.next ((if_neg ?_).trans ?_)
  · simp [Nat.not_le.mpr hd, hq, h2, h3]
  · simp only [← hu, ← hw]

theorem exec_blockResetDone_eq {s u : State} {c k : Nat} (h : s.pow.block = some (c, k)) (hu : u = { s with pow := { s.pow with block := none } }) :
    exec .blockResetDone s = .next (if c < 0x10 then u.kickStn k else u) := by
  dsimp only at hu
  change execBlockResetDone s = _
  simp only [execBlockResetDone, h, ← hu]

theorem exec_refclkLost_eq {s a b : State} {q : Quad} (h : bit (s.get F.GLB_CLK_STATUS_REFCLK_OK) q = true)
    (ha : a = (s.put F.GLB_CLK_STATUS_REFCLK_OK (setBit (s.get F.GLB_CLK_STATUS_REFCLK_OK) q false)).bump F.GLB_XING_CNT_REFCLK_LOSSES)
    (hb : b = { a with pow := { a.pow with lostAt := SMap.set (fun _ => 0) a.pow.lostAt q (a.clk.now + 1) } }) :
    exec (.refclkLost q) s = .next ((quadBanks q).foldl (fun s st => s.pllLost st) (b.raise 0x00 0x8020 3 scDev [q.val, dieMask q,
      if b.flag F.GLB_STATUS_CORE_REF_INT = false ∧ b.get F.GLB_CLK_STATUS_CORE_REF = q.val then 1 else 0])) := by
  dsimp only at hb
  refine congrArg Host.Outcome.next ((if_neg (by simp [h])).trans ?_)
  simp only [← ha, ← hb, Bool.and_eq_true, Bool.not_eq_true', beq_iff_eq]

theorem exec_refclkRestored_eq {s a u : State} {q : Quad} {was : Nat} (h : bit (s.get F.GLB_CLK_STATUS_REFCLK_OK) q = false)
    (hwas : was = SMap.get (fun _ => 0) s.pow.lostAt q)
    (ha : a = { s.put F.GLB_CLK_STATUS_REFCLK_OK (setBit (s.get F.GLB_CLK_STATUS_REFCLK_OK) q true) with
      pow := { s.pow with lostAt := SMap.set (fun _ => 0) s.pow.lostAt q 0 } })
    (hu : u = if was = 0 then a else a.raise 0x00 0x8021 1 scDev [q.val, s.clk.now + 1 - was, dieMask q]) :
    exec (.refclkRestored q) s = .next ((quadBanks q).foldl (fun s st =>
      if s.started st && !s.pllLocked st then (s.beginSeries st).kickStn st else s) u) := by
  have hclk : (s.put F.GLB_CLK_STATUS_REFCLK_OK (setBit (s.get F.GLB_CLK_STATUS_REFCLK_OK) q true)).clk = s.clk := rfl
  rw [← hclk] at hu
  dsimp only at ha
  refine congrArg Host.Outcome.next ((if_neg (by simp [h])).trans ?_)
  simp only [State.put_pow, ← hwas, ← ha, ← hu]

theorem exec_corePllSwitch_to {s : State} {q : Quad} (hr : s.pow.running = true) (hq : bit (s.get F.GLB_CLK_STATUS_REFCLK_OK) q = true)
    (h : s.flag F.GLB_STATUS_CORE_REF_INT = true ∨
      bit (s.get F.GLB_CLK_STATUS_REFCLK_OK) (s.get F.GLB_CLK_STATUS_CORE_REF) = false ∧ s.nextRef = some q.val) :
    exec (.corePllSwitch (some q)) s =
      .next (((s.put F.GLB_CLK_STATUS_CORE_REF q).putB F.GLB_CLK_STATUS_CORE_LOCK true).putB F.GLB_STATUS_CORE_REF_INT false) := by
  refine congrArg Host.Outcome.next ((if_neg (by simp [hr])).trans (if_pos ?_))
  rcases h with h | ⟨h1, h2⟩
  · simp [hq, h]
  · simp [hq, h1, h2]

theorem exec_stationClockStop_quiet {s : State} {st : Stn} (hp : ∀ p ∈ s.stnPorts st, s.stage p = stOFF ∨ 3 ≤ s.get (F.STN_PORT_STATUS_PM st (kOf p)))
    (hq : ∀ x ∈ (s.bank st).qs, x.2.recs = []) (hb : ∀ x ∈ (s.bstn st).queues, x.2 = []) :
    exec (.stationClockStop st) s = .next (s.put F.GLB_CLK_STATUS_STN_CLK_RUN (setBit (s.get F.GLB_CLK_STATUS_STN_CLK_RUN) st false)) := by
  have h1 : ((s.stnPorts st).all fun p => s.stage p == stOFF || decide (3 ≤ s.get (F.STN_PORT_STATUS_PM st (kOf p)))) = true := by simpa using hp
  have h2 : ((s.bank st).qs.all fun x => x.2.recs.isEmpty) = true := by simpa using hq
  have h3 : ((s.bstn st).queues.all fun x => x.2.isEmpty) = true := by simpa using hb
  exact congrArg Host.Outcome.next (if_pos (by rw [h1, h2, h3]; rfl))

theorem exec_subsoilBaseUpdate_eq {s : State} (hr : s.pow.running = true) : exec .subsoilBaseUpdate s =
    .next (State.putB { s with pow := { s.pow with baseNs := s.clk.fab, baseTicks := s.ssTicks } } F.GLB_RESET_CAUSE_TIME_VALID true) :=
  congrArg Host.Outcome.next (if_neg (by simp [hr]))

/-- Settles O39, event by event. -/
theorem domainsAndClocks : Obligations.DomainsAndClocks := by
  unfold Obligations.DomainsAndClocks
  intro s u d q st
  refine ⟨exec_resetRelease_leaves, exec_pdOn_ready, exec_pdOff_asked, fun hot w => exec_pdFault_rising, fun c k => exec_blockResetDone_eq,
    fun a b => exec_refclkLost_eq, fun was a => exec_refclkRestored_eq, exec_corePllSwitch_to, ?internal, ?wake, exec_stationClockStop_quiet,
    exec_subsoilBaseUpdate_eq⟩
  case internal => exact fun hr h0 => congrArg Host.Outcome.next ((if_neg (by simp [hr])).trans (if_pos h0))
  case wake => exact fun hb hp => congrArg Host.Outcome.next (if_neg (by simp [hb, hp]))

end Sys2Proof.Machine
end

section
/-!
PROOF. Live Seam links (R250, R254): what a link that is in ACTIVE is, and a flit that its receiver can read and one that it cannot.
-/

namespace Sys2Proof.Machine

theorem State.seamLive_iff {s : State} {st : Nat} : s.seamLive st = true ↔ s.seamMode st = true ∧ s.stage (9 * st) = stACTIVE := by
  simp [State.seamLive]

theorem State.rxFlit_ok {s u : State} {st : Nat} {flips : List (Fin 256 × B8)} (take : State → State) (hl : s.seamLive st = true)
    (hok : (flitRead flips).ok = true) (hu : u = s.takeFixes st (flitRead flips).fixed) : s.rxFlit st flips take = take u := by
  subst hu
  exact (if_neg (by simp [hl])).trans (if_pos hok)

theorem State.rxFlit_bad {s u : State} {st : Nat} {flips : List (Fin 256 × B8)} (take : State → State) (hl : s.seamLive st = true)
    (hok : (flitRead flips).ok = false) (hu : u = s.takeFixes st (flitRead flips).fixed) : s.rxFlit st flips take = u.badFlit st := by
  subst hu
  exact (if_neg (by simp [hl])).trans (if_neg (by simp [hok]))

end Sys2Proof.Machine
end

section
/-!
PROOF. O40 SeamFlits: the flits of a live Seam link, its replay, and the records it sends (R250 to R265, R271).
-/

namespace Sys2Proof.Machine

section
variable {s u : State} {st : Stn} (hl : s.seamLive st = true)
include hl

theorem exec_seamDataFlit_ok {h : FlitHdr} (starts : List RecStart) (ends : List RecEnd) {d : Nat} (hok : (flitRead h.flips).ok = true)
    (hu : u = (s.takeFixes st (flitRead h.flips).fixed).takeHdr st h) (hd : d = (h.seq + 4096 - u.get (F.STN_SEAM_RXSEQ_EXPECTED st)) % 4096) :
    exec (.seamDataFlit st h starts ends) s = .next (if d = 0 then u.acceptFlit st starts ends
      else if 1536 ≤ d ∧ d < 2560 then u.seqErr st 1 h.seq
      else if u.flag (F.STN_SEAM_RXSEQ_NAK_SENT st) then u
      else if 2560 ≤ d then u.bump (F.STN_SEAM_CNT_SEQ_DUP st)
      else u.sendNak st) := by
  subst hd hu
  exact congrArg Host.Outcome.next (State.rxFlit_ok _ hl hok rfl)

theorem exec_seamIdleFlit_ok {h : FlitHdr} {d : Nat} (hok : (flitRead h.flips).ok = true) (hu : u = (s.takeFixes st (flitRead h.flips).fixed).takeHdr st h)
    (hd : d = (h.seq + 4096 - u.get (F.STN_SEAM_RXSEQ_EXPECTED st)) % 4096) :
    exec (.seamIdleFlit st h) s = .next (if 1 ≤ d ∧ d < 1536 then u.sendNak st else u) := by
  subst hd hu
  exact congrArg Host.Outcome.next (State.rxFlit_ok _ hl hok rfl)

theorem exec_seamBypassFlit_ok {h : FlitHdr} (msgs : List (Fin 256 × BMsg)) (hok : (flitRead h.flips).ok = true)
    (hu : u = ((s.takeFixes st (flitRead h.flips).fixed).takeHdr st h).lostTail st h.seq) :
    exec (.seamBypassFlit st h msgs) s = .next ((msgs.take 14).foldl (fun s m =>
      if s.seamLive st = true ∧ s.get (F.STN_SEAM_RXSEQ_BEXP st) = m.1.val then
        (s.put (F.STN_SEAM_RXSEQ_BEXP st) ((m.1.val + 1) % 256)).takeMsg st m.2 else s) u) := by
  subst hu
  refine congrArg Host.Outcome.next ((State.rxFlit_ok _ hl hok rfl).trans ?_)
  simp only [Bool.and_eq_true, beq_iff_eq]

theorem exec_flit_bad {h : FlitHdr} (starts : List RecStart) (ends : List RecEnd) (msgs : List (Fin 256 × BMsg)) {v : State}
    (hok : (flitRead h.flips).ok = false) (hu : u = s.takeFixes st (flitRead h.flips).fixed)
    (hv : v = ((u.bump (F.STN_SEAM_CNT_RX_BAD_FLITS st)).count st 0x0D 16 0 0 1).sendNak st) :
    exec (.seamDataFlit st h starts ends) s = .next v ∧ exec (.seamIdleFlit st h) s = .next v ∧ exec (.seamBypassFlit st h msgs) s = .next v := by
  have hbad (take : State → State) : s.rxFlit st h.flips take = v := (State.rxFlit_bad take hl hok hu).trans hv.symm
  exact ⟨congrArg Host.Outcome.next (hbad _), congrArg Host.Outcome.next (hbad _), congrArg Host.Outcome.next (hbad _)⟩

theorem exec_seamTrainFlit_active (b : TrainBlk) : exec (.seamTrainFlit st b) s = .next (s.seamDown st slPartner) := by
  obtain ⟨hm, ha⟩ := State.seamLive_iff.mp hl
  exact congrArg Host.Outcome.next ((if_neg (by simp [hm])).trans (if_pos ha))

theorem exec_replayTimerExpiry_idle (hs : (s.seam st).store ≠ []) (hr : (s.seam st).replayFrom = none)
    (hu : u = s.put (F.STN_SEAM_TXSEQ_REPLAY_CNT st) (s.get (F.STN_SEAM_TXSEQ_REPLAY_CNT st) + (if (s.seam st).subTx.isSome then 0 else 1))) :
    exec (.replayTimerExpiry st) s = .next (
      if 4 ≤ s.get (F.STN_SEAM_TXSEQ_REPLAY_CNT st) + (if (s.seam st).subTx.isSome then 0 else 1) then u.seamDown st slReplay
      else u.replay st (u.ackNext st) 1) := by
  subst hu
  exact congrArg Host.Outcome.next ((if_neg (by simp [hl, hs])).trans (if_neg (by simp [hr])))

theorem exec_replayTimerExpiry_replaying (hs : (s.seam st).store ≠ []) (hr : (s.seam st).replayFrom ≠ none) :
    exec (.replayTimerExpiry st) s = .next (s.modSeam st fun x => { x with expiryWaits := true, ackedSince := false }) :=
  congrArg Host.Outcome.next ((if_neg (by simp [hl, hs])).trans (if_pos (Option.isSome_iff_ne_none.mpr hr)))

theorem exec_replayEnd_ok {k : Nat} {v : State} (hr : (s.seam st).replayFrom = some k)
    (hv : v = ((s.seam st).store.filter fun f => decide ((f.seq + 4096 - k) % 4096 < 2048)).foldl (fun s f => s.flitOut st f) s)
    (hu : u = (v.modSeam st fun y => { y with replayFrom := none, expiryWaits := false }).putB (F.STN_SEAM_STATUS_REPLAYING st) false) :
    exec (.replayEnd st true) s = .next (if (s.seam st).expiryWaits = true ∧ (s.seam st).ackedSince = false ∧ (s.seam st).store ≠ [] then u.timerExpiry st
      else u) := by
  refine congrArg Host.Outcome.next ((if_neg (by simp [hl, hr])).trans ((if_neg (by simp)).trans ?_))
  simp only [hr, Option.getD_some, ← hv, ← hu, Bool.and_eq_true, Bool.not_eq_true', List.isEmpty_eq_false_iff, and_assoc]

theorem exec_replayEnd_storeBad {k : Nat} (hr : (s.seam st).replayFrom = some k) : exec (.replayEnd st false) s = .next (s.seamDown st slStore) :=
  congrArg Host.Outcome.next ((if_neg (by simp [hl, hr])).trans (if_pos rfl))

theorem exec_bypassResend_again {ms : List SentMsg} (hms : ms = (s.seam st).msgs) (hne : ms ≠ []) (h8 : ∀ m ∈ ms, m.sends < 8)
    (hu : u = (s.bumpN (F.STN_SEAM_CNT_MISC_BYP_RETX st) ms.length).modSeam st
      (fun x => { x with msgs := x.msgs.map fun m => { m with sends := m.sends + 1 } })) :
    exec (.bypassResend st) s = .next (ms.foldl (fun s m => s.emit (.seam st (bmsgFields m.msg).1 (m.bseq :: (bmsgFields m.msg).2))) u) := by
  subst hms hu
  exact congrArg Host.Outcome.next ((if_neg (by simp [hl, hne])).trans (if_neg (by simpa using h8)))

theorem exec_bypassResend_over (h : ∃ m ∈ (s.seam st).msgs, 8 ≤ m.sends) : exec (.bypassResend st) s = .next (s.seamDown st slBypass) := by
  have hne : (s.seam st).msgs ≠ [] := by
    obtain ⟨m, hm, -⟩ := h
    exact List.ne_nil_of_mem hm
  exact congrArg Host.Outcome.next ((if_neg (by simp [hl, hne])).trans (if_pos (by simpa using h)))

end

/-! ### Records sent -/

section
variable {s u : State} {st : Stn} {c : Fin 4} {phys : ReadPhys} {cuts : List (Fin 57)} {n : Nat} {r0 r k : Rec} {b : Bytes} {parts : List Bytes}
  {x : State × HeadRead} {mark : Bool} (ht : s.seamTurn st = some c.val) (hr0 : s.seamHead st c = some r0) (hr : r = r0.onSeam)
  (hb : b = recStream (s.carriage st c r) r.tlp) (hp : parts = startParts r.committed cuts b) (hlen : parts.flatten.length < b.length)
  (hroom : (s.seam st).store.length + parts.length + seamFlits r.rlen ≤ 1536) (hx : x = s.readHead st (58 + c.val) phys)
include ht hr0 hr hb hp hlen hroom hx

theorem exec_seamRecordStart_early (he : x.2.early = true) :
    exec (.seamRecordStart st c phys cuts) s = .next ((x.1.integrityDiscard r0 st (58 + c.val) 2).retrySeals st) := by
  have hfit : ¬ (b.length ≤ parts.flatten.length ∨ 1536 < (s.seam st).store.length + parts.length + seamFlits r.rlen) := by omega
  refine congrArg Host.Outcome.next ((if_neg (by simp [ht])).trans ?_)
  simp only [hr0, ← hr, ← hb, ← hp, if_neg hfit, ← hx, if_pos he]

section
variable (hn : n = seamUnits r.rlen) (hk : k = x.1.headOf st (58 + c.val) r0) (hm : mark = (!(phys.sound && tagFits k.onSeam.btag k.onSeam.tlp)))
  (hu : u = (x.1.takeUnits st c n).bumpN (F.STN_SEAM_SHORT_SHORT_FLITS st) (parts.filter fun y => decide (y.length < 228)).length)
  (he : x.2.early = false)
include hn hk hm hu he

theorem exec_seamRecordStart_begun : exec (.seamRecordStart st c phys cuts) s = .next (
    if x.2.lost then (u.seamSend st c (r.cutTo x.2.good) n b.length cuts true).retrySeals st
    else if r.committed then (u.seamLeave st c k.onSeam n b.length cuts mark).retrySeals st
    else ((u.modBank st (fun b => b.setQ (58 + c.val) { b.q (58 + c.val) with recs := (b.q (58 + c.val)).recs.set 0 { k with marked := mark } })).pushFlits
      st c n none false parts).modSeam st fun x => { x with txOpen := some { cls := c.val, left := b.length - parts.flatten.length } }) := by
  have hfit : ¬ (b.length ≤ parts.flatten.length ∨ 1536 < (s.seam st).store.length + parts.length + seamFlits r.rlen) := by omega
  refine congrArg Host.Outcome.next ((if_neg (by simp [ht])).trans ?_)
  simp only [hr0, ← hr, ← hb, ← hp, if_neg hfit, ← hx, he, Bool.false_eq_true, if_false, ← hn, ← hk, ← hm, ← hu]

end
end

theorem State.seamAbandon_open {s u : State} {st cause : Nat} {t : TxOpen} (ht : (s.seam st).txOpen = some t)
    (hc : ((((s.bank st).q (58 + t.cls)).recs.head?).map Rec.committed).getD false = false)
    (hu : u = (((s.modSeam st fun x => { x with txOpen := none }).pushFlits st t.cls 0 none true (chunks 12 (List.replicate t.left 0))).bump
      (F.STN_SEAM_CNT_MARK_MARKED_TX st))) :
    s.seamAbandon st cause = u.raiseLim ms100 st (srcStn st) 0x5040 1 (scPort (9 * st)) 0 [cause, t.cls] := by
  simp only [State.seamAbandon, ht, hc, Bool.false_eq_true, if_false, ← hu]

/-- Settles O40, event by event. -/
theorem seamFlits_settled : Obligations.SeamFlits := by
  unfold Obligations.SeamFlits
  intro s u st h hl
  refine ⟨fun starts ends d => exec_seamDataFlit_ok hl starts ends, fun d => exec_seamIdleFlit_ok hl, exec_seamBypassFlit_ok hl,
    fun starts ends msgs v => exec_flit_bad hl starts ends msgs, ?badFlit, exec_seamTrainFlit_active hl, exec_replayTimerExpiry_idle hl,
    exec_replayTimerExpiry_replaying hl, ?replayEnd, fun ms => exec_bypassResend_again hl, exec_bypassResend_over hl, ?start, ?abandoned⟩
  case badFlit => exact congrArg Host.Outcome.next (if_pos hl)
  case replayEnd => exact fun k v hr hv hu => ⟨exec_replayEnd_ok hl hr hv hu, exec_replayEnd_storeBad hl hr⟩
  case start =>
    intro c phys cuts n r0 r k b parts x mark ht hr0 hr hb hp hlen hroom hx hn hk hm hu
    have begun := exec_seamRecordStart_begun ht hr0 hr hb hp hlen hroom hx hn hk hm hu
    refine ⟨exec_seamRecordStart_early ht hr0 hr hb hp hlen hroom hx, fun he hlost => (begun he).trans ?lost, fun he hlost hc => (begun he).trans ?whole,
      fun w he hlost hc hw => (begun he).trans ?open_⟩
    case lost => rw [if_pos hlost]
    case whole => rw [if_neg (by simp [hlost]), if_pos hc]
    case open_ => rw [if_neg (by simp [hlost]), if_neg (by simp [hc]), ← hw]
  case abandoned => exact fun t ht hc hu => congrArg Host.Outcome.next (State.seamAbandon_open ht hc hu)

end Sys2Proof.Machine
end

section
/-!
PROOF. O41 SeamTimers: the timers of a live Seam link and its lane substitution (R260 to R268, R271 to R273, R299).
-/

namespace Sys2Proof.Machine

theorem exec_onoffResyncTimer_off {s : State} {st : Stn} (hl : s.seamLive st = true) (hf : s.get (F.STN_SEAM_STATUS_FC st) = 2)
    (hh : s.flag (F.STN_SEAM_STATUS_FC_HELD st) = false) (hm : s.flag (F.STN_SEAM_CFG_FC_MODE st) = false) :
    exec (.onoffResyncTimer st) s = .next ((s.put (F.STN_SEAM_STATUS_FC st) 3).bypSend st
      (.resync (Fin.ofNat 4096 (s.get (F.STN_SEAM_RXSEQ_EXPECTED st) + 4095)) (s.rxList st)
        ([0, 1, 2, 3].map fun c => SMap.get (fun _ => 0) (s.seam st).rxFreed c))) :=
  congrArg Host.Outcome.next (if_neg (by simp [hl, hf, hh, hm]))

/-- The lane that the spare stands for, or is to stand for. -/
def State.subLane (s : State) (st : Nat) : Option Nat :=
  match (s.seam st).subRx with
  | some (f, _) => some f
  | none => if s.flag (F.STN_SEAM_STATUS_RX_SUB st) then some (s.get (F.STN_SEAM_STATUS_RX_SUB_LANE st)) else none

theorem exec_seamLaneFault_eq {s u v : State} {st : Stn} {lane : Lane} {lock : Bool} {cur : Option Nat} (hl : s.seamLive st = true)
    (hcur : cur = s.subLane st) (hne : cur ≠ some lane.val) (h16 : lane.val = 16 → cur ≠ none)
    (hf : lock = true ∨ s.manyFixes st (if lane.val = 16 then cur.getD 16 else lane.val) = true)
    (hu : u = s.raise (srcStn st) 0x5020 2 (scPort (9 * st.val)) [0, lane.val, b2n (!lock)])
    (hv : v = (u.prbsStop st 16 true).put (F.STN_LN_STATUS_SPARE_ROLE st 16) 2) :
    exec (.seamLaneFault st lane lock) s = .next (if lane.val = 16 then u.spareFailed st 0 16 3 else if cur ≠ none then u.spareFailed st 0 lane.val 2
      else if u.get (F.STN_LN_STATUS_SPARE_ROLE st 16) ≠ 1 then u.spareFailed st 0 lane.val 4
      else (v.modSeam st fun x => { x with subRx := some (lane.val, v.clk.now) }).bypSend st (.spareReq (Fin.ofNat 16 lane.val))) := by
  have hg : (!s.seamLive st || cur == some lane.val || (lane.val == 16 && cur.isNone)
      || !(lock || s.manyFixes st (if lane.val = 16 then cur.getD 16 else lane.val))) = false := by
    have h1 : (cur == some lane.val) = false := by simpa using hne
    have h2 : (lane.val == 16 && cur.isNone) = false := by simpa [Option.isSome_iff_ne_none] using h16
    have h3 : (lock || s.manyFixes st (if lane.val = 16 then cur.getD 16 else lane.val)) = true := by simpa using hf
    rw [hl, h1, h2, h3]; rfl
  have hstep : exec (.seamLaneFault st lane lock) s = .next (if !s.seamLive st || cur == some lane.val || (lane.val == 16 && cur.isNone)
        || !(lock || s.manyFixes st (if lane.val = 16 then cur.getD 16 else lane.val)) then s
      else if lane.val = 16 then u.spareFailed st 0 16 3 else if cur.isSome then u.spareFailed st 0 lane.val 2
      else if u.get (F.STN_LN_STATUS_SPARE_ROLE st 16) ≠ 1 then u.spareFailed st 0 lane.val 4
      else (v.modSeam st fun x => { x with subRx := some (lane.val, v.clk.now) }).bypSend st (.spareReq (Fin.ofNat 16 lane.val))) := by
    subst hcur hu hv
    rfl
  rw [hstep, if_neg (by rw [hg]; decide)]
  simp only [Option.isSome_iff_ne_none]

theorem exec_seamSpareSubst_eq {s u : State} {st : Stn} {f t : Nat} (hl : s.seamLive st = true) (h : (s.seam st).subRx = some (f, t))
    (hu : u = (((s.putB (F.STN_SEAM_STATUS_RX_SUB st) true).put (F.STN_SEAM_STATUS_RX_SUB_LANE st) f).bump (F.STN_SEAM_CNT_MISC_SUBST st)).modSeam st
      (fun x => { x with subRx := none })) :
    exec (.seamSpareSubst st) s =
      .next ((u.bypSend st (.spareDone (Fin.ofNat 16 f))).raise (srcStn st) 0x5021 1 (scPort (9 * st.val)) [0, f, u.clk.now - t]) := by
  change execSeamSpareSubst st s = _
  simp only [execSeamSpareSubst, h, hl, Bool.not_true, Bool.false_eq_true, if_false, ← hu]

theorem exec_seamSpareFailed_eq {s : State} {st : Stn} {f t : Nat} (hl : s.seamLive st = true) (h : (s.seam st).subRx = some (f, t)) :
    exec (.seamSpareFailed st) s = .next ((s.raise (srcStn st) 0x5022 3 (scPort (9 * st.val)) [0, f, 1]).seamDown st slLane) := by
  change execSeamSpareFailed st s = _
  simp only [execSeamSpareFailed, h, hl, if_true, State.spareFailed]

theorem exec_timeExchangeTimer_parent {s : State} {st : Stn} (t1 : Nat) (hp : s.get F.FAB_TIME_STAT_PARENT = st.val) (ht : s.timePaused st = false) :
    exec (.timeExchangeTimer t1) s = .next (s.bypSend st (.timeReq t1)) := by
  have hst : st.val < 16 := st.isLt
  change execTimeExchangeTimer t1 s = _
  simp only [execTimeExchangeTimer, hp]
  rw [if_neg (by simp [ht])]

theorem State.timeUnlock_locked {s u : State} (cause : Nat) (h : s.get F.FAB_TIME_STAT_SYNC = 2)
    (hu : u = { s with fab := { s.fab with small := 0, large := 0 } }) :
    s.timeUnlock cause = (u.put F.FAB_TIME_STAT_SYNC 1).raise 0x06 0x5121 2 u.fabScope [cause, u.get F.FAB_TIME_STAT_OFFSET] := by
  have hs : u.get F.FAB_TIME_STAT_SYNC = 2 := by rw [hu]; exact h
  dsimp only at hu
  simp only [State.timeUnlock, ← hu, hs, if_true]

/-- Settles O41, event by event. -/
theorem seamTimers : Obligations.SeamTimers := by
  unfold Obligations.SeamTimers
  intro s u st hl
  obtain ⟨hm, ha⟩ := State.seamLive_iff.mp hl
  refine ⟨?audit, exec_onoffResyncTimer_off hl, ?ackTimeout, fun lane lock cur v => exec_seamLaneFault_eq hl, ?spare, ?lockLost, ?dead, ?probe,
    fun t1 => exec_timeExchangeTimer_parent t1, ?timeLoss⟩
  case audit => exact fun h => congrArg Host.Outcome.next (if_neg (by simp [h]))
  case ackTimeout => exact fun h => congrArg Host.Outcome.next (if_pos h)
  case spare => exact fun f t h hu => ⟨exec_seamSpareSubst_eq hl h hu, exec_seamSpareFailed_eq hl h⟩
  case lockLost => exact congrArg Host.Outcome.next (if_pos hm)
  case dead => exact fun h => congrArg Host.Outcome.next (if_pos (by simp [hm, h]))
  case probe => rfl
  case timeLoss => exact fun h hu => congrArg Host.Outcome.next (State.timeUnlock_locked 2 h hu)

end Sys2Proof.Machine
end

section
/-!
PROOF. O42 SeamMessages: what each bypass message does on a live Seam link (R262, R263, R266 to R268, R271, R299, R300).
-/

namespace Sys2Proof.Machine

/-- The scope of a fabric event is the node's own identity. -/
theorem State.fabScope_put {s : State} (f : Fld) (v : Nat) (h : F.FAB_ID_NODE_ID.addr ≠ f.addr) : (s.put f v).fabScope = s.fabScope := by
  have hid : (s.put f v).nodeId = s.nodeId := State.put_get_addr _ _ _ _ h
  rw [State.fabScope, State.fabScope, hid]

section
variable {s u : State} {st : Stn}

theorem State.takeSpareReq_first {lane : Nat} (hf : s.flag (F.STN_SEAM_STATUS_TX_SUB st) = false)
    (hu : u = ((s.putB (F.STN_SEAM_STATUS_TX_SUB st) true).put (F.STN_SEAM_STATUS_TX_SUB_LANE st) lane).bump (F.STN_SEAM_CNT_MISC_SUBST st)) :
    s.takeSpareReq st lane = (u.prbsStop st 16 true).modSeam st fun x => { x with subTx := some lane } := by
  subst hu
  exact if_neg (by simp [hf])

theorem State.takeSpareAbort_sent {lane : Nat} (h : (s.seam st).subTx = some lane) (hu : u = s.modSeam st (fun x => { x with subTx := none })) :
    s.takeSpareAbort st lane = if (u.putB (F.STN_SEAM_STATUS_TX_SUB st) false).subst st 0 then u.putB (F.STN_SEAM_STATUS_TX_SUB st) false
      else (u.putB (F.STN_SEAM_STATUS_TX_SUB st) false).spareStart st (if (s.seam st).rate128 then 6 else 5) := by
  have hrate : ((u.putB (F.STN_SEAM_STATUS_TX_SUB st) false).seam st).rate128 = (s.seam st).rate128 := by simp [hu]
  refine (if_pos h).trans ?_
  simp only [← hu, hrate]

section
variable {q : Fin 4096} {cons : List Nat} {d : Nat} (hd : d = (q.val + 4096 - (s.get (F.STN_SEAM_RXSEQ_EXPECTED st) + 4095) % 4096) % 4096)
include hd

theorem State.takeAudit_last (h : d = 0) : s.takeAudit st q cons = s.auditCheck st cons (s.rxList st) := by
  simp only [State.takeAudit, ← hd, if_pos h]

theorem State.takeAudit_later (h1 : 1 ≤ d) (h2 : d < 1536) : s.takeAudit st q cons = s.modSeam st fun x => { x with audit := some (q.val, cons) } := by
  have h0 : d ≠ 0 := by omega
  simp only [State.takeAudit, ← hd, if_neg h0, if_pos h2]

theorem State.takeAudit_earlier (h : 1536 ≤ d) : s.takeAudit st q cons =
    (((s.seam st).rxHist.find? fun x => x.1 == q.val).map fun x => s.auditCheck st cons x.2).getD s := by
  have h0 : d ≠ 0 := by omega
  have h1 : ¬ d < 1536 := by omega
  simp only [State.takeAudit, ← hd, if_neg h0, if_neg h1]
  cases (s.seam st).rxHist.find? fun x => x.1 == q.val <;> rfl

end

theorem State.takeEcho_live {stamp hold rtt tr : Nat} (hl : s.seamLive st = true)
    (hr : rtt = (s.stamp + 2 ^ 32 - stamp % 2 ^ 32) % 2 ^ 32 - hold) (hu : u = s.put (F.STN_SEAM_RTT_RTT_LAST st) (min 2047 rtt))
    (ht : tr = u.get (F.STN_SEAM_RTT_RTT_TRAIN st)) :
    s.takeEcho st stamp hold = if 12 * tr < 10 * rtt then
      u.raiseQuiet 1000000000 st (srcStn st) 0x5041 2 (scPort (9 * st.val)) [tr, min 2047 rtt] else u := by
  refine (if_neg (by simp [hl])).trans ?_
  simp only [← hr, ← hu, ← ht]

theorem State.takeResync_eq {r : Fin 4096} {rx freed at_ : List Nat}
    (ha : at_ = (((s.seam st).store.find? fun f => f.seq == r.val).map SentFlit.cons).getD (s.seam st).relCons)
    (hu : u = s.modSeam st (fun y => { y with
      cons := [0, 1, 2, 3].foldl (fun m c => SMap.set (fun _ => 0) m c ((rx.getD c 0 + s.seamCons st c + 65536 - at_.getD c 0) % 65536)) y.cons,
      freed := [0, 1, 2, 3].foldl (fun m c => SMap.set (fun _ => 0) m c (freed.getD c 0 % 65536)) y.freed })) :
    s.takeResync st r rx freed = u.bypSend st (.resyncAck r) := by
  simp only [State.takeResync, ← ha]
  rw [hu]

end

section
variable {s u a b : State} {st : Stn} {t1 t2 t3 t4 sync small large : Nat} {off : Int} (hp : s.get F.FAB_TIME_STAT_PARENT = st.val)
  (h3 : s.get F.FAB_TIME_STAT_SYNC ≠ 3) (hoff : off = (((t2 : Int) - t1) - ((t4 : Int) - t3)) / 2)
  (hsync : sync = if s.get F.FAB_TIME_STAT_SYNC = 0 then 1 else s.get F.FAB_TIME_STAT_SYNC)
  (ha : a = (s.put F.FAB_TIME_STAT_SYNC sync).put F.FAB_TIME_STAT_OFFSET (off % 65536).toNat)
  (hb : b = if sync = 1 ∧ 4000 < off then { a with clk := { a.clk with fab := a.clk.fab + BitVec.ofNat 64 (off / 4).toNat }, fab := { a.fab with slew := 0 } }
    else { a with fab := { a.fab with slew := off } })
  (hsmall : small = if off.natAbs ≤ 20 then s.fab.small + 1 else 0) (hlarge : large = if 40 < off.natAbs then s.fab.large + 1 else 0)
  (hu : u = { b with fab := { b.fab with small := small, large := large } })
include hp h3 hoff hsync ha hb hsmall hlarge hu

theorem State.takeTimeResp_parent : s.takeTimeResp st t1 t2 t3 t4 = if sync = 1 ∧ 8 ≤ small then
      (u.put F.FAB_TIME_STAT_SYNC 2).raise 0x06 0x5120 0 (u.put F.FAB_TIME_STAT_SYNC 2).fabScope [st.val, (off % 65536).toNat]
    else if sync = 2 ∧ 3 ≤ large then u.timeUnlock 1 else u := by
  have hbs : b.fab.small = s.fab.small ∧ b.fab.large = s.fab.large := by
    rw [hb]
    split <;> simp [ha]
  have hscope : (u.put F.FAB_TIME_STAT_SYNC 2).fabScope = u.fabScope := State.fabScope_put _ _ (by decide)
  rw [← hbs.1] at hsmall
  rw [← hbs.2] at hlarge
  dsimp only at hb hu
  refine (if_neg (by simp [hp, h3])).trans ?_
  simp only [← hoff, ← hsync, ← ha, Bool.and_eq_true, beq_iff_eq, decide_eq_true_eq, ← hb, ← hsmall, ← hlarge, ← hu, hscope]

end

/-- Settles O42, message by message. -/
theorem seamMessages : Obligations.SeamMessages := by
  unfold Obligations.SeamMessages
  intro s u st hl
  have live {x y : State} (h : x = y) : (if (!s.seamLive st) = true then s else x) = y := (if_neg (by simp [hl])).trans h
  refine ⟨?spareReq, ?spareAgain, ?spareEnd, ?audit, ?resyncAck, ?resync, ?probe, ?echo, ?down, ?timeReq, ?timeResp⟩
  case spareReq => exact fun lane hf hu => congrArg Host.Outcome.next (live (State.takeSpareReq_first hf hu))
  case spareAgain => exact fun lane hf => congrArg Host.Outcome.next (live (if_pos hf))
  case spareEnd =>
    refine fun lane h hu => ⟨congrArg Host.Outcome.next (live ?_), fun n => congrArg Host.Outcome.next (live (State.takeSpareAbort_sent h hu))⟩
    subst hu
    exact if_pos h
  case audit =>
    intro q cons d hd
    refine ⟨fun h => congrArg Host.Outcome.next (live (State.takeAudit_last hd h)),
      fun h1 h2 => congrArg Host.Outcome.next (live (State.takeAudit_later hd h1 h2)),
      fun h => congrArg Host.Outcome.next (live ((State.takeAudit_earlier hd h).trans ?_))⟩
    cases (s.seam st).rxHist.find? fun x => x.1 == q.val <;> rfl
  case resyncAck => exact fun r h => congrArg Host.Outcome.next (live (if_pos h))
  case resync => exact fun r rx freed at_ ha hu => congrArg Host.Outcome.next (live (State.takeResync_eq ha hu))
  case probe => exact fun stamp hold => rfl
  case echo => exact fun stamp hold rtt tr hr hu ht => congrArg Host.Outcome.next (live (State.takeEcho_live hl hr hu ht))
  case down => exact fun c => congrArg Host.Outcome.next (live rfl)
  case timeReq => exact fun t1 t2 t3 => rfl
  case timeResp =>
    exact fun t1 t2 t3 t4 sync small large off a b hp h3 hoff hsync ha hb hsmall hlarge hu =>
      congrArg Host.Outcome.next (live (State.takeTimeResp_parent hp h3 hoff hsync ha hb hsmall hlarge hu))

end Sys2Proof.Machine
end

section
/-!
PROOF. O43 Doorbells: what a bound panel's doorbells do (R304, R305, R309, R320).
-/

namespace Sys2Proof.Machine

theorem State.doorbell_bound {s : State} {v : VsId} {n : Panel} (f : State → State) (hr : (s.vs v).f1.responds = true) (hb : s.panelVs n = some v.val) :
    s.doorbell v n f = f s := by
  simp [State.doorbell, hr, hb]

section
variable {s : State} {n : Panel} {v : VsId} {val : B16} (hr : (s.vs v).f1.responds = true) (hb : s.panelVs n = some v.val)
include hr hb

theorem exec_shtDbSqTail_inside (h : val.toNat < s.sqSize n) :
    exec (.shtDbSqTail v n val) s = .next (s.modPnl n fun x => { x with sqTail := val.toNat }) :=
  congrArg Host.Outcome.next ((State.doorbell_bound _ hr hb).trans (if_neg (Nat.not_le.mpr h)))

theorem exec_shtDbSqTail_outside (h : s.sqSize n ≤ val.toNat) : exec (.shtDbSqTail v n val) s = .next (s.badPointer n psBadTail) :=
  congrArg Host.Outcome.next ((State.doorbell_bound _ hr hb).trans (if_pos h))

theorem exec_shtDbCqHead_eq {step avail : Nat} (hs : step = (val.toNat + s.cqSize n - (s.pnl n).cqHead) % s.cqSize n)
    (ha : avail = ((s.pnl n).cqTail + s.cqSize n - (s.pnl n).cqHead) % s.cqSize n) :
    exec (.shtDbCqHead v n val) s = .next (if s.cqSize n ≤ val.toNat ∨ step = 0 ∨ avail < step then s.badPointer n psBadHead
      else (s.modPnl n fun x => { x with cqHead := val.toNat }).goOn n) := by
  refine congrArg Host.Outcome.next ((State.doorbell_bound _ hr hb).trans ?_)
  simp only [← hs, ← ha]

theorem exec_doorbellResumeSkip_halted {k : Nat} (h : s.pState n = pHalted) (hk : k = s.get (F.SHT_PNL_STATE_LAST_STATUS n)) :
    exec (.doorbellResumeSkip v n) s = .next (if k < psBadTail then ((s.endDesc n k).setP n pRunning).goOn n else s.retryPanel n) := by
  refine congrArg Host.Outcome.next ((State.doorbell_bound _ hr hb).trans ((if_pos h).trans ?_))
  simp only [← hk]

section
variable {u : State} {word : B32} {mine : Ev → Bool} {d : List Nat} (hw : word.getLsbD 31 = !(s.pnl n).tmsg.getLsbD 31)
  (hu : u = s.modPnl n (fun x => { x with tmsg := word })) (hm : mine = (fun e => e.code == 0x6005 && e.scope == scPanel n))
  (hd : d = [n.val, v.val, word.toNat])
include hw hu hm hd

theorem exec_tenantMsg_first (h : ∀ e ∈ (u.ram 0x07).held, mine e = false) :
    exec (.tenantMsg v n word) s = .next ((u.raise 0x07 0x6005 1 (scPanel n) d).fire v false ((u.raise 0x07 0x6005 1 (scPanel n) d).get F.SHT_CTL_MSG_VECTOR)) := by
  have hany : (u.ram 0x07).held.any mine = false := by simpa using h
  refine congrArg Host.Outcome.next ((State.doorbell_bound _ hr hb).trans ((if_neg (by rw [hw]; exact Bool.not_ne_self _)).trans ?_))
  simp only [← hu, ← hd, ← hm, hany, Bool.false_eq_true, if_false]

theorem exec_tenantMsg_replaces {r : EvRam} (h : ∃ e ∈ (u.ram 0x07).held, mine e = true)
    (hr' : r = { u.ram 0x07 with held := (u.ram 0x07).held.map (fun e => if mine e then { e with detail := d } else e) }) :
    exec (.tenantMsg v n word) s = .next (State.fire { u with evs := { u.evs with ram := SMap.set (fun _ => {}) u.evs.ram 0x07 r } } v false
      (u.get F.SHT_CTL_MSG_VECTOR)) := by
  have hany : (u.ram 0x07).held.any mine = true := by simpa using h
  have hget : State.get { u with evs := { u.evs with ram := SMap.set (fun _ => {}) u.evs.ram 0x07 r } } F.SHT_CTL_MSG_VECTOR = u.get F.SHT_CTL_MSG_VECTOR :=
    State.get_congr _ rfl _
  subst hu hm hd hr'
  exact congrArg Host.Outcome.next ((State.doorbell_bound _ hr hb).trans ((if_neg (by rw [hw]; exact Bool.not_ne_self _)).trans
    (congrArg₂ (fun x k => State.fire x v false k) (if_pos hany) ((congrArg (fun x => State.get x F.SHT_CTL_MSG_VECTOR) (if_pos hany)).trans hget))))

end
end

/-- Settles O43, doorbell by doorbell. -/
theorem doorbells : Obligations.Doorbells := by
  unfold Obligations.Doorbells
  intro s u v n val hr hb
  refine ⟨exec_shtDbSqTail_inside hr hb, exec_shtDbSqTail_outside hr hb, ?cqHead, ?resume, fun k => exec_doorbellResumeSkip_halted hr hb, ?message, ?same, ?stray⟩
  case cqHead =>
    refine fun step avail hs ha => ⟨fun h1 h2 h3 => ?inside, fun h => ?outside⟩
    case inside => rw [exec_shtDbCqHead_eq hr hb hs ha, if_neg (by omega)]
    case outside => rw [exec_shtDbCqHead_eq hr hb hs ha, if_pos h]
  case resume => exact fun h => congrArg Host.Outcome.next ((State.doorbell_bound _ hr hb).trans (if_pos h))
  case message =>
    exact fun word mine d hw hu hm hd => ⟨exec_tenantMsg_first hr hb hw hu hm hd, fun r => exec_tenantMsg_replaces hr hb hw hu hm hd⟩
  case same => exact fun word h => congrArg Host.Outcome.next ((State.doorbell_bound _ hr hb).trans (if_pos h))
  case stray =>
    intro w hw
    have hne : s.panelVs n ≠ some w.val := fun h => hw (Fin.ext (Option.some.inj (h.symm.trans hb)))
    exact congrArg Host.Outcome.next (if_neg hne)

end Sys2Proof.Machine
end

section
/-!
PROOF. O44 MoverEvents: movers, descriptor fetches and Shuttle reads (R310 to R313, R316 to R318).
-/

namespace Sys2Proof.Machine

/-- The next ready panel after the one that was taken last, round robin. -/
def State.nextReady (s : State) : Option Nat :=
  match s.readyPanels.find? fun n => decide (s.sht.last < n) with
  | some n => some n
  | none => s.readyPanels.head?

theorem exec_moverTake_eq {s u a b : State} {m : Mover} {n : Nat} (hm : (s.mover m).panel = none) (hn : s.nextReady = some n)
    (ha : a = s.modMover m (fun x => { x with panel := some n, left := (s.get (F.SHT_PNL_RING_WEIGHT_M1 n) + 1) * 65536 }))
    (hb : b = State.modThm { a with sht := { a.sht with last := n } } (256 + m.val) (fun x =>
      { x with regions := [[BitVec.ofNat 32 (768 * n), BitVec.ofNat 32 (768 * n + 767), 3, 0]] }))
    (hu : u = (b.putB (F.SHT_MV_STAT_BUSY m) true).put (F.SHT_MV_STAT_PANEL m) n) :
    exec (.moverTake m) s = .next ((u.put F.SHT_BUSY_BUSY (setBit (u.get F.SHT_BUSY_BUSY) m true)).goOn n) := by
  dsimp only at hb
  refine congrArg Host.Outcome.next ((if_neg (by simp [hm])).trans ?_)
  dsimp only
  split
  · next h => cases hn.symm.trans h
  · next k h =>
    obtain rfl : n = k := Option.some.inj (hn.symm.trans h)
    simp only [← ha, ← hb, ← hu]

theorem exec_moverRelease_idle {s : State} {m : Mover} {n : Nat} (hm : (s.mover m).panel = some n) (hr : s.liveReads n = []) (hw : (s.pnl n).rd = (s.pnl n).wr)
    (hd : ∀ d, (s.pnl n).cur = some d → atChunk d (s.pnl n).wr = true ∨ (s.pnl n).wr = 0 ∨ (s.pnl n).wr = (s.pnl n).done)
    (he : (s.mover m).left = 0 ∨ s.pState n ≠ pRunning ∨ (s.pnl n).cur = none ∧ ((s.pnl n).fetched = [] ∨ s.cqFull n = true)) :
    exec (.moverRelease m) s = .next (s.letGo m) := by
  have hend : ((s.mover m).left == 0 || s.pState n != pRunning || ((s.pnl n).cur.isNone && ((s.pnl n).fetched.isEmpty || s.cqFull n))) = true := by
    simpa [or_assoc] using he
  change execMoverRelease m s = _
  simp only [execMoverRelease, hm]
  refine congrArg Host.Outcome.next (if_pos ?_)
  rw [hend]
  cases hc : (s.pnl n).cur with
  | none => simp [hr, hw]
  | some d => simpa [hr, hw, or_assoc] using hd d hc

/-- The fetch of a panel's next descriptor, once the read of its context is over. -/
def State.fetchNext (s : State) (n : Nat) (data : Option Bytes) : State :=
  let x := s.pnl n
  let v := s.pVs n
  let size := s.sqSize n
  let held := x.fetched.length + (if x.cur.isSome then 1 else 0)
  let owned := (x.sqTail + size - s.sqHead n) % size
  if s.pState n = pRunning ∧ s.shtMaster v = true ∧ x.fetched.length < 4 ∧ held < owned then
    let idx := (s.sqHead n + held) % size
    let s := (s.emit (.hostRead v (s.pPasid n + 1) (BitVec.ofNat 64 (s.sqBase n + 64 * idx)) 64)).count 20 0x32 16 0 0 1
    match data with
    | none => s.haltPanel n psRing
    | some d => (s.modPnl n fun x => { x with fetched := x.fetched ++ [slice d 0 64] }).goOn n
  else s

/-- What the read of a panel's context leaves: an uncorrectable word is the panel's internal error. -/
def State.contextRead (s : State) (n : Nat) (upset : Option (Bool × Nat)) : State :=
  match upset with
  | some (cache, word) => s.panelInternal n cache word
  | none => s

theorem State.contextRead_eq (s : State) (n : Nat) (upset : Option (Bool × Nat)) :
    s.contextRead n upset = match upset with
      | some x => s.panelInternal n x.1 x.2
      | none => s := by
  cases upset <;> rfl

theorem exec_descriptorFetch_eq (s : State) (p : Panel) (fixed : Nat) (upset : Option (Bool × Nat)) (data : Option Bytes) :
    exec (.descriptorFetch p fixed upset data) s =
      .next (((s.bumpN F.SHT_CTX_ECC_CORR fixed).contextRead p upset).fetchNext p data) := rfl

section
variable {u : State} {p held idx : Nat} (data : Option Bytes) (hh : held = (u.pnl p).fetched.length + (if (u.pnl p).cur.isSome then 1 else 0))
include hh

theorem State.fetchNext_not (h : u.pState p ≠ pRunning ∨ u.shtMaster (u.pVs p) = false ∨ 4 ≤ (u.pnl p).fetched.length ∨
      ((u.pnl p).sqTail + u.sqSize p - u.sqHead p) % u.sqSize p ≤ held) : u.fetchNext p data = u := by
  rw [State.fetchNext, ← hh]
  refine if_neg ?_
  rintro ⟨h1, h2, h3, h4⟩
  rcases h with h | h | h | h
  · exact h h1
  · exact Bool.false_ne_true (h.symm.trans h2)
  · omega
  · omega

section
variable {w : State} (hi : idx = (u.sqHead p + held) % u.sqSize p) (hr : u.pState p = pRunning) (hm : u.shtMaster (u.pVs p) = true)
  (hf : (u.pnl p).fetched.length < 4) (ho : held < ((u.pnl p).sqTail + u.sqSize p - u.sqHead p) % u.sqSize p)
  (hw : w = (u.emit (.hostRead (u.pVs p) (u.pPasid p + 1) (BitVec.ofNat 64 (u.sqBase p + 64 * idx)) 64)).count 20 0x32 16 0 0 1)
include hi hr hm hf ho hw

theorem State.fetchNext_bad : u.fetchNext p none = w.haltPanel p psRing := by
  simp only [State.fetchNext, ← hh, ← hi, hr, hm, hf, ho, and_self, if_true, ← hw]

theorem State.fetchNext_read (d : Bytes) : u.fetchNext p (some d) = (w.modPnl p fun x => { x with fetched := x.fetched ++ [slice d 0 64] }).goOn p := by
  simp only [State.fetchNext, ← hh, ← hi, hr, hm, hf, ho, and_self, if_true, ← hw]

end
end

/-- A panel's next read may be issued: no fault, no end and no state keeps it. -/
theorem shuttleRead_allowed {s : State} {n : Nat} {d : Bytes} (hv : s.shtMaster (s.pVs n) = true) (he : (s.pnl n).ending = none)
    (hrd : (s.pnl n).rd < dMoves d) (hst : s.pState n = pRunning ∨ s.pState n = pQuiescing ∨ s.pState n = pFreezing) :
    (!s.shtMaster (s.pVs n) || (s.pnl n).ending.isSome || decide (dMoves d ≤ (s.pnl n).rd)
      || !(s.pState n == pRunning || s.pState n == pQuiescing || s.pState n == pFreezing)) = false := by
  have hstate : (s.pState n == pRunning || s.pState n == pQuiescing || s.pState n == pFreezing) = true := by simpa [or_assoc] using hst
  rw [hstate]
  simp [hv, he, hrd]

section
variable {s : State} {m : Mover} {n : Nat} {d : Bytes} {hit : Option OldGrant} (hm : (s.mover m).panel = some n) (hc : (s.pnl n).cur = some d)
  (hv : s.shtMaster (s.pVs n) = true) (he : (s.pnl n).ending = none) (hrd : (s.pnl n).rd < dMoves d)
  (hst : s.pState n = pRunning ∨ s.pState n = pQuiescing ∨ s.pState n = pFreezing)
  (hh : hit = if atChunk d (s.pnl n).rd = true ∨ (s.pnl n).rd = (s.pnl n).done ∧ (s.pnl n).rd = 0 then grantHit d (s.pnl n).revoked else none)
include hm hc hv he hrd hst hh

theorem exec_shuttleReadIssue_revoked {g : OldGrant} (hg : hit = some g) : exec (.shuttleReadIssue m) s = .next (s.revokeAt n g) := by
  have hgo := shuttleRead_allowed hv he hrd hst
  rw [hg] at hh
  change execShuttleReadIssue m s = _
  simp only [execShuttleReadIssue, hm, hc, hgo, Bool.or_eq_true, Bool.and_eq_true, beq_iff_eq, ← hh, Bool.false_eq_true, if_false]

theorem exec_shuttleReadIssue_next (hg : hit = none) : exec (.shuttleReadIssue m) s =
    .next (if atChunk d (s.pnl n).rd = true ∧ (s.pState n = pFreezing ∨ (s.mover m).left = 0) then s else s.issueNext m n d) := by
  have hgo := shuttleRead_allowed hv he hrd hst
  change execShuttleReadIssue m s = _
  simp only [execShuttleReadIssue, hm, hc, hgo, Bool.false_eq_true, if_false, Bool.or_eq_true, Bool.and_eq_true, beq_iff_eq]
  rw [← hh, hg]

end

section
variable {s : State} {m : Mover} {tag : Nat} {r : ShRead} (hr : ((s.mover m).reads.find? fun r => r.tag == tag && r.data.isNone) = some r)
include hr

theorem exec_shuttleReadCompletion_data {u : State} {bs : Bytes} (hd : r.dead = false)
    (hu : u = s.modMover m (fun y => { y with reads := y.reads.map fun q => if q.tag = tag then { q with data := some bs } else q })) :
    exec (.shuttleReadCompletion m tag (some bs)) s = .next (((u.drainReads 64 m r.panel).showReads m).goOn r.panel) := by
  change execShuttleReadCompletion m tag (some bs) s = _
  simp only [execShuttleReadCompletion, hr, hd, Bool.false_eq_true, if_false, ← hu]

theorem exec_shuttleReadCompletion_dead (bs : Bytes) (hd : r.dead = true) : exec (.shuttleReadCompletion m tag (some bs)) s =
    .next ((s.modMover m fun y => { y with reads := y.reads.filter fun q => q.tag != tag }).showReads m) := by
  change execShuttleReadCompletion m tag (some bs) s = _
  simp only [execShuttleReadCompletion, hr, hd, if_true]

theorem exec_shuttleReadCompletion_none : exec (.shuttleReadCompletion m tag none) s = .next (s.readFails m r F.SHT_CPL_ERR_ERRORS) := by
  change execShuttleReadCompletion m tag none s = _
  simp only [execShuttleReadCompletion, hr]

theorem exec_shtCplTimeout_eq : exec (.shtCplTimeout m tag) s =
    .next ((s.raiseLim ms100 r.panel 0x07 0x6006 2 (scPanel r.panel) 0 [r.panel, m.val, r.src]).readFails m r F.SHT_CPL_ERR_TIMEOUTS) := by
  change execShtCplTimeout m tag s = _
  simp only [execShtCplTimeout, hr]

end

theorem exec_flushReadComplete_eq {s u : State} {p : Panel} (ok : Bool) (hf : (s.pnl p).flushing = true)
    (hu : u = s.modPnl p (fun x => { x with flushing := false })) :
    exec (.flushReadComplete p ok) s = .next (if u.pState p = pResetting then u
      else if ok then (u.modPnl p fun x => { x with done := x.wr }).goOn p else (u.bump F.SHT_CPL_ERR_ERRORS).failDesc p psFlush) := by
  subst hu
  exact congrArg Host.Outcome.next (if_neg (by simp [hf]))

/-- Settles O44, event by event. -/
theorem moverEvents : Obligations.MoverEvents := by
  unfold Obligations.MoverEvents
  intro s u m n
  refine ⟨fun a b hm hn => exec_moverTake_eq hm hn, exec_moverRelease_idle, ?fetch, ?issue, fun tag r bs hr => exec_shuttleReadCompletion_data hr,
    fun tag r bs hr => exec_shuttleReadCompletion_dead hr bs,
    fun tag r hr => ⟨exec_shuttleReadCompletion_none hr, exec_shtCplTimeout_eq hr⟩, ?flush, ?holdoff⟩
  case fetch =>
    intro p fixed upset data held idx hu hh hi
    have hfetch : exec (.descriptorFetch p fixed upset data) s = .next (u.fetchNext p data) := by
      rw [exec_descriptorFetch_eq, hu.trans (State.contextRead_eq _ _ _).symm]
    refine ⟨fun h => hfetch.trans (congrArg Host.Outcome.next (State.fetchNext_not data hh h)),
      fun hr hm hf ho => hfetch.trans (congrArg Host.Outcome.next ?_)⟩
    cases data with
    | none =>
      dsimp only
      exact State.fetchNext_bad hh hi hr hm hf ho rfl
    | some d =>
      dsimp only
      exact State.fetchNext_read hh hi hr hm hf ho rfl d
  case issue =>
    intro d hit hm hc hv he hrd hst hh
    cases hg : hit with
    | none => exact exec_shuttleReadIssue_next hm hc hv he hrd hst hh hg
    | some g => exact exec_shuttleReadIssue_revoked hm hc hv he hrd hst hh hg
  case flush =>
    refine fun p hf hu => ⟨fun hp => ⟨?ok, ?bad⟩, fun hp ok => ?resetting⟩
    case ok => rw [exec_flushReadComplete_eq true hf hu, if_neg hp, if_pos rfl]
    case bad => rw [exec_flushReadComplete_eq false hf hu, if_neg hp, if_neg (by decide)]
    case resetting => rw [exec_flushReadComplete_eq ok hf hu, if_pos hp]
  case holdoff => exact fun p h => congrArg Host.Outcome.next (if_pos h)

end Sys2Proof.Machine
end

section
/-!
PROOF. O45 PanelEvents: address translations and the ends of freezes, quiesces and resets (R314, R322, R325, R326).
-/

namespace Sys2Proof.Machine

section
variable {s u : State} {n : Panel} {page phys : B64} {read write w : Bool}
  (hw : ((s.pnl n).atsWait.find? fun x => x.1 == page.toNat / 4096) = some (page.toNat / 4096, w))
  (hu : u = s.modPnl n (fun x => { x with atsWait := x.atsWait.filter fun y => y.1 != page.toNat / 4096 }))
include hw hu

theorem exec_atsTranslation_granted {e : AtsEnt} (ha : (if w then write else read) = true)
    (he : e = { v := u.pVs n, pasid := u.pPasid n, page := page.toNat / 4096, read := read, write := write, phys := phys.toNat / 4096 * 4096 }) :
    exec (.atsTranslation n page true read write phys) s = .next { u with sht := { u.sht with
      atc := (u.sht.atc.filter fun y => !(y.v == e.v && y.pasid == e.pasid && y.page == e.page)) ++ [e] } } := by
  change execAtsTranslation n page true read write phys s = _
  simp only [execAtsTranslation, hw, ha, Bool.and_self, if_true, ← hu]
  rw [he]

theorem exec_atsTranslation_refused : exec (.atsTranslation n page false read write phys) s = .next (u.endSoon n psXlate) := by
  change execAtsTranslation n page false read write phys s = _
  simp only [execAtsTranslation, hw, Bool.false_and, Bool.false_eq_true, if_false, ← hu]

end

theorem exec_atsInvalidateComplete_eq {s : State} {v : VsId} {itag : Nat} {i : Nat × Nat × List (Nat × Nat)}
    (hi : (s.sht.inv.find? fun i => i.1 == v.val && i.2.1 == itag) = some i) (hr : ∀ x ∈ i.2.2, ∀ r ∈ (s.mover x.1).reads, r.tag ≠ x.2) :
    exec (.atsInvalidateComplete v itag) s = .next (State.emit
      { s with sht := { s.sht with inv := s.sht.inv.filter fun j => !(j.1 == v.val && j.2.1 == itag) } } (.ats v 2 (BitVec.ofNat 64 itag))) := by
  have hnone : ¬ (i.2.2.any fun u => (s.mover u.1).reads.any fun r => r.tag == u.2) = true := by
    simp only [List.any_eq_true, beq_iff_eq, not_exists, not_and]
    exact hr
  change execAtsInvalidateComplete v itag s = _
  simp only [execAtsInvalidateComplete, hi, if_neg hnone]

theorem exec_panelFrozen_flush {s : State} {n : Panel} (hf : s.pState n = pFreezing) (hm : s.shtMaster (s.pVs n) = true)
    (ho : (s.pnl n).flushOwed = true) : exec (.panelFrozen n) s = .next (s.payFlush n) :=
  congrArg Host.Outcome.next ((if_neg (by simp [hf, hm])).trans (if_pos ho))

theorem exec_panelFrozen_done {s u : State} {n : Panel} {x : PanelSt} (hx : x = s.pnl n) (hf : s.pState n = pFreezing) (hm : s.shtMaster (s.pVs n) = true)
    (ho : x.flushOwed = false) (hr : s.anyRead n = false) (hl : x.flushing = false) (hrw : x.rd = x.wr)
    (hd : ∀ d, x.cur = some d → (x.ending ≠ none ∨ x.wr = 0 ∨ atChunk d x.wr = true ∨ x.wr = x.done) ∧
      (dDstSlot d = 0 ∨ x.wr ≤ x.done ∨ x.ending ≠ none))
    (hu : u = ((s.letGoPanel n).setP n pFrozen).modPnl n (fun x => { x with ending := none, fetched := [] })) :
    exec (.panelFrozen n) s = .next (u.raiseEnd (fun a => a.opcode == 0x0805 && a.obj == n.val) 0x07 0x6002 0 (scPanel n)
      [n.val, b2n x.cur.isSome, x.done, u.clk.now - x.since]) := by
  refine congrArg Host.Outcome.next ((if_neg (by simp [hf, hm])).trans ?_)
  simp only [← hx, ho, Bool.false_eq_true, if_false, ← hu]
  refine if_neg ?_
  cases hc : x.cur with
  | none => simp [hr, hl, hrw, execPanelFrozen.dstHeld, hc]
  | some d =>
    obtain ⟨hstill, hdst⟩ := hd d hc
    have h1 : (x.ending.isSome || x.wr == 0 || atChunk d x.wr || x.wr == x.done) = true := by
      simpa [or_assoc, Option.isSome_iff_ne_none] using hstill
    have h2 : (dDstSlot d != 0 && decide (x.done < x.wr) && x.ending.isNone) = false := by
      rcases hdst with h | h | h
      · simp [h]
      · simp [Nat.not_lt.mpr h]
      · simp [Option.isNone_eq_false_iff.mpr (Option.isSome_iff_ne_none.mpr h)]
    simp [hr, hl, hrw, execPanelFrozen.dstHeld, hc, h1, h2]

theorem exec_panelStopped_quiesced {s : State} {n : Panel} (hq : s.pState n = pQuiescing) (hc : (s.pnl n).cur = none) (hr : s.anyRead n = false)
    (hl : (s.pnl n).flushing = false) :
    exec (.panelStopped n) s = .next (((s.letGoPanel n).setP n pStopped).raiseEnd (fun a => a.opcode == 0x0804 && a.obj == n.val) 0x07 0x6003 0 (scPanel n)
      [n.val, pcQuiesce]) :=
  congrArg Host.Outcome.next (if_pos ⟨hq, hc, hr, hl⟩)

theorem exec_panelStopped_reset {s u w : State} {n : Panel} {x : PanelSt} (hx : x = s.pnl n) (hp : s.pState n = pResetting) (hr : s.anyRead n = false)
    (hl : x.flushing = false) (hc : x.cause = pcReset → s.shtMaster (s.pVs n) = true)
    (hu : u = ((((s.letGoPanel n).setP n pStopped).put (F.SHT_PNL_STATE_LAST_STATUS n) psAborted).put (F.SHT_PNL_STATE_SQ_HEAD n) 0).modPnl n (fun x =>
      { tmsg := x.tmsg, mmsg := x.mmsg, descDone := x.descDone, bytes := x.bytes, lastMsg := x.lastMsg, owedMsg := x.owedMsg }))
    (hw : w = u.raiseEnd (fun a => a.opcode == 0x0809 && a.obj == n.val) 0x07 0x6003 0 (scPanel n) [n.val, x.cause]) :
    exec (.panelStopped n) s = .next (if x.flushOwed then s.payFlush n
      else if (w.vs (w.pVs n)).f1.inReset then w.shtResetDone (w.pVs n) else w) := by
  have hq : ¬ (s.pState n = pQuiescing ∧ x.cur = none ∧ s.anyRead n = false ∧ x.flushing = false) := by
    rintro ⟨h, -⟩
    exact absurd (h.symm.trans hp) (by decide)
  change execPanelStopped n s = _
  simp only [execPanelStopped, ← hx, if_neg hq, ← hu, ← hw]
  rw [if_pos ⟨hp, hr, hl, hc⟩]

/-- Settles O45, event by event. -/
theorem panelEvents : Obligations.PanelEvents := by
  unfold Obligations.PanelEvents
  intro s u n v
  refine ⟨?translation, ?invalidate, fun itag i => exec_atsInvalidateComplete_eq, exec_panelFrozen_flush, fun x => exec_panelFrozen_done,
    exec_panelStopped_quiesced, fun x w => exec_panelStopped_reset, fun cred tag => rfl⟩
  case translation => exact fun page phys read write w e hw ha hu he => ⟨exec_atsTranslation_granted hw hu ha he, exec_atsTranslation_refused hw hu⟩
  case invalidate =>
    rintro page pasid pages itag hit rfl
    exact ⟨_, rfl, rfl, rfl, rfl, rfl, rfl⟩

end Sys2Proof.Machine
end

section
/-!
PROOF. O46 SlotCards: cards, buttons and supply readings of a slot (R429, R430, R439, R442, R443).
-/

namespace Sys2Proof.Machine

section
variable {s u w : State} {n : Slot}

theorem exec_slotPresent_new (hp : s.flag (F.SPC_STATUS_PRESENT n) = false)
    (hu : u = (((s.putB (F.SPC_STATUS_PRESENT n) true).modSpc n fun x => { x with presentAt := s.clk.now }).raiseSlot n 0x9001 0 []).hpSync n)
    (hw : w = if u.spState n = spLATCHED ∧ (u.spcSt n).gone = true then u.unlatch n else u) :
    exec (.slotPresent n) s = .next ((w.modSpc n fun x => { x with gone := false }).presenceMoved n) := by
  subst hw hu
  exact congrArg Host.Outcome.next (if_neg (by simp [hp]))

theorem exec_slotRemoved_gone (hp : s.flag (F.SPC_STATUS_PRESENT n) = true)
    (hu : u = ((s.putB (F.SPC_STATUS_PRESENT n) false).putB (F.SPC_STATUS_SEATED n) false).raiseSlot n 0x9002 1 [s.spState n])
    (hw : w = if s.spState n = spLATCHED then u.modSpc n (fun x => { x with gone := true }) else u) :
    exec (.slotRemoved n) s = .next ((w.cardLost n lcGone).presenceMoved n) := by
  subst hw hu
  exact congrArg Host.Outcome.next (if_neg (by simp [hp]))

theorem exec_slotSeated_new (hp : s.flag (F.SPC_STATUS_PRESENT n) = true) (hs : s.seated n = false) (hu : u = s.putB (F.SPC_STATUS_SEATED n) true) :
    exec (.slotSeated n) s = .next (((u.raiseSlot n 0x9003 0 [(u.clk.now - (u.spcSt n).presentAt) / msec]).hpSync n).presenceMoved n) := by
  subst hu
  exact congrArg Host.Outcome.next (if_neg (by simp [hp, hs]))

theorem exec_slotSeatLost_eq {fast : Bool} (hs : s.seated n = true) (hf : fast = true → s.gateOn n = true)
    (hu : u = (s.putB (F.SPC_STATUS_SEATED n) false).raiseSlot n 0x9004 2 [s.spState n, b2n fast]) :
    exec (.slotSeatLost n fast) s = .next ((u.cardLost n lcSeat).presenceMoved n) := by
  subst hu
  refine congrArg Host.Outcome.next (if_neg ?_)
  simpa [hs] using hf

theorem exec_buttonRelease_eq (hu : u = ((s.putB (F.SPC_STATUS_BTN n) false).modSpc n (fun x => { x with pressed := false })).hpSync n) :
    exec (.buttonRelease n) s = .next (if (s.spcSt n).pressed = true ∧ u.spState n = spLATCHED then u.unlatch n else u) := by
  change execButtonRelease n s = _
  simp only [execButtonRelease, ← hu, Bool.and_eq_true, beq_iff_eq]

end

/-- Settles O46, event by event. -/
theorem slotCards : Obligations.SlotCards := by
  unfold Obligations.SlotCards
  intro s u w n m
  refine ⟨exec_slotPresent_new, exec_slotRemoved_gone, exec_slotSeated_new, fun fast => exec_slotSeatLost_eq, ?press, exec_buttonRelease_eq, ?fault, ?unpowered,
    ?warning⟩
  case press => rintro rfl; rfl
  case fault => exact fun h => congrArg Host.Outcome.next (if_pos h)
  case unpowered => exact fun h => congrArg Host.Outcome.next (if_neg (by simp [h]))
  case warning => rintro rfl; rfl

end Sys2Proof.Machine
end

section
/-!
PROOF. O47 SlotStates: the states of a slot power controller (Tables 16.3 and 16.4).
-/

namespace Sys2Proof.Machine

section
variable {s u w : State} {n : Slot} {m : SlotMeas}

theorem exec_slotRampStart_slot (hr : s.mayRamp n = true) (hn : n.val < 16)
    (hu : u = (((s.leaveWait n).setSp n spRAMP).putB (F.SPC_STATUS_GATE_ON n) true).modSpc n
      (fun x => { x with gateAt := ((s.leaveWait n).setSp n spRAMP).clk.now })) :
    exec (.slotRampStart n) s = .next (State.hpSync { u.put F.SPC_BUDGET_USED_USED_W (u.usedW + classW (u.spcClass n)) with
      spc := { u.spc with lastRamp := some u.clk.now } } n) := by
  rw [← State.putB_clk _ (F.SPC_STATUS_GATE_ON n) true] at hu
  refine congrArg Host.Outcome.next ((if_neg (by simp [hr])).trans ?_)
  simp only [← hu]
  rw [if_neg (Nat.ne_of_lt hn)]

theorem exec_slotRampStart_spc16 (hr : s.mayRamp 16 = true)
    (hu : u = (((s.leaveWait 16).setSp 16 spRAMP).putB (F.SPC_STATUS_GATE_ON 16) true).modSpc 16
      (fun x => { x with gateAt := ((s.leaveWait 16).setSp 16 spRAMP).clk.now })) :
    exec (.slotRampStart 16) s = .next ((u.modSpc 16 fun x => { x with inForce := none }).hpSync 16) := by
  rw [← State.putB_clk _ (F.SPC_STATUS_GATE_ON 16) true] at hu
  change execSlotRampStart 16 s = _
  refine congrArg Host.Outcome.next ((if_neg (by simp [hr])).trans ?_)
  have h16 : ((16 : Slot) : Nat) = 16 := rfl
  simp only [h16, ← hu, if_true]

theorem exec_slotPowerOn_good (hs : s.spState n = spQUAL) (hf : s.flag (F.SPC_STATUS_FAULT_TMR n) = false)
    (hu : u = (((s.setMeas n m).setSp n spON).putB (F.SPC_STATUS_PGOOD n) true).modSpc n (fun x => { x with pgoodAt := s.clk.now })) :
    exec (.slotPowerOn n m) s = .next ((u.raiseSlot n 0x9010 0 [u.spcClass n, (u.spcSt n).rampTime, m.vout]).hpSync n) := by
  have hclk : (((s.setMeas n m).setSp n spON).putB (F.SPC_STATUS_PGOOD n) true).clk = s.clk := by simp [State.setMeas, State.setSp]
  rw [← hclk] at hu
  refine congrArg Host.Outcome.next ((if_pos ⟨hs, hf⟩).trans ?_)
  simp only [← hu]

theorem exec_faultConditionStart_eq {volt : Bool} (hs : s.spState n = spQUAL ∨ s.spState n = spON) (hf : s.flag (F.SPC_STATUS_FAULT_TMR n) = false)
    (hw : w = ((s.setMeas n m).putB (F.SPC_STATUS_FAULT_TMR n) true).modSpc n (fun x => { x with volt := volt }))
    (hu : u = if s.spState n = spQUAL then w.raiseSlot n 0x9012 2 [if volt then m.vout else m.iout] else w.pwrWarn n 0 m.vin) :
    exec (.faultConditionStart n volt m) s = .next (if u.limiting n m then
      (u.putB (F.SPC_STATUS_ILIM_ACTIVE n) true).raiseLim sec n 0x03 0x9020 2 (u.slotScope n) 0 [n.val, m.iout] else u) := by
  refine congrArg Host.Outcome.next ((if_pos ⟨hs, hf⟩).trans ?_)
  simp only [← hw, ← hu]

theorem exec_slotRetry_eq {k : Nat} {r : Rate} (hs : s.spState n = spRETRY) (hc : s.cmdHeld n = true) (hse : s.seated n = true)
    (hw : w = s.bump (F.SPC_CNT_RETRIES n)) (hk : k = 0x9022 * 2 ^ 32 + n.val) (hr : r = SMap.get (fun _ => {}) w.evs.rate k)
    (hu : u = if (w.spcSt n).retried then w else { w with evs := { w.evs with rate := SMap.set (fun _ => {}) w.evs.rate k { r with seen := false } } }) :
    exec (.slotRetry n) s = .next (((u.raiseLim (60 * sec) n 0x03 0x9022 1 (u.slotScope n) 0
      [n.val, (u.spcSt n).delay]).modSpc n fun x => { x with retried := true }).enterWait n) := by
  dsimp only at hu
  refine congrArg Host.Outcome.next ((if_pos ⟨hs, hc, hse⟩).trans ?_)
  simp only [← hw, ← hk, ← hr, ← hu]

theorem exec_orderlyOffComplete_eq (hs : s.spState n = spON) (ho : (s.spcSt n).offing = true) (hu : u = s.powerOff n lcOff) :
    exec (.orderlyOffComplete n) s = .next (if u.cmdOn n then u.tryWait n else u) := by
  subst hu
  exact congrArg Host.Outcome.next (if_pos ⟨hs, ho⟩)

theorem exec_perstRelease_eq {p : Nat} (hr : s.perstReady n = true) (hu : u = s.modSpc n (fun x => { x with perst := true }))
    (hp : u.portOfSlot n = some p) : exec (.perstRelease n) s = .next (u.kick p) := by
  refine congrArg Host.Outcome.next ((if_pos hr).trans ?_)
  simp only [← hu, hp]

section
variable {lo hi : Nat} (hlo : lo = if s.get (F.SPC_STATUS_LAST_CAUSE 16) = lcUv then 10500 else 10000)
  (hhi : hi = if s.get (F.SPC_STATUS_LAST_CAUSE 16) = lcOv then 13500 else 14000)
include hlo hhi

theorem exec_spc16Admit_inRange (hs : s.spState 16 = spOFF) (hse : s.seated 16 = true) (h1 : lo ≤ m.vin) (h2 : m.vin ≤ hi)
    (ht : ∀ t, (s.spcSt 16).tripAt = some t → t + sec ≤ s.clk.now) :
    exec (.spc16Admit m) s = .next (((s.setMeas 16 m).putB (F.SPC_STATUS_CMD_ON 16) true).enterWait 16) := by
  change execSpc16Admit m s = _
  simp only [execSpc16Admit, ← hlo, ← hhi]
  refine congrArg Host.Outcome.next (if_pos ⟨hs, hse, h1, h2, ?_⟩)
  cases h : (s.spcSt 16).tripAt with
  | none => rfl
  | some t => exact decide_eq_true (ht t h)

theorem exec_spc16Admit_outOfRange (h : m.vin < lo ∨ hi < m.vin) : exec (.spc16Admit m) s = .next (s.setMeas 16 m) := by
  change execSpc16Admit m s = _
  simp only [execSpc16Admit, ← hlo, ← hhi]
  refine congrArg Host.Outcome.next (if_neg ?_)
  rintro ⟨-, -, h1, h2, -⟩
  omega

end
end

/-- Settles O47, transition by transition. -/
theorem slotStates : Obligations.SlotStates := by
  unfold Obligations.SlotStates
  intro s u w n m
  refine ⟨exec_slotRampStart_slot, exec_slotRampStart_spc16, ?ramp, exec_slotPowerOn_good, fun volt => exec_faultConditionStart_eq, ?faultEnd, ?fast,
    fun k r => exec_slotRetry_eq, exec_orderlyOffComplete_eq, fun p => exec_perstRelease_eq, ?warning, ?admit16⟩
  case ramp => exact fun h => ⟨congrArg Host.Outcome.next (if_pos h), congrArg Host.Outcome.next (if_pos h)⟩
  case faultEnd => exact fun h => ⟨congrArg Host.Outcome.next (if_pos h), congrArg Host.Outcome.next (if_pos h)⟩
  case fast => exact fun h => congrArg Host.Outcome.next (if_pos h)
  case warning => exact fun h => congrArg Host.Outcome.next (if_neg (by simp [h]))
  case admit16 =>
    exact fun lo hi hlo hhi => ⟨exec_spc16Admit_inRange hlo hhi, exec_spc16Admit_outOfRange hlo hhi⟩

end Sys2Proof.Machine
end

section
/-!
PROOF. O48 StationEvents: the start of a station, its PLL, pattern checkers and margin points, and the check of the spare lane (R44 to R60).
-/

namespace Sys2Proof.Machine

/-- The stations that come before one in a list are among those before any one of its places. -/
theorem mem_takeWhile_ne_append_cons {a b : List Nat} {x y : Nat} (h : y ∈ (a ++ x :: b).takeWhile (· != x)) : y ∈ a := by
  rw [List.takeWhile_append] at h
  split at h
  · simpa using h
  · exact (List.takeWhile_sublist _).subset h

theorem State.startTurn_of {s : State} {st : Nat} {a b : List Nat} (ho : s.startOrder = a ++ st :: b)
    (ha : ∀ x ∈ a, s.started x = true ∨ s.noStart x = true) (ht : ∀ t, s.pow.lastStart = some t → t + 2 * msec ≤ s.clk.now) :
    s.startTurn st = true := by
  have hbefore : ((s.startOrder.takeWhile (· != st)).all fun x => s.started x || s.noStart x) = true := by
    rw [ho, List.all_eq_true]
    intro x hx
    simpa using ha x (mem_takeWhile_ne_append_cons hx)
  rw [State.startTurn, hbefore, Bool.true_and]
  cases h : s.pow.lastStart with
  | none => rfl
  | some t => exact decide_eq_true (ht t h)

theorem exec_stationStart_turn {s : State} {st : Stn} {a b : List Nat} (hq : s.pow.sequenced = true) (hh : s.hold st = false)
    (hl : s.flag (F.STN_LANE_STATUS_HELD st) = true) (hp : s.pdIsOn (16 + st) = true) (h1 : s.pdState st ≠ 3) (h2 : s.pdState (32 + st) ≠ 3)
    (ho : s.startOrder = a ++ st.val :: b) (ha : ∀ x ∈ a, s.started x = true ∨ s.noStart x = true)
    (ht : ∀ t, s.pow.lastStart = some t → t + 2 * msec ≤ s.clk.now) :
    exec (.stationStart st) s = .next (((s.putB (F.STN_LANE_STATUS_HELD st) false).pdAsk (32 + st) true).pdAsk st true) :=
  congrArg Host.Outcome.next (if_pos (by simp [hq, hh, hl, hp, h1, h2, State.startTurn_of ho ha ht]))

theorem exec_pllLock_eq {s u : State} {st : Stn} (hs : s.started st = true) (ht : 0 < (s.stn st).tries) (hw : (s.stn st).waiting = false)
    (hu : u = (s.putB (F.STN_LANE_STATUS_PLL_LOCK st) true).modStn st (fun x => { x with tries := 0 })) :
    exec (.pllLock st) s = .next ((u.stnPorts st).foldl (fun s p => if s.stage p = stPLL then s.setStage p stDETECT else s.kick p) u) := by
  subst hu
  exact congrArg Host.Outcome.next (if_pos (by simp [hs, ht, hw]))

theorem exec_pllTryTimeout_first {s : State} {st : Stn} (hw : (s.stn st).waiting = false) (ht : (s.stn st).tries = 1) :
    exec (.pllTryTimeout st) s = .next (s.modStn st fun x => { x with waiting := true }) :=
  congrArg Host.Outcome.next ((if_neg (by simp [hw])).trans (if_pos ht))

theorem exec_pllTryTimeout_second {s u : State} {st : Stn} (hw : (s.stn st).waiting = false) (ht : (s.stn st).tries = 2)
    (hu : u = (s.modStn st fun x => { x with tries := 0 }).raise (srcStn st) 0x1001 3 (scStn st) [st.val, 2]) :
    exec (.pllTryTimeout st) s = .next ((u.livePorts st).foldl
      (fun s p => (if s.stage p = stMEASURE then s.leaveMeasure p else s).setStage p stFAILED) u) := by
  subst hu
  exact congrArg Host.Outcome.next ((if_neg (by simp [hw])).trans ((if_neg (by simp [ht])).trans (if_pos ht)))

theorem exec_pllLockLoss_eq {s u : State} {st : Stn} (hl : s.pllLocked st = true)
    (hu : u = (s.putB (F.STN_LANE_STATUS_PLL_LOCK st) false).beginSeries st) :
    exec (.pllLockLoss st) s = .next ((u.stnPorts st).foldl State.portToPll u) := by
  subst hu
  exact congrArg Host.Outcome.next (if_pos hl)

/-! ### PRBS_CLR -/

theorem State.prbsClear_gets (s : State) (st l : Nat) :
    (s.prbsClear st l).get (F.STN_LN_PRBS_ERR_LO_ERR_LO st l) = 0 ∧ (s.prbsClear st l).get (F.STN_LN_PRBS_ERR_HI_ERR_HI st l) = 0 ∧
      (s.prbsClear st l).get (F.STN_LN_PRBS_BITS_LO_BITS_LO st l) = 0 ∧ (s.prbsClear st l).get (F.STN_LN_PRBS_BITS_HI_BITS_HI st l) = 0 ∧
      (s.prbsClear st l).get (F.STN_LN_PRBS_STAT_LOCK_LOSS st l) = 0 := by
  have hself (s : State) (f : Fld) (h : f.lo + f.w ≤ 32) : (s.put f 0).get f = 0 := by rw [State.put_get_self _ _ _ h, Nat.zero_mod]
  refine ⟨?_, ?_, ?_, ?_, ?_⟩ <;>
    simp (disch := (simp only [F.STN_LN_PRBS_ERR_LO_ERR_LO, F.STN_LN_PRBS_ERR_HI_ERR_HI, F.STN_LN_PRBS_BITS_LO_BITS_LO, F.STN_LN_PRBS_BITS_HI_BITS_HI,
      F.STN_LN_PRBS_STAT_LOCK_LOSS] <;> omega)) only [State.prbsClear, hself, State.put_get_addr]

theorem State.prbsClear_rest (s : State) (st l : Nat) : ({ s.prbsClear st l with regs := s.regs } : State) = s := by
  have hput (s : State) (f : Fld) (v : Nat) (r : SMap B32) : ({ s.put f v with regs := r } : State) = { s with regs := r } := rfl
  simp only [State.prbsClear, hput]

theorem State.prbsAdvance_unlocked {s : State} {st l : Nat} (h : s.flag (F.STN_LN_PRBS_STAT_CHK_LOCK st l) = false) : s.prbsAdvance st l = s :=
  if_neg (by simp [h])

theorem exec_prbsClr_clears (s : State) (st : Stn) (lane : Lane) : ∃ t, exec (.prbsClr st lane) s = .next t ∧
    t.get (F.STN_LN_PRBS_ERR_LO_ERR_LO st lane) = 0 ∧ t.get (F.STN_LN_PRBS_ERR_HI_ERR_HI st lane) = 0 ∧
    t.get (F.STN_LN_PRBS_BITS_LO_BITS_LO st lane) = 0 ∧ t.get (F.STN_LN_PRBS_BITS_HI_BITS_HI st lane) = 0 ∧
    t.get (F.STN_LN_PRBS_STAT_LOCK_LOSS st lane) = 0 ∧
    (s.flag (F.STN_LN_PRBS_STAT_CHK_LOCK st lane) = false → ({ t with regs := s.regs } : State) = s) := by
  obtain ⟨h1, h2, h3, h4, h5⟩ := (s.prbsAdvance st lane).prbsClear_gets st lane
  refine ⟨_, rfl, h1, h2, h3, h4, h5, fun h => ?_⟩
  rw [State.prbsAdvance_unlocked h, State.prbsClear_rest]

/-! ### The check of the spare lane -/

section
variable {s u : State} {st : Stn} {errs role n : Nat} (hr : s.spareRuns st 16 = true) (hrole : role = s.get (F.STN_LN_STATUS_SPARE_ROLE st 16))
  (h13 : role = 1 ∨ role = 3) (he : s.flag (F.STN_LN_PRBS_CTL_EN st 16) = true) (hu : u = s.spareCount st errs) (hn : n = (u.stn st).spareOk + 1)
include hr hrole h13 he hu hn

theorem exec_spareCheck_eq : exec (.spareCheck st errs) s = .next (if u.get (F.STN_TRAIN_CTL_SPARE_ERR_LIMIT st) < errs then
      ((u.put (F.STN_LN_STATUS_SPARE_ROLE st 16) 3).modStn st fun x => { x with spareOk := 0 }).raise (srcStn st) 0x1021 2 (scStn st) [st.val, errs]
    else if role = 3 ∧ 60 ≤ n then (u.modStn st fun x => { x with spareOk := min 60 n }).put (F.STN_LN_STATUS_SPARE_ROLE st 16) 1
    else u.modStn st fun x => { x with spareOk := min 60 n }) := by
  have hgo : (!s.spareRuns st 16 || !(role == 1 || role == 3) || !s.flag (F.STN_LN_PRBS_CTL_EN st 16)) = false := by
    have h : (role == 1 || role == 3) = true := by simpa using h13
    rw [hr, h, he]; rfl
  change execSpareCheck st errs s = _
  simp only [execSpareCheck, ← hrole, hgo, Bool.false_eq_true, if_false, ← hu, ← hn]

end

/-- Settles O48, event by event. -/
theorem stationEvents : Obligations.StationEvents := by
  unfold Obligations.StationEvents
  intro s u st lane
  refine ⟨fun a b => exec_stationStart_turn, exec_pllLock_eq, ?firstTry, exec_pllTryTimeout_second, ?retry, exec_pllLockLoss_eq, ?lock, ?loss,
    exec_prbsClr_clears s st lane, ?margin, ?point, ?spare, ?slow⟩
  case firstTry =>
    exact fun hw ht => ⟨_, exec_pllTryTimeout_first hw ht, by simp, by simpa using ht, fun k hk => by simp [hk], rfl⟩
  case retry => exact fun h => congrArg Host.Outcome.next (if_pos h)
  case lock => exact fun he hc => congrArg Host.Outcome.next (if_pos (by simp [he, hc]))
  case loss => exact fun h => congrArg Host.Outcome.next (if_pos h)
  case margin => exact fun ctl hg hm hb => congrArg Host.Outcome.next (if_pos (by simp [hg, hm, hb]))
  case point => exact fun errs hb => congrArg Host.Outcome.next (if_pos hb)
  case spare =>
    intro errs role n hr hrole h13 he hu hn
    have hspare := exec_spareCheck_eq hr hrole h13 he hu hn
    exact ⟨fun h => hspare.trans (congrArg Host.Outcome.next (if_pos h)), fun h => hspare.trans (congrArg Host.Outcome.next (if_neg (Nat.not_lt.mpr h)))⟩
  case slow =>
    intro h
    refine congrArg Host.Outcome.next (if_neg ?_)
    simp only [List.any_eq_true, Bool.and_eq_true, beq_iff_eq, decide_eq_true_eq, not_exists, not_and, Nat.not_le]
    exact fun p hp ha => (h p hp).resolve_left (not_not.mpr ha)

end Sys2Proof.Machine
end

section
/-!
PROOF. O49 LinkTraining: the stages of a link's training (R48 to R56, R61, R105, R118).
-/

namespace Sys2Proof.Machine

/-- LINK_UP is taken at a PCI Express port whose training has exchanged what fits it. -/
theorem linkUp_taken {s : State} {p st : Nat} {up : LinkUp} (hm : s.seamMode st = false) (he : s.stage p = stEXCHANGE) (hf : s.upFits p up = true) :
    (s.seamMode st || s.stage p != stEXCHANGE || !s.upFits p up) = false := by
  rw [hm, he, hf]; rfl

section
variable {s u w : State} {p : Port} {st : Nat} (hst : st = stnOf p)
include hst

theorem exec_receiverDetected_eq {lanes : Nat} {ls : List Nat} {a : State} (hd : s.stage p = stDETECT) (hls : ls = s.usable p lanes)
    (hl : s.lanesDo p ls = true) (ha : a = ls.foldl (fun s l => s.putB (F.STN_LN_STATUS_RX_PRESENT st l) true) (s.clearLanes p))
    (hu : u = a.modPort p (fun x => { x with timer := true, failed := 0, target := (a.targetWidth p, a.targetRate p), coefs := [],
                                             flitEn := a.flag (F.STN_PORT_CFG_FLIT_EN st (kOf p)), sris := a.flag (F.STN_PORT_CFG_SRIS st (kOf p)),
                                             eq := (a.measLanes p).map fun l => (l, a.eqLo st l, a.eqHi st l) })) :
    exec (.receiverDetected p lanes) s = .next ((u.lanesAt p (if u.seamMode st then 5 else 0)).setStage p stPATTERN) := by
  subst hst hu ha hls
  exact congrArg Host.Outcome.next (if_pos ⟨hd, hl⟩)

theorem exec_bitLock_eq {lanes : Nat} (hp : s.stage p = stPATTERN) (hl : s.lockDoes p (s.trained p lanes) = true) :
    exec (.bitLock p lanes) s = .next (((s.trained p lanes).foldl
      (fun s l => (s.putB (F.STN_LN_STATUS_BIT_LOCK st l) true).putB (F.STN_LN_STATUS_SYM_LOCK st l) true) s).setStage p stLOCK) := by
  subst hst
  exact congrArg Host.Outcome.next (if_pos ⟨hp, hl⟩)

theorem exec_lockComplete_eq {width : Fin 17} {failed inverted : Nat} {reversed : Bool} {a : State} (hk : s.stage p = stLOCK)
    (hl : s.lockEnds p width failed = true) (ha : a = (s.modPort p fun x => { x with failed := failed }).put (F.STN_PORT_STATUS_WIDTH st (kOf p)) width)
    (hu : u = (a.orderLanes p inverted reversed).setStage p stEXCHANGE) : exec (.lockComplete p width failed inverted reversed) s =
      .next (if u.seamMode st then u.modSeam st fun x => { x with step := 1, seenReady := false, rtts := [] } else u) := by
  subst hst hu ha
  exact congrArg Host.Outcome.next (if_pos ⟨hk, hl⟩)

section
variable {up : LinkUp} {a b d : State} {c : SMap Bool × SMap Nat × SMap Nat} (hm : s.seamMode st = false) (he : s.stage p = stEXCHANGE)
  (hf : s.upFits p up = true) (ha : a = s.portUp p up.rate up.width up.failed up.eq up.flit up.scaledFc) (hc : c = creditMaps up.credits)
  (hb : b = (a.modPort p (fun x => { x with txInf := c.1, txHdr := c.2.1, txData := c.2.2, rxFrom := a.core.nextId })).advertise p 0)
  (hd : d = if bit (b.cw p ofVC1) 31 then b.advertise p 1 else b)
include hm he hf ha hc hb hd


theorem exec_linkUp_dsp (hr : d.pciRole p = 2) (hu : u = d.orCw p ofSLTCTL slDllsc)
    (hw : w = if bit (u.cw p ofDPC) 23 then u.emit (.errMsg (u.vsOf p) (BitVec.ofNat 16 (u.portRid p)) 0) else u) :
    exec (.linkUp p up) s = .next (if w.hasSlot p then w.emit (.msg p msgSlotPower (w.slotLimitOf p)) else w) := by
  have hgo := linkUp_taken hm he hf
  change execLinkUp p up s = _
  simp only [execLinkUp, ← hst, hgo, Bool.false_eq_true, if_false, ← ha, ← hc, ← hb, ← hd, hr, if_true, ← hu, ← hw]

theorem exec_linkUp_usp (hr : d.pciRole p = 1) (hw : w = if (d.vs (d.vsOf p)).sbr then d else d.modVs (d.vsOf p) fun x => { x with rrs := false }) :
    exec (.linkUp p up) s = .next (w.putB (F.STN_PORT_STATUS_RRS st (kOf p)) (!(w.vs (d.vsOf p)).published)) := by
  have hgo := linkUp_taken hm he hf
  have h12 : ¬ (1 : Nat) = 2 := by decide
  change execLinkUp p up s = _
  simp only [execLinkUp, ← hst, hgo, Bool.false_eq_true, if_false, ← ha, ← hc, ← hb, ← hd, hr, h12, if_true, ← hw]

theorem exec_linkUp_pool (h1 : d.pciRole p ≠ 1) (h2 : d.pciRole p ≠ 2) : exec (.linkUp p up) s = .next d := by
  have hgo := linkUp_taken hm he hf
  change execLinkUp p up s = _
  simp only [execLinkUp, ← hst, hgo, Bool.false_eq_true, if_false, ← ha, ← hc, ← hb, ← hd, h1, h2]

end

theorem State.attemptOver_eq {n g lim locked : Nat} (hg : g = s.stage p) (h3 : g = stPATTERN ∨ g = stLOCK ∨ g = stEXCHANGE)
    (hn : n = (s.port p).attempts + 1) (hlim : lim = s.get (F.STN_TRAIN_CTL_ATTEMPT_LIMIT st))
    (hu : u = ((s.modPort p fun x => { x with attempts := n, timer := false }).raise (srcStn st) 0x1002 1 (scPort p) [p.val, g, n]).put
      (F.STN_PORT_STATUS_WIDTH st (kOf p)) 0)
    (hl : locked = ((u.lanesOf p).filter fun l => u.flag (F.STN_LN_STATUS_BIT_LOCK st l)).length)
    (hw : w = if lim ≠ 0 ∧ lim ≤ n then ((u.setStage p stFAILED).clearLanes p).raise (srcStn st) 0x1003 3 (scPort p) [p.val, n, locked]
      else (u.setStage p stDETECT).clearLanes p) :
    s.attemptOver p = w := by
  subst hst
  rw [State.attemptOver, ← hg]
  refine (if_pos h3).trans ?_
  simp only [← hn, ← hlim, ← hu, ← hl, ← hw]

end

/-- Settles O49, stage by stage. -/
theorem linkTraining : Obligations.LinkTraining := by
  unfold Obligations.LinkTraining
  intro s u w p st hst
  refine ⟨fun lanes ls a => exec_receiverDetected_eq hst, ?retry, fun lanes => exec_bitLock_eq hst, fun width failed inverted reversed a => exec_lockComplete_eq hst,
    ?up, ?attempt, rfl⟩
  case retry => exact fun h => congrArg Host.Outcome.next (if_pos h)
  case up =>
    exact fun up a b d c hm he hf ha hc hb hd => ⟨exec_linkUp_dsp hst hm he hf ha hc hb hd, exec_linkUp_usp hst hm he hf ha hc hb hd,
      exec_linkUp_pool hst hm he hf ha hc hb hd⟩
  case attempt =>
    intro n g lim locked hg h3 hn hlim hu hl hw
    have hover := State.attemptOver_eq hst hg h3 hn hlim hu hl hw
    refine ⟨congrArg Host.Outcome.next hover, fun hm => congrArg Host.Outcome.next ((if_neg ?_).trans hover)⟩
    rw [← hst, hm]
    decide

end Sys2Proof.Machine
end

section
/-!
PROOF. Requests that are heard and whose opcode is not of group 0x0F (R375): the answer of the opcode's own part, at once, later, or ACCEPTED.
-/

namespace Sys2Proof.Machine

section
variable {s : State} {op : OpInfo} {h : Hdr} {x : Sess} (self : Instr) (params : List Dat) (body : Sess → State → Ans) {a : Ans}
  (hh : Heard s op h x) (hg : op.code / 256 ≠ 0x0F)
include hh hg

theorem next_serve_ok (hk : op.kind ≠ .A) (hb : body x s = a) (ha : a.st = .ok) (ho : a.owed = false) :
    (Host.Outcome.next (s.serve self op h params body) : Res) = .next (answered op h a) :=
  congrArg Host.Outcome.next (State.serve_ok self params body hh (State.disarm_eq s hg) hk hb ha ho)

theorem next_serve_now (hk : op.kind ≠ .A) (hb : body x s = a) (ho : a.owed = false) :
    (Host.Outcome.next (s.serve self op h params body) : Res) = .next (answered op h a) :=
  congrArg Host.Outcome.next (State.serve_now self params body hh (State.disarm_eq s hg) hk hb ho)

theorem next_serve_owed (hk : op.kind ≠ .A) (hb : body x s = a) (ha : a.st = .ok) (ho : a.owed = true) :
    (Host.Outcome.next (s.serve self op h params body) : Res) =
      .next { a.s with cmd := { a.s.cmd with owed := some { h := h, via := .arrive, opcode := op.code } } } :=
  congrArg Host.Outcome.next (State.serve_owed self params body hh (State.disarm_eq s hg) hk hb ha ho)

theorem next_serve_accepted (hk : op.kind = .A) (hl : s.asyncLive x.key < 16) (hb : body x (s.begun op h x) = a) (ha : a.st = .accepted)
    (ho : a.owed = false) : (Host.Outcome.next (s.serve self op h params body) : Res) = .next (answered op h a) :=
  congrArg Host.Outcome.next (State.serve_accepted self params body hh (State.disarm_eq s hg) hk hl hb ha ho)

end

end Sys2Proof.Machine
end

section
/-!
PROOF. O1 InformationOpcodes: GET_INFO, READ_REG, READ_TABLE, GET_ASYNC (Table 14.7).
-/

namespace Sys2Proof.Machine

theorem exec_readReg_reads {s u : State} {op : OpInfo} {h : Hdr} {x : Sess} {addr count : B32} {ws : List B32}
    (hop : op = { code := 0x0101, kind := .R, who := [.fm, .obs, .pm], forms := [.dev] }) (hh : Heard s op h x) (ha : addr.toNat % 4 = 0)
    (h1 : 1 ≤ count.toNat) (h2 : count.toNat ≤ 1020) (h3 : addr.toNat + 4 * count.toNat ≤ 0x04000000)
    (hon : ∀ i < count.toNat, s.prbsAdvanceAll.regOn (addr.toNat + 4 * i) = true) (hr : s.prbsAdvanceAll.readWords addr.toNat count.toNat = (u, ws)) :
    exec (.readReg h addr count) s = .next (answered op h (.read u (ws.map fun w => .u32 w.toNat))) := by
  subst hop
  have hok : ¬ (addr.toNat % 4 ≠ 0 ∨ count.toNat = 0 ∨ 1020 < count.toNat ∨ 0x04000000 < addr.toNat + 4 * count.toNat) := by omega
  have hnone : ((List.range count.toNat).find? fun i => !s.prbsAdvanceAll.regOn (addr.toNat + 4 * i)) = none := by
    simpa [List.find?_eq_none] using hon
  refine next_serve_ok _ _ _ hh (by decide) (by decide) ?_ rfl rfl
  simp only [if_neg hok, hnone, hr]

theorem exec_readTable_reads {s : State} {op : OpInfo} {h : Hdr} {x : Sess} {table copy : B8} {first count : B32}
    (hop : op = { code := 0x0102, kind := .R, who := [.fm, .obs, .pm], forms := [.stn] }) (hh : Heard s op h x) (ht : table.toNat ≤ 4)
    (hc : copy.toNat ≤ 1) (h1 : 1 ≤ count.toNat) (h2 : first.toNat + count.toNat ≤ (tableShape table.toNat).2)
    (h3 : 4 * (tableShape table.toNat).1 * count.toNat ≤ 4080) (hp : s.pdOn (16 + x.n) = true) :
    exec (.readTable h table copy first count) s = .next (answered op h (.read s
      ((List.range count.toNat).flatMap fun i => (List.range (tableShape table.toNat).1).map fun k => .u32 (
        if x.isP && !s.seesEntry x.vs x.n table.toNat (first.toNat + i) then 0
        else if copy.toNat = 1 then s.twShadow table.toNat x.n (first.toNat + i) k else s.tw table.toNat x.n (first.toNat + i) k)))) := by
  subst hop
  have hok : ¬ (4 < table.toNat ∨ 1 < copy.toNat ∨ count.toNat = 0 ∨ (tableShape table.toNat).2 < first.toNat + count.toNat ∨
      4080 < 4 * (tableShape table.toNat).1 * count.toNat) := by omega
  refine next_serve_ok _ _ _ hh (by decide) (by decide) ?_ rfl rfl
  exact (if_neg hok).trans (if_neg (by simp [hp]))

theorem exec_getAsync_found {s : State} {op : OpInfo} {h : Hdr} {x : Sess} {tag : B32} {a : Async}
    (hop : op = { code := 0x0103, kind := .R, who := [.fm, .obs, .pm, .tenant], forms := [.dev, .node] }) (hh : Heard s op h x)
    (ha : (s.cmd.asyncs.reverse.find? fun a => a.cred == x.key && a.tag == tag) = some a) :
    exec (.getAsync h tag) s = .next (answered op h (.read s [.u8 (b2n a.ended.isSome), .u8 0,
      .u16 (statusCode (a.ended.getD .accepted)), .u32 a.seq])) := by
  subst hop
  refine next_serve_ok _ _ _ hh (by decide) (by decide) ?_ rfl rfl
  simp only [ha]
  cases a.ended <;> rfl

/-- Settles O1, opcode by opcode. -/
theorem informationOpcodes : Obligations.InformationOpcodes := by
  unfold Obligations.InformationOpcodes
  intro s h x
  refine ⟨?info, fun op addr count u ws => exec_readReg_reads, fun op table copy first count => exec_readTable_reads, fun op tag a => exec_getAsync_found⟩
  case info =>
    rintro op rfl hh
    exact next_serve_ok _ _ _ hh (by decide) (by decide) rfl rfl rfl

end Sys2Proof.Machine
end

section
/-!
PROOF. O2 ConfigurationOpcodes: STAGE_REG, COMMIT, ABORT, TXN_STATUS, RELEASE, QUIESCE and PORT_QUIESCE (Table 14.8).
-/

namespace Sys2Proof.Machine

/-! ### STAGE_REG -/

theorem findSome?_zip_eq_none {α β γ : Type} {f : α → Option β} {g : β → Nat → γ} {xs : List α} (h : ∀ a ∈ xs, f a = none) (ns : List Nat) :
    ((xs.zip ns).findSome? fun y => (f y.1).map fun b => g b y.2) = none := by
  rw [List.findSome?_eq_none_iff]
  intro y hy
  rw [h y.1 (List.of_mem_zip hy).1]
  rfl

section
variable {s t : State} {h : Hdr} {x : Sess} {op : OpInfo} {items : List (B32 × B32 × B32)} {norm : List (Nat × B32 × B32)}
  (hop : op = { code := 0x0200, kind := .S, who := [.fm, .pm], forms := [.dev], len := decide (1 ≤ items.length ∧ items.length ≤ 340) })
  (hh : Heard s op h x) (hp : x.isP = true → ∀ y ∈ items, pmReg x.vs y.1.toNat = none)
  (ht : (s.scratch x.key).tryItems 0 (items.map fun y => (y.1.toNat, y.2.1, y.2.2)) = .ok norm)
  (hf : norm.any (fun y => fabReg y.1) = true → s.get F.FAB_STATE_MGR_NODE ≤ 47) (hc : (s.withItems x [.regs norm]).crossAll = none)
  (hc' : (s.withItems x [.regs norm]).crossRegs x.key (norm.map fun y => y.1) = none)
  (ha : s.addItems x.key [.regs norm] (12 * items.length) = some t)
include hop hh hp ht hf hc hc' ha

theorem exec_stageReg_ok : exec (.stageReg h items) s = .next (answered op h (.ok ((items.filter fun y => isEqReg y.1.toNat).foldl (fun t y =>
    t.eqEvents y.1.toNat (((s.scratch x.key).reg y.1.toNat &&& ~~~y.2.1) ||| (y.2.2 &&& y.2.1)).toNat) t))) := by
  subst hop
  have hbad : (if x.isP then ((items.map fun y => (y.1.toNat, y.2.1, y.2.2)).zip (List.range (items.map fun y => (y.1.toNat, y.2.1, y.2.2)).length)).findSome?
      fun y => (pmReg x.vs y.1.1).map fun st => (st, y.2) else none) = none := by
    split
    · next hx => exact findSome?_zip_eq_none (f := fun (y : Nat × B32 × B32) => pmReg x.vs y.1) (List.forall_mem_map.mpr (hp hx)) _
    · rfl
  have hfab : ¬ (norm.any (fun y => fabReg y.1) && decide (47 < s.get F.FAB_STATE_MGR_NODE)) = true := by
    simp only [Bool.and_eq_true, decide_eq_true_eq, not_and, Nat.not_lt]
    exact hf
  refine next_serve_ok _ _ _ hh (show 0x0200 / 256 ≠ 0x0F by decide) (show OpKind.S ≠ .A by decide) (a := .ok _) ?_ rfl rfl
  simp only [hbad, ht, if_neg hfab]
  rw [State.stage_ok (check := _) (by simp only [hc, hc']) ha]
  simp only [Ans.ok, if_true, List.filter_map, List.foldl_map]
  rfl

end

/-! ### COMMIT -/

section
variable {s u sc v w : State} {h : Hdr} {x : Sess} {op : OpInfo} {t : Txn} {ks : List ItemK} {r : Nat → Async}
  (hop : op = { code := 0x0201, kind := .I, who := [.fm, .pm], forms := [.dev, .node] }) (hh : Heard s op h x) (ht : s.txn x.key = some t)
  (hu : u = s.flipAll) (hks : ks = (if u.tbl.regShadow.isEmpty then [] else [.regs u.tbl.regShadow]) ++ t.items.map Item.what)
  (htry : u.tryCommit x.key u 0 ks = .ok sc) (href : u.commitRefused sc x.key t.items ks = none) (hon : ∀ a ∈ addrsOf ks, u.regOn a = true)
  (hpd : ∀ st ∈ ks.flatMap itemStations, u.pdOn (16 + st) = true) (hv : v = (u.applyCommit sc ks).dropTxn x.key)

include hon hpd in
/-- Everything that the items reach is powered. -/
theorem commit_reaches : ((addrsOf ks).any (fun a => !u.regOn a) || (ks.flatMap itemStations).any fun st => !u.pdOn (16 + st)) = false := by
  have h1 : (addrsOf ks).any (fun a => !u.regOn a) = false := by simpa using hon
  have h2 : ((ks.flatMap itemStations).any fun st => !u.pdOn (16 + st)) = false := by
    rw [List.any_eq_false]
    intro st hst
    rw [hpd st hst]
    decide
  rw [h1, h2]; rfl

section
include hop hh ht hu hks htry href hon hpd hv

theorem exec_commit_ok (him : imageMask ks = 0) (hfw : u.fabWords sc ks = []) (hfl : ∀ st < 16, v.flipPending st = false) :
    exec (.commit h) s = .next (answered op h (.ok v)) := by
  subst hop
  have hoff := commit_reaches hon hpd
  have hflip : (List.range 16).any v.flipPending = false := by simpa using hfl
  refine next_serve_ok _ _ _ hh (by decide) (by decide) (a := .ok v) ?_ rfl rfl
  simp only [ht, ← hu, ← hks, htry, href, hoff, him, hfw, ← hv, hflip, bne_self_eq_false, List.isEmpty_nil, Bool.not_true, Bool.or_self, Bool.false_and,
    Bool.false_eq_true, if_false, if_true]

theorem exec_commit_owed (him : imageMask ks = 0) (hfw : u.fabWords sc ks = []) (hfl : ∃ st < 16, v.flipPending st = true) :
    exec (.commit h) s = .next { v with cmd := { v.cmd with owed := some { h := h, via := .arrive, opcode := 0x0201 } } } := by
  subst hop
  have hoff := commit_reaches hon hpd
  have hflip : (List.range 16).any v.flipPending = true := by simpa using hfl
  refine next_serve_owed _ _ _ hh (by decide) (by decide) (a := { st := .ok, s := v, owed := true }) ?_ rfl rfl
  simp only [ht, ← hu, ← hks, htry, href, hoff, him, hfw, ← hv, hflip, bne_self_eq_false, List.isEmpty_nil, Bool.not_true, Bool.or_self, Bool.false_and,
    Bool.false_eq_true, if_false, if_true]

section
variable
  (hr : ∀ obj, r obj = { cred := x.key, tag := h.tag, opcode := 0x0201, obj := obj, mode := 0, started := u.clk.now, ended := none, evId := none, seq := 0, endTime := 0 })
  (hw : w = if imageMask ks = 0 then v else
    { v with cmd := { v.cmd with asyncs := v.cmd.asyncs ++ [r (2 ^ 16 + imageMask ks)], xfer := [], xferCred := 0 } })
  (hl : u.asyncLive x.key < 16)
include hr hw hl

theorem exec_commit_image (him : imageMask ks ≠ 0) (hfw : u.fabWords sc ks = []) : exec (.commit h) s = .next (answered op h (accepted w)) := by
  subst hop
  have hoff := commit_reaches hon hpd
  have him' : (imageMask ks != 0) = true := by simpa using him
  refine next_serve_now _ _ _ hh (by decide) (by decide) (a := accepted w) ?_ rfl
  dsimp only at hw
  simp only [ht, ← hu, ← hks, htry, href, hoff, him', hfw, ← hv, ← hr, ← hw, List.isEmpty_nil, Bool.not_true, Bool.true_or, Bool.true_and,
    decide_eq_true_eq, Nat.not_le.mpr hl, Bool.false_eq_true, if_false, if_true, accepted]

theorem exec_commit_fabric (hfw : u.fabWords sc ks ≠ []) : exec (.commit h) s = .next (answered op h (accepted
    (State.commitFabric { w with cmd := { w.cmd with asyncs := w.cmd.asyncs ++ [r (2 ^ 17)] } } (u.fabWords sc ks)))) := by
  subst hop
  have hoff := commit_reaches hon hpd
  have hfw' : (u.fabWords sc ks).isEmpty = false := by simpa using hfw
  refine next_serve_now _ _ _ hh (by decide) (by decide) (a := accepted _) ?_ rfl
  dsimp only at hw
  simp only [ht, ← hu, ← hks, htry, href, hoff, hfw', ← hv, ← hr, ← hw, Bool.not_false, Bool.or_true, Bool.true_and,
    decide_eq_true_eq, Nat.not_le.mpr hl, Bool.false_eq_true, if_false, if_true, accepted]

end
end
end

/-! ### The other opcodes -/

theorem exec_quiesce_accepted {s u v : State} {h : Hdr} {x : Sess} {op : OpInfo} {mode : B8} {limit : B32} {ps : List Nat}
    (hop : op = { code := 0x0204, kind := .A, who := [.fm], forms := [.stn] }) (hh : Heard s op h x) (hm : mode.toNat ≤ 1) (h1 : 1 ≤ limit.toNat)
    (h2 : limit.toNat ≤ 60000) (hl : s.asyncLive x.key < 16) (hq : (s.begun op h x).quiesceLeft x.n = false)
    (hu : u = (s.begun op h x).asyncObj x.n mode.toNat) (hps : ps = (u.stnPorts x.n).filter (fun p => u.hasRole p && !u.quiesced p))
    (hv : v = ps.foldl (fun s p => s.quiesceStart p x.key h.tag (mode.toNat == 0)) u) :
    exec (.quiesce h mode limit) s = .next (answered op h (accepted (if ps = [] then
      v.endAsync (fun a => a.opcode == 0x0204 && a.cred == x.key && a.tag == h.tag) .ok none else v))) := by
  have hok : ¬ (2 ≤ mode.toNat ∨ limit.toNat = 0 ∨ 60000 < limit.toNat) := by omega
  subst hop
  refine next_serve_accepted _ _ _ hh (by decide) rfl hl (a := accepted _) ?_ rfl rfl
  simp only [if_neg hok, hq, Bool.false_eq_true, if_false, ← hu, ← hps, ← hv, List.isEmpty_iff]
  split <;> rfl

theorem exec_portQuiesce_accepted {s u : State} {h : Hdr} {x : Sess} {op : OpInfo} {mode : B8} {limit : B32}
    (hop : op = { code := 0x0301, kind := .A, who := [.fm], forms := [.port] }) (hh : Heard s op h x) (hm : mode.toNat ≤ 1) (h1 : 1 ≤ limit.toNat)
    (h2 : limit.toNat ≤ 60000) (hl : s.asyncLive x.key < 16) (hq : ((s.begun op h x).port x.n).quiescing = none)
    (hu : u = (s.begun op h x).asyncObj x.n mode.toNat) :
    exec (.portQuiesce h mode limit) s = .next (answered op h (accepted (if u.quiesced x.n = true ∨ u.hasRole x.n = false then
      u.endAsync (fun a => a.opcode == 0x0301 && a.cred == x.key && a.tag == h.tag) .ok none
      else u.quiesceStart x.n x.key h.tag (mode.toNat == 0)))) := by
  have hok : ¬ (2 ≤ mode.toNat ∨ limit.toNat = 0 ∨ 60000 < limit.toNat) := by omega
  subst hop
  refine next_serve_accepted _ _ _ hh (by decide) rfl hl (a := accepted _) ?_ rfl rfl
  simp only [opPort, if_neg hok, hq, Option.isSome_none, Bool.false_eq_true, if_false, ← hu, Bool.or_eq_true, Bool.not_eq_true']
  split <;> rfl

/-- Settles O2, opcode by opcode. -/
theorem configurationOpcodes : Obligations.ConfigurationOpcodes := by
  unfold Obligations.ConfigurationOpcodes
  intro s h x
  refine ⟨fun op items norm t => exec_stageReg_ok, ?commit, ?abort, ?status, ?release, fun op mode limit u v ps => exec_quiesce_accepted,
    fun op mode limit u => exec_portQuiesce_accepted⟩
  case commit =>
    exact fun op t u sc v w ks r hop hh ht hu hks htry href hon hpd hv hr hw =>
      ⟨exec_commit_ok hop hh ht hu hks htry href hon hpd hv, exec_commit_owed hop hh ht hu hks htry href hon hpd hv,
        fun him hfw hl => exec_commit_image hop hh ht hu hks htry href hon hpd hv hr hw hl him hfw,
        fun hfw hl => exec_commit_fabric hop hh ht hu hks htry href hon hpd hv hr hw hl hfw⟩
  case abort =>
    rintro op t rfl hh ht
    exact next_serve_ok _ _ _ hh (by decide) (by decide) (if_neg (by simp [ht])) rfl rfl
  case status =>
    rintro op t rfl hh ht
    refine next_serve_ok _ _ _ hh (by decide) (by decide) (a := .read _ _) ?_ rfl rfl
    simp only [ht]
  case release =>
    rintro op rfl hh
    exact next_serve_ok _ _ _ hh (by decide) (by decide) rfl rfl rfl

end Sys2Proof.Machine
end

section
/-!
PROOF. O3 PortOpcodes: the port opcodes of group 0x03 (Table 14.9).
-/

namespace Sys2Proof.Machine

section
variable {s : State} {h : Hdr} {x : Sess} {op : OpInfo}

section
variable (hop : op = { code := 0x0303, kind := .I, who := [.fm], forms := [.port] }) (hh : Heard s op h x) {enter : B8}
include hop hh

theorem exec_portMeasure_enter (he : enter.toNat = 1) (hg : s.stage x.n = stDETECT ∨ s.stage x.n = stFAILED) :
    exec (.portMeasure h enter) s = .next (answered op h (.ok (s.setStage x.n stMEASURE))) := by
  have hna : s.stage x.n ≠ stACTIVE := by
    rcases hg with hg | hg <;> rw [hg] <;> decide
  subst hop
  refine next_serve_ok _ _ _ hh (by decide) (by decide) (a := .ok _) ?_ rfl rfl
  exact (if_neg (by omega)).trans ((if_pos he).trans ((if_neg hna).trans (if_pos hg)))

theorem exec_portMeasure_active {u : State} (he : enter.toNat = 1) (hg : s.stage x.n = stACTIVE)
    (hu : u = (if s.seamMode (stnOf x.n) then s.seamLost (stnOf x.n) slAdmin else s).leaveTo x.n stMEASURE ldMeasure lsLink) :
    exec (.portMeasure h enter) s = .next (answered op h (.ok (if u.pciRole x.n = 1 then u.vsResetOp (u.vsOf x.n) vrDown else u))) := by
  subst hop
  refine next_serve_ok _ _ _ hh (by decide) (by decide) (a := .ok _) ?_ rfl rfl
  refine (if_neg (by omega)).trans ((if_pos he).trans ((if_pos hg).trans ?_))
  simp only [← hu]

theorem exec_portMeasure_leave (he : enter.toNat = 0) (hg : s.stage x.n = stMEASURE) :
    exec (.portMeasure h enter) s = .next (answered op h (.ok (((s.leaveMeasure x.n).setStage x.n stOFF).kick x.n))) := by
  subst hop
  refine next_serve_ok _ _ _ hh (by decide) (by decide) (a := .ok _) ?_ rfl rfl
  exact (if_neg (by omega)).trans ((if_neg (by omega)).trans (if_pos hg))

end

theorem exec_lanePrbs_ok {lane pattern bts rate : B8} (hop : op = { code := 0x0304, kind := .I, who := [.fm], forms := [.port] }) (hh : Heard s op h x)
    (hl : (s.measLanes x.n).contains lane.toNat = true) (hg : s.stage x.n = stMEASURE) (hb : bts.toNat < 16)
    (hp : patternOk pattern.toNat rate.toNat = true) :
    exec (.lanePrbs h lane pattern bts rate) s = .next (answered op h (.ok (s.prbsSet (stnOf x.n) lane.toNat
      (bit bts.toNat 0 || bit bts.toNat 1 || bit bts.toNat 2) (bit bts.toNat 0) (bit bts.toNat 1) (bit bts.toNat 2) (bit bts.toNat 3)
      pattern.toNat rate.toNat))) := by
  subst hop
  refine next_serve_ok _ _ _ hh (by decide) (by decide) (a := .ok _) ?_ rfl rfl
  exact (if_neg (by rw [hl, hp]; simpa using hb)).trans (if_neg (not_not.mpr hg))

theorem exec_laneMargin_ok {lane tOff vOff eye dwell : B8} (hop : op = { code := 0x0305, kind := .I, who := [.fm], forms := [.port] })
    (hh : Heard s op h x) (hl : (s.measLanes x.n).contains lane.toNat = true) (hg : s.stage x.n = stMEASURE) (he : eye.toNat ≤ 2) (hd : dwell.toNat ≤ 15)
    (hr : 2 ^ (20 + dwell.toNat) ≤ rateMb (s.get (F.STN_LN_PRBS_CTL_MEAS_RATE (stnOf x.n) lane.toNat)) * 1000000)
    (hb : s.flag (F.STN_LN_MARGIN_STAT_BUSY (stnOf x.n) lane.toNat) = false) :
    ∃ t errs, t = ((s.marginStart (stnOf x.n) lane.toNat (int8 tOff.toNat) (int8 vOff.toNat) eye.toNat dwell.toNat).marginEnd
        (stnOf x.n) lane.toNat errs).nextFree ∧
      exec (.laneMargin h lane tOff vOff eye dwell) s = .next (answered op h (.read (t) [
        .u32 (t.get (F.STN_LN_MARGIN_STAT_MARGIN_ERRS (stnOf x.n) lane.toNat)), .u8 (t.get (F.STN_LN_MARGIN_STAT_CLAMPED (stnOf x.n) lane.toNat))])) := by
  have hok : ¬ (!(s.measLanes x.n).contains lane.toNat || decide (3 ≤ eye.toNat) || decide (16 ≤ dwell.toNat)
      || decide (rateMb (s.get (F.STN_LN_PRBS_CTL_MEAS_RATE (stnOf x.n) lane.toNat)) * 1000000 < 2 ^ (20 + dwell.toNat))) = true := by
    simp only [hl, Bool.not_true, Bool.false_or, Bool.or_eq_true, decide_eq_true_eq, not_or, Nat.not_le, Nat.not_lt]
    exact ⟨⟨Nat.lt_succ_of_le he, Nat.lt_succ_of_le hd⟩, hr⟩
  subst hop
  refine ⟨_, (Config.marginErrs (s.marginStart (stnOf x.n) lane.toNat (int8 tOff.toNat) (int8 vOff.toNat) eye.toNat dwell.toNat).clk.free).toNat, rfl,
    next_serve_ok _ _ _ hh (by decide) (by decide) (a := .read _ _) ?_ rfl rfl⟩
  exact (if_neg hok).trans (if_neg (by simp [hg, hb]))

theorem exec_prbsRead_ok {lane : B8} (hop : op = { code := 0x0306, kind := .R, who := [.fm, .obs], forms := [.port] }) (hh : Heard s op h x)
    (hl : (s.measLanes x.n).contains lane.toNat = true) :
    exec (.prbsRead h lane) s = .next (answered op h (.read (s.prbsAdvance (stnOf x.n) lane.toNat)
      ([0, 4, 8, 12, 16].map fun o => Dat.u32 ((s.prbsAdvance (stnOf x.n) lane.toNat).reg
        ((F.STN_LN_PRBS_STAT_CHK_LOCK (stnOf x.n) lane.toNat).addr + o)).toNat))) := by
  subst hop
  refine next_serve_ok _ _ _ hh (by decide) (by decide) (a := .read _ _) ?_ rfl rfl
  exact (if_neg (by simpa using hl)).trans rfl

end

/-- The registers that PORT_STATUS reads follow each other. -/
theorem portStatus_addrs (st k : Nat) : (F.STN_PORT_CFG_ROLE st k).addr + 4 = (F.STN_PORT_SLOT_SLOT st k).addr ∧
    (F.STN_PORT_CFG_ROLE st k).addr + 8 = (F.STN_PORT_STATUS_DL_UP st k).addr ∧
    (F.STN_PORT_CFG_ROLE st k).addr + 12 = (F.STN_PORT_STATUS_DL_UP st k).addr + 4 := by
  simp only [F.STN_PORT_CFG_ROLE, F.STN_PORT_SLOT_SLOT, F.STN_PORT_STATUS_DL_UP]
  omega

theorem State.proxyCfg_up {s : State} {p : Nat} (t : Tlp) (rd : Bool) (h : s.stage p = stACTIVE) :
    s.proxyCfg p t rd = .read (s.emit (.tlp p t)).nextFree
      (if rd then [.u32 (Config.proxyData s.clk.free).toNat, .u8 (Config.proxyStatus s.clk.free).toNat] else [.u8 (Config.proxyStatus s.clk.free).toNat]) :=
  if_pos h

theorem State.proxyCfg_down {s : State} {p : Nat} (t : Tlp) (rd : Bool) (h : s.stage p ≠ stACTIVE) :
    s.proxyCfg p t rd = .read s (if rd then [.u32 0xFFFFFFFF, .u8 1] else [.u8 1]) :=
  if_neg h

/-- Settles O3, opcode by opcode. -/
theorem portOpcodes : Obligations.PortOpcodes := by
  unfold Obligations.PortOpcodes
  intro s h x
  refine ⟨?status, ?restart, fun op enter hop hh => exec_portMeasure_enter hop hh, fun op enter u hop hh => exec_portMeasure_active hop hh,
    fun op enter hop hh => exec_portMeasure_leave hop hh, fun op lane pattern bts rate => exec_lanePrbs_ok,
    fun op lane tOff vOff eye dwell => exec_laneMargin_ok, fun op lane => exec_prbsRead_ok, ?readUp, ?readDown, ?write⟩
  case status =>
    rintro op rfl hh
    obtain ⟨h4, h8, h12⟩ := portStatus_addrs (stnOf x.n) (kOf x.n)
    refine next_serve_ok _ _ _ hh (by decide) (by decide) (a := .read _ _) ?_ rfl rfl
    simp only [List.map_cons, List.map_nil, h4, h8, h12]
  case restart =>
    rintro op rfl hh hg
    exact next_serve_ok _ _ _ hh (by decide) (by decide) (a := .ok _) (if_pos hg) rfl rfl
  case readUp =>
    rintro op target off size rfl hh hr hp hg
    exact ⟨_, _, next_serve_ok _ _ _ hh (by decide) (by decide) (a := .read _ _)
      ((if_neg (not_not.mpr hr)).trans ((if_neg (by simp [hp])).trans (State.proxyCfg_up _ true hg))) rfl rfl⟩
  case readDown =>
    rintro op target off size rfl hh hr hp hg
    exact next_serve_ok _ _ _ hh (by decide) (by decide) (a := .read _ _)
      ((if_neg (not_not.mpr hr)).trans ((if_neg (by simp [hp])).trans (State.proxyCfg_down _ true hg))) rfl rfl
  case write =>
    rintro op target off size data rfl hh hr hp
    exact ⟨fun hg => ⟨_, next_serve_ok _ _ _ hh (by decide) (by decide) (a := .read _ _)
        ((if_neg (not_not.mpr hr)).trans ((if_neg (by simp [hp])).trans (State.proxyCfg_up _ false hg))) rfl rfl⟩,
      fun hg => next_serve_ok _ _ _ hh (by decide) (by decide) (a := .read _ _)
        ((if_neg (not_not.mpr hr)).trans ((if_neg (by simp [hp])).trans (State.proxyCfg_down _ false hg))) rfl rfl⟩

end Sys2Proof.Machine
end

section
/-!
PROOF. O4 RoutingStages: the routing opcodes of group 0x04 that stage their items (Table 14.10).
-/

namespace Sys2Proof.Machine

section
variable {s t : State} {h : Hdr} {x : Sess} {op : OpInfo}

section
variable {idx mask : B16} {entry : List B32} {w : Win} {m : Nat} {sc : State}
  (hop : op = { code := 0x0400, kind := .S, who := [.fm, .pm], forms := [.vs], len := entry.length == 8 }) (hh : Heard s op h x)
  (hw : w = winOf idx.toNat (fun k => (entry.getD k 0).toNat))
  (hm : m = if mask.toNat = 0 then (s.vsStations x.n).foldl (fun m st => m + 2 ^ st) 0 else mask.toNat)
  (hi : idx.toNat < 4096) (he : (entry.getD 1 0).toNat = 0) (hhw : w.hw = false) (hold : ∀ st ∈ maskStations m, ((s.scratch x.key).win st idx.toNat).hw = false)
  (hr : (s.scratch x.key).winRange w x.n (entry.getD 0 0).toNat = true)
  (hp : x.isP = true → (w.valid = true → s.winOwn x.n w = true) ∧ ∀ st ∈ maskStations m, st ∈ s.vsStations x.n)
  (hsc : sc = s.withItems x [.window m idx.toNat entry]) (hc : sc.winCross m idx.toNat w = true)
  (himg : w.valid = true → w.prog = true → ∀ st ∈ maskStations m, s.imageFor x.key st = true) (hg : sc.validGrants.all sc.grantOk = true)
  (ha : s.addItems x.key [.window m idx.toNat entry] 36 = some t)
include hop hh hw hm hi he hhw hold hr hp hsc hc himg hg ha

theorem exec_stageWindow_ok : exec (.stageWindow h idx mask entry) s = .next (answered op h (.ok t)) := by
  have hform : ¬ (4096 ≤ idx.toNat ∨ (entry.getD 1 0).toNat ≠ 0) := by omega
  have hsys : (w.hw || ((maskStations m).any fun st => ((s.scratch x.key).win st idx.toNat).hw)) = false := by
    rw [hhw, Bool.false_or, List.any_eq_false]
    exact fun st hst => by rw [hold st hst]; decide
  have hown : (x.isP && ((w.valid && !s.winOwn x.n w) || (maskStations m).any fun st => !(s.vsStations x.n).contains st)) = false := by
    cases hx : x.isP with
    | false => rfl
    | true =>
      obtain ⟨h1, h2⟩ := hp hx
      have h2' : ((maskStations m).any fun st => !(s.vsStations x.n).contains st) = false := by
        rw [List.any_eq_false]
        exact fun st hst => by simpa using h2 st hst
      have h1' : (w.valid && !s.winOwn x.n w) = false := by simpa using h1
      rw [h1', h2']; rfl
  have hprog : (w.valid && w.prog && ((maskStations m).any fun st => !s.imageFor x.key st)) = false := by
    cases hv : w.valid <;> cases hpg : w.prog <;> simp
    exact himg hv hpg
  subst hop
  refine next_serve_ok _ _ _ hh (show 0x0400 / 256 ≠ 0x0F by decide) (show OpKind.S ≠ .A by decide) (a := .ok t) ?_ rfl rfl
  simp only [← hw, ← hm, if_neg hform, hsys, hr, hown, Bool.not_true, Bool.false_eq_true, if_false]
  refine State.stage_ok ?_ ha
  simp only [← hsc, hc, hprog, hg, Bool.not_true, Bool.false_eq_true, if_false]

end

/-- The operands of STAGE_REQUESTER are well formed. -/
theorem requester_form {add e : Nat} (hl : reqLent e = false) (hw : e < 2 ^ 43) (hp : reqPort e < 144 ∨ reqPort e = 0xFF)
    (ha : add = 0 ∨ add = 1 ∧ reqValid e = true) :
    ¬ (2 ≤ add ∨ reqLent e = true ∨ 2 ^ 43 ≤ e ∨ (144 ≤ reqPort e ∧ reqPort e ≠ 0xFF) ∨ (add = 1 ∧ reqValid e = false)) := by
  rintro (h | h | h | ⟨h, h'⟩ | ⟨h, h'⟩)
  · omega
  · exact Bool.false_ne_true (hl.symm.trans h)
  · omega
  · omega
  · rcases ha with ha | ⟨-, ha⟩
    · omega
    · exact Bool.false_ne_true (h'.symm.trans ha)

section
variable {add : B8} {entry : B64} (hop : op = { code := 0x0401, kind := .S, who := [.fm], forms := [.stn] }) (hh : Heard s op h x)
  (hl : reqLent entry.toNat = false) (hw : entry.toNat < 2 ^ 43) (hp : reqPort entry.toNat < 144 ∨ reqPort entry.toNat = 0xFF)
include hop hh hl hw hp

theorem exec_stageRequester_add (h1 : add.toNat = 1) (hv : reqValid entry.toNat = true) (hpg : reqProg entry.toNat = true → s.imageFor x.key x.n = true)
    (hn : (s.scratch x.key).reqFind x.n (reqRid entry.toNat) (reqPort entry.toNat) = none)
    (hf : (s.scratch x.key).reqFree x.n (reqRid entry.toNat) (reqPort entry.toNat) ≠ none)
    (ha : s.addItems x.key [.requester x.n true entry] 12 = some t) :
    exec (.stageRequester h add entry) s = .next (answered op h (.ok t)) := by
  have hform := requester_form hl hw hp (.inr ⟨h1, hv⟩)
  subst hop
  refine next_serve_ok _ _ _ hh (by decide) (by decide) (a := .ok t) ?_ rfl rfl
  exact (if_neg hform).trans ((if_pos h1).trans ((if_neg (by simp [hn])).trans ((if_neg (by simpa using hf)).trans
    ((if_neg (by simpa using hpg)).trans (State.stage_ok rfl ha)))))

theorem exec_stageRequester_remove {i : Nat} (h0 : add.toNat = 0)
    (hn : (s.scratch x.key).reqFind x.n (reqRid entry.toNat) (reqPort entry.toNat) = some i)
    (hli : reqLent ((s.scratch x.key).tw64 tReq x.n i 0) = false) (ha : s.addItems x.key [.requester x.n false entry] 12 = some t) :
    exec (.stageRequester h add entry) s = .next (answered op h (.ok t)) := by
  have hform := requester_form hl hw hp (.inl h0)
  have h1 : ¬ add.toNat = 1 := by omega
  subst hop
  refine next_serve_ok _ _ _ hh (by decide) (by decide) (a := .ok t) ?_ rfl rfl
  simp only [if_neg hform, if_neg h1, hn, hli, Bool.false_eq_true, if_false]
  exact State.stage_ok rfl ha

end

theorem exec_stagePermission_ok {rclass first : B8} {count : B16} {vals : Bytes}
    (hop : op = { code := 0x0402, kind := .S, who := [.fm], forms := [.stn, .dev], len := vals.length == (count.toNat + 3) / 4 }) (hh : Heard s op h x)
    (h1 : 1 ≤ count.toNat) (h2 : first.toNat + count.toNat ≤ 256)
    (ha : s.addItems x.key [.perm (if x.form == .dev then 0xFFFF else 2 ^ x.n) rclass.toNat first.toNat (permVals vals count.toNat)]
      (4 + vals.length) = some t) :
    exec (.stagePermission h rclass first count vals) s = .next (answered op h (.ok t)) := by
  subst hop
  refine next_serve_ok _ _ _ hh (show 0x0402 / 256 ≠ 0x0F by decide) (show OpKind.S ≠ .A by decide) (a := .ok t) ?_ rfl rfl
  exact (if_neg (by omega)).trans (State.stage_ok rfl ha)

theorem exec_stagePortDefault_ok {rclass prog : B8} (hop : op = { code := 0x0403, kind := .S, who := [.fm], forms := [.port] }) (hh : Heard s op h x)
    (hp : prog.toNat ≤ 1) (hi : prog.toNat = 1 → s.imageFor x.key (stnOf x.n) = true)
    (ha : s.addItems x.key [.regs [fldPart (F.STN_CLS_PORT_DEF_DEF_RCLASS (stnOf x.n) (kOf x.n)) rclass.toNat,
      fldPart (F.STN_CLS_PORT_DEF_DEF_PROG (stnOf x.n) (kOf x.n)) prog.toNat]] 2 = some t) :
    exec (.stagePortDefault h rclass prog) s = .next (answered op h (.ok t)) := by
  have himg : ¬ (prog.toNat = 1 ∧ s.imageFor x.key (stnOf x.n) = false) := by
    rintro ⟨h1, h2⟩
    exact Bool.false_ne_true (h2.symm.trans (hi h1))
  subst hop
  refine next_serve_ok _ _ _ hh (by decide) (by decide) (a := .ok t) ?_ rfl rfl
  exact (if_neg (by omega)).trans (State.stage_ok (if_neg himg) ha)

end

/-- Settles O4, opcode by opcode. -/
theorem routingStages : Obligations.RoutingStages := by
  unfold Obligations.RoutingStages
  intro s t h x
  refine ⟨fun op idx mask entry w m sc => exec_stageWindow_ok, ?requester, fun op rclass first count vals => exec_stagePermission_ok,
    fun op rclass prog => exec_stagePortDefault_ok⟩
  case requester =>
    exact fun op add entry hop hh hl hw hp => ⟨exec_stageRequester_add hop hh hl hw hp, fun i => exec_stageRequester_remove hop hh hl hw hp⟩

end Sys2Proof.Machine
end

section
/-!
PROOF. O5 LendingOpcodes: LEND, LEND_RESUME and LEND_RECLAIM (Table 14.10, R139 to R141).
-/

namespace Sys2Proof.Machine

/-- Staging answers at once. -/
theorem State.stage_answers (s : State) (x : Sess) (ks : List ItemK) (bytes : Nat) (check : State → Option (Status × Nat)) :
    (s.stage_ x ks bytes check).owed = false := by
  unfold State.stage_
  dsimp only
  split
  · rfl
  · split <;> rfl

/-- The own part of LEND, as the model has it. -/
def lendAns (words : List B32) (found : Option SrIov) (x : Sess) (s : State) : Ans :=
  let r : LendReq := { w := fun k => (words.getD k 0).toNat }
  let pr := found.getD (Config.sriov s.clk.free)
  let s := s.nextFree
  let st := stnOf r.port
  let sc := s.scratch x.key
  if !r.ok || r.owner != x.n then .fail .badParam s
  else match (List.range 256).find? fun i => !sc.lendValid st i with
    | none => .fail .noResource s
    | some idx =>
      if sc.lendClash r pr (99, 0) then .fail .stagedConflict s
      else if r.misaligned pr ((vfIndex pr r.rid).getD 0) then .fail .badParam s
      else if r.prog && !s.imageFor x.key st then .fail .stagedConflict s
      else if (sc.reqFree st r.rid r.port).isNone then .fail .noResource s
      else
        let a := s.stage_ x [.lend st idx (r.words pr ((vfIndex pr r.rid).getD 0)) pr] 20 fun _ => none
        { a with data := [.u8 idx] }

theorem lendAns_owed (words : List B32) (found : Option SrIov) (x : Sess) (s : State) : (lendAns words found x s).owed = false := by
  unfold lendAns
  dsimp only
  split
  · rfl
  split
  · rfl
  split
  · rfl
  split
  · rfl
  split
  · rfl
  split
  · rfl
  · exact State.stage_answers _ _ _ _ _

/-- The own part of LEND_RESUME, as the model has it. -/
def lendResumeAns (idx : B8) (found : Option SrIov) (x : Sess) (s : State) : Ans :=
  let st := x.n
  let i := idx.toNat
  if !s.lendValid st i then .fail .badParam s
  else if s.lendState st i != 2 then .fail .notIdle s
  else
    let pr := found.getD (Config.sriov s.clk.free)
    let s := s.nextFree
    let r : LendReq := { w := s.lw st i }
    if s.lendClash r pr (st, i) then .fail .stagedConflict s
    else if r.misaligned pr ((vfIndex pr r.rid).getD 0) then .fail .badParam s
    else .ok (s.lendActive st i)

theorem lendResumeAns_owed (idx : B8) (found : Option SrIov) (x : Sess) (s : State) : (lendResumeAns idx found x s).owed = false := by
  unfold lendResumeAns
  dsimp only
  split
  · rfl
  split
  · rfl
  split
  · rfl
  split <;> rfl

section
variable {s u : State} {h : Hdr} {x : Sess} {op : OpInfo}

theorem exec_lend_ok {words : List B32} {r : LendReq} {idx : Nat} {pr : SrIov}
    (hop : op = { code := 0x0404, kind := .S, who := [.fm], forms := [.vs], len := words.length == 5 }) (hh : Heard s op h x)
    (hr : r = { w := fun k => (words.getD k 0).toNat }) (hok : r.ok = true) (ho : r.owner = x.n)
    (hi : ((List.range 256).find? fun i => !(s.nextFree.scratch x.key).lendValid (stnOf r.port) i) = some idx)
    (hc : (s.nextFree.scratch x.key).lendClash r pr (99, 0) = false) (hm : r.misaligned pr ((vfIndex pr r.rid).getD 0) = false)
    (hp : r.prog = true → s.nextFree.imageFor x.key (stnOf r.port) = true)
    (hf : (s.nextFree.scratch x.key).reqFree (stnOf r.port) r.rid r.port ≠ none)
    (ha : s.nextFree.addItems x.key [.lend (stnOf r.port) idx (r.words pr ((vfIndex pr r.rid).getD 0)) pr] 20 = some u) :
    exec (.lend h words (some pr)) s = .next (answered op h (.read u [.u8 idx])) := by
  have himg : ¬ (r.prog && !s.nextFree.imageFor x.key (stnOf r.port)) = true := by simpa using hp
  have hfree : ¬ ((s.nextFree.scratch x.key).reqFree (stnOf r.port) r.rid r.port).isNone = true := by simpa using hf
  subst hop
  refine next_serve_ok _ _ _ hh (show 0x0404 / 256 ≠ 0x0F by decide) (show OpKind.S ≠ .A by decide) (a := .read _ _) ?_ rfl rfl
  simp only [← hr, hok, ho, Option.getD_some, hi, hc, hm, if_neg himg, if_neg hfree, bne_self_eq_false, Bool.not_true, Bool.or_self, Bool.false_eq_true, if_false]
  rw [State.stage_ok (check := _) rfl ha]
  rfl

theorem exec_lendResume_ok {idx : B8} {r : LendReq} {pr : SrIov} (hop : op = { code := 0x0405, kind := .I, who := [.fm], forms := [.stn] })
    (hh : Heard s op h x) (hv : s.lendValid x.n idx.toNat = true) (h2 : s.lendState x.n idx.toNat = 2) (hr : r = { w := s.nextFree.lw x.n idx.toNat })
    (hc : s.nextFree.lendClash r pr (x.n, idx.toNat) = false) (hm : r.misaligned pr ((vfIndex pr r.rid).getD 0) = false) :
    exec (.lendResume h idx (some pr)) s = .next (answered op h (.ok (s.nextFree.lendActive x.n idx.toNat))) := by
  subst hop
  refine next_serve_ok _ _ _ hh (by decide) (by decide) (a := .ok _) ?_ rfl rfl
  simp only [hv, h2, ← hr, Option.getD_some, hc, hm, bne_self_eq_false, Bool.not_true, Bool.false_eq_true, if_false]

theorem exec_lend_free {words : List B32} (hop : op = { code := 0x0404, kind := .S, who := [.fm], forms := [.vs], len := words.length == 5 })
    (hh : Heard s op h x) :
    ∃ pr, exec (.lend h words none) s = exec (.lend h words (some pr)) s ∧ ∃ a, exec (.lend h words none) s = .next (answered op h a) := by
  subst hop
  have hfind := next_serve_now (.lend h words none) (words.map fun w => .u32 w.toNat) (lendAns words none) hh
    (show 0x0404 / 256 ≠ 0x0F by decide) (show OpKind.S ≠ .A by decide) rfl (lendAns_owed words none x s)
  have hfound := next_serve_now (.lend h words (some (Config.sriov s.clk.free))) (words.map fun w => .u32 w.toNat)
    (lendAns words (some (Config.sriov s.clk.free))) hh
    (show 0x0404 / 256 ≠ 0x0F by decide) (show OpKind.S ≠ .A by decide) rfl (lendAns_owed words (some (Config.sriov s.clk.free)) x s)
  exact ⟨Config.sriov s.clk.free, hfind.trans hfound.symm, _, hfind⟩

theorem exec_lendResume_free {idx : B8} (hop : op = { code := 0x0405, kind := .I, who := [.fm], forms := [.stn] }) (hh : Heard s op h x) :
    ∃ pr, exec (.lendResume h idx none) s = exec (.lendResume h idx (some pr)) s ∧ ∃ a, exec (.lendResume h idx none) s = .next (answered op h a) := by
  subst hop
  have hfind := next_serve_now (.lendResume h idx none) [.u8 idx.toNat] (lendResumeAns idx none) hh
    (by decide) (by decide) rfl (lendResumeAns_owed idx none x s)
  have hfound := next_serve_now (.lendResume h idx (some (Config.sriov s.clk.free))) [.u8 idx.toNat]
    (lendResumeAns idx (some (Config.sriov s.clk.free))) hh (by decide) (by decide) rfl (lendResumeAns_owed idx (some (Config.sriov s.clk.free)) x s)
  exact ⟨Config.sriov s.clk.free, hfind.trans hfound.symm, _, hfind⟩

section
variable {v : State} {idx mode : B8} {limit : B32} (hop : op = { code := 0x0406, kind := .A, who := [.fm], forms := [.stn] }) (hh : Heard s op h x)
  (hl : s.asyncLive x.key < 16) (hv : (s.begun op h x).lendValid x.n idx.toNat = true) (h3 : (s.begun op h x).lendState x.n idx.toNat ≠ 3)
  (hr : (s.begun op h x).reclaiming x.n idx.toNat = 0) (hu : u = (s.begun op h x).asyncObj (256 * x.n + idx.toNat) mode.toNat)
include hop hh hl hv h3 hr hu

theorem exec_lendReclaim_atOnce (hm : mode.toNat = 1) :
    exec (.lendReclaim h idx mode limit) s = .next (answered op h (accepted (u.lendRelease x.n idx.toNat 1))) := by
  subst hop
  refine next_serve_accepted _ _ _ hh (by decide) rfl hl (a := accepted _) ?_ rfl rfl
  subst hu
  exact (if_neg (by simp [hv, hm])).trans ((if_neg (by simp [h3, hr])).trans (if_pos hm))

theorem exec_lendReclaim_orderly (hm : mode.toNat = 0) (hw : v = u.setVdp x.n idx.toNat 0 ofSLTCTL (u.vdp x.n idx.toNat 0 ofSLTCTL ||| slAttn)) :
    exec (.lendReclaim h idx mode limit) s = .next (answered op h (accepted (State.reclaimGoOn
      { v with tbl := { v.tbl with reclaim := SMap.set (fun _ => 0) v.tbl.reclaim (256 * x.n + idx.toNat) 1 } } x.n idx.toNat))) := by
  subst hop
  refine next_serve_accepted _ _ _ hh (by decide) rfl hl (a := accepted _) ?_ rfl rfl
  subst hw hu
  exact (if_neg (by simp [hv, hm])).trans ((if_neg (by simp [h3, hr])).trans (if_neg (by omega)))

end
end

/-- Settles O5, opcode by opcode. -/
theorem lendingOpcodes : Obligations.LendingOpcodes := by
  unfold Obligations.LendingOpcodes
  intro s h x
  exact ⟨fun op words r idx pr u => exec_lend_ok, fun op idx r pr => exec_lendResume_ok, fun op words => exec_lend_free,
    fun op idx => exec_lendResume_free, fun op idx mode limit u v hop hh hl hv h3 hr hu =>
      ⟨exec_lendReclaim_atOnce hop hh hl hv h3 hr hu, exec_lendReclaim_orderly hop hh hl hv h3 hr hu⟩⟩

end Sys2Proof.Machine
end

section
/-!
PROOF. O6 MulticastTraceBobbinOpcodes: groups 0x05 and 0x06 (Tables 14.11 and 14.12).
-/

namespace Sys2Proof.Machine

section
variable {s t : State} {h : Hdr} {x : Sess} {op : OpInfo}

theorem exec_stageMgroup_ok {group : B8} {entry : List B32} {ws : List (Nat × B32 × B32)}
    (hop : op = { code := 0x0500, kind := .S, who := [.fm], forms := [.dev], len := entry.length == 8 }) (hh : Heard s op h x)
    (hws : ws = ((List.range 5).map fun w => regWhole (groupAddr group.toNat w) (entry.getD w 0).toNat) ++
      [regWhole (groupAddr group.toNat 5) ((entry.getD 5 0).toNat % 128)])
    (hc : (s.withItems x [.regs ws]).groupCheck group.toNat = none) (ha : s.addItems x.key [.regs ws] 36 = some t) :
    exec (.stageMgroup h group entry) s = .next (answered op h (.ok t)) := by
  subst hop
  refine next_serve_ok _ _ _ hh (show 0x0500 / 256 ≠ 0x0F by decide) (show OpKind.S ≠ .A by decide) (a := .ok t) ?_ rfl rfl
  simp only [← hws]
  exact State.stage_ok (check := fun sc => sc.groupCheck group.toNat) hc ha

theorem exec_stageTraceRule_ok {rule : B8} {ctl mtch rate : B32} {ws : List (Nat × B32 × B32)}
    (hop : op = { code := 0x0501, kind := .S, who := [.fm], forms := [.dev] }) (hh : Heard s op h x) (hr : rule.toNat < 16)
    (hd : bits ctl.toNat 12 8 ≤ 143)
    (hws : ws = [((F.MCT_TR_CTL_EN rule.toNat).addr, 0x000FFFF7#32, ctl), ((F.MCT_TR_MATCH_ING_PORT rule.toNat).addr, 0x007FFFFF#32, mtch),
      ((F.MCT_TR_RATE_N_M1 rule.toNat).addr, 0x0000FFFF#32, rate)])
    (hc : (s.withItems x [.regs ws]).traceOk = true) (ha : s.addItems x.key [.regs ws] 16 = some t) :
    exec (.stageTraceRule h rule ctl mtch rate) s = .next (answered op h (.ok t)) := by
  have hform : ¬ (16 ≤ rule.toNat ∨ 143 < bits ctl.toNat 12 8) := by omega
  subst hop
  refine next_serve_ok _ _ _ hh (by decide) (by decide) (a := .ok t) ?_ rfl rfl
  refine (if_neg hform).trans ?_
  rw [← hws]
  exact State.stage_ok (if_pos hc) ha

theorem exec_readSamples_ok {first count : B32} {es : List Sample}
    (hop : op = { code := 0x0502, kind := .R, who := [.fm, .obs], forms := [.dev] }) (hh : Heard s op h x) (h1 : 1 ≤ count.toNat)
    (h63 : count.toNat ≤ 63) (hes : es = (s.core.samples.filter fun e => seqGe e.seq first.toNat).take count.toNat) :
    exec (.readSamples h first count) s =
      .next (answered op h (.read s (.u32 ((es.head?.map Sample.seq).getD first.toNat) :: es.flatMap Sample.dat))) := by
  have hform : ¬ (count.toNat = 0 ∨ 63 < count.toNat) := by omega
  subst hop
  refine next_serve_ok _ _ _ hh (by decide) (by decide) (a := .read _ _) ?_ rfl rfl
  refine (if_neg hform).trans ?_
  simp only [← hes]
  cases es <;> rfl

theorem exec_imageTransfer_ok {off : B32} {piece old : Bytes}
    (hop : op = { code := 0x0600, kind := .I, who := [.fm], forms := [.dev], len := decide (piece.length ≤ 4076) }) (hh : Heard s op h x)
    (hfree : s.cmd.xfer = [] ∨ s.cmd.xferCred = x.key ∨ s.cred s.cmd.xferCred = none) (hold : old = if off.toNat = 0 then [] else s.cmd.xfer)
    (hlen : old.length = off.toNat) (hend : off.toNat + piece.length ≤ 65920) (hown : off.toNat ≠ 0 → s.cmd.xferCred = x.key) :
    exec (.imageTransfer h off piece) s =
      .next (answered op h (.ok { s with cmd := { s.cmd with xfer := old ++ piece, xferCred := x.key } })) := by
  have hbusy : (!s.cmd.xfer.isEmpty && s.cmd.xferCred != x.key && (s.cred s.cmd.xferCred).isSome) = false := by
    rcases hfree with hf | hf | hf <;> simp [hf]
  have hform : ¬ (old.length ≠ off.toNat ∨ 65920 < off.toNat + piece.length ∨ (off.toNat ≠ 0 ∧ s.cmd.xferCred ≠ x.key)) := by
    rintro (hl | hl | ⟨h0, hk⟩)
    · exact hl hlen
    · omega
    · exact hk (hown h0)
  subst hop
  refine next_serve_ok _ _ _ hh (show 0x0600 / 256 ≠ 0x0F by decide) (show OpKind.I ≠ .A by decide) (a := .ok _) ?_ rfl rfl
  simp only [← hold, hbusy, if_neg hform, Bool.false_eq_true, if_false]

theorem exec_imageInstall_ok {len : B32} {mask : B16} {mode : B8} (hop : op = { code := 0x0601, kind := .S, who := [.fm], forms := [.dev] })
    (hh : Heard s op h x) (hm : mode.toNat ≤ 1) (hk : s.cmd.xferCred = x.key) (hl : (s.cmd.xfer.take len.toNat).length = len.toNat)
    (hb : ∀ st ∈ maskStations mask.toNat, s.swapBusy st = false)
    (ha : s.addItems x.key [.image mask.toNat (mode.toNat == 1) (s.cmd.xfer.take len.toNat)] 8 = some t) :
    exec (.imageInstall h len mask mode) s = .next (answered op h (match s.checkImage (s.cmd.xfer.take len.toNat) with
      | none => .ok t
      | some (reason, i, meet) => .fail (if meet then .stagedConflict else .badParam) (s.raise 0x01 0x4001 3 (scStn ((maskStations mask.toNat).headD 0))
          [imgId (s.cmd.xfer.take len.toNat), imgVer (s.cmd.xfer.take len.toNat), reason, i]))) := by
  have hform : ¬ (1 < mode.toNat ∨ (s.cmd.xfer.take len.toNat).length ≠ len.toNat) := by omega
  have hbusy : (maskStations mask.toNat).any s.swapBusy = false := by
    rw [List.any_eq_false]
    exact fun st hst => by rw [hb st hst]; decide
  subst hop
  refine next_serve_now _ _ _ hh (by decide) (by decide) ?_ ?_
  · simp only [if_pos hk, if_neg hform, hbusy, Bool.false_eq_true, if_false]
    cases s.checkImage (s.cmd.xfer.take len.toNat) with
    | none => exact State.stage_ok rfl ha
    | some _ => rfl
  · cases s.checkImage (s.cmd.xfer.take len.toNat) <;> rfl

theorem exec_stageRegions_ok {mask : B16} {nreg : B8} {recs : List (List B32)}
    (hop : op = { code := 0x0602, kind := .S, who := [.fm], forms := [.dev], len := recs.length == nreg.toNat && recs.all fun r => r.length == 4 })
    (hh : Heard s op h x) (hn : nreg.toNat ≤ 16) (hf : recs.all (regionFmt (2 ^ 20) 3) = true)
    (hb : ∀ st ∈ maskStations mask.toNat, s.rulesBusy st = false) (ho : regionsOverlap recs = false)
    (ha : s.addItems x.key [.regions mask.toNat recs] (4 + 16 * recs.length) = some t) :
    exec (.stageRegions h mask nreg recs) s = .next (answered op h (.ok t)) := by
  have hform : ¬ (16 < nreg.toNat ∨ recs.all (regionFmt (2 ^ 20) 3) = false) := by
    rintro (hl | hl)
    · omega
    · exact Bool.false_ne_true (hl.symm.trans hf)
  have hbusy : ¬ (maskStations mask.toNat).any s.rulesBusy = true := by simpa using hb
  subst hop
  refine next_serve_ok _ _ _ hh (show 0x0602 / 256 ≠ 0x0F by decide) (show OpKind.S ≠ .A by decide) (a := .ok t) ?_ rfl rfl
  exact (if_neg hform).trans ((if_neg hbusy).trans (State.stage_ok (by rw [ho]; rfl) ha))

theorem exec_tableWrite_ok {mask : B16} {off : B32} {words : List B64}
    (hop : op = { code := 0x0603, kind := .I, who := [.fm], forms := [.dev], len := decide (words.length ≤ 509) }) (hh : Heard s op h x)
    (h8 : off.toNat % 8 = 0) (hend : off.toNat + 8 * words.length ≤ 0x100000) (hon : ∀ st ∈ maskStations mask.toNat, s.bobOn st = true) :
    exec (.tableWrite h mask off words) s = .next (answered op h (.ok ((maskStations mask.toNat).foldl (fun s st =>
      (words.zip (List.range words.length)).foldl (fun s y => s.setShared st (off.toNat + 8 * y.2) y.1) s) s))) := by
  have hform : ¬ (off.toNat % 8 ≠ 0 ∨ 0x100000 < off.toNat + 8 * words.length) := by omega
  have hall : ((maskStations mask.toNat).find? fun st => !s.bobOn st) = none := by
    rw [List.find?_eq_none]
    exact fun st hst => by rw [hon st hst]; decide
  subst hop
  refine next_serve_ok _ _ _ hh (show 0x0603 / 256 ≠ 0x0F by decide) (show OpKind.I ≠ .A by decide) (a := .ok _) ?_ rfl rfl
  simp only [if_neg hform, hall]

theorem exec_tableRead_ok {off count : B32} (hop : op = { code := 0x0604, kind := .R, who := [.fm, .obs], forms := [.stn] }) (hh : Heard s op h x)
    (h8 : off.toNat % 8 = 0) (h1 : 1 ≤ count.toNat) (h510 : count.toNat ≤ 510) (hend : off.toNat + 8 * count.toNat ≤ 0x100000)
    (hon : s.bobOn x.n = true) (hgood : ∀ i < count.toNat, sharedKey x.n (off.toNat + 8 * i) ∉ s.bob.bad) :
    exec (.tableRead h off count) s = .next (answered op h (.read s ((List.range count.toNat).map fun i =>
      .u64 (s.shared x.n (off.toNat + 8 * i)).toNat))) := by
  have hform : ¬ (off.toNat % 8 ≠ 0 ∨ count.toNat = 0 ∨ 510 < count.toNat ∨ 0x100000 < off.toNat + 8 * count.toNat) := by omega
  have hnone : ((List.range count.toNat).find? fun i => s.bob.bad.contains (sharedKey x.n (off.toNat + 8 * i))) = none := by
    rw [List.find?_eq_none]
    exact fun i hi => by simpa using hgood i (List.mem_range.mp hi)
  subst hop
  refine next_serve_ok _ _ _ hh (by decide) (by decide) (a := .read _ _) ?_ rfl rfl
  simp only [if_neg hform, hon, hnone, Bool.not_true, Bool.false_eq_true, if_false]

theorem exec_bobbinStatus_ok (hop : op = { code := 0x0605, kind := .R, who := [.fm, .obs], forms := [.stn] }) (hh : Heard s op h x) :
    exec (.bobbinStatus h) s = .next (answered op h (.read s ([.u32 (s.reg (F.STN_BB_STATUS_IN_SERVICE x.n).addr).toNat,
      .u32 (s.reg (F.STN_BB_IMAGE_IMAGE_ID x.n).addr).toNat, .u32 (s.reg (F.STN_BB_EPOCH_EPOCH x.n).addr).toNat] ++
      (List.range 16).map fun k => .u32 (s.reg (F.STN_BE_STATE_STATE x.n k).addr).toNat))) := by
  subst hop
  exact next_serve_ok _ _ _ hh (by decide) (by decide) (a := .read _ _) rfl rfl rfl

end

/-- Settles O6, one lemma for each opcode. -/
theorem multicastTraceBobbinOpcodes : Obligations.MulticastTraceBobbinOpcodes := by
  unfold Obligations.MulticastTraceBobbinOpcodes
  intro s t h x
  refine ⟨?mgroup, ?traceRule, ?samples, ?transfer, ?install, ?regions, ?tableWrite, ?tableRead, ?status⟩
  case mgroup => exact fun _ _ _ _ hop hh hws hc ha => exec_stageMgroup_ok hop hh hws hc ha
  case traceRule => exact fun _ _ _ _ _ _ hop hh hr hd hws hc ha => exec_stageTraceRule_ok hop hh hr hd hws hc ha
  case samples => exact fun _ _ _ _ hop hh h1 h63 hes => exec_readSamples_ok hop hh h1 h63 hes
  case transfer => exact fun _ _ _ _ hop hh hfree hold hlen hend hown => exec_imageTransfer_ok hop hh hfree hold hlen hend hown
  case install => exact fun _ _ _ _ hop hh hm hk hl hb ha => exec_imageInstall_ok hop hh hm hk hl hb ha
  case regions => exact fun _ _ _ _ hop hh hn hf hb ho ha => exec_stageRegions_ok hop hh hn hf hb ho ha
  case tableWrite => exact fun _ _ _ _ hop hh h8 hend hon => exec_tableWrite_ok hop hh h8 hend hon
  case tableRead => exact fun _ _ _ hop hh h8 h1 h510 hend hon hgood => exec_tableRead_ok hop hh h8 h1 h510 hend hon hgood
  case status => exact fun _ hop hh => exec_bobbinStatus_ok hop hh

end Sys2Proof.Machine
end

section
/-!
PROOF. O7 FabricOpcodes: group 0x07 (Table 14.13).
-/

namespace Sys2Proof.Machine

section
variable {s t : State} {h : Hdr} {x : Sess} {op : OpInfo}

theorem exec_fabricState_ok (hop : op = { code := 0x0700, kind := .R, who := [.fm, .obs], forms := [.node] }) (hh : Heard s op h x) :
    exec (.fabricState h) s = .next (answered op h (.read s [.u32 (s.regRead F.FAB_STATE_STEP.addr).toNat,
      .u32 (s.regRead F.FAB_TIME_STAT_SYNC.addr).toNat, .u32 (s.regRead F.FAB_CNT_REROUTES.addr).toNat])) := by
  subst hop
  exact next_serve_ok _ _ _ hh (by decide) (by decide) (a := .read _ _) rfl rfl rfl

theorem exec_fabricTopology_ok (hop : op = { code := 0x0701, kind := .R, who := [.fm, .obs], forms := [.dev] }) (hh : Heard s op h x)
    (hn : s.nodeId ≠ 0xFF) (hstep : 10 ≤ s.get F.FAB_STATE_STEP) :
    exec (.fabricTopology h) s = .next (answered op h (.read s (topoDat s.nodeId s.ownUid s.ownLinks ++
      ((List.range 48).filter fun n => (s.node n).known && n != s.nodeId).flatMap fun n => topoDat n (s.node n).uid.toNat (s.node n).links))) := by
  have hidle : ¬ (s.nodeId = 0xFF ∨ s.get F.FAB_STATE_STEP < 10) := by omega
  subst hop
  exact next_serve_ok _ _ _ hh (by decide) (by decide) (a := .read _ _) (if_neg hidle) rfl rfl

theorem exec_stagePin_ok {ing : B16} {vc node pin : B8} {f : Fld} (hop : op = { code := 0x0702, kind := .S, who := [.fm], forms := [.node] })
    (hh : Heard s op h x) (hi : ing.toNat ≤ 159) (hv : vc.toNat ≤ 1) (hn : node.toNat ≤ 47) (hp : pin.toNat ≤ 3) (hm : s.managed = true)
    (hf : f = F.FAB_PIN_PINS (3 * (2 * ing.toNat + vc.toNat) + node.toNat / 16))
    (ha : s.addItems x.key [.regs [fldPart { f with lo := 2 * (node.toNat % 16), w := 2 } pin.toNat]] 8 = some t) :
    exec (.stagePin h ing vc node pin) s = .next (answered op h (.ok t)) := by
  have hform : ¬ (159 < ing.toNat ∨ 1 < vc.toNat ∨ 47 < node.toNat ∨ 3 < pin.toNat) := by omega
  subst hop hf
  refine next_serve_ok _ _ _ hh (by decide) (by decide) (a := .ok t) ?_ rfl rfl
  exact (if_neg hform).trans ((if_neg (by rw [hm]; decide)).trans (State.stage_ok rfl ha))

theorem exec_stageBinding_ok {hi fi : B8} {home far : List B32}
    (hop : op = { code := 0x0703, kind := .S, who := [.fm], forms := [.dev], len := home.length == 4 && far.length == 4 }) (hh : Heard s op h x)
    (hhi : hi.toNat ≤ 63) (hfi : fi.toNat ≤ 63) (hm : s.managed = true)
    (hc : (s.withItems x [.binding hi.toNat fi.toNat home far]).bindingOk hi.toNat fi.toNat home far = none)
    (ha : s.addItems x.key [.binding hi.toNat fi.toNat home far] 36 = some t) :
    exec (.stageBinding h hi fi home far) s = .next (answered op h (.ok t)) := by
  have hform : ¬ (63 < hi.toNat ∨ 63 < fi.toNat) := by omega
  subst hop
  refine next_serve_ok _ _ _ hh (show 0x0703 / 256 ≠ 0x0F by decide) (show OpKind.S ≠ .A by decide) (a := .ok t) ?_ rfl rfl
  exact (if_neg hform).trans ((if_neg (by rw [hm]; decide)).trans (State.stage_ok hc ha))

theorem exec_stageExport_ok {idx : B8} {entry : List B32}
    (hop : op = { code := 0x0704, kind := .S, who := [.fm], forms := [.node], len := entry.length == 4 }) (hh : Heard s op h x)
    (hm : s.managed = true)
    (ha : s.addItems x.key [.regs ((entry.zip (List.range 4)).map fun w => regWhole (exportAddr idx.toNat w.2) w.1.toNat)] 20 = some t) :
    exec (.stageExport h idx entry) s = .next (answered op h (.ok t)) := by
  subst hop
  refine next_serve_ok _ _ _ hh (show 0x0704 / 256 ≠ 0x0F by decide) (show OpKind.S ≠ .A by decide) (a := .ok t) ?_ rfl rfl
  exact (if_neg (by rw [hm]; decide)).trans (State.stage_ok rfl ha)

theorem exec_reroute_accepted (hop : op = { code := 0x0705, kind := .A, who := [.fm], forms := [.dev] }) (hh : Heard s op h x)
    (hl : s.asyncLive x.key < 16) (hn : s.nodeId ≠ 0xFF) (hm : s.managed = true) (hhold : s.fab.hold = none) (hpub : s.fab.publishing = false)
    (hgo : s.fab.goAt = none) :
    exec (.reroute h) s = .next (answered op h (accepted ((s.begun op h x).startChange [] (2 ^ 48 - 1) 0))) := by
  have hidle : ¬ (s.nodeId = 0xFF ∨ (!s.managed) = true) := by simp [hn, hm]
  have hbusy : ¬ (s.fab.hold.isSome = true ∨ s.fab.publishing = true ∨ s.fab.goAt.isSome = true) := by simp [hhold, hpub, hgo]
  subst hop
  refine next_serve_accepted _ _ _ hh (by decide) rfl hl (a := accepted _) ?_ rfl rfl
  exact (if_neg hidle).trans (if_neg hbusy)

end

/-- Settles O7, one lemma for each opcode. -/
theorem fabricOpcodes : Obligations.FabricOpcodes := by
  unfold Obligations.FabricOpcodes
  intro s t h x
  refine ⟨?fabState, ?topology, ?pin, ?binding, ?exporting, ?rerouting⟩
  case fabState => exact fun _ hop hh => exec_fabricState_ok hop hh
  case topology => exact fun _ hop hh hn hstep => exec_fabricTopology_ok hop hh hn hstep
  case pin => exact fun _ _ _ _ _ _ hop hh hi hv hn hp hm hf ha => exec_stagePin_ok hop hh hi hv hn hp hm hf ha
  case binding => exact fun _ _ _ _ _ hop hh hhi hfi hm hc ha => exec_stageBinding_ok hop hh hhi hfi hm hc ha
  case exporting => exact fun _ _ _ hop hh hm ha => exec_stageExport_ok hop hh hm ha
  case rerouting => exact fun _ hop hh hl hn hm hhold hpub hgo => exec_reroute_accepted hop hh hl hn hm hhold hpub hgo

end Sys2Proof.Machine
end

section
/-!
PROOF. O8 PanelOpcodesAtOnce: the opcodes of group 0x08 that act at once (Table 14.14).
-/

namespace Sys2Proof.Machine

section
variable {s : State} {h : Hdr} {x : Sess} {op : OpInfo}

theorem exec_panelAllot_ok {first count : B16} (hop : op = { code := 0x0800, kind := .I, who := [.fm], forms := [.vs] }) (hh : Heard s op h x)
    (hend : first.toNat + count.toNat ≤ 4096)
    (hothers : ∀ a ∈ s.cmd.allot, a.2.2 ≠ x.n → first.toNat + count.toNat ≤ a.1 ∨ a.1 + a.2.1 ≤ first.toNat)
    (hbound : ∀ n ∈ s.boundPanels x.n, first.toNat ≤ n ∧ n < first.toNat + count.toNat) :
    exec (.panelAllot h first count) s = .next (answered op h (.ok { s with cmd := { s.cmd with
      allot := s.cmd.allot.filter (fun a => a.2.2 != x.n) ++ if count.toNat = 0 then [] else [(first.toNat, count.toNat, x.n)] } })) := by
  have hapart : ((s.cmd.allot.filter fun a => a.2.2 != x.n).any fun a =>
      decide (a.1 < first.toNat + count.toNat) && decide (first.toNat < a.1 + a.2.1)) = false := by
    rw [List.any_eq_false]
    intro a ha
    obtain ⟨hmem, hne⟩ := List.mem_filter.mp ha
    have := hothers a hmem (by simpa using hne)
    simp only [Bool.and_eq_true, decide_eq_true_eq]
    omega
  have hinside : ((s.boundPanels x.n).any fun n => decide (n < first.toNat) || decide (first.toNat + count.toNat ≤ n)) = false := by
    rw [List.any_eq_false]
    intro n hn
    have := hbound n hn
    simp only [Bool.or_eq_true, decide_eq_true_eq]
    omega
  have hempty : (if first.toNat < first.toNat + count.toNat then [(first.toNat, count.toNat, x.n)] else []) =
      if count.toNat = 0 then [] else [(first.toNat, count.toNat, x.n)] := by
    by_cases h0 : count.toNat = 0
    · rw [if_pos h0, if_neg (by omega)]
    · rw [if_neg h0, if_pos (by omega)]
  subst hop
  refine next_serve_ok _ _ _ hh (by decide) (by decide) (a := .ok _) ?_ rfl rfl
  simp only [if_neg (Nat.not_lt.mpr hend), hapart, hinside, hempty, Bool.or_self, Bool.false_eq_true, if_false]

section
variable (hop : op = { code := 0x0803, kind := .I, who := [.fm, .pm, .tenant], forms := [.panel] }) (hh : Heard s op h x)
include hop hh

theorem exec_panelEnable_stopped (hs : s.pState x.n = pStopped) :
    exec (.panelEnable h) s = .next (answered op h (.ok ((s.setP x.n pRunning).goOn x.n))) := by
  subst hop
  exact next_serve_ok _ _ _ hh (by decide) (by decide) (a := .ok _) (if_pos hs) rfl rfl

theorem exec_panelEnable_halted (hs : s.pState x.n = pHalted) : exec (.panelEnable h) s = .next (answered op h (.ok (s.retryPanel x.n))) := by
  subst hop
  exact next_serve_ok _ _ _ hh (by decide) (by decide) (a := .ok _) ((if_neg (by rw [hs]; decide)).trans (if_pos hs)) rfl rfl

end

theorem exec_panelRestore_ok {v : B8} {pasid : B32} {grants : List B16} {rec : Bytes} {given : List (Nat × Nat)}
    (hop : op = { code := 0x0807, kind := .I, who := [.fm, .pm], forms := [.panel], len := grants.length == 16 && rec.length == 768 })
    (hh : Heard s op h x) (hgiven : given = ((List.range 16).zip (grants.map BitVec.toNat)).filter fun g => g.1 != 0 && bit g.2 15)
    (hpm : x.isP = true → given = [] ∧ v.toNat = x.vs) (hv : v.toNat < 32) (hp : pasid.toNat < 2 ^ 20) (hrec : recordOk rec = true)
    (hstate : s.pState x.n = pUnbound ∨ s.pState x.n = pStopped ∧ s.sqHead x.n = (s.pnl x.n).sqTail)
    (hfree : s.pasidTaken x.n v.toNat pasid.toNat = false) (hown : ∀ g ∈ given, s.get (F.SHT_GNT_CTL_VS (g.2 % 1024)) = v.toNat) :
    exec (.panelRestore h v pasid grants rec) s = .next (answered op h (.ok
      ((((s.putRecord x.n v.toNat pasid.toNat rec).clearSlots x.n).bindSlots x.n given).raise 0x07 0x6004 0 (scPanel x.n)
        [x.n, v.toNat, leAt rec 8 8, leAt rec 16 2]))) := by
  have hgrants : (x.isP && !given.isEmpty) = false := by
    cases hx : x.isP with
    | false => rfl
    | true => rw [(hpm hx).1]; rfl
  have hvs : (x.isP && v.toNat != x.vs) = false := by
    cases hx : x.isP with
    | false => rfl
    | true => rw [(hpm hx).2]; exact bne_self_eq_false _
  have hform : ¬ (32 ≤ v.toNat ∨ 2 ^ 20 ≤ pasid.toNat ∨ recordOk rec = false) := by
    rintro (hl | hl | hl)
    · omega
    · omega
    · exact Bool.false_ne_true (hl.symm.trans hrec)
  have hidle : (s.pState x.n == pUnbound || (s.pState x.n == pStopped && s.sqHead x.n == (s.pnl x.n).sqTail)) = true := by
    simpa using hstate
  have hgnt : (given.any fun g => s.get (F.SHT_GNT_CTL_VS (g.2 % 1024)) != v.toNat) = false := by
    rw [List.any_eq_false]
    exact fun g hg => by rw [hown g hg]; simp
  subst hop
  refine next_serve_ok _ _ _ hh (show 0x0807 / 256 ≠ 0x0F by decide) (show OpKind.I ≠ .A by decide) (a := .ok _) ?_ rfl rfl
  simp only [← hgiven, hgrants, hvs, if_neg hform, hidle, hfree, hgnt, Bool.not_true, Bool.or_self, Bool.false_eq_true, if_false]

section
variable (hop : op = { code := 0x0808, kind := .I, who := [.fm, .pm], forms := [.panel] }) (hh : Heard s op h x)
include hop hh

theorem exec_panelResume_frozen (hs : s.pState x.n = pFrozen) :
    exec (.panelResume h) s = .next (answered op h (.ok ((s.setP x.n pRunning).goOn x.n))) := by
  subst hop
  exact next_serve_ok _ _ _ hh (by decide) (by decide) (a := .ok _) (if_pos hs) rfl rfl

theorem exec_panelResume_halted (hs : s.pState x.n = pHalted) : exec (.panelResume h) s = .next (answered op h (.ok (s.retryPanel x.n))) := by
  subst hop
  exact next_serve_ok _ _ _ hh (by decide) (by decide) (a := .ok _) ((if_neg (by rw [hs]; decide)).trans (if_pos hs)) rfl rfl

end

theorem exec_panelMessage_ok {word : B32} {v w : Nat} (hop : op = { code := 0x080A, kind := .I, who := [.fm, .pm], forms := [.panel] })
    (hh : Heard s op h x) (hv : s.panelVs x.n = some v) (hw : w = word.toNat % 2 ^ 31 + (if (s.pnl x.n).mmsg.getLsbD 31 then 0 else 2 ^ 31)) :
    exec (.panelMessage h word) s = .next (answered op h (.ok
      ((s.modPnl x.n fun y => { y with mmsg := BitVec.ofNat 32 w }).fire v true (s.get (F.SHT_PNL_RING_VECTOR x.n))))) := by
  subst hop
  refine next_serve_ok _ _ _ hh (by decide) (by decide) (a := .ok _) ?_ rfl rfl
  simp only [hv, ← hw]

theorem exec_panelStatus_ok (hop : op = { code := 0x080B, kind := .R, who := [.fm, .obs, .pm, .tenant], forms := [.panel] }) (hh : Heard s op h x) :
    exec (.panelStatus h) s = .next (answered op h (.read s [.u32 (s.reg (F.SHT_PNL_STATE_STATE x.n).addr).toNat,
      .u32 ((s.pnl x.n).cqTail + b2n (s.pnl x.n).phase * 65536), .u64 (s.pnl x.n).descDone, .u64 (s.pnl x.n).bytes])) := by
  subst hop
  exact next_serve_ok _ _ _ hh (by decide) (by decide) (a := .read _ _) rfl rfl rfl

end

/-- Settles O8, one lemma for each opcode and state of the panel. -/
theorem panelOpcodesAtOnce : Obligations.PanelOpcodesAtOnce := by
  unfold Obligations.PanelOpcodesAtOnce
  intro s h x
  refine ⟨?allot, ?enable, ?restore, ?resumeFrozen, ?resumeHalted, ?message, ?status⟩
  case allot => exact fun _ _ _ hop hh hend hothers hbound => exec_panelAllot_ok hop hh hend hothers hbound
  case enable => exact fun _ hop hh => ⟨exec_panelEnable_stopped hop hh, exec_panelEnable_halted hop hh⟩
  case restore =>
    exact fun _ _ _ _ _ _ hop hh hgiven hpm hv hp hrec hstate hfree hown => exec_panelRestore_ok hop hh hgiven hpm hv hp hrec hstate hfree hown
  case resumeFrozen => exact fun _ hop hh hs => exec_panelResume_frozen hop hh hs
  case resumeHalted => exact fun _ hop hh hs => exec_panelResume_halted hop hh hs
  case message => exact fun _ _ _ _ hop hh hv hw => exec_panelMessage_ok hop hh hv hw
  case status => exact fun _ hop hh => exec_panelStatus_ok hop hh

end Sys2Proof.Machine
end

section
/-!
PROOF. O9 PanelOpcodesStagedAndAsync: the opcodes of group 0x08 that stage an item or run on (Table 14.14).
-/

namespace Sys2Proof.Machine

theorem State.asyncObj_clk (s : State) (obj mode : Nat) : (s.asyncObj obj mode).clk = s.clk := by
  unfold State.asyncObj
  split <;> rfl

section
variable {s t u : State} {h : Hdr} {x : Sess} {op : OpInfo}

theorem exec_panelBind_ok {pasid : B32} {sqb cqb : B64} {sqo cqo : B8} {vec : B16} {weight holdoff : B8} {v : Nat} {ws : List (Nat × B32 × B32)}
    (hop : op = { code := 0x0801, kind := .S, who := [.fm, .pm], forms := [.panel] }) (hh : Heard s op h x) (hp : pasid.toNat < 2 ^ 20)
    (hr : ringOk sqb.toNat cqb.toNat sqo.toNat cqo.toNat vec.toNat weight.toNat holdoff.toNat = true) (hv : s.panelBindVs x = some v)
    (hws : ws = bindParts x.n v pasid.toNat sqb.toNat cqb.toNat sqo.toNat cqo.toNat vec.toNat weight.toNat holdoff.toNat)
    (hc : (s.withItems x [.bind x.n v ws]).pasidTaken x.n v pasid.toNat = false) (ha : s.addItems x.key [.bind x.n v ws] 28 = some t) :
    exec (.panelBind h pasid sqb cqb sqo cqo vec weight holdoff) s = .next (answered op h (.ok t)) := by
  have hform : ¬ (2 ^ 20 ≤ pasid.toNat ∨
      ringOk sqb.toNat cqb.toNat sqo.toNat cqo.toNat vec.toNat weight.toNat holdoff.toNat = false) := by
    rintro (hl | hl)
    · omega
    · exact Bool.false_ne_true (hl.symm.trans hr)
  subst hop
  refine next_serve_ok _ _ _ hh (by decide) (by decide) (a := .ok t) ?_ rfl rfl
  simp only [if_neg hform, hv, ← hws]
  exact State.stage_ok (if_neg (by rw [hc]; decide)) ha

theorem exec_panelUnbind_ok (hop : op = { code := 0x0802, kind := .S, who := [.fm, .pm], forms := [.panel] }) (hh : Heard s op h x)
    (hs : s.pState x.n = pStopped) (ha : s.addItems x.key [.unbind x.n] 0 = some t) :
    exec (.panelUnbind h) s = .next (answered op h (.ok t)) := by
  subst hop
  exact next_serve_ok _ _ _ hh (by decide) (by decide) (a := .ok t) ((if_neg (by rw [hs]; decide)).trans (State.stage_ok rfl ha)) rfl rfl

theorem exec_stageGrant_ok {grant : B16} {ctl lo hi size : B32} {ws : List (Nat × B32 × B32)}
    (hop : op = { code := 0x080C, kind := .S, who := [.fm], forms := [.dev] }) (hh : Heard s op h x) (hg : grant.toNat < 1024)
    (hsz : size.toNat ≠ 0)
    (hws : ws = [regWhole (F.SHT_GNT_CTL_VALID grant.toNat).addr (ctl.toNat % 256),
      regWhole (F.SHT_GNT_BASE_LO_BASE_LO grant.toNat).addr (lo.toNat / 4096 * 4096),
      regWhole (F.SHT_GNT_BASE_HI_BASE_HI grant.toNat).addr hi.toNat, regWhole (F.SHT_GNT_SIZE_SIZE grant.toNat).addr size.toNat])
    (hc : (s.withItems x [.regs ws]).grantOk grant.toNat = true) (ha : s.addItems x.key [.regs ws] 20 = some t) :
    exec (.stageGrant h grant ctl lo hi size) s = .next (answered op h (.ok t)) := by
  have hform : ¬ (1024 ≤ grant.toNat ∨ size.toNat = 0) := by omega
  subst hop
  refine next_serve_ok _ _ _ hh (by decide) (by decide) (a := .ok t) ?_ rfl rfl
  refine (if_neg hform).trans ?_
  rw [← hws]
  exact State.stage_ok (if_pos hc) ha

theorem exec_stageSlot_ok {slot valid : B8} {grant : B16} {ws : List (Nat × B32 × B32)}
    (hop : op = { code := 0x080D, kind := .S, who := [.fm], forms := [.panel] }) (hh : Heard s op h x) (h1 : 1 ≤ slot.toNat)
    (h15 : slot.toNat ≤ 15) (hv : valid.toNat ≤ 1) (hg : grant.toNat < 1024)
    (hws : ws = if slot.toNat % 2 = 0 then
        [fldPart (F.SHT_PNL_SLOT_GRANT0 x.n (slot.toNat / 2)) grant.toNat, fldPart (F.SHT_PNL_SLOT_VALID0 x.n (slot.toNat / 2)) valid.toNat]
      else [fldPart (F.SHT_PNL_SLOT_GRANT1 x.n (slot.toNat / 2)) grant.toNat, fldPart (F.SHT_PNL_SLOT_VALID1 x.n (slot.toNat / 2)) valid.toNat])
    (hc : (s.withItems x [.regs ws]).slotOk x.n slot.toNat = true) (ha : s.addItems x.key [.regs ws] 4 = some t) :
    exec (.stageSlot h slot valid grant) s = .next (answered op h (.ok t)) := by
  have hform : ¬ (slot.toNat = 0 ∨ 16 ≤ slot.toNat ∨ 2 ≤ valid.toNat ∨ 1024 ≤ grant.toNat) := by omega
  subst hop
  refine next_serve_ok _ _ _ hh (by decide) (by decide) (a := .ok t) ?_ rfl rfl
  simp only [if_neg hform, ← hws]
  exact State.stage_ok (if_pos hc) ha

section
variable {limit : B32} (hop : op = { code := 0x0804, kind := .A, who := [.fm, .pm, .tenant], forms := [.panel] }) (hh : Heard s op h x)
  (hl : s.asyncLive x.key < 16) (hu : u = ((s.begun op h x).asyncObj x.n 0).setP x.n pQuiescing)
include hop hh hl hu

theorem exec_panelQuiesce_running (hs : (s.begun op h x).pState x.n = pRunning) :
    exec (.panelQuiesce h limit) s = .next (answered op h (accepted
      ((u.modPnl x.n fun y => { y with fetched := [], cause := pcQuiesce }).goOn x.n))) := by
  have hnot : ¬ pRunning = pHalted := by decide
  subst hop
  refine next_serve_accepted _ _ _ hh (by decide) rfl hl (a := accepted _) ?_ rfl rfl
  simp only [opPnl, whoFPT, hs, ← hu, hnot, false_and, if_false, bne_self_eq_false, Bool.false_and, Bool.false_eq_true]
  rfl

theorem exec_panelQuiesce_halted {v : State} (hs : (s.begun op h x).pState x.n = pHalted)
    (hv : v = u.modPnl x.n (fun y => { y with fetched := [], cause := pcQuiesce, ending := none, wr := y.done, rd := y.done })) :
    exec (.panelQuiesce h limit) s = .next (answered op h (accepted
      (if (s.begun op h x).get (F.SHT_PNL_STATE_LAST_STATUS x.n) = psBadDesc then v.endDesc x.n psBadDesc else v.goOn x.n))) := by
  subst hop
  refine next_serve_accepted _ _ _ hh (by decide) rfl hl (a := accepted _) ?_ rfl rfl
  simp only [opPnl, whoFPT, hs, ← hu, true_and, if_true, bne_self_eq_false, Bool.and_false, Bool.false_eq_true, if_false, ← hv]
  rfl

end

section
variable (hop : op = { code := 0x0805, kind := .A, who := [.fm, .pm], forms := [.panel] }) (hh : Heard s op h x)
  (hl : s.asyncLive x.key < 16) (hu : u = ((s.begun op h x).asyncObj x.n 0).setP x.n pFreezing)
include hop hh hl hu

theorem exec_panelFreeze_idle (hs : (s.begun op h x).pState x.n = pRunning ∨ (s.begun op h x).pState x.n = pStopped) :
    exec (.panelFreeze h) s = .next (answered op h (accepted ((u.modPnl x.n fun y => { y with fetched := [], since := s.clk.now }).goOn x.n))) := by
  have hclk : u.clk = s.clk := by rw [hu]; exact State.asyncObj_clk _ _ _
  have hform : ((s.begun op h x).pState x.n != pRunning && (s.begun op h x).pState x.n != pHalted &&
      (s.begun op h x).pState x.n != pStopped) = false := by
    rcases hs with hs | hs <;> rw [hs] <;> decide
  have hnot : ¬ (s.begun op h x).pState x.n = pHalted := by
    rcases hs with hs | hs <;> rw [hs] <;> decide
  subst hop
  refine next_serve_accepted _ _ _ hh (by decide) rfl hl (a := accepted _) ?_ rfl rfl
  simp only [opPnl, whoFP, hform, hnot, ← hu, hclk, Bool.false_eq_true, if_false]
  rfl

theorem exec_panelFreeze_halted (hs : (s.begun op h x).pState x.n = pHalted) :
    exec (.panelFreeze h) s = .next (answered op h (accepted
      ((u.modPnl x.n fun y => { y with fetched := [], since := s.clk.now, ending := some 0, rd := y.wr }).goOn x.n))) := by
  have hclk : u.clk = s.clk := by rw [hu]; exact State.asyncObj_clk _ _ _
  subst hop
  refine next_serve_accepted _ _ _ hh (by decide) rfl hl (a := accepted _) ?_ rfl rfl
  simp only [opPnl, whoFP, hs, ← hu, hclk, bne_self_eq_false, Bool.and_false, Bool.false_and, Bool.false_eq_true, if_false, if_true]
  rfl

end

theorem exec_panelReset_accepted (hop : op = { code := 0x0809, kind := .A, who := [.fm, .pm], forms := [.panel] }) (hh : Heard s op h x)
    (hl : s.asyncLive x.key < 16) (hs : (s.begun op h x).pState x.n ≠ pUnbound) :
    exec (.panelReset h) s = .next (answered op h (accepted (((s.begun op h x).asyncObj x.n 0).resetPanel x.n pcReset))) := by
  subst hop
  exact next_serve_accepted _ _ _ hh (by decide) rfl hl (a := accepted _) (if_neg hs) rfl rfl

end

/-- Settles O9, one lemma for each opcode and state of the panel. -/
theorem panelOpcodesStagedAndAsync : Obligations.PanelOpcodesStagedAndAsync := by
  unfold Obligations.PanelOpcodesStagedAndAsync
  intro s t h x
  refine ⟨?bind, ?unbind, ?grant, ?slot, ?quiesce, ?freeze, ?reset⟩
  case bind => exact fun _ _ _ _ _ _ _ _ _ _ _ hop hh hp hr hv hws hc ha => exec_panelBind_ok hop hh hp hr hv hws hc ha
  case unbind => exact fun _ hop hh hs ha => exec_panelUnbind_ok hop hh hs ha
  case grant => exact fun _ _ _ _ _ _ _ hop hh hg hsz hws hc ha => exec_stageGrant_ok hop hh hg hsz hws hc ha
  case slot => exact fun _ _ _ _ _ hop hh h1 h15 hv hg hws hc ha => exec_stageSlot_ok hop hh h1 h15 hv hg hws hc ha
  case quiesce =>
    exact fun _ _ _ hop hh hl hu => ⟨exec_panelQuiesce_running hop hh hl hu, fun _ hs hv => exec_panelQuiesce_halted hop hh hl hu hs hv⟩
  case freeze => exact fun _ _ hop hh hl hu => ⟨exec_panelFreeze_idle hop hh hl hu, exec_panelFreeze_halted hop hh hl hu⟩
  case reset => exact fun _ hop hh hl hs => exec_panelReset_accepted hop hh hl hs

end Sys2Proof.Machine
end

section
/-!
PROOF. O10 ContainmentAndSlotOpcodes: groups 0x09 and 0x0A (Tables 14.15 and 14.16).
-/

namespace Sys2Proof.Machine

section
variable {s t : State} {h : Hdr} {x : Sess} {op : OpInfo}

theorem exec_cqRead_ok (hop : op = { code := 0x0900, kind := .R, who := [.fm, .obs], forms := [.stn] }) (hh : Heard s op h x) :
    exec (.cqRead h) s = .next (answered op h (.read s (.u32 (s.reg (F.STN_CQ_STATUS_USED x.n).addr).toNat ::
      (List.range 128).map fun w => .u32 (s.reg ((F.STN_CQ_ENTRY0_VALID x.n 0).addr + 4 * w)).toNat))) := by
  subst hop
  exact next_serve_ok _ _ _ hh (by decide) (by decide) (a := .read _ _) rfl rfl rfl

theorem exec_fence_ok (hop : op = { code := 0x0901, kind := .I, who := [.fm], forms := [.stn] }) (hh : Heard s op h x) :
    exec (.fence h) s = .next (answered op h (.ok (s.fenceOp x.n 0 0))) := by
  subst hop
  exact next_serve_ok _ _ _ hh (by decide) (by decide) (a := .ok _) rfl rfl rfl

theorem exec_fenceRelease_ok (hop : op = { code := 0x0902, kind := .I, who := [.fm], forms := [.stn] }) (hh : Heard s op h x)
    (hf : s.fenced x.n = true) (hfl : s.get (F.STN_OB_FLUSH_FLUSHING x.n) = 0) :
    exec (.fenceRelease h) s = .next (answered op h (.ok (s.unfence x.n))) := by
  subst hop
  exact next_serve_ok _ _ _ hh (by decide) (by decide) (a := .ok _)
    ((if_neg (by rw [hf]; decide)).trans (if_neg (not_not_intro hfl))) rfl rfl

theorem exec_lateRead_ok {first count : B32} {es : List LateEnt} (hop : op = { code := 0x0903, kind := .R, who := [.fm, .pm], forms := [.dev] })
    (hh : Heard s op h x) (h1 : 1 ≤ count.toNat) (h127 : count.toNat ≤ 127)
    (hes : es = (s.late.log.filter fun e => seqGe e.seq first.toNat && (!x.isP || e.vs == x.vs)).take count.toNat) :
    exec (.lateRead h first count) s = .next (answered op h (.read
      { s with late := { s.late with log := s.late.log.map (fun (e : LateEnt) => if (es.map LateEnt.seq).contains e.seq then { e with fetched := true } else e) } }
      (.u32 ((es.head?.map LateEnt.seq).getD first.toNat) :: es.flatMap LateEnt.dat))) := by
  have hform : ¬ (count.toNat = 0 ∨ 127 < count.toNat) := by omega
  subst hop
  refine next_serve_ok _ _ _ hh (by decide) (by decide) (a := .read _ _) ?_ rfl rfl
  simp only [if_neg hform, ← hes]
  cases es <;> rfl

theorem exec_lateClear_ok (hop : op = { code := 0x0904, kind := .I, who := [.fm], forms := [.dev] }) (hh : Heard s op h x) :
    exec (.lateClear h) s = .next (answered op h (.ok { s with late := { s.late with log := [] } })) := by
  subst hop
  exact next_serve_ok _ _ _ hh (by decide) (by decide) (a := .ok _) rfl rfl rfl

theorem exec_slotStatus_ok {slot : B8} (hop : op = { code := 0x0A00, kind := .R, who := [.fm, .obs, .pm], forms := [.dev] }) (hh : Heard s op h x)
    (h16 : slot.toNat ≤ 16)
    (hmine : x.isP = true → slot.toNat ≠ 16 ∧ ∃ p, s.portOfSlot slot.toNat = some p ∧ s.pciRole p = 2 ∧ s.vsOf p = x.vs) :
    exec (.slotStatus h slot) s = .next (answered op h (.read s (s.spcWords slot.toNat))) := by
  subst hop
  refine next_serve_ok _ _ _ hh (by decide) (by decide) (a := .read _ _) ?_ rfl rfl
  refine (if_neg (show ¬ 17 ≤ slot.toNat by omega)).trans (if_neg ?_)
  cases hx : x.isP with
  | false => simp
  | true =>
    obtain ⟨h16', p, hport, hrole, hvs⟩ := hmine hx
    simp [hport, hrole, hvs, h16']

theorem exec_slotPower_ok {slot on : B8} {u : State} (hop : op = { code := 0x0A01, kind := .I, who := [.fm], forms := [.dev] }) (hh : Heard s op h x)
    (h15 : slot.toNat ≤ 15) (h1 : on.toNat ≤ 1) (hu : u = if on.toNat = 1 then s.commandOn slot.toNat else s.commandOff slot.toNat)
    (hown : ∀ p, s.portOfSlot slot.toNat = some p → s.pciRole p = 2 → s.flag (F.STN_PORT_CFG_HP_OWNER (stnOf p) (kOf p)) = true) :
    exec (.slotPower h slot on) s = .next (answered op h (.ok (((u.portOfSlot slot.toNat).map u.quiesceGoOn).getD u))) := by
  have hform : ¬ (16 ≤ slot.toNat ∨ 2 ≤ on.toNat) := by omega
  subst hop
  refine next_serve_ok _ _ _ hh (by decide) (by decide) (a := .ok _) ?_ rfl rfl
  refine (if_neg hform).trans ((if_neg ?_).trans ?_)
  · cases hport : s.portOfSlot slot.toNat with
    | none => exact Bool.false_ne_true
    | some p => simpa using hown p hport
  · simp only [← hu]
    cases u.portOfSlot slot.toNat <;> rfl

theorem exec_stageSlotParams_ok {slot : B8} {cfg : B32} (hop : op = { code := 0x0A02, kind := .S, who := [.fm], forms := [.dev] })
    (hh : Heard s op h x) (h16 : slot.toNat ≤ 16) (hc : spcCfgOk slot.toNat cfg.toNat = true)
    (ha : s.addItems x.key [.regs [((F.SPC_CFG_CLASS slot.toNat).addr, if slot.toNat = 16 then 0x0000FFF7#32 else 0x03FFFFFF#32, cfg)]] 8 = some t) :
    exec (.stageSlotParams h slot cfg) s = .next (answered op h (.ok t)) := by
  have hform : ¬ (17 ≤ slot.toNat ∨ spcCfgOk slot.toNat cfg.toNat = false) := by
    rintro (hl | hl)
    · omega
    · exact Bool.false_ne_true (hl.symm.trans hc)
  subst hop
  exact next_serve_ok _ _ _ hh (by decide) (by decide) (a := .ok t) ((if_neg hform).trans (State.stage_ok rfl ha)) rfl rfl

theorem exec_stageSlotBudget_ok {budget : B32} (hop : op = { code := 0x0A03, kind := .S, who := [.fm], forms := [.dev] }) (hh : Heard s op h x)
    (h5 : 5 ≤ bits budget.toNat 16 8) (h100 : bits budget.toNat 16 8 ≤ 100)
    (ha : s.addItems x.key [.regs [(F.SPC_BUDGET_BUDGET_W.addr, 0x007FFFFF#32, budget)]] 4 = some t) :
    exec (.stageSlotBudget h budget) s = .next (answered op h (.ok t)) := by
  have hform : ¬ (bits budget.toNat 16 8 < 5 ∨ 100 < bits budget.toNat 16 8) := by omega
  subst hop
  exact next_serve_ok _ _ _ hh (by decide) (by decide) (a := .ok t) ((if_neg hform).trans (State.stage_ok rfl ha)) rfl rfl

end

/-- Settles O10, one lemma for each opcode. -/
theorem containmentAndSlotOpcodes : Obligations.ContainmentAndSlotOpcodes := by
  unfold Obligations.ContainmentAndSlotOpcodes
  intro s t h x
  refine ⟨?cqRead, ?fence, ?fenceRelease, ?lateRead, ?lateClear, ?slotStatus, ?slotPower, ?slotParams, ?slotBudget⟩
  case cqRead => exact fun _ hop hh => exec_cqRead_ok hop hh
  case fence => exact fun _ hop hh => exec_fence_ok hop hh
  case fenceRelease => exact fun _ hop hh hf hfl => exec_fenceRelease_ok hop hh hf hfl
  case lateRead => exact fun _ _ _ _ hop hh h1 h127 hes => exec_lateRead_ok hop hh h1 h127 hes
  case lateClear => exact fun _ hop hh => exec_lateClear_ok hop hh
  case slotStatus => exact fun _ _ hop hh h16 hmine => exec_slotStatus_ok hop hh h16 hmine
  case slotPower => exact fun _ _ _ _ hop hh h15 h1 hu hown => exec_slotPower_ok hop hh h15 h1 hu hown
  case slotParams => exact fun _ _ _ hop hh h16 hc ha => exec_stageSlotParams_ok hop hh h16 hc ha
  case slotBudget => exact fun _ _ hop hh h5 h100 ha => exec_stageSlotBudget_ok hop hh h5 h100 ha

end Sys2Proof.Machine
end

section
/-!
PROOF. O11 SensorLogCounterOpcodes: groups 0x0B and 0x0C (Tables 14.17 and 14.18).
-/

namespace Sys2Proof.Machine

section
variable {s t : State} {h : Hdr} {x : Sess} {op : OpInfo}

theorem exec_sensorRead_ok (hop : op = { code := 0x0B00, kind := .R, who := [.fm, .obs, .pm], forms := [.dev] }) (hh : Heard s op h x) :
    exec (.sensorRead h) s = .next (answered op h (.read s (((List.range 32).map fun i => Dat.u32 (s.reg (F.ACW_SENS_VALUE i).addr).toNat) ++
      [.u32 (s.reg F.ACW_THERM_STATUS_WARN.addr).toNat]))) := by
  subst hop
  exact next_serve_ok _ _ _ hh (by decide) (by decide) (a := .read _ _) rfl rfl rfl

theorem exec_logRead_ok {first : B32} {count : B16} {minsev : B8} {l : List (Nat × Ev)}
    (hop : op = { code := 0x0B01, kind := .R, who := [.fm, .obs, .pm], forms := [.dev] }) (hh : Heard s op h x) (h1 : 1 ≤ count.toNat)
    (h127 : count.toNat ≤ 127) (h5 : minsev.toNat ≤ 5)
    (hl : l = (s.evs.log.filter fun r => decide (first.toNat ≤ r.1) && decide (minsev.toNat ≤ r.2.sev) &&
      (!x.isP || s.scopeVs r.2.scope == some x.vs)).take count.toNat) :
    exec (.logRead h first count minsev) s = .next (answered op h (.read s
      (.u32 ((l.head?.map Prod.fst).getD (s.get F.ACW_LOG_STATUS_NEXT_SEQ)) :: (l.flatMap fun r => evBytes r.1 r.2).map fun b => .u8 b.toNat))) := by
  have hform : ¬ (count.toNat < 1 || 127 < count.toNat || 5 < minsev.toNat) = true := by
    simp only [Bool.or_eq_true, decide_eq_true_eq]
    omega
  subst hop
  refine next_serve_ok _ _ _ hh (by decide) (by decide) (a := .read _ _) ?_ rfl rfl
  refine (if_neg hform).trans ?_
  simp only [← hl, bytesDat]

theorem exec_plogRead_ok {idx : B32} {count : B16} (hop : op = { code := 0x0B02, kind := .R, who := [.fm, .obs], forms := [.dev] })
    (hh : Heard s op h x) (h1 : 1 ≤ count.toNat) (h127 : count.toNat ≤ 127) (hidx : idx.toNat < 2176) :
    exec (.plogRead h idx count) s = .next (answered op h (.read s ((((List.range count.toNat).filterMap fun k =>
      s.evs.plog.find? fun r => r.1 % 2176 == idx.toNat + k).flatMap fun r => evBytes r.2.1 r.2.2).map fun b => .u8 b.toNat))) := by
  have hform : ¬ (count.toNat < 1 || 127 < count.toNat || 2176 ≤ idx.toNat) = true := by
    simp only [Bool.or_eq_true, decide_eq_true_eq]
    omega
  subst hop
  exact next_serve_ok _ _ _ hh (by decide) (by decide) (a := .read _ _) (if_neg hform) rfl rfl

theorem exec_lastgaspRead_ok (hop : op = { code := 0x0B03, kind := .R, who := [.fm, .obs], forms := [.dev] }) (hh : Heard s op h x) :
    exec (.lastgaspRead h) s = .next (answered op h (.read s ((List.range 128).map fun k => .u32 (s.gaspWord (k / 8) (k % 8)).toNat))) := by
  subst hop
  exact next_serve_ok _ _ _ hh (by decide) (by decide) (a := .read _ _) rfl rfl rfl

section
variable {addr : B32} {mine : Nat → Bool} (hop : op = { code := 0x0C00, kind := .I, who := [.fm], forms := [.dev, .stn] }) (hh : Heard s op h x)
  (hmine : mine = (fun a => x.form == .dev || (decide (0x01000000 + 0x100000 * x.n ≤ a) && decide (a < 0x01100000 + 0x100000 * x.n))))
include hop hh hmine

theorem exec_counterClear_all (h0 : addr.toNat = 0) :
    exec (.counterClear h addr) s = .next (answered op h (.ok (s.prbsAdvanceAll.clearCounters mine))) := by
  subst hop hmine
  exact next_serve_ok _ _ _ hh (by decide) (by decide) (a := .ok _) (if_pos h0) rfl rfl

theorem exec_counterClear_one (h0 : addr.toNat ≠ 0) (hmask : counterMask addr.toNat ≠ 0) (hm : mine addr.toNat = true) :
    exec (.counterClear h addr) s = .next (answered op h (.ok (s.prbsAdvanceAll.clearCounter addr.toNat))) := by
  have hform : ¬ (decide (counterMask addr.toNat = 0) || !mine addr.toNat) = true := by simp [hmask, hm]
  subst hop hmine
  exact next_serve_ok _ _ _ hh (by decide) (by decide) (a := .ok _) ((if_neg h0).trans (if_neg hform)) rfl rfl

end

theorem exec_pmcGrant_ok {unit v en : B8} {mask : B32} (hop : op = { code := 0x0C01, kind := .S, who := [.fm], forms := [.dev] }) (hh : Heard s op h x)
    (hu : unit.toNat ≤ 21) (hv : v.toNat < 32) (he : en.toNat ≤ 1)
    (ha : s.addItems x.key [.regs [regWhole (F.PMC_GRANT_CTL_VS unit.toNat).addr (v.toNat + en.toNat * 32),
      regWhole (F.PMC_READ_MASK_READ_MASK unit.toNat).addr mask.toNat]] 8 = some t) :
    exec (.pmcGrant h unit v en mask) s = .next (answered op h (.ok t)) := by
  have hform : ¬ (22 ≤ unit.toNat ∨ 32 ≤ v.toNat ∨ 2 ≤ en.toNat) := by omega
  subst hop
  exact next_serve_ok _ _ _ hh (by decide) (by decide) (a := .ok t) ((if_neg hform).trans (State.stage_ok rfl ha)) rfl rfl

theorem exec_pmcRead_ok {unit : B8} (hop : op = { code := 0x0C02, kind := .R, who := [.fm, .obs], forms := [.dev] }) (hh : Heard s op h x)
    (hu : unit.toNat ≤ 21) :
    exec (.pmcRead h unit) s = .next (answered op h (.read s ((List.range 8).map fun c => .u64 (s.acc unit.toNat c)))) := by
  subst hop
  exact next_serve_ok _ _ _ hh (by decide) (by decide) (a := .read _ _) (if_neg (show ¬ 22 ≤ unit.toNat by omega)) rfl rfl

end

/-- Settles O11, one lemma for each opcode. -/
theorem sensorLogCounterOpcodes : Obligations.SensorLogCounterOpcodes := by
  unfold Obligations.SensorLogCounterOpcodes
  intro s t h x
  refine ⟨?sensorRead, ?logRead, ?plogRead, ?lastgasp, ?counterClear, ?pmcGrant, ?pmcRead⟩
  case sensorRead => exact fun _ hop hh => exec_sensorRead_ok hop hh
  case logRead => exact fun _ _ _ _ _ hop hh h1 h127 h5 hl => exec_logRead_ok hop hh h1 h127 h5 hl
  case plogRead => exact fun _ _ _ hop hh h1 h127 hidx => exec_plogRead_ok hop hh h1 h127 hidx
  case lastgasp => exact fun _ hop hh => exec_lastgaspRead_ok hop hh
  case counterClear => exact fun _ _ _ hop hh hmine => ⟨exec_counterClear_all hop hh hmine, exec_counterClear_one hop hh hmine⟩
  case pmcGrant => exact fun _ _ _ _ _ hop hh hu hv he ha => exec_pmcGrant_ok hop hh hu hv he ha
  case pmcRead => exact fun _ _ hop hh hu => exec_pmcRead_ok hop hh hu

end Sys2Proof.Machine
end

section
/-!
PROOF. O13 FirmwareOpcodes: group 0x0E (Table 14.20), and UART_LOAD in the boot ROM (R363).
-/

namespace Sys2Proof.Machine

section
variable {s u : State} {h : Hdr} {x : Sess} {op : OpInfo}

theorem exec_fwWrite_ok {off : B32} {piece : Bytes} {nb : Nat}
    (hop : op = { code := 0x0E00, kind := .I, who := [.fm], forms := [.dev], len := decide (piece.length ≤ 4076) }) (hh : Heard s op h x)
    (hst : s.get F.ACW_FW_STATUS_UPD_STATE = 0 ∧ off.toNat = 0 ∨ s.get F.ACW_FW_STATUS_UPD_STATE = 1 ∧ s.acl.fwCred = x.key ∧
      (off.toNat = 0 ∨ off.toNat = s.acl.fwBytes))
    (hend : off.toNat + piece.length ≤ 8388608) (hnb : nb = 1 - s.get F.ACW_FW_STATUS_RUN_BANK)
    (hu : u = s.setBankOf nb (flashWrite (s.bankOf nb) off.toNat piece)) :
    exec (.fwWrite h off piece) s = .next (answered op h (.ok (({ u with acl := { u.acl with fwBytes := off.toNat + piece.length, fwCred := x.key } }).put
      F.ACW_FW_STATUS_UPD_STATE 1))) := by
  have hform : ¬ ((off.toNat != 0 && off.toNat != if s.get F.ACW_FW_STATUS_UPD_STATE = 1 then s.acl.fwBytes else 0) ||
      decide (8388608 < off.toNat + piece.length)) = true := by
    rw [decide_eq_false (by omega)]
    rcases hst with ⟨-, h0⟩ | ⟨h1, -, h0 | ho⟩
    · simp [h0]
    · simp [h0]
    · simp [h1, ho]
  have hmine : ¬ (s.get F.ACW_FW_STATUS_UPD_STATE ≠ 0 ∧ (s.get F.ACW_FW_STATUS_UPD_STATE ≠ 1 ∨ s.acl.fwCred ≠ x.key)) := by
    rcases hst with ⟨h0, -⟩ | ⟨h1, hk, -⟩
    · exact fun hc => hc.1 h0
    · exact fun hc => hc.2.elim (fun hn => hn h1) (fun hn => hn hk)
  subst hop hnb hu
  exact next_serve_ok _ _ _ hh (show 0x0E00 / 256 ≠ 0x0F by decide) (show OpKind.I ≠ .A by decide) (a := .ok _)
    ((if_neg hform).trans (if_neg hmine)) rfl rfl

theorem exec_fwCheck_tested {len : B32} {img : Bytes} (hop : op = { code := 0x0E01, kind := .I, who := [.fm], forms := [.dev] }) (hh : Heard s op h x)
    (hst : s.get F.ACW_FW_STATUS_UPD_STATE = 1 ∨ s.get F.ACW_FW_STATUS_UPD_STATE = 2) (himg : img = s.bankOf (1 - s.get F.ACW_FW_STATUS_RUN_BANK))
    (hu : u = s.put F.ACW_FW_STATUS_UPD_STATE 0) :
    exec (.fwCheck h len) s = .next (answered op h (match (if len.toNat ≠ s.acl.fwBytes ∨ len.toNat < fwLen img then some 2 else s.fwTest img) with
      | none => .ok ((s.put F.ACW_FW_STATUS_UPD_STATE 2).raise 0x01 0x7005 1 scDev [fwVersion img, fwSvn img])
      | some k => .fail .badParam (if k = 4 then u.raise 0x01 0x7009 2 scDev [fwSvn img, s.acl.rollback]
          else u.raise 0x01 0x7003 3 scDev [1 - s.get F.ACW_FW_STATUS_RUN_BANK, k]))) := by
  have hbusy : ¬ 3 ≤ s.get F.ACW_FW_STATUS_UPD_STATE := by omega
  have hidle : ¬ s.get F.ACW_FW_STATUS_UPD_STATE = 0 := by omega
  subst hop
  refine next_serve_now _ _ _ hh (by decide) (by decide) ?_ ?_
  · refine (if_neg hbusy).trans ((if_neg hidle).trans ?_)
    rw [← himg, ← hu]
    generalize (if len.toNat ≠ s.acl.fwBytes ∨ len.toNat < fwLen img then some 2 else s.fwTest img) = bad
    cases bad with
    | none => rfl
    | some k =>
      by_cases h4 : k = 4
      · rw [h4]; rfl
      · dsimp only
        rw [if_neg h4]
        split
        case h_1 heq => cases heq
        case h_2 heq => exact absurd (Option.some.inj heq) h4
        case h_3 heq => rw [Option.some.inj heq]
  · split <;> rfl

theorem exec_fwActivate_accepted (hop : op = { code := 0x0E02, kind := .A, who := [.fm], forms := [.dev] }) (hh : Heard s op h x)
    (hl : s.asyncLive x.key < 16) (h2 : (s.begun op h x).get F.ACW_FW_STATUS_UPD_STATE = 2) :
    exec (.fwActivate h) s = .next (answered op h (accepted ((s.begun op h x).beginActivation false))) := by
  subst hop
  exact next_serve_accepted _ _ _ hh (by decide) rfl hl (a := accepted _)
    ((if_neg (by rw [h2]; decide)).trans (if_neg (not_not_intro h2))) rfl rfl

theorem exec_fwConfirm_ok (hop : op = { code := 0x0E03, kind := .I, who := [.fm], forms := [.dev] }) (hh : Heard s op h x)
    (ht : s.flag F.ACW_FW_STATUS_TRIAL = true) (hu : u = (((s.writeBootRec (s.get F.ACW_FW_STATUS_RUN_BANK == 1) false false).putB
      F.ACW_FW_STATUS_TRIAL false).putB F.ACW_FW_STATUS_CONFIRMED true).put F.ACW_FW_STATUS_UPD_STATE 0) :
    exec (.fwConfirm h) s = .next (answered op h (.ok (u.raise 0x01 0x7007 0 scDev [u.get F.ACW_FW_VERSION_FW_VERSION]))) := by
  subst hop hu
  exact next_serve_ok _ _ _ hh (by decide) (by decide) (a := .ok _) (if_neg (by rw [ht]; decide)) rfl rfl

theorem exec_cfgWrite_ok {off : B32} {piece : Bytes}
    (hop : op = { code := 0x0E04, kind := .I, who := [.fm], forms := [.dev], len := decide (piece.length ≤ 4076) }) (hh : Heard s op h x)
    (hplace : off.toNat = 0 ∧ 16 ≤ piece.length ∧ leAt piece 12 4 = (s.get F.ACW_CFG_SEQ_SEQ + 1) % 2 ^ 32 ∨
      off.toNat ≠ 0 ∧ s.acl.cfgBusy = true ∧ off.toNat = s.acl.cfgBytes)
    (hend : off.toNat + piece.length ≤ 1048576) (hmine : s.acl.cfgBusy = true → s.acl.cfgCred = x.key)
    (hu : u = s.setCfgOf s.cfgSpare (flashWrite (s.cfgOf s.cfgSpare) off.toNat piece)) :
    exec (.cfgWrite h off piece) s = .next (answered op h
      (.ok { u with acl := { u.acl with cfgBytes := off.toNat + piece.length, cfgBusy := true, cfgCred := x.key } })) := by
  have hform : ¬ ((off.toNat != 0 && off.toNat != if s.acl.cfgBusy then s.acl.cfgBytes else 0) || decide (1048576 < off.toNat + piece.length) ||
      (off.toNat == 0 && !(decide (16 ≤ piece.length) && leAt piece 12 4 == (s.get F.ACW_CFG_SEQ_SEQ + 1) % 2 ^ 32))) = true := by
    rw [decide_eq_false (show ¬ 1048576 < off.toNat + piece.length by omega)]
    rcases hplace with ⟨h0, h16, hseq⟩ | ⟨h0, hbusy, hoff⟩
    · simp [h0, h16, hseq]
    · simp [hbusy, ← hoff, h0]
  have hbusy : ¬ (s.acl.cfgBusy = true ∧ s.acl.cfgCred ≠ x.key) := fun hc => hc.2 (hmine hc.1)
  subst hop hu
  exact next_serve_ok _ _ _ hh (show 0x0E04 / 256 ≠ 0x0F by decide) (show OpKind.I ≠ .A by decide) (a := .ok _)
    ((if_neg hform).trans (if_neg hbusy)) rfl rfl

section
variable {len : B32} {img : Bytes} (hop : op = { code := 0x0E05, kind := .I, who := [.fm], forms := [.dev] }) (hh : Heard s op h x)
  (hb : s.acl.cfgBusy = true) (hl : len.toNat = s.acl.cfgBytes) (hk : s.acl.cfgCred = x.key) (himg : img = s.cfgOf s.cfgSpare)
  (hu : u = { s with acl := { s.acl with cfgBusy := false } })
include hop hh hb hl hk himg hu

theorem exec_cfgFinish_tested : exec (.cfgFinish h len) s = .next (answered op h (if leAt img 8 4 = len.toNat ∧ cfgTest img = none then
    .ok (u.raise 0x01 0x7014 0 scDev [s.cfgSpare, leAt img 12 4]) else .fail .hwFault u)) := by
  have hform : ¬ (s.acl.cfgBusy && len.toNat != s.acl.cfgBytes) = true := by simp [hl]
  subst hop hu himg
  refine next_serve_now _ _ _ hh (by decide) (by decide)
    ((if_neg hform).trans ((if_neg (by rw [hb]; decide)).trans (if_neg (not_not_intro hk)))) ?_
  split <;> rfl

theorem exec_cfgFinish_ok (hlen : leAt img 8 4 = len.toNat) (htest : cfgTest img = none) :
    exec (.cfgFinish h len) s = .next (answered op h (.ok (u.raise 0x01 0x7014 0 scDev [s.cfgSpare, leAt img 12 4]))) := by
  rw [exec_cfgFinish_tested hop hh hb hl hk himg hu, if_pos ⟨hlen, htest⟩]

theorem exec_cfgFinish_bad (hbad : leAt img 8 4 ≠ len.toNat ∨ cfgTest img ≠ none) :
    exec (.cfgFinish h len) s = .next (answered op h (.fail .hwFault u)) := by
  rw [exec_cfgFinish_tested hop hh hb hl hk himg hu, if_neg fun hc => hbad.elim (fun hn => hn hc.1) (fun hn => hn hc.2)]

end

theorem exec_updStatus_ok (hop : op = { code := 0x0E06, kind := .R, who := [.fm, .obs], forms := [.dev] }) (hh : Heard s op h x) :
    exec (.updStatus h) s = .next (answered op h (.read s [.u8 (s.get F.ACW_FW_STATUS_UPD_STATE), .u32 s.acl.fwBytes, .u32 s.acl.cfgBytes])) := by
  subst hop
  exact next_serve_ok _ _ _ hh (by decide) (by decide) (a := .read _ _) rfl rfl rfl

end

section
variable {s : State} {h : Hdr}

/-- The session of a request without a credential, of a boot ROM that serves its UART. -/
def romSess : Sess := { cls := none, vs := 0xFF, panel := 0, key := 0, form := .dev, n := 0 }

variable (hchan : h.chan = 0) (hscope : h.scope = 0xFFFF) (hcred : h.cred = 0)
include hscope hcred

/-- A request of the boot ROM's UART that passes its checks. -/
theorem State.checks_rom {op : OpInfo} (h0 : op.cred0 = true) (hf : op.forms = [.dev]) : s.checks op h .arrive = .ok romSess := by
  simp [State.checks, hcred, h0, hscope, scopeForm, hf, State.reach, romSess]

include hchan

/-- The service of a request that the boot ROM hears on its UART. -/
theorem State.serve_rom {op : OpInfo} (self : Instr) (params : List Dat) (body : Sess → State → Ans) {a : Ans}
    (hflags : h.flags = 0) (hwaits : s.acl.romWaits = true) (hup : s.acl.up = false) (hvia : s.cmd.via = .arrive) (howing : s.owing = [])
    (hheld : (s.chan 0).held = []) (hkept : s.keptReply .arrive h = none) (hboot : s.flag F.ACW_FW_STATUS_UART_BOOT = false)
    (hcode : op.code = 0x0E07) (hkind : op.kind = .I) (h0 : op.cred0 = true) (hf : op.forms = [.dev]) (hlen : op.len = true)
    (hb : body romSess s = a) (ho : a.owed = false) : s.serve self op h params body = answered op h a := by
  have harr := State.arrived_eq hvia
  have hrun : s.runBody op h romSess body = a := State.runBody_now hflags (by rw [hkind]; decide) hb
  have hdis : s.disarm 0x0E07 = s := State.disarm_eq s (by decide)
  have hform : ¬ (romSess.form = .node ∧ romSess.n ≠ s.nodeId) := by simp [romSess]
  have hbusy : s.chanBusy 0 h.eid.toNat = false := State.chanBusy_eq howing 0 h.eid.toNat
  have hchecks := State.checks_rom (s := s) hscope hcred h0 hf
  unfold State.serve
  simp only [hvia, hchan, hwaits, hup, hboot, harr, hflags, hlen, hchecks, hkept, hkind, if_neg hform]
  simp [hheld, hbusy, hcode, hdis, hrun, ho, answered, hkind]

theorem exec_uartLoad_rom {off total : B32} {piece got : Bytes} (hflags : h.flags = 0) (hwaits : s.acl.romWaits = true) (hup : s.acl.up = false)
    (hvia : s.cmd.via = .arrive) (howing : s.owing = []) (hheld : (s.chan 0).held = []) (hkept : s.keptReply .arrive h = none)
    (hboot : s.flag F.ACW_FW_STATUS_UART_BOOT = false) (hlen : piece.length ≤ 4072) (hoff : off.toNat = 0 ∨ off.toNat = s.acl.sram.length)
    (hend : off.toNat + piece.length ≤ total.toNat) (htotal : total.toNat ≤ 2097152)
    (hgot : got = (if off.toNat = 0 then [] else s.acl.sram) ++ piece) :
    exec (.uartLoad h off total piece) s = .next (answered { code := 0x0E07, kind := .I, who := [.fm], forms := [.dev], cred0 := true } h
      (if off.toNat + piece.length < total.toNat then .ok { s with acl := { s.acl with sram := got } }
       else if fwLen got ≤ got.length ∧ s.fwTest got = none then .ok ((s.fwUp 0 false true got).booted 2 got)
       else .fail .badParam { s with acl := { s.acl with sram := [] } })) := by
  have hrom : (s.acl.romWaits && h.chan.val == 0) = true := by rw [hwaits, hchan]; rfl
  have hform : ¬ ((off.toNat != 0 && off.toNat != s.acl.sram.length) || decide (2097152 < total.toNat) ||
      decide (total.toNat < off.toNat + piece.length)) = true := by
    rw [decide_eq_false (by omega), decide_eq_false (show ¬ total.toNat < off.toNat + piece.length by omega)]
    rcases hoff with h0 | h0 <;> simp [h0]
  refine congrArg Host.Outcome.next (State.serve_rom hchan hscope hcred _ _ _ hflags hwaits hup hvia howing hheld hkept hboot rfl rfl hrom rfl
    (decide_eq_true hlen) ((if_neg (by rw [hwaits]; decide)).trans ((if_neg hform).trans (by rw [← hgot]))) ?_)
  split
  · rfl
  · split <;> rfl

end

/-- Settles O13, one lemma for each opcode and outcome of its tests. -/
theorem firmwareOpcodes : Obligations.FirmwareOpcodes := by
  unfold Obligations.FirmwareOpcodes
  intro s h x
  refine ⟨?fwWrite, ?fwCheck, ?fwActivate, ?fwConfirm, ?cfgWrite, ?cfgFinish, ?status, ?uartLoad⟩
  case fwWrite => exact fun _ _ _ _ _ hop hh hst hend hnb hu => exec_fwWrite_ok hop hh hst hend hnb hu
  case fwCheck => exact fun _ _ _ _ hop hh hst himg hu => exec_fwCheck_tested hop hh hst himg hu
  case fwActivate => exact fun _ hop hh hl h2 => exec_fwActivate_accepted hop hh hl h2
  case fwConfirm => exact fun _ _ hop hh ht hu => exec_fwConfirm_ok hop hh ht hu
  case cfgWrite => exact fun _ _ _ _ hop hh hplace hend hmine hu => exec_cfgWrite_ok hop hh hplace hend hmine hu
  case cfgFinish =>
    exact fun _ _ _ _ hop hh hb hl hk himg hu =>
      ⟨exec_cfgFinish_ok hop hh hb hl hk himg hu, exec_cfgFinish_bad hop hh hb hl hk himg hu⟩
  case status => exact fun _ hop hh => exec_updStatus_ok hop hh
  case uartLoad =>
    exact fun _ _ _ _ hchan hscope hcred hflags hwaits hup hvia howing hheld hkept hboot hlen hoff hend htotal hgot =>
      exec_uartLoad_rom hchan hscope hcred hflags hwaits hup hvia howing hheld hkept hboot hlen hoff hend htotal hgot

end Sys2Proof.Machine
end

section
/-!
PROOF. O12 ResetAndPowerOpcodes: group 0x0D (Table 14.19).
-/

namespace Sys2Proof.Machine

/-- A fold of steps that leave the power state alone leaves it alone. -/
theorem State.foldl_pow {α : Type} (f : State → α → State) (hf : ∀ t a, (f t a).pow = t.pow) (l : List α) : ∀ s : State, (l.foldl f s).pow = s.pow := by
  induction l with
  | nil => exact fun _ => rfl
  | cons a l ih => exact fun s => (ih (f s a)).trans (hf s a)

theorem State.setTw64_pow (s : State) (t st idx w v : Nat) : (s.setTw64 t st idx w v).pow = s.pow := rfl

theorem State.setPatch_pow (s : State) (p tag n : Nat) : (s.setPatch p tag n).pow = s.pow := rfl

theorem State.setTw_pow (s : State) (t st idx w v : Nat) : (s.setTw t st idx w v).pow = s.pow := rfl

theorem State.crtRelease_pow (s : State) (p tag : Nat) : (s.crtRelease p tag).pow = s.pow := by
  simp only [State.crtRelease, apply_ite State.pow, State.setTw_pow, State.setPatch_pow, State.put_pow, State.setTw64_pow, ite_self]

/-- One return entry of `State.crtReleaseIf`. -/
def State.crtReleaseStep (p : Nat) (q : Nat → Bool) (s : State) (i : Nat) : State :=
  if crtValid (s.crt p (i % 256)) && q (s.crt p (i % 256)) then s.crtRelease p (i % 256) else s

theorem State.crtReleaseIf_eq (s : State) (p : Nat) (q : Nat → Bool) :
    s.crtReleaseIf p q = ((s.tIdxs tCrt (stnOf p)).filter fun i => i / 256 == kOf p).foldl (State.crtReleaseStep p q) s := rfl

theorem State.crtReleaseStep_pow (p : Nat) (q : Nat → Bool) (s : State) (i : Nat) : (State.crtReleaseStep p q s i).pow = s.pow := by
  unfold State.crtReleaseStep
  by_cases h : (crtValid (s.crt p (i % 256)) && q (s.crt p (i % 256))) = true
  · rw [if_pos h, State.crtRelease_pow]
  · rw [if_neg h]

theorem State.crtReleaseIf_pow (s : State) (p : Nat) (q : Nat → Bool) : (s.crtReleaseIf p q).pow = s.pow := by
  rw [State.crtReleaseIf_eq]
  exact State.foldl_pow _ (State.crtReleaseStep_pow p q) _ _

theorem State.clearBlock_pow (s : State) (lo hi : Nat) (q : Nat → Bool) : (s.clearBlock lo hi q).pow = s.pow :=
  State.foldl_pow State.statusGone (fun _ _ => State.setReg_pow _ _ _) _ _

theorem State.logicGone_pow (s : State) (st : Nat) : (s.logicGone st).pow = s.pow :=
  State.foldl_pow (fun (s : State) p => s.modPort p fun x => { cfg := x.cfg, dis := x.dis }) (fun _ _ => State.modPort_pow _ _ _) _ _

theorem State.orCw_pow (s : State) (p off v : Nat) : (s.orCw p off v).pow = s.pow := State.modPort_pow _ _ _

theorem State.hpSync_pow (s : State) (n : Nat) : (s.hpSync n).pow = s.pow := by
  unfold State.hpSync
  split
  · rfl
  · split
    · rfl
    · dsimp only
      split
      · simp only [State.orCw_pow, State.putB_pow]
      · simp only [State.putB_pow]

theorem State.clusterGone_pow (s : State) (st : Nat) : (s.clusterGone st).pow = s.pow := by
  unfold State.clusterGone
  exact (State.modBstn_pow _ _ _).trans (State.clearBlock_pow _ _ _ _)

theorem State.setEngState_pow (s : State) (e v : Nat) : (s.setEngState e v).pow = s.pow := by
  unfold State.setEngState
  simp only [State.put_pow]

theorem State.checkEngines_pow (s : State) (st : Nat) : (s.checkEngines st).pow = s.pow := by
  unfold State.checkEngines
  dsimp only
  rw [State.modBstn_pow]
  split
  · exact State.raise_pow _ _ _ _ _ _
  · rfl

theorem State.loadEngines_pow (s : State) (st : Nat) : (s.loadEngines st).pow = s.pow := by
  unfold State.loadEngines
  dsimp only
  split
  · rfl
  · rw [State.checkEngines_pow, State.put_pow, State.put_pow, State.putB_pow]
    exact State.foldl_pow _ (fun t e => by simp only [State.modThm_pow, State.setEngState_pow, State.modEng_pow]) _ _

/-- The clearing of a block (R410) leaves the record of power and resets. -/
theorem State.blockClear_pow (s : State) (code st : Nat) : (s.blockClear code st).pow = s.pow := by
  unfold State.blockClear
  dsimp only
  split
  case isTrue =>
    refine (State.foldl_pow _ (fun t n => State.hpSync_pow t n) _ _).trans ?_
    rw [State.put_pow, State.putB_pow]
    exact (State.logicGone_pow _ _).trans ((State.clearBlock_pow _ _ _ _).trans (State.foldl_pow _ (fun t p => State.crtReleaseIf_pow t p _) _ _))
  split
  case isTrue => exact (State.loadEngines_pow _ _).trans (State.clusterGone_pow _ _)
  split
  case isTrue =>
    rw [State.putB_pow, State.putB_pow]
    exact State.clearBlock_pow _ _ _ _
  split
  case isTrue => exact State.clearBlock_pow _ _ _ _
  split
  case isTrue =>
    dsimp only
    rw [State.put_pow, State.put_pow, State.putB_pow, State.putB_pow]
    exact State.clearBlock_pow _ _ _ _
  case isFalse => exact State.clearBlock_pow _ _ _ _

section
variable {s u v w : State} {h : Hdr} {x : Sess} {op : OpInfo}

theorem exec_pdStatus_ok (hop : op = { code := 0x0D00, kind := .R, who := [.fm, .obs], forms := [.dev] }) (hh : Heard s op h x) :
    exec (.pdStatus h) s = .next (answered op h (.read s ((List.range 64).map fun d => .u32 (s.reg (F.GLB_PD_STATE_STATE d).addr).toNat))) := by
  subst hop
  exact next_serve_ok _ _ _ hh (by decide) (by decide) (a := .read _ _) rfl rfl rfl

section
variable {dom on : B8} {d : Nat} {mine : Async → Bool} (hop : op = { code := 0x0D01, kind := .A, who := [.fm], forms := [.dev] }) (hh : Heard s op h x)
  (hl : s.asyncLive x.key < 16) (hu : u = s.begun op h x) (hd : d = dom.toNat) (h61 : d ≤ 61) (htrip : u.flag F.GLB_STATUS_THERMTRIP = false)
  (hhold : d < 16 ∨ 32 ≤ d ∧ d < 48 → u.hold (d % 16) = false) (hreq : u.flag (F.GLB_PD_STATE_REQ d) = (u.pdState d == 2))
  (hv : v = if u.pdState d = 3 then u.put (F.GLB_PD_STATE_STATE d) 0 else u) (hmine : mine = (fun a => a.opcode == 0x0D01 && a.obj == d))
include hop hh hl hu hd h61 htrip hhold hreq hv hmine

theorem exec_pdSet_on (hon : on.toNat = 1)
    (hw : w = { v.pdAsk d true with pow := { (v.pdAsk d true).pow with offBySet := u.pow.offBySet.filter (· != d) } }) :
    exec (.pdSet h dom on) s = .next (answered op h (accepted (if u.pdState d = 2 then
      (u.asyncObj d 1).raiseEnd mine 0x00 0x8010 0 scDev [d, 0] else w.asyncObj d 1))) := by
  have hform : (decide (61 < d) || decide (1 < 1)) = false := by simpa using h61
  have hheld : ((decide (d < 16) || (decide (32 ≤ d) && decide (d < 48))) && u.hold (d % 16)) = false := by simpa using hhold
  have hone : (1 == 1) = true := rfl
  subst hop hd
  refine next_serve_accepted _ _ _ hh (by decide) rfl hl (a := accepted _) ?_ rfl rfl
  simp only [← hu, hon, hform, htrip, hheld, hreq, bne_self_eq_false, Bool.false_eq_true, if_false, if_true, hone, ← hv, ← hw, ← hmine]
  split <;> rfl

theorem exec_pdSet_off (hon : on.toNat = 0) (hoff : u.noneNeeds d = true ∧ u.pdMayOff d = true ∨
      56 ≤ d ∧ d < 60 ∧ bit (u.get F.CORE_STALL_STATUS_FAILED) (d - 56) = true)
    (hw : w = { v.pdAsk d false with pow := { (v.pdAsk d false).pow with offBySet := d :: u.pow.offBySet.filter (· != d) } }) :
    exec (.pdSet h dom on) s = .next (answered op h (accepted (if u.pdState d = 2 then w.asyncObj d 0
      else (w.asyncObj d 0).raiseEnd mine 0x00 0x8011 0 scDev [d, 1]))) := by
  have hform : (decide (61 < d) || decide (1 < 0)) = false := by simpa using h61
  have hheld : ((decide (d < 16) || (decide (32 ≤ d) && decide (d < 48))) && u.hold (d % 16)) = false := by simpa using hhold
  have hmay : (decide (56 ≤ d ∧ d < 60) && bit (u.get F.CORE_STALL_STATUS_FAILED) (d - 56) || (u.noneNeeds d && u.pdMayOff d)) = true := by
    rcases hoff with ⟨h1, h2⟩ | ⟨h1, h2, h3⟩
    · rw [h1, h2]; exact Bool.or_true _
    · simp [h1, h2, h3]
  have hone : (0 == 1) = false := rfl
  subst hop hd
  refine next_serve_accepted _ _ _ hh (by decide) rfl hl (a := accepted _) ?_ rfl rfl
  simp only [← hu, hon, hform, htrip, hheld, hreq, bne_self_eq_false, Bool.false_eq_true, if_false, Nat.zero_ne_one, hone, hmay, Bool.not_true,
    ← hv, ← hw, ← hmine]
  split <;> rfl

end

theorem exec_blockReset_ok {code : B8} (hop : op = { code := 0x0D02, kind := .I, who := [.fm], forms := [.dev, .stn] }) (hh : Heard s op h x)
    (hcode : 1 ≤ code.toNat ∧ code.toNat ≤ 3 ∧ x.form = .stn ∨ 0x10 ≤ code.toNat ∧ code.toNat ≤ 0x12 ∧ x.form = .dev) (hb : s.pow.block = none)
    (hreq : s.flag (F.GLB_PD_STATE_REQ (blockDomain code.toNat x.n)) = s.pdIsOn (blockDomain code.toNat x.n))
    (hidle : s.blockBusy code.toNat x.n = none) :
    exec (.blockReset h code) s = .next (answered op h (.ok { s.blockClear code.toNat x.n with
      pow := { (s.blockClear code.toNat x.n).pow with block := some (code.toNat, x.n) } })) := by
  have hform : (!decide (1 ≤ code.toNat ∧ code.toNat ≤ 3) && !decide (0x10 ≤ code.toNat ∧ code.toNat ≤ 0x12)) = false := by
    rcases hcode with ⟨h1, h2, -⟩ | ⟨h1, h2, -⟩ <;> simp [h1, h2]
  have hscope : (decide (1 ≤ code.toNat ∧ code.toNat ≤ 3) != (x.form == .stn)) = false := by
    rcases hcode with ⟨h1, h2, h3⟩ | ⟨h1, h2, h3⟩
    · simp [h1, h2, h3]
    · rw [decide_eq_false (by omega), h3]; rfl
  subst hop
  refine next_serve_ok _ _ _ hh (by decide) (by decide) (a := .ok _) ?_ rfl rfl
  simp only [hform, hscope, hb, hreq, hidle, bne_self_eq_false, Option.isSome_none, Bool.or_self, Bool.false_eq_true, if_false,
    State.blockClear_pow]

theorem exec_deviceReset_ok {kind : B8} (hop : op = { code := 0x0D03, kind := .I, who := [.fm], forms := [.dev] }) (hh : Heard s op h x)
    (hk : kind.toNat ≤ 1) :
    exec (.deviceReset h kind) s = .next (answered op h (.ok { s with pow := { s.pow with pendingReset := some kind.toNat } })) := by
  subst hop
  exact next_serve_ok _ _ _ hh (by decide) (by decide) (a := .ok _) (if_neg (Nat.not_lt.mpr hk)) rfl rfl

theorem exec_resetHistory_ok (hop : op = { code := 0x0D04, kind := .R, who := [.fm, .obs], forms := [.dev] }) (hh : Heard s op h x) :
    exec (.resetHistory h) s = .next (answered op h (.read s (((List.range 9).map fun i => Dat.u16 (s.get (causeCnt (i + 2)))) ++
      [.u32 (s.reg F.GLB_RESET_CAUSE_LAST_CAUSE.addr).toNat]))) := by
  subst hop
  exact next_serve_ok _ _ _ hh (by decide) (by decide) (a := .read _ _) rfl rfl rfl

end

/-- Settles O12, one lemma for each opcode. -/
theorem resetAndPowerOpcodes : Obligations.ResetAndPowerOpcodes := by
  unfold Obligations.ResetAndPowerOpcodes
  intro s h x
  refine ⟨?status, ?pdSet, ?block, ?device, ?history⟩
  case status => exact fun _ hop hh => exec_pdStatus_ok hop hh
  case pdSet =>
    exact fun _ _ _ _ _ _ _ _ hop hh hl hu hd h61 htrip hhold hreq hv hmine =>
      ⟨exec_pdSet_on hop hh hl hu hd h61 htrip hhold hreq hv hmine, exec_pdSet_off hop hh hl hu hd h61 htrip hhold hreq hv hmine⟩
  case block => exact fun _ _ hop hh hcode hb hreq hidle => exec_blockReset_ok hop hh hcode hb hreq hidle
  case device => exact fun _ _ hop hh hk => exec_deviceReset_ok hop hh hk
  case history => exact fun _ hop hh => exec_resetHistory_ok hop hh

end Sys2Proof.Machine
end

section
/-!
PROOF. O14 CredentialOpcodes: the credential and channel opcodes of group 0x0F (Table 14.21). Each first disarms an armed debug lock (R375).
-/

namespace Sys2Proof.Machine

section
variable {s t : State} {h : Hdr} {x : Sess} {id : B32} {op : OpInfo}

theorem exec_credOpen_ok {cls v : B8} {k : Cls} (hop : op = { code := 0x0F00, kind := .I, who := anyCls, forms := [.dev], cred0 := true })
    (hh : Heard s op h x) (h3 : cls.toNat ≤ 3) (hk : Cls.ofCode cls.toNat = some k)
    (hpm : k = .pm → v.toNat < 32 ∧ (3 ≤ h.chan.val → chanVs h.chan.val = some v.toNat)) (hmax : cls.toNat ≤ (s.disarm 0x0F00).maxClass h.chan.val)
    (ho : (s.disarm 0x0F00).openCred (fun g => { gen := g, cls := k, vs := if k = .pm then v.toNat else 0xFF, panel := 0, chan := h.chan.val,
                                                 eid := bindEid h.chan.val h.eid.toNat }) = some (id, t)) :
    exec (.credOpen h cls v) s = .next (answered op h (.read t [.u32 id.toNat])) := by
  have hvs : ((k == .pm) && decide (32 ≤ v.toNat)) = false := by
    by_cases hp : k = .pm
    · simpa [hp] using (hpm hp).1
    · simp [hp]
  have hchan : ((k == .pm) && decide (3 ≤ h.chan.val) && chanVs h.chan.val != some v.toNat) = false := by
    by_cases hp : k = .pm
    · simpa [hp] using (hpm hp).2
    · simp [hp]
  subst hop
  refine congrArg Host.Outcome.next (State.serve_ok _ _ _ hh rfl (by decide) (a := .read _ _) ?_ rfl rfl)
  simp only [if_neg (Nat.not_lt.mpr h3), hk, hvs, hchan, decide_eq_false (Nat.not_lt.mpr hmax), Bool.or_self, Bool.false_eq_true, if_false,
    beq_iff_eq, ho]
  rfl

theorem exec_credClose_ok (hop : op = { code := 0x0F01, kind := .I, who := anyCls, forms := [.dev] }) (hh : Heard s op h x) :
    exec (.credClose h) s = .next (answered op h (.ok ((s.disarm 0x0F01).closeIdx (credIdx x.key)))) := by
  subst hop
  exact congrArg Host.Outcome.next (State.serve_ok _ _ _ hh rfl (by decide) (a := .ok _) rfl rfl rfl)

theorem exec_credTenant_ok {v : Nat} (hop : op = { code := 0x0F02, kind := .I, who := [.fm, .pm], forms := [.panel] }) (hh : Heard s op h x)
    (hv : (s.disarm 0x0F02).panelVs x.n = some v) (hown : x.isP = false ∨ v = x.vs)
    (ho : (s.disarm 0x0F02).openCred (fun g => { gen := g, cls := .tenant, vs := v, panel := x.n, chan := h.chan.val,
                                                 eid := bindEid h.chan.val h.eid.toNat }) = some (id, t)) :
    exec (.credTenant h) s = .next (answered op h (.read t [.u32 id.toNat])) := by
  have hscope : (x.isP && v != x.vs) = false := by
    rcases hown with hx | hx <;> simp [hx]
  subst hop
  refine congrArg Host.Outcome.next (State.serve_ok _ _ _ hh rfl (by decide) (a := .read _ _) ?_ rfl rfl)
  simp only [hv, hscope, Bool.false_eq_true, if_false, ho]
  rfl

theorem exec_stageChannel_ok {ch cls : B8} (hop : op = { code := 0x0F09, kind := .S, who := [.fm], forms := [.dev] }) (hh : Heard s op h x)
    (hc : ch.toNat ≤ 66) (h3 : cls.toNat ≤ 3)
    (ha : (s.disarm 0x0F09).addItems x.key [.regs [fldPart (F.ACW_CHAN_CFG_MAX_CLASS ch.toNat) cls.toNat]] 4 = some t) :
    exec (.stageChannel h ch cls) s = .next (answered op h (.ok t)) := by
  have hform : ¬ (decide (66 < ch.toNat) || decide (3 < cls.toNat)) = true := by
    simp only [Bool.or_eq_true, decide_eq_true_eq]
    omega
  subst hop
  exact congrArg Host.Outcome.next (State.serve_ok _ _ _ hh rfl (by decide) (a := .ok t) ((if_neg hform).trans (State.stage_ok rfl ha)) rfl rfl)

theorem exec_secStatus_ok (hop : op = { code := 0x0F0A, kind := .R, who := [.fm, .obs], forms := [.dev] }) (hh : Heard s op h x) :
    exec (.secStatus h) s = .next (answered op h (.read (s.disarm 0x0F0A)
      (.u32 ((s.disarm 0x0F0A).reg F.ACW_SEC_STATUS_ROLLBACK.addr).toNat :: (List.range 4).map fun i =>
        .u8 (if ((s.disarm 0x0F0A).keySlot (i + 1)).revoked then 2 else if ((s.disarm 0x0F0A).keySlot (i + 1)).enrolled then 1 else 0)))) := by
  subst hop
  exact congrArg Host.Outcome.next (State.serve_ok _ _ _ hh rfl (by decide) (a := .read _ _) rfl rfl rfl)

theorem exec_stageProxyRegions_ok {nreg : B8} {recs : List (List B32)}
    (hop : op = { code := 0x0F08, kind := .S, who := [.fm], forms := [.dev], len := recs.length == nreg.toNat && recs.all fun r => r.length == 4 })
    (hh : Heard s op h x) (hn : nreg.toNat ≤ 16) (hf : recs.all (regionFmt (2 ^ 26) 2) = true) (ho : regionsOverlap recs = false)
    (ha : (s.disarm 0x0F08).addItems x.key [.proxyRegions recs] (4 + 16 * recs.length) = some t) :
    exec (.stageProxyRegions h nreg recs) s = .next (answered op h (.ok t)) := by
  have hform : ¬ (16 < nreg.toNat ∨ recs.all (regionFmt (2 ^ 26) 2) = false) := by
    rintro (hl | hl)
    · omega
    · exact Bool.false_ne_true (hl.symm.trans hf)
  subst hop
  exact congrArg Host.Outcome.next (State.serve_ok _ _ _ hh rfl (show OpKind.S ≠ .A by decide) (a := .ok t)
    ((if_neg hform).trans (State.stage_ok (by rw [ho]; rfl) ha)) rfl rfl)

end

/-- Settles O14, one lemma for each opcode. -/
theorem credentialOpcodes : Obligations.CredentialOpcodes := by
  unfold Obligations.CredentialOpcodes
  intro s t h x id
  refine ⟨?credOpen, ?credClose, ?tenant, ?channel, ?status, ?regions⟩
  case credOpen => exact fun _ _ _ _ hop hh h3 hk hpm hmax ho => exec_credOpen_ok hop hh h3 hk hpm hmax ho
  case credClose => exact fun _ hop hh => exec_credClose_ok hop hh
  case tenant => exact fun _ _ hop hh hv hown ho => exec_credTenant_ok hop hh hv hown ho
  case channel => exact fun _ _ _ hop hh hc h3 ha => exec_stageChannel_ok hop hh hc h3 ha
  case status => exact fun _ hop hh => exec_secStatus_ok hop hh
  case regions => exact fun _ _ _ hop hh hn hf ho ha => exec_stageProxyRegions_ok hop hh hn hf ho ha

end Sys2Proof.Machine
end

section
/-!
PROOF. O15 FuseOpcodes: the fuse opcodes of group 0x0F (Table 14.21). One lemma for each opcode says what follows whether the burn reads back as
written or not; the obligation's clauses are its instances.
-/

namespace Sys2Proof.Machine

/-- Whether a burn reads back as written: the command's word, or else the free value of the moment. -/
def State.readsBack (s : State) (burnt : Option Bool) : Bool := burnt.getD (Config.burnOk s.clk.free)

theorem State.burn_eq (s : State) (fuse ix : Nat) (burnt : Option Bool) :
    s.burn fuse ix burnt = (s.nextFree.emit (.fuse fuse ix), s.readsBack burnt) := rfl

section
variable {s d b : State} {h : Hdr} {x : Sess} {op : OpInfo}

theorem exec_keyEnroll_burn {slot : B8} {key pad : Bytes}
    (hop : op = { code := 0x0F03, kind := .I, who := [.fm], forms := [.dev], len := key.length == 97 && pad.length == 3 }) (hh : Heard s op h x)
    (hd : d = s.disarm 0x0F03) (hb : b = d.nextFree.emit (.fuse fzKey slot.toNat)) (h1 : 1 ≤ slot.toNat) (h4 : slot.toNat ≤ 4)
    (hk : keyOk key = true) (hp : pad.any (· != 0) = false) (he : (d.keySlot slot.toNat).enrolled = false)
    (hr : (d.keySlot slot.toNat).revoked = false) (burnt : Option Bool) :
    exec (.keyEnroll h slot key pad burnt) s = .next (answered op h (if d.readsBack burnt then
      .ok ((b.setKeySlot slot.toNat { d.keySlot slot.toNat with enrolled := true, key := key }).raise 0x01 0xA006 1 scDev
        [slot.toNat, leNat ((Config.sha384 key).take 8)]) else b.burnFailed fzKey)) := by
  have hform : (decide (slot.toNat < 1) || decide (4 < slot.toNat) || !keyOk key || pad.any (· != 0)) = false := by
    rw [decide_eq_false (Nat.not_lt.mpr h1), decide_eq_false (Nat.not_lt.mpr h4), hk, hp]; rfl
  subst hop
  refine congrArg Host.Outcome.next (State.serve_now _ _ _ hh hd.symm (show OpKind.I ≠ .A by decide) ?_ ?_)
  · simp only [hform, he, hr, State.burn_eq, ← hb, Bool.or_self, Bool.false_eq_true, if_false]
    cases d.readsBack burnt <;> rfl
  · split <;> rfl

theorem exec_keyRevoke_burn {slot : B8} (hop : op = { code := 0x0F04, kind := .I, who := [.fm], forms := [.dev] }) (hh : Heard s op h x)
    (hd : d = s.disarm 0x0F04) (hb : b = d.nextFree.emit (.fuse fzRevoke slot.toNat)) (h1 : 1 ≤ slot.toNat) (h4 : slot.toNat ≤ 4)
    (hr : (d.keySlot slot.toNat).revoked = false) (burnt : Option Bool) :
    exec (.keyRevoke h slot burnt) s = .next (answered op h (if d.readsBack burnt then
      .ok ((b.setKeySlot slot.toNat { d.keySlot slot.toNat with revoked := true }).raise 0x01 0xA007 1 scDev [slot.toNat])
      else b.burnFailed fzRevoke)) := by
  have hform : (decide (slot.toNat < 1) || decide (4 < slot.toNat)) = false := by
    rw [decide_eq_false (Nat.not_lt.mpr h1), decide_eq_false (Nat.not_lt.mpr h4)]; rfl
  subst hop
  refine congrArg Host.Outcome.next (State.serve_now _ _ _ hh hd.symm (by decide) ?_ ?_)
  · simp only [hform, hr, State.burn_eq, ← hb, Bool.false_eq_true, if_false]
    cases d.readsBack burnt <;> rfl
  · split <;> rfl

theorem exec_rollbackAdvance_burn {n : Nat} (hop : op = { code := 0x0F05, kind := .I, who := [.fm], forms := [.dev] }) (hh : Heard s op h x)
    (hd : d = s.disarm 0x0F05) (hn : n = d.get F.ACW_SEC_STATUS_RUN_SVN) (hb : b = d.nextFree.emit (.fuse fzRollback n))
    (ht : d.flag F.ACW_FW_STATUS_TRIAL = false) (hu : d.flag F.ACW_FW_STATUS_UART_BOOT = false) (burnt : Option Bool) :
    exec (.rollbackAdvance h burnt) s = .next (answered op h (if d.readsBack burnt then
      .read ((({ b with acl := { b.acl with rollback := n } }).put F.ACW_SEC_STATUS_ROLLBACK n).raise 0x01 0xA005 1 scDev [d.acl.rollback, n]) [.u8 n]
      else (({ b with acl := { b.acl with rollback := min 64 (Config.burnt b.clk.free) } }).put F.ACW_SEC_STATUS_ROLLBACK
        (min 64 (Config.burnt b.clk.free))).burnFailed fzRollback)) := by
  subst hop
  refine congrArg Host.Outcome.next (State.serve_now _ _ _ hh hd.symm (by decide) ?_ ?_)
  · simp only [ht, hu, ← hn, State.burn_eq, ← hb, Bool.or_self, Bool.false_eq_true, if_false]
    cases d.readsBack burnt <;> rfl
  · split <;> rfl

theorem exec_debugArm_ok (hop : op = { code := 0x0F06, kind := .I, who := [.fm], forms := [.dev] }) (hh : Heard s op h x)
    (hl : s.acl.debugLocked = false) (ha : s.acl.arm = none) :
    exec (.debugArm h) s = .next (answered op h (.read
      ((({ s.nextFree with acl := { s.acl with arm := some { challenge := Config.challenge s.clk.free, chan := h.chan.val, cred := x.key } } }).putB
        F.ACW_SEC_STATUS_ARMED true).raise 0x01 0xA001 1 scDev [h.chan.val]) [.u32 (Config.challenge s.clk.free).toNat])) := by
  have hd : s.disarm 0x0F06 = s := if_neg (by decide)
  subst hop
  refine congrArg Host.Outcome.next (State.serve_ok _ _ _ hh hd (by decide) (a := .read _ _) ?_ rfl rfl)
  exact (if_neg (by rw [hl]; decide)).trans (if_neg (by rw [ha]; decide))

theorem exec_debugConfirm_burn {chal : B32} (hop : op = { code := 0x0F07, kind := .I, who := [.fm], forms := [.dev] }) (hh : Heard s op h x)
    (hl : s.acl.debugLocked = false) (ha : s.acl.arm = some { challenge := chal, chan := h.chan.val, cred := x.key })
    (hd : d = ({ s with acl := { s.acl with arm := none } }).putB F.ACW_SEC_STATUS_ARMED false) (hb : b = d.nextFree.emit (.fuse fzDebug 0))
    (burnt : Option Bool) :
    exec (.debugConfirm h chal burnt) s = .next (answered op h (if d.readsBack burnt then
      .ok ((({ b with acl := { b.acl with debugLocked := true } }).putB F.ACW_SEC_STATUS_DEBUG_LOCKED true).raise 0x01 0xA002 1 scDev [])
      else b.burnFailed fzDebug)) := by
  have hdis : s.disarm 0x0F07 = s := if_neg (by decide)
  subst hop
  refine congrArg Host.Outcome.next (State.serve_now _ _ _ hh hdis (by decide) ?_ ?_)
  · refine (if_neg (by rw [hl]; decide)).trans ?_
    dsimp only at hd
    simp only [ha, ne_eq, not_true_eq_false, or_self, if_false, ← hd, State.burn_eq, ← hb]
    cases d.readsBack burnt <;> rfl
  · split <;> rfl

end

/-- Settles O15: each fuse opcode's lemma, for a burn that reads back, for one that does not, and for the free value. -/
theorem fuseOpcodes : Obligations.FuseOpcodes := by
  unfold Obligations.FuseOpcodes
  intro s d b h x
  refine ⟨?enroll, ?revoke, ?rollback, ?arm, ?confirm⟩
  case enroll =>
    intro op slot key pad hop hh hd hb h1 h4 hk hp he hr
    have hburn := exec_keyEnroll_burn hop hh hd hb h1 h4 hk hp he hr
    exact ⟨hburn (some true), hburn (some false), d.readsBack none, (hburn none).trans (hburn (some (d.readsBack none))).symm⟩
  case revoke =>
    intro op slot hop hh hd hb h1 h4 hr
    have hburn := exec_keyRevoke_burn hop hh hd hb h1 h4 hr
    exact ⟨hburn (some true), hburn (some false), d.readsBack none, (hburn none).trans (hburn (some (d.readsBack none))).symm⟩
  case rollback =>
    intro op n hop hh hd hn hb ht hu
    have hburn := exec_rollbackAdvance_burn hop hh hd hn hb ht hu
    exact ⟨hburn (some true), ⟨min 64 (Config.burnt b.clk.free), Nat.min_le_left _ _, hburn (some false)⟩, d.readsBack none,
      (hburn none).trans (hburn (some (d.readsBack none))).symm⟩
  case arm => exact fun op hop hh hl ha => ⟨Config.challenge s.clk.free, exec_debugArm_ok hop hh hl ha⟩
  case confirm =>
    intro op chal hop hh hl ha hd hb
    have hburn := exec_debugConfirm_burn hop hh hl ha hd hb
    exact ⟨hburn (some true), hburn (some false), d.readsBack none, (hburn none).trans (hburn (some (d.readsBack none))).symm⟩

end Sys2Proof.Machine
end

section
/-!
PROOF. O20 EngineActions: TRACE, EVT and the EXITs (Table 7.5). TRACE reads its rule's register after the start of the instruction, so the first
part shows that what the start counts and samples leaves the trace rules alone.
-/

namespace Sys2Proof.Machine

/-! ### Counting and sampling leave the trace rules -/

/-- The registers of the 16 trace rules read in t as in s. -/
def SameRules (s t : State) : Prop := ∀ a, 0x2101000 ≤ a → a < 0x2101200 → t.reg a = s.reg a

section
variable {s t u : State}

theorem SameRules.refl (s : State) : SameRules s s := fun _ _ _ => rfl

theorem SameRules.trans (h : SameRules s t) (k : SameRules t u) : SameRules s u := fun a ha hb => (k a ha hb).trans (h a ha hb)

theorem SameRules.of_regs (h : t.regs = s.regs) : SameRules s t := fun a _ _ => State.reg_congr _ h a

theorem SameRules.put (h : SameRules s t) (f : Fld) (v : Nat) (hf : f.addr < 0x2101000 ∨ 0x2101200 ≤ f.addr) : SameRules s (t.put f v) :=
  fun a ha hb => (State.put_reg_ne t f v a (by omega)).trans (h a ha hb)

/-- The registers of a counter unit lie outside the trace rules. -/
theorem pmuBase_apart (u n : Nat) (hn : n < 0x100) : pmuBase u + n < 0x2101000 ∨ 0x2101200 ≤ pmuBase u + n := by
  unfold pmuBase
  split
  · omega
  · split
    · omega
    · split <;> omega

theorem SameRules.putCounter (h : SameRules s t) (f : Fld) (v : Nat) {u n : Nat} (hf : f.addr = pmuBase u + n) (hn : n < 0x100) :
    SameRules s (t.put f v) :=
  h.put f v (by rw [hf]; exact pmuBase_apart u n hn)

theorem SameRules.setAcc (h : SameRules s t) (u c v : Nat) : SameRules s (t.setAcc u c v) :=
  (h.put _ _ (.inr (by simp only [F.PMC_ACC_LO_ACC_LO]; omega))).put _ _ (.inr (by simp only [F.PMC_ACC_HI_ACC_HI]; omega))

theorem SameRules.raiseQuiet (h : SameRules s t) (p k a b c d : Nat) (l : List Nat) : SameRules s (t.raiseQuiet p k a b c d l) := by
  refine h.trans (SameRules.of_regs ?_)
  unfold State.raiseQuiet
  dsimp only
  split <;> rfl

theorem State.fireMsg_rules (s : State) (v : Nat) (fn : Bool) (i : Nat) : SameRules s (s.fireMsg v fn i).1 := by
  unfold State.fireMsg
  dsimp only
  split <;> exact SameRules.of_regs rfl

theorem SameRules.foldl {α : Type} {g : State → α → State} {l : List α} (hg : ∀ a, ∀ x ∈ l, SameRules a (g a x)) : SameRules s (l.foldl g s) := by
  induction l generalizing s with
  | nil => exact SameRules.refl s
  | cons x l ih =>
    exact (hg s x List.mem_cons_self).trans (ih fun a y hy => hg a y (List.mem_cons_of_mem x hy))

section
variable {fire : State → Nat → Nat → State} (hf : ∀ a v i, SameRules a (fire a v i))
include hf

theorem State.pmcSample_rules (s : State) (u c : Nat) : SameRules s (s.pmcSample u c fire) := by
  have hlost : SameRules s (s.bump F.PMC_SMP_LOST_LOST) := (SameRules.refl s).put _ _ (.inr (by decide))
  have hseq (l : List PmcSample) (o : Option Nat) :
      SameRules s (({ s with ep := { s.ep with samples := l, lastSample := o } } : State).bumpWrap F.PMC_SMP_STATUS_NEXT_SEQ 1) :=
    SameRules.put (SameRules.of_regs rfl) _ _ (.inr (by decide))
  unfold State.pmcSample
  dsimp only
  split
  · split
    · exact (hlost.raiseQuiet _ _ _ _ _ _ _).trans (SameRules.of_regs rfl)
    · split
      · exact (hseq _ _).trans (hf _ _ _)
      · exact hseq _ _
  · split
    · contradiction
    · split
      · exact (hseq _ _).trans (hf _ _ _)
      · exact hseq _ _

theorem State.cntAdd_rules (s : State) (u : Nat) {c : Nat} (hc : c ≤ 8) (n : Nat) : SameRules s (s.cntAdd u c n fire).1 := by
  have hvalue {t : State} (h : SameRules s t) (v : Nat) : SameRules s (t.put (F.PMU_CNT_VALUE u c) v) :=
    h.putCounter _ _ (u := u) (n := 0x40 + 4 * c) (by simp only [F.PMU_CNT_VALUE]; omega) (by omega)
  have hovf {t : State} (h : SameRules s t) : SameRules s (t.putB (F.PMU_CNT_CTL_OVF u c) true) :=
    h.putCounter _ _ (u := u) (n := 0x10 + 4 * c) (by simp only [F.PMU_CNT_CTL_OVF]; omega) (by omega)
  unfold State.cntAdd
  dsimp only
  split
  · exact hvalue (SameRules.refl s) _
  · dsimp only
    split
    · exact hvalue (((hovf (hvalue (SameRules.refl s) _)).setAcc _ _ _).trans (State.pmcSample_rules hf _ _ _)) _
    · exact hovf (hvalue (SameRules.refl s) _)

theorem State.cntChain_rules (s : State) (u : Nat) {c : Nat} (hc : c < 8) : SameRules s (s.cntChain u c fire) := by
  unfold State.cntChain
  split
  · exact State.cntAdd_rules hf s u hc 1
  · exact SameRules.refl s

theorem State.countWith_rules (s : State) (u ev k cls vc n : Nat) : SameRules s (s.countWith u ev k cls vc n fire) := by
  unfold State.countWith
  split
  · refine SameRules.foldl fun a c hc => ?_
    have hc8 := List.mem_range.mp hc
    have hadd := State.cntAdd_rules hf a u hc8.le n
    split
    · split
      · rename_i x hx
        rw [hx] at hadd
        exact hadd.trans (State.cntChain_rules hf x u hc8)
      · rename_i x hx
        rw [hx] at hadd
        exact hadd
    · exact SameRules.refl a
  · exact SameRules.refl s

end

theorem State.fireVec_rules (s : State) (v : Nat) (fn : Bool) (i : Nat) : SameRules s (s.fireVec v fn i) := by
  have hmsg := s.fireMsg_rules v fn i
  unfold State.fireVec
  split
  · rename_i x hx
    rw [hx] at hmsg
    exact hmsg.trans (State.countWith_rules (fun a v i => a.fireMsg_rules v false i) _ _ _ _ _ _ _)
  · rename_i x hx
    rw [hx] at hmsg
    exact hmsg

theorem State.count_rules (s : State) (u ev k cls vc n : Nat) : SameRules s (s.count u ev k cls vc n) :=
  State.countWith_rules (fun a v i => a.fireVec_rules v false i) _ _ _ _ _ _ _

section
variable (e : Eng)

/-- The registers of an engine lie below the trace rules. -/
theorem SameRules.putEng (h : SameRules s t) (f : Fld) (v : Nat) {n : Nat} (hf : f.addr = 0x1081000 + 0x100000 * (e.val / 16) + 0x40 * (e.val % 16) + n)
    (hn : n < 0x40) : SameRules s (t.put f v) := by
  have he := e.isLt
  exact h.put f v (.inl (by omega))

theorem State.smpWrite_rules (s : State) : SameRules s (s.smpWrite e) := by
  unfold State.smpWrite
  dsimp only
  split
  · exact SameRules.refl s
  · have hnext {t : State} (h : SameRules s t) (v : Nat) : SameRules s (t.put (F.STN_BE_SMP_STAT_NEXT (e.val / 16) (e.val % 16)) v) :=
      h.putEng e _ _ (n := 0x1C) (by simp only [F.STN_BE_SMP_STAT_NEXT]; omega) (by decide)
    have htaken {t : State} (h : SameRules s t) (v : Nat) : SameRules s (t.put (F.STN_BE_SMP_STAT_TAKEN (e.val / 16) (e.val % 16)) v) :=
      h.putEng e _ _ (n := 0x1C) (by simp only [F.STN_BE_SMP_STAT_TAKEN]; omega) (by decide)
    exact htaken (hnext (SameRules.of_regs rfl) _) _

theorem State.smpEvent_rules (s : State) (kind pc cls : Nat) : SameRules s (s.smpEvent e kind pc cls) := by
  unfold State.smpEvent
  dsimp only
  split
  · split
    · exact (s.smpWrite_rules e).trans (SameRules.of_regs rfl)
    · exact SameRules.of_regs rfl
  · exact SameRules.refl s

theorem State.smpSkid_rules (s : State) (pc : Nat) : SameRules s (s.smpSkid e pc) := by
  unfold State.smpSkid
  split
  · exact SameRules.refl s
  · dsimp only
    split
    · exact SameRules.trans (SameRules.of_regs rfl) (State.smpWrite_rules e _)
    · exact SameRules.of_regs rfl

theorem State.instrStart_rules (s : State) (r : BRun) : SameRules s (s.instrStart e r) := by
  have hland : SameRules s (s.landLoads e r) := SameRules.of_regs (s.landLoads_rest e r).2.2.2.2
  have hlo {t : State} (h : SameRules s t) (v : Nat) : SameRules s (t.put (F.STN_BE_INSTR_LO_INSTR_LO (e.val / 16) (e.val % 16)) v) :=
    h.putEng e _ _ (n := 0x0C) (by simp only [F.STN_BE_INSTR_LO_INSTR_LO]; omega) (by decide)
  have hhi {t : State} (h : SameRules s t) (v : Nat) : SameRules s (t.put (F.STN_BE_INSTR_HI_INSTR_HI (e.val / 16) (e.val % 16)) v) :=
    h.putEng e _ _ (n := 0x10) (by simp only [F.STN_BE_INSTR_HI_INSTR_HI]; omega) (by decide)
  unfold State.instrStart
  dsimp only
  exact (((hhi (hlo hland _) _).trans (State.count_rules _ _ _ _ _ _ _)).trans (State.smpSkid_rules e _ _)).trans (State.smpEvent_rules e _ _ _ _)

end

theorem SameRules.traceOn (h : SameRules s t) (rule : Fin 16) : t.traceOn rule.val = s.traceOn rule.val := by
  have hr := rule.isLt
  have hreg : t.reg (0x2101000 + 0x20 * rule.val) = s.reg (0x2101000 + 0x20 * rule.val) := h _ (by omega) (by omega)
  simp only [State.traceOn, State.flag, State.get, F.MCT_TR_CTL_EN, F.MCT_TR_CTL_DEST, hreg]

end

/-! ### The instructions -/

section
variable {s u v : State} {e : Eng} {r r' : BRun} {f : Flight} {st : Nat} {rule : Fin 16}

theorem trace_on (hr' : r' = { r with loads := r.aged }) (hon : s.traceOn rule.val = true) (h : Stands s e r (.trace e rule)) :
    ∃ t, exec (.trace e rule) s = .next t ∧ SameMemory s t e ∧ Quiet s t e ∧
      Moves s t e r { r' with rules := r.rules ++ [rule.val] } ((s.eng e).pc + 1) := by
  have k := s.instrStart_started e r
  have hrule : (s.instrStart e r).traceOn rule.val = true := ((s.instrStart_rules e r).traceOn rule).trans hon
  subst hr'
  refine ⟨_, congrArg Host.Outcome.next (h.go (off := 0) rfl (if_pos hrule) ⟨_, State.modEng_run _ _ _, rfl⟩), ?_, ?_, ?_⟩
  · exact (k.memory.setRun _).setPc _
  · exact ((s.instrStart_quiet e r).modEng _).modEng _
  · exact k.moves_run _ _

theorem trace_off (hoff : s.traceOn rule.val = false) (h : Stands s e r (.trace e rule)) :
    ∃ t, exec (.trace e rule) s = .next t ∧ Branches s t e r ((s.eng e).pc + 1) := by
  have hrule : ¬ (s.instrStart e r).traceOn rule.val = true := by
    rw [(s.instrStart_rules e r).traceOn rule, hoff]; decide
  exact ⟨_, rfl, State.ins_branches (off := 0) h (if_neg hrule)⟩

/-- The event of EVT, or its loss, counts. -/
theorem evt_counts {w : State} (sub : Nat) (l : List Nat) (hw : w = u.raiseLim ms100 st (srcStn st) (0x4800 + sub) 1 (scStn st) 0 l) :
    CountOnly u (if w.evs.next = u.evs.next then w.bump (F.STN_BB_EVT_LOST_EVT_LOST st) else w) := by
  have hraise : CountOnly u w := hw ▸ (CountOnly.refl u).raiseLim _ _ _ _ _ _ _ _
  split
  · exact hraise.put _ _
  · exact hraise

theorem evt_moves {a : Fin 16} {sub : B8} {w : State} (hr' : r' = { r with loads := r.aged }) (hu : u = s.instrStart e r) (hst : st = e.val / 16)
    (hw : w = u.raiseLim ms100 st (srcStn st) (0x4800 + sub.toNat) 1 (scStn st) 0 [sub.toNat, e.val, (s.regIn e r a).toNat])
    (h : Stands s e r (.evt e a sub)) :
    exec (.evt e a sub) s = .next ((if w.evs.next = u.evs.next then w.bump (F.STN_BB_EVT_LOST_EVT_LOST st) else w).modEng e fun x =>
      { x with pc := ((s.eng e).pc + 1) % 4096 }) ∧ ∃ t, exec (.evt e a sub) s = .next t ∧ Moves s t e r r' ((s.eng e).pc + 1) := by
  have hcount := evt_counts sub.toNat _ hw
  have k : Started s _ e r := (hu ▸ s.instrStart_started e r : Started s u e r).count hcount
  have hreg : u.greg e a = s.regIn e r a := hu ▸ s.instrStart_greg e r a
  have hexec : exec (.evt e a sub) s = .next ((if w.evs.next = u.evs.next then w.bump (F.STN_BB_EVT_LOST_EVT_LOST st) else w).modEng e fun x =>
      { x with pc := ((s.eng e).pc + 1) % 4096 }) := by
    refine congrArg Host.Outcome.next (h.go (off := 0) hu ?_ ⟨_, k.run, rfl⟩)
    simp only [hreg, ← hst, ← hw]
  subst hr'
  exact ⟨hexec, _, hexec, moves_of _ k.regs k.run k.frame⟩

/-! ### The EXITs -/

section
variable (hrun : (u.eng e).run = some r') (hf : u.flight r'.fid = some f)
include hrun hf

/-- How a run ends whose header goes on, is discarded, or is completed with Completer Abort (R192). -/
theorem State.runEnd_forward (port : Nat) : u.runEnd e 0 port = (u.retire e r').rejoin (returned f r') := by
  simp only [State.runEnd, hrun, hf]

theorem State.runEnd_drop (port : Nat) : u.runEnd e 1 port = (u.retire e r').bobDiscard f 1 := by
  simp only [State.runEnd, hrun, hf]

theorem State.runEnd_abort (port : Nat) : u.runEnd e 2 port = (u.retire e r').bobDiscard f 4 := by
  simp only [State.runEnd, hrun, hf]

/-- How a run ends that redirects its header, to a port that is valid and to one that is not. -/
theorem State.runEnd_redirect {port : Nat} {d : Dest} (hd : u.redirect (returned f r') port = some d) :
    u.runEnd e 3 port = (u.retire e r').rejoin { returned f r' with dests := [d] } := by
  simp only [State.runEnd, hrun, hf, hd]

theorem State.runEnd_noRedirect {port : Nat} (hd : u.redirect (returned f r') port = none) : u.runEnd e 3 port = u.runFault e 4 false := by
  simp only [State.runEnd, hrun, hf, hd]

end

section
variable (hr' : r' = { r with loads := r.aged }) (hu : u = s.instrStart e r) (hf : s.flight r.fid = some f) (hv : v = u.retire e r')
include hr' hu hf hv

/-- The run and its header as an EXIT finds them. -/
theorem exit_finds : (u.eng e).run = some r' ∧ u.flight r'.fid = some f := by
  subst hr' hu
  refine ⟨s.instrStart_run e r, ?_⟩
  exact (State.flight_congr (s.instrStart_started e r).core r.fid).trans hf

theorem exitForward_rejoins (h : Stands s e r (.exitForward e)) : exec (.exitForward e) s = .next (v.rejoin (returned f r')) := by
  obtain ⟨hrun, hflight⟩ := exit_finds hr' hu hf hv
  subst hv
  refine congrArg Host.Outcome.next ((State.ins_quit h (t := u) (v := 0) (port := 0) (by rw [← hu])).trans ?_)
  exact State.runEnd_forward hrun hflight 0

theorem exitDrop_discards (h : Stands s e r (.exitDrop e)) : exec (.exitDrop e) s = .next (v.bobDiscard f 1) := by
  obtain ⟨hrun, hflight⟩ := exit_finds hr' hu hf hv
  subst hv
  refine congrArg Host.Outcome.next ((State.ins_quit h (t := u) (v := 1) (port := 0) (by rw [← hu])).trans ?_)
  exact State.runEnd_drop hrun hflight 0

theorem exitAbort_discards (h : Stands s e r (.exitAbort e)) : exec (.exitAbort e) s = .next (v.bobDiscard f 4) := by
  obtain ⟨hrun, hflight⟩ := exit_finds hr' hu hf hv
  subst hv
  refine congrArg Host.Outcome.next ((State.ins_quit h (t := u) (v := 2) (port := 0) (by rw [← hu])).trans ?_)
  exact State.runEnd_abort hrun hflight 0

section
variable {a : Fin 16} {p : Nat} (hp : p = (s.regIn e r a).toNat % 256) (h : Stands s e r (.exitRedirect e a))
include hp h

omit hr' hf hv in
theorem exitRedirect_ends : exec (.exitRedirect e a) s = .next (u.runEnd e 3 p) := by
  have hreg : u.greg e a = s.regIn e r a := hu ▸ s.instrStart_greg e r a
  exact congrArg Host.Outcome.next (State.ins_quit h (by rw [← hu, hreg, ← hp]))

theorem exitRedirect_rejoins {d : Dest} (hd : u.redirect (returned f r') p = some d) :
    exec (.exitRedirect e a) s = .next (v.rejoin { returned f r' with dests := [d] }) := by
  obtain ⟨hrun, hflight⟩ := exit_finds hr' hu hf hv
  rw [exitRedirect_ends hu hp h, State.runEnd_redirect hrun hflight hd, hv]

theorem exitRedirect_faults (hd : u.redirect (returned f r') p = none) : exec (.exitRedirect e a) s = .next (u.runFault e 4 false) := by
  obtain ⟨hrun, hflight⟩ := exit_finds hr' hu hf hv
  rw [exitRedirect_ends hu hp h, State.runEnd_noRedirect hrun hflight hd]

end
end
end

/-- Settles O20, instruction by instruction. -/
theorem engineActions : Obligations.EngineActions := by
  unfold Obligations.EngineActions
  intro s u v e r r' f st hr' hu hst hf hv
  refine ⟨?traceOn, ?traceOff, ?evt, ?forward, ?drop, ?abort, ?redirect⟩
  case traceOn => exact fun _ hon h => trace_on hr' hon h
  case traceOff => exact fun _ hoff h => trace_off hoff h
  case evt => exact fun _ _ _ hw h => evt_moves hr' hu hst hw h
  case forward => exact exitForward_rejoins hr' hu hf hv
  case drop => exact exitDrop_discards hr' hu hf hv
  case abort => exact exitAbort_discards hr' hu hf hv
  case redirect =>
    intro a p hp h
    exact ⟨fun d hd => exitRedirect_rejoins hr' hu hf hv hp h hd, exitRedirect_faults hr' hu hf hv hp h⟩

end Sys2Proof.Machine
end
